-- ==== Sys2Proof/Word.lean ====
section
/-! DEFINITION. The word types of the GK9600: registers are 32 bits wide (spec/00_scope.md, Registers). -/
namespace Sys2Proof

/-- One byte of a packet, a record, a blob or a memory image. -/
abbrev Byte := BitVec 8

/-- One register word; also one IEEE 754 binary32 pattern (Table 0-3). -/
abbrev Word := BitVec 32

/-- A 64-bit value: a Q32.32 position (Table 0-3) or a `DTIME` word pair. -/
abbrev Quad := BitVec 64

/-- An instant of device time in units of 0.25 ns (R27). -/
abbrev Time := Nat

/-- Units of `DTIME` in one core-clock cycle (R27). -/
def unitsPerCyc : Nat := 20

/-- Units of `DTIME` in one microsecond (Table 0-3: 1 ms = 4,000,000 units). -/
def unitsPerUs : Nat := 4000

/-- Units of `DTIME` in one second (R27). -/
def unitsPerSec : Nat := 4000000000

end Sys2Proof
end

