-- ==== Sys2Proof/Syntax.lean ====
section
/-! DEFINITION. The commands of the GK9600: one constructor for each row of spec/opcode_table.json, in its order.
An opcode of the packet protocol carries a `Request`; an event carries its instant `t` and what the environment decides. -/
namespace Sys2Proof

/-- A command packet after the checks that act on its arrival: the header fields of Table 12-3, the port it came on
(0–3 H0–H3, 4 maintenance) and the instant `t` at which the interpreter completes its checks (R277). -/
structure Request where
  t       : Time
  port    : Nat
  gen     : Nat
  minor   : Nat := 0
  flags   : Byte := 0
  tag     : BitVec 16 := 0
  lane    : Nat := 0
  payload : List Byte := []
  deriving DecidableEq, Repr

/-- A write of one register field that the table gives a row of its own: who writes, when, and in which packet. -/
structure RegWrite where
  t    : Time
  port : Nat
  gen  : Nat := 1
  tag  : BitVec 16 := 0
  deriving DecidableEq, Repr

/-- A disturbance of the loop engine in one lane's segment of one frame (R191, R192). -/
inductive Disturb where
  /-- A residue check failed once and its repeat passed; `stage` is the stage index, 0xFF for binary32. -/
  | retry (lane stage : Nat)
  /-- A residue check failed and its repeat failed. -/
  | resFail (lane stage : Nat)
  /-- The control-flow signature differs from the one computed at admission. -/
  | signature (lane : Nat) (expected found : Word)
  /-- The check finds `x` only in work that misses the output junction, when that work completes (R192). -/
  | late (x : Disturb)
  deriving DecidableEq, Repr

/-- One demodulated sample of a lane (R54): the envelopes in units of 2^-24 of 0.9 V at the pins, the filtered DC level
of each winding in microvolts, and whether a winding sample stood at full scale. -/
structure Demod where
  s     : Int
  c     : Int
  dcS   : Nat := 0
  dcC   : Nat := 0
  clipS : Bool := false
  clipC : Bool := false
  deriving DecidableEq, Repr

/-- The sums of one carrier period of a lane (R59, R63): in-phase and quadrature products of sine and cosine in the
unit of `Demod`, and the DC mean of each winding in microvolts. -/
structure Period where
  iS  : Int
  iC  : Int
  qS  : Int := 0
  qC  : Int := 0
  dcS : Nat := 0
  dcC : Nat := 0
  deriving DecidableEq, Repr

/-- What one conversion of a process channel delivers (R237–R248): the voltage between POS and NEG in nanovolts, or for
type 7 the amplifier charge in femtocoulombs; the excitation current in nanoamperes, the excitation voltage in
microvolts; and whether the converter clipped or the source is out of compliance. -/
structure Conversion where
  v      : Int
  iExc   : Int := 0
  vExc   : Int := 0
  clip   : Bool := false
  comply : Bool := true
  deriving DecidableEq, Repr

/-- What a serial transfer of a pulse input delivers (R129, R130): the received word, the CRC and the nE, nW bits of
BiSS-C, the measured line delay in units, and whether the start bit came in time. -/
structure SerialFrame where
  data    : Nat
  crc     : Nat := 0
  nE      : Bool := true
  nW      : Bool := true
  lineDly : Nat := 0
  started : Bool := true
  deriving DecidableEq, Repr

/-- How the environment resolves the checks of a boot that need key material or a clock (R331–R337). -/
structure BootSeen where
  present : Bool := true
  pfail   : Bool := false
  deriving DecidableEq, Repr

/-- The commands of the block: the rows of spec/opcode_table.json. -/
inductive Instr where
  /-- FRAME_TICK (R11). -/
  | frameTick (disturb : List Disturb)
  /-- OUTPUT_JUNCTION (R42); `late` names the lanes whose work has not completed by the deadline. -/
  | outputJunction (late : List Nat)
  /-- LATE_WORK_COMPLETE (R42). -/
  | lateWorkComplete (t : Time) (lane : Nat)
  /-- SYNC_MESSAGE (R30): `gm` is the grandmaster time carried (with the residence correction), `rx` the hardware
  receive stamp; `twoStep` says that a Follow_Up is still to come, `followUp` that this is it. -/
  | syncMessage (t : Time) (port domain : Nat) (rx gm : Time) (interval : Nat) (twoStep followUp : Bool)
  /-- ANNOUNCE_MESSAGE (R30). -/
  | announceMessage (t : Time) (port domain : Nat) (gmId : Quad)
  /-- PDELAY_REQ_RECEIVE (R30). -/
  | pdelayReqReceive (t : Time) (port : Nat)
  /-- PDELAY_REQ_SEND (R30). -/
  | pdelayReqSend (t : Time)
  /-- PDELAY_RESPONSE (R30): `t2`, `t3` are the neighbour's receive and transmit stamps, `t4` the own receive stamp. -/
  | pdelayResponse (t : Time) (port : Nat) (t2 t3 t4 : Time)
  /-- SYNC_TIMEOUT (R32). -/
  | syncTimeout (t : Time)
  /-- SYNC_IN_EDGE (R31); `width` is the pulse width in units. -/
  | syncInEdge (t : Time) (width : Nat)
  /-- SYNC_IN_MISSING (R31). -/
  | syncInMissing (t : Time)
  /-- SYNC_OUT_PULSE (R44). -/
  | syncOutPulse
  /-- SYNC_OUT_PULSE_END (R44). -/
  | syncOutPulseEnd
  /-- TIME_SET (R45). -/
  | timeSet (w : RegWrite) (value : Quad)
  /-- GENERATOR_RUN (R48). -/
  | generatorRun (w : RegWrite) (group : Nat)
  /-- GENERATOR_STOP (R49). -/
  | generatorStop (w : RegWrite) (group : Nat)
  /-- RAMP_COMPLETE (R48). -/
  | rampComplete (t : Time) (group : Nat)
  /-- EXC_HALF_PERIOD (R63); `peak` in units of 4 microvolts. -/
  | excHalfPeriod (t : Time) (group peak : Nat)
  /-- DEMOD_SAMPLE (R54); `t` is the pin instant. -/
  | demodSample (t : Time) (lane : Nat) (x : Demod)
  /-- CARRIER_PERIOD (R63). -/
  | carrierPeriod (t : Time) (lane : Nat) (x : Period)
  /-- PHASE_FAST_END (R60). -/
  | phaseFastEnd (t : Time) (lane : Nat)
  /-- LOS_CONFIRM (R63). -/
  | losConfirm (t : Time) (lane : Nat)
  /-- LOS_CLEAR (R65). -/
  | losClear (t : Time) (lane : Nat)
  /-- MODULATOR_RESET (R63); `winding` 0 is sine (modulator 2n), 1 cosine. -/
  | modulatorReset (t : Time) (lane winding : Nat)
  /-- MODULATOR_RESET_END (R63). -/
  | modulatorResetEnd (t : Time) (lane winding : Nat)
  /-- RANGE_NARROW_COUNT (R56). -/
  | rangeNarrowCount (t : Time) (lane : Nat)
  /-- RANGE_CHANGE (R57). -/
  | rangeChange (t : Time) (lane : Nat)
  /-- RATIO_EVAL (R63). -/
  | ratioEval (t : Time) (lane : Nat)
  /-- LOCK_LOSS (R81). -/
  | lockLoss (t : Time) (lane : Nat)
  /-- OVERSPEED (R80). -/
  | overspeed (t : Time) (lane : Nat)
  /-- REACQ_FAST_END (R82). -/
  | reacqFastEnd (t : Time) (lane : Nat)
  /-- LOCK_REGAINED (R82). -/
  | lockRegained (t : Time) (lane : Nat)
  /-- POS_ARM (R76). -/
  | posArm (w : RegWrite) (lane : Nat)
  /-- DET_RETURN (R87). -/
  | detReturn (w : RegWrite) (lane : Nat)
  /-- SEGMENT_END (R97). -/
  | segmentEnd (t : Time) (lane : Nat)
  /-- MAP_EVALUATE (R99). -/
  | mapEvaluate (t : Time) (lane : Nat)
  /-- MAP_DRIFT_CHECK (R104). -/
  | mapDriftCheck (t : Time) (lane : Nat)
  /-- FADE_COMPLETE (R101). -/
  | fadeComplete (t : Time) (lane : Nat)
  /-- MAP_LEARN (R106). -/
  | mapLearn (r : Request)
  /-- MAP_STATUS (R107). -/
  | mapStatus (r : Request)
  /-- MAP_SAVE (R108). -/
  | mapSave (r : Request)
  /-- MAP_LOAD (R109). -/
  | mapLoad (r : Request)
  /-- PULSE_EDGE (R118): the new level of each wire that changes in this 1.25 ns sample. -/
  | pulseEdge (t : Time) (input : Nat) (a b z : Option Bool)
  /-- INDEX_EVENT (R126). -/
  | indexEvent (t : Time) (input : Nat)
  /-- SWITCH_DEBOUNCE (R120). -/
  | switchDebounce (t : Time) (input wire : Nat)
  /-- WIRE_FAULT (R119); `pair` 0 PA, 1 PB, 2 PZ. -/
  | wireFault (t : Time) (input pair : Nat)
  /-- WIRE_FAULT_CLEAR (R122). -/
  | wireFaultClear (t : Time) (input : Nat)
  /-- PULSE_STILL (R127). -/
  | pulseStill (t : Time) (input : Nat)
  /-- SER_TRANSFER_START (R132). -/
  | serTransferStart (input : Nat)
  /-- SER_TRANSFER_END (R133). -/
  | serTransferEnd (t : Time) (input : Nat) (x : SerialFrame)
  /-- PIN_ADJUST (R140). -/
  | pinAdjust (r : Request)
  /-- MLS_READ (R141). -/
  | mlsRead (r : Request)
  /-- MLS_ARM (R142). -/
  | mlsArm (r : Request)
  /-- MLS_POP (R138). -/
  | mlsPop (w : RegWrite) (unit : Nat)
  /-- MLS_FLUSH (R143). -/
  | mlsFlush (w : RegWrite) (unit : Nat)
  /-- EMU_EDGE_EMIT (R149). -/
  | emuEdgeEmit (t : Time) (out : Nat)
  /-- STEP_EMIT (R154). -/
  | stepEmit (out : Nat)
  /-- STALL_DETECT (R158). -/
  | stallDetect (t : Time) (out : Nat)
  /-- EMU_ALIGN (R160). -/
  | emuAlign (r : Request)
  /-- FOLLOWING_ERROR (R174). -/
  | followingError (t : Time) (lane : Nat)
  /-- TRIM_SOURCE_FAULT (R173). -/
  | trimSourceFault (t : Time) (lane : Nat)
  /-- CLUSTER_SELF_TEST (R193): the instant it started and the failing test number, `none` if it passes. -/
  | clusterSelfTest (t : Time) (cluster : Nat) (started : Time) (failing : Option Nat)
  /-- LANE_STAGE (R274). -/
  | laneStage (r : Request)
  /-- LANE_COMMIT (R175). -/
  | laneCommit (r : Request)
  /-- LANE_ADMIT (R175). -/
  | laneAdmit (r : Request)
  /-- LANE_PARK (R20, R276). -/
  | lanePark (r : Request)
  /-- REQ_STATE (R20). -/
  | reqState (w : RegWrite) (lane : Nat) (value : BitVec 3)
  /-- LANE_READ (R275). -/
  | laneRead (r : Request)
  /-- COEF_STAGE (R195). -/
  | coefStage (r : Request)
  /-- COEF_READ (R196). -/
  | coefRead (r : Request)
  /-- COEF_SWAP (R197). -/
  | coefSwap (r : Request)
  /-- TRACE_ARM (R205). -/
  | traceArm (r : Request)
  /-- TRACE_FORCE (R205). -/
  | traceForce (r : Request)
  /-- TRACE_READ (R206). -/
  | traceRead (r : Request)
  /-- TRACE_DONE (R205). -/
  | traceDone (t : Time)
  /-- MOVE (R216). -/
  | move (r : Request)
  /-- LIMITS (R218). -/
  | limits (r : Request)
  /-- GEAR (R224). -/
  | gear (r : Request)
  /-- TRIM (R227). -/
  | trim (r : Request)
  /-- STOP (R220). -/
  | stop (r : Request)
  /-- WAYPOINT (R221). -/
  | waypoint (r : Request)
  /-- VMASTER (R223). -/
  | vmaster (r : Request)
  /-- TIMED_COMMAND_DUE (R230): the timed commands of a lane (96: of the device) whose frame has come. -/
  | timedCommandDue (t : Time) (lane : Nat)
  /-- MASTER_TIMEOUT (R226). -/
  | masterTimeout (t : Time) (lane : Nat)
  /-- PFE_CONVERSION_END (R242). -/
  | pfeConversionEnd (t : Time) (channel : Nat) (x : Conversion)
  /-- PFE_VALUE_AVAILABLE (R242). -/
  | pfeValueAvailable (t : Time) (channel : Nat)
  /-- DIE_TEMP_UPDATE (R245): the sensor's binary32 reading in degrees Celsius. -/
  | dieTempUpdate (t : Time) (value : Word)
  /-- PFE_TARE (R239). -/
  | pfeTare (w : RegWrite) (channel : Nat)
  /-- PFE_FORCE_RST (R239). -/
  | pfeForceRst (w : RegWrite) (channel : Nat)
  /-- CH_CONFIG (R252). -/
  | chConfig (r : Request)
  /-- CH_READ (R253). -/
  | chRead (r : Request)
  /-- PACKET_RECEIVE (R263): the bytes of one frame as its kind delivers them, with the flag of a code violation or a
  bad FCS (R257, R259). -/
  | packetReceive (t : Time) (port : Nat) (frame : List Byte) (damaged : Bool)
  /-- PACKET_SERVE (R263). -/
  | packetServe (t : Time)
  /-- IDENTIFY (R269). -/
  | identify (r : Request)
  /-- PING (R270). -/
  | ping (r : Request)
  /-- REG_RD (R271). -/
  | regRd (r : Request)
  /-- REG_WR (R272). -/
  | regWr (r : Request)
  /-- REG_RMW (R273). -/
  | regRmw (r : Request)
  /-- REPLY_TRANSMIT (R284). -/
  | replyTransmit (t : Time) (port : Nat)
  /-- BACKGROUND_JOB_COMPLETE (R283); `ok` says whether the job's MRAM write verified. -/
  | backgroundJobComplete (t : Time) (port : Nat) (ok : Bool)
  /-- GROUP_TIMEOUT (R268). -/
  | groupTimeout (t : Time) (port : Nat)
  /-- WRITE_LOG_SUMMARY (R281). -/
  | writeLogSummary (t : Time) (port : Nat)
  /-- LINK_STATUS_FRAME (R258). -/
  | linkStatusFrame (t : Time) (port : Nat) (status : Byte)
  /-- LINK_STATUS_SEND (R258). -/
  | linkStatusSend (t : Time) (port : Nat)
  /-- LINK_STATUS_TIMEOUT (R258). -/
  | linkStatusTimeout (t : Time) (port : Nat)
  /-- LINK_SYNC_LOSS (R258). -/
  | linkSyncLoss (t : Time) (port : Nat)
  /-- LINK_UP (R259); `autoneg` says that Clause 37 completed, not synchronisation alone. -/
  | linkUp (t : Time) (port : Nat) (autoneg : Bool)
  /-- SPI_WRITE (R261). -/
  | spiWrite (t : Time) (packet : List Byte)
  /-- SPI_READ (R261); `clocked` is the number of reply bytes clocked out. -/
  | spiRead (t : Time) (clocked : Nat)
  /-- SPI_STATUS (R261). -/
  | spiStatus (t : Time)
  /-- INBOUND_PART_RECEIVE (R294); `t` is the instant of the last byte. -/
  | inboundPartReceive (t : Time) (port : Nat) (bytes : List Byte)
  /-- INBOUND_PART_ACCEPT (R294). -/
  | inboundPartAccept (port : Nat)
  /-- INBOUND_MISS (R296). -/
  | inboundMiss (t : Time) (lane : Nat)
  /-- RECORD_TRANSMIT (R297). -/
  | recordTransmit (port : Nat)
  /-- WATCH_SAMPLE (R302): the demodulated watch sine and cosine in units of 2^-16 of the watch full scale. -/
  | watchSample (t : Time) (lane : Nat) (s c : Int)
  /-- SAFETY_VIOLATION (R307); `fn` 1 SOS, 2 SLS, 3 SDI. -/
  | safetyViolation (t : Time) (lane fn : Nat)
  /-- XCMP_FAIL (R304). -/
  | xcmpFail (t : Time) (lane : Nat)
  /-- SAFETY_SELF_TEST (R305): `kind` 1 lockstep, 2 clock, 3 parameter CRC, 4 a group's watch chain. -/
  | safetySelfTest (t : Time) (kind group : Nat) (pass : Bool)
  /-- SO_TEST_PULSE (R312). -/
  | soTestPulse (t : Time) (group : Nat)
  /-- SO_READBACK_FAULT (R312); `kind` 1 off while on, 2 stuck on, 0 the readback agrees again for 1 s. -/
  | soReadbackFault (t : Time) (group kind : Nat)
  /-- SI_DEMAND (R313). -/
  | siDemand (t : Time) (pair : Nat)
  /-- SI_DISCREPANCY (R313). -/
  | siDiscrepancy (t : Time) (pair : Nat)
  /-- CONNECTION_WATCHDOG (R317). -/
  | connectionWatchdog (conn : Nat)
  /-- SS1_EXPIRY (R306). -/
  | ss1Expiry (lane : Nat)
  /-- SAFE_RESET_ACK (R321), executed on a connection with a tag. -/
  | safeResetAck (t : Time) (conn : Nat) (tag : Byte) (mask : Byte)
  /-- SAFE_PARAM_WR (R326). -/
  | safeParamWr (t : Time) (conn : Nat) (tag : Byte) (target index : Byte) (value : Word)
  /-- SAFE_PARAM_COMMIT (R326). -/
  | safeParamCommit (t : Time) (conn : Nat) (tag : Byte) (crc : Word)
  /-- SAFE_PARAM_RD (R320). -/
  | safeParamRd (t : Time) (conn : Nat) (tag : Byte) (target index which : Byte)
  /-- SAFE_RST_EDGE (R321): the falling edge, with the width of the pulse in units. -/
  | safeRstEdge (t : Time) (width : Nat)
  /-- SAFE_RST_HELD (R321). -/
  | safeRstHeld (t : Time)
  /-- ARMING_EXPIRY (R321). -/
  | armingExpiry (lane : Nat)
  /-- BOOT (R335). -/
  | boot (t : Time)
  /-- BOOT_COMPLETE (R407). -/
  | bootComplete (t : Time) (x : BootSeen)
  /-- RECOVERY_RESTART (R336). -/
  | recoveryRestart (t : Time)
  /-- RESET_N_ASSERT (R388). -/
  | resetNAssert (t : Time)
  /-- SUPPLY_MONITOR_RESET (R387). -/
  | supplyMonitorReset (t : Time)
  /-- POWER_STATE (R338). -/
  | powerState (r : Request)
  /-- ANALOG_SETTLED (R339). -/
  | analogSettled (t : Time)
  /-- DETACH (R341). -/
  | detach (r : Request)
  /-- PRESENT_N_RISE (R341). -/
  | presentNRise (t : Time)
  /-- PRESENT_N_FALL (R341). -/
  | presentNFall (t : Time)
  /-- PFAIL_N_FALL (R342). -/
  | pfailNFall (t : Time)
  /-- PFAIL_N_RISE (R342). -/
  | pfailNRise (t : Time)
  /-- DORMANT_ENTRY (R338). -/
  | dormantEntry (t : Time)
  /-- WAKE (R343): `source` 0 RESET_N, 1 WAKE, 2 link, 3 timer; `port` for a link wake. -/
  | wake (t : Time) (source port : Nat)
  /-- DEBUG_PORT_REQUEST (R344): the state asked for, with a key index and signature or none. -/
  | debugPortRequest (t : Time) (target : Nat) (response : Option (Nat × List Byte))
  /-- DEBUG_PORT_RELEASE (R344). -/
  | debugPortRelease (t : Time)
  /-- EXTEST_LOAD (R345). -/
  | extestLoad (t : Time)
  /-- DBG_CHALLENGE (R346). -/
  | dbgChallenge (r : Request)
  /-- DBG_RESPONSE (R346). -/
  | dbgResponse (r : Request)
  /-- DBG_CLOSE (R344). -/
  | dbgClose (r : Request)
  /-- DBG_OPEN_FREE (R347). -/
  | dbgOpenFree (r : Request)
  /-- NONCE_EXPIRY (R346). -/
  | nonceExpiry (t : Time)
  /-- SEAL (R332). -/
  | seal (r : Request)
  /-- PROT_STATUS (R350). -/
  | protStatus (r : Request)
  /-- TABLE_REBUILD_COMPLETE (R356). -/
  | tableRebuildComplete (t : Time) (cluster : Nat)
  /-- SCRUB_STEP (R357): a read of one word of memory `m` (Table 16-6) at `addr` that finds `errs` bit errors. `owner` is the
  lane of a lane-memory word, the cluster of an internal table word, the port of a packet-buffer word, the region of an MRAM
  word; `late` is the lateness of the pass in ms. -/
  | scrubStep (t : Time) (m : Nat) (addr : Word) (errs owner late : Nat)
  /-- ECC_HOURLY_CHECK (R355). -/
  | eccHourlyCheck (t : Time)
  /-- ODOMETER_UPDATE (R358): the ring-oscillator reading in ppm. -/
  | odometerUpdate (t : Time) (roPpm : Int)
  /-- EOL_PREDICT (R359). -/
  | eolPredict (t : Time)
  /-- BBX_DEFERRED_COMMIT (R363). -/
  | bbxDeferredCommit (t : Time)
  /-- BBX_COMMIT_COMPLETE (R364); `ok` says whether the MRAM write verified. -/
  | bbxCommitComplete (t : Time) (ok : Bool)
  /-- BBX_READ (R367). -/
  | bbxRead (r : Request)
  /-- BBX_COMMIT (R368). -/
  | bbxCommit (r : Request)
  /-- FW_LOAD (R370). -/
  | fwLoad (r : Request)
  /-- FW_VERIFY (R371). -/
  | fwVerify (r : Request)
  /-- FW_SWITCH (R372). -/
  | fwSwitch (r : Request)
  /-- FW_READY (R373). -/
  | fwReady (t : Time)
  /-- FW_READY_TIMEOUT (R373). -/
  | fwReadyTimeout (t : Time)
  /-- HEARTBEAT_MISSED (R375). -/
  | heartbeatMissed (t : Time)
  /-- PROBATION_PASS (R374); `ok` says whether the record write verified. -/
  | probationPass (t : Time) (ok : Bool)
  /-- SLOT_RECORD_RETRY (R374). -/
  | slotRecordRetry (t : Time) (ok : Bool)
  /-- SO_TEST_PULSE_END (R312); `sofbLow` says whether SOFB went low during the pulse. -/
  | soTestPulseEnd (t : Time) (group : Nat) (sofbLow : Bool)
  /-- SI_LEVEL_CHANGE (R313). -/
  | siLevelChange (t : Time) (channel : Nat) (level : Bool)
  /-- SAFE_PARAM_COMMIT_COMPLETE (R326). -/
  | safeParamCommitComplete (t : Time) (ok : Bool)
  /-- FIRMWARE_RELOADED (R373). -/
  | firmwareReloaded (t : Time)
  /-- EXTEST_LEAVE (R345). -/
  | extestLeave (t : Time)
  /-- CORE_HALT (R348). -/
  | coreHalt (t : Time)
  /-- CORE_RESUME (R365). -/
  | coreResume (t : Time)
  deriving DecidableEq, Repr

end Sys2Proof
end

