-- ==== Sys2Proof/Decode.lean ====
section
/-! DEFINITION. Words of the opcode table. The GK9600 is a block: its commands come as packets, record parts, pins and
internal events, and spec/opcode_table.json gives none of its rows any bits. -/
namespace Sys2Proof

/-- The command that a table word spells: none, because no row has bits. The operation codes of packets are read by the
packet interpreter (Machine/Proto.lean), where they belong. -/
def decodeTableWord (_nbits _w : Nat) : Option Instr := none

end Sys2Proof
end

