-- ==== Sys2Proof/Config.lean ====
section
/-! DEFINITION. What the factory, the stepping, the firmware or the environment fixes and the spec leaves open. Every constant
here is opaque: no proof can see its value, and a claim holds whatever it is. -/
namespace Sys2Proof.Config

/-- The free value drawn with the `n`th counter (a value the spec leaves open at one instant). -/
opaque freeValue : Nat → Word

/-- The serial number of the device, low and high words (`DEV_SERIAL`, R400). -/
opaque serial : Nat → Word

/-- The version of the firmware that the factory loaded into slot A (R369). -/
opaque factoryVersion : Word

/-- Its security version (R369). -/
opaque factorySecurity : Nat

/-- The highest minor version of generation `g` that a firmware of version `v` knows (R400). -/
opaque minorKnown : Word → Nat → Byte

/-- The MAC address of H0 as a 48-bit number; Hp uses this value + p (Table 12-7). -/
opaque mac0 : Nat

/-- SHA-256 of a byte string, 32 bytes as a number below 2^256 (R331, R346, R371). -/
opaque sha256 : List Byte → BitVec 256

/-- Whether an ECDSA P-256 signature `sig` over `msg` verifies under a public key (x‖y, 64 bytes) (R331). -/
opaque ecdsaVerifies : (key msg sig : List Byte) → Bool

/-- The firmware public key of the Vaovel factory (R331). -/
opaque factoryKey : List Byte

/-- The public key whose hash is the given 256-bit value, as the boot ROM and the debug unit recover it from the image or the
request (R331, R346). -/
opaque keyOfHash : BitVec 256 → List Byte

/-- The nonce the on-die random source draws at counter `n` (R346). -/
opaque nonce : Nat → BitVec 256

/-- The discipline servo (R33): bandwidth code, integral state and phase error in units; gives the new integral state and
the rate asked for, in 10^-9 units. -/
opaque servo : Nat → Int → Int → Int × Int

/-- The notches of a process channel on its decimated signal (R241): the bits of `NOTCH`, the rate code, the gain, the states
and a sample; gives the new states and the filtered sample. The spec gives the frequencies, the Q and the rejection, and no
arithmetic. -/
opaque notch : (bits rate gain : Nat) → List Rat → Rat → List Rat × Rat

/-- The slew that the servo adds to its rate for a phase error above 1 µs while a lane runs, before its ±10 ppm limit, in
10^-9 units (R33). -/
opaque slew : Int → Int

/-- The largest mean link delay, in units, at which the link counts as capable (`AS_CAPABLE`, R45). -/
opaque pdelayLimit : Nat

end Sys2Proof.Config
end

