-- ==== Sys2Proof/Machine/Bits.lean ====
section
/-! DEFINITION. Bit fields, byte order and checksums (R4, R262, R361). -/
namespace Sys2Proof.Machine

/-- The field of `n` bits at bit `lo` of a word. -/
def field (w : Word) (lo n : Nat) : Nat := (w.toNat / 2 ^ lo) % 2 ^ n

/-- The bit `i` of a word. -/
def bit (w : Word) (i : Nat) : Bool := w.getLsbD i

/-- The mask of `n` bits at bit `lo`. -/
def maskOf (lo n : Nat) : Word := BitVec.ofNat 32 ((2 ^ n - 1) * 2 ^ lo)

/-- The word `w` with the field of `n` bits at bit `lo` set to `v` modulo 2^n. -/
def withField (w : Word) (lo n v : Nat) : Word :=
  (w &&& ~~~(maskOf lo n)) ||| BitVec.ofNat 32 ((v % 2 ^ n) * 2 ^ lo)

/-- One if the condition holds, else zero. -/
def b2n (b : Bool) : Nat := if b then 1 else 0

/-- The word with bit `i` equal to `b`, other bits zero. -/
def bitAt (i : Nat) (b : Bool) : Word := BitVec.ofNat 32 (b2n b * 2 ^ i)

/-- Bits that are set, by position. -/
def bits (l : List (Nat × Bool)) : Word := l.foldl (fun w b => w ||| bitAt b.1 b.2) 0

/-- The word with value `v` at bit `lo`. -/
def at_ (lo v : Nat) : Word := BitVec.ofNat 32 (v * 2 ^ lo)

/-- The `n` bytes of a number, least significant first (R4). -/
def leBytes : Nat → Nat → List Byte
  | 0, _ => []
  | n + 1, v => BitVec.ofNat 8 v :: leBytes n (v / 256)

/-- The number of a byte string, least significant first (R4). -/
def leNat : List Byte → Nat
  | [] => 0
  | b :: rest => b.toNat + 256 * leNat rest

/-- The `n` bytes of a number, most significant first. -/
def beBytes (n v : Nat) : List Byte := (leBytes n v).reverse

/-- The number of a byte string, most significant first. -/
def beNat (bs : List Byte) : Nat := leNat bs.reverse

/-- `n` bytes of a byte string from offset `o`, short at the end of the string. -/
def slice (bs : List Byte) (o n : Nat) : List Byte := (bs.drop o).take n

/-- The byte at offset `o`; zero past the end. -/
def byteAt (bs : List Byte) (o : Nat) : Nat := (bs.getD o 0).toNat

/-- The 16-bit number at offset `o`, least significant byte first. -/
def u16At (bs : List Byte) (o : Nat) : Nat := leNat (slice bs o 2)

/-- The 32-bit number at offset `o`, least significant byte first. -/
def u32At (bs : List Byte) (o : Nat) : Nat := leNat (slice bs o 4)

/-- The word at offset `o`. -/
def wordAt (bs : List Byte) (o : Nat) : Word := BitVec.ofNat 32 (u32At bs o)

/-- The 64-bit number at offset `o`, least significant byte first. -/
def u64At (bs : List Byte) (o : Nat) : Nat := leNat (slice bs o 8)

/-- The four bytes of a word. -/
def wordBytes (w : Word) : List Byte := leBytes 4 w.toNat

/-- `n` zero bytes. -/
def zeros (n : Nat) : List Byte := List.replicate n 0

/-- A byte string padded with zeros, or cut, to `n` bytes. -/
def padTo (n : Nat) (bs : List Byte) : List Byte := (bs ++ zeros n).take n

/-- One bit of a reflected CRC of width 32. -/
def crcStepR (poly c : Nat) : Nat := if c % 2 = 1 then (c / 2).xor poly else c / 2

/-- Eight bits of a reflected CRC. -/
def crcByteR (poly c : Nat) (b : Byte) : Nat :=
  let s := crcStepR poly
  s (s (s (s (s (s (s (s (c.xor b.toNat))))))))

/-- CRC-32 of IEEE 802.3 (R262): reflected, initial value and final XOR all ones. -/
def crc32 (bs : List Byte) : Nat := (bs.foldl (crcByteR 0xEDB88320) 0xFFFFFFFF).xor 0xFFFFFFFF

/-- CRC-32C, Castagnoli: reflected, initial value and final XOR all ones (R315). -/
def crc32c (bs : List Byte) : Nat := (bs.foldl (crcByteR 0x82F63B78) 0xFFFFFFFF).xor 0xFFFFFFFF

/-- One bit of a CRC-16 that is not reflected. -/
def crc16Step (c : Nat) : Nat := if c / 32768 % 2 = 1 then ((c * 2) % 65536).xor 0x1021 else (c * 2) % 65536

/-- CRC-16, polynomial 0x1021, initial value 0xFFFF, not reflected (Table 16-4). -/
def crc16 (bs : List Byte) : Nat :=
  bs.foldl (fun c b => crc16Step (crc16Step (crc16Step (crc16Step (crc16Step (crc16Step (crc16Step (crc16Step
    (c.xor (b.toNat * 256)))))))))) 0xFFFF

/-- CRC-6 of BiSS-C over the `n` low bits of `v`, most significant first: polynomial x^6 + x + 1, initial value 0, inverted
(R129). -/
def crc6 (n v : Nat) : Nat :=
  63 - (List.range n).foldl (fun c i =>
    let b := (v / 2 ^ (n - 1 - i)) % 2
    let t := (c / 32 + b) % 2
    let c' := (c * 2) % 64
    if t = 1 then c'.xor 3 else c') 0

end Sys2Proof.Machine
end

