-- ==== Sys2Proof/Machine/Num.lean ====
section
/-! DEFINITION. Numbers: IEEE 754 binary32 and binary64 rounding over exact rationals, saturation, and the elementary functions
the spec computes, in fixed point with 96 fraction bits (Table 0-3, R187, R188). Integers and rationals are exact; a value
is rounded only where the spec names a format. -/
namespace Sys2Proof.Machine

/-- Round a nonnegative quotient to the nearest integer, ties to even. -/
def roundDivNat (n d : Nat) : Nat :=
  let q := n / d
  let r := n % d
  if 2 * r < d then q else if 2 * r > d then q + 1 else q + q % 2

/-- Round a rational to the nearest integer, ties to even (`round_even` of R39). -/
def roundEven (q : Rat) : Int :=
  let m := roundDivNat q.num.natAbs q.den
  if q.num < 0 then -(m : Int) else m

/-- Round a rational towards minus infinity. -/
def floorRat (q : Rat) : Int := q.num / (q.den : Int)

/-- Round a rational towards plus infinity. -/
def ceilRat (q : Rat) : Int := -((-q.num) / (q.den : Int))

/-- Round a rational towards zero. -/
def truncRat (q : Rat) : Int :=
  if q.num < 0 then -((q.num.natAbs / q.den : Nat) : Int) else ((q.num.natAbs / q.den : Nat) : Int)

/-- Round a rational to the nearest integer, halves away from zero. -/
def roundAway (q : Rat) : Int :=
  let m := (2 * q.num.natAbs + q.den) / (2 * q.den)
  if q.num < 0 then -(m : Int) else m

/-- The magnitude of a rational. -/
def absRat (q : Rat) : Rat := if q < 0 then -q else q

/-- Two to an integer power. -/
def pow2 (e : Int) : Rat :=
  if 0 ≤ e then ((2 ^ e.toNat : Nat) : Rat) else mkRat 1 (2 ^ (-e).toNat)

/-- The exponent `e` with `2^e ≤ |q| < 2^(e+1)`, for `q` other than 0. -/
def ratExp (q : Rat) : Int :=
  let n := q.num.natAbs
  let e : Int := (Nat.log2 n : Int) - (Nat.log2 q.den : Int)
  if 0 ≤ e then (if n < q.den * 2 ^ e.toNat then e - 1 else e)
  else (if n * 2 ^ (-e).toNat < q.den then e - 1 else e)

/-- Round to `prec` significant bits, ties to even, with least exponent `emin` of a normal number, without overflow. -/
def roundFloat (prec : Nat) (emin : Int) (q : Rat) : Rat :=
  if q.num = 0 then 0
  else
    let e := max (ratExp q) emin
    let s := (prec : Int) - 1 - e
    (roundEven (q * pow2 s) : Rat) * pow2 (-s)

/-- The largest finite binary32 value. -/
def maxF32 : Rat := ((16777215 * 2 ^ 104 : Nat) : Rat)

/-- Clamp a rational to a closed interval. -/
def clampRat (lo hi q : Rat) : Rat := if q < lo then lo else if hi < q then hi else q

/-- Clamp an integer to a closed interval. -/
def clampInt (lo hi q : Int) : Int := if q < lo then lo else if hi < q then hi else q

/-- Round to binary32; a result beyond the format saturates to the largest finite value. -/
def rnd32 (q : Rat) : Rat := clampRat (-maxF32) maxF32 (roundFloat 24 (-126) q)

/-- Round to binary64. -/
def rnd64 (q : Rat) : Rat := roundFloat 53 (-1022) q

/-- The value of a binary32 pattern; an infinity or a NaN reads as zero (tested for apart by `f32Finite`). -/
def f32 (w : Word) : Rat :=
  let e : Nat := (w.toNat / 2 ^ 23) % 256
  let m : Nat := w.toNat % 2 ^ 23
  let v : Rat :=
    if e = 255 then 0
    else if e = 0 then (m : Rat) * pow2 (-149)
    else (((m + 2 ^ 23 : Nat)) : Rat) * pow2 (((e : Nat) : Int) - 150)
  if w.toNat / 2 ^ 31 = 1 then -v else v

/-- The pattern is neither an infinity nor a NaN. -/
def f32Finite (w : Word) : Bool := decide ((w.toNat / 2 ^ 23) % 256 ≠ 255)

/-- The pattern is negative zero. -/
def f32NegZero (w : Word) : Bool := decide (w.toNat = 2 ^ 31)

/-- The binary32 pattern nearest to a rational; zero is written as +0. -/
def toF32 (q : Rat) : Word :=
  let r := rnd32 q
  if r.num = 0 then 0
  else
    let e := max (ratExp r) (-126)
    let m := ((r * pow2 (23 - e)).num.natAbs)
    let body := if m < 2 ^ 23 then m else ((e + 127).toNat) * 2 ^ 23 + (m - 2 ^ 23)
    BitVec.ofNat 32 (body + (if r.num < 0 then 2 ^ 31 else 0))

/-- Saturate an integer to a signed field of `w` bits. -/
def satInt (w : Nat) (x : Int) : Int := clampInt (-(2 ^ (w - 1) : Nat)) ((2 ^ (w - 1) - 1 : Nat)) x

/-- Saturate a count to an unsigned field of `w` bits. -/
def satNat (w : Nat) (x : Nat) : Nat := min x (2 ^ w - 1)

/-- The value of a signed field of `w` bits read as the natural number `x`. -/
def signed (w : Nat) (x : Nat) : Int := if x % 2 ^ w < 2 ^ (w - 1) then ((x % 2 ^ w : Nat) : Int) else ((x % 2 ^ w : Nat) : Int) - (2 ^ w : Nat)

/-- The unsigned image of an integer in `w` bits, modulo 2^w. -/
def unsigned (w : Nat) (x : Int) : Nat := (x % ((2 ^ w : Nat) : Int)).toNat

/-- The 32-bit image of an integer, modulo 2^32. -/
def wordOfInt (x : Int) : Word := BitVec.ofInt 32 x

/-- The wrap of an integer to a signed value of `w` bits. -/
def wrapInt (w : Nat) (x : Int) : Int := signed w (unsigned w x)

/-- Integer square root with `fuel` bits of the result still to find. -/
def isqrtGo (n : Nat) : Nat → Nat → Nat
  | 0, r => r
  | k + 1, r => let c := r + 2 ^ k; isqrtGo n k (if c * c ≤ n then c else r)

/-- The integer square root, rounded down. -/
def isqrt (n : Nat) : Nat := isqrtGo n (Nat.log2 n / 2 + 1) 0

/-- Square root of a nonnegative rational to 80 bits after the binary point of its leading digit. -/
def sqrtRat (q : Rat) : Rat :=
  if q.num ≤ 0 then 0
  else
    let k := (160 + (if ratExp q < 0 then (-(ratExp q)).toNat else 0)) / 2
    mkRat (isqrt (q.num.natAbs * 2 ^ (2 * k) / q.den)) (2 ^ k)

/-- The scale of the fixed-point functions: 2^96. -/
def fx : Int := 2 ^ 96

/-- Product of two fixed-point numbers. -/
def fmul (a b : Int) : Int := a * b / fx

/-- The fixed-point image of a rational. -/
def toFx (q : Rat) : Int := floorRat (q * (fx : Rat))

/-- The rational of a fixed-point number. -/
def ofFx (a : Int) : Rat := mkRat a (2 ^ 96)

/-- 2π in fixed point. -/
def twoPiFx : Int := 497805226624462170461043889244

/-- Sum of the alternating series `t - t x²/(k(k+1)) + …` for `n` further terms. -/
def trigSeries (x2 : Int) : Nat → Int → Int → Int → Int
  | 0, _, _, acc => acc
  | n + 1, k, t, acc => let t' := -(fmul t x2) / (k * (k + 1)); trigSeries x2 n (k + 2) t' (acc + t')

/-- Sine of an angle in radians, |x| ≤ π/4, fixed point. -/
def sinSmall (x : Int) : Int := trigSeries (fmul x x) 14 2 x x

/-- Cosine of an angle in radians, |x| ≤ π/4, fixed point. -/
def cosSmall (x : Int) : Int := trigSeries (fmul x x) 14 1 fx fx

/-- Sine and cosine of an angle in turns, as rationals. -/
def sinCosTurn (q : Rat) : Rat × Rat :=
  let o := (roundAway (q * 4)) 
  let x := fmul (toFx (q - mkRat o 4)) twoPiFx
  let s := ofFx (sinSmall x)
  let c := ofFx (cosSmall x)
  match (o % 4).toNat with
  | 0 => (s, c)
  | 1 => (c, -s)
  | 2 => (-s, -c)
  | _ => (-c, s)

/-- Sine of an angle in turns. -/
def sinTurn (q : Rat) : Rat := (sinCosTurn q).1

/-- Cosine of an angle in turns. -/
def cosTurn (q : Rat) : Rat := (sinCosTurn q).2

/-- The series of the arc tangent, `n` further terms. -/
def atanSeries (x2 : Int) : Nat → Int → Int → Int → Int
  | 0, _, _, acc => acc
  | n + 1, k, p, acc => let p' := -(fmul p x2); atanSeries x2 n (k + 2) p' (acc + p' / k)

/-- Halve the angle whose tangent is `z`. -/
def atanHalf (z : Int) : Int :=
  let h : Int := isqrt ((fx * fx + z * z).toNat)
  z * fx / (fx + h)

/-- Arc tangent of 0 ≤ z ≤ 1 in turns. -/
def atanUnit (z : Rat) : Rat :=
  let t := atanHalf (atanHalf (toFx z))
  let a := atanSeries (fmul t t) 24 3 t t
  mkRat (4 * a) 1 / (twoPiFx : Rat)

/-- The angle of the vector (x, y) in turns, 0 ≤ result < 1; zero for the null vector. -/
def atan2Turn (y x : Rat) : Rat :=
  let ax := absRat x
  let ay := absRat y
  if ax = 0 ∧ ay = 0 then 0
  else
    let a := if ay ≤ ax then atanUnit (ay / ax) else mkRat 1 4 - atanUnit (ax / ay)
    let b := if x < 0 then mkRat 1 2 - a else a
    let c := if y < 0 then -b else b
    if c < 0 then c + 1 else c

/-- The exponential series, `n` further terms. -/
def expSeries (x : Int) : Nat → Int → Int → Int → Int
  | 0, _, _, acc => acc
  | n + 1, k, t, acc => let t' := fmul t x / k; expSeries x n (k + 1) t' (acc + t')

/-- Square a fixed-point number `n` times. -/
def sqTimes : Nat → Int → Int
  | 0, a => a
  | n + 1, a => sqTimes n (fmul a a)

/-- The exponential of a rational of magnitude at most 32. -/
def expRat (q : Rat) : Rat :=
  if q < 0 then 1 / ofFx (sqTimes 8 (expSeries (toFx (-q / 256)) 24 1 fx fx))
  else ofFx (sqTimes 8 (expSeries (toFx (q / 256)) 24 1 fx fx))

end Sys2Proof.Machine
end

