-- ==== Sys2Proof/Machine/RegId.lean ====
section
/-! DEFINITION. The names of the register words: one constructor for each word, or multi-word value, that a register table
of the spec gives (R397, R399). -/
namespace Sys2Proof.Machine

/-- A register word of the address space by the spec's own name. A multi-word value and a register that every lane,
input or port has is one constructor; the index beside it says which word is meant. -/
inductive RegId where
  /-- `LANE_STAT` (R20, spec/01_planes_and_junctions.md). -/
  | laneStat
  /-- `LANE_CTRL` (R20, spec/01_planes_and_junctions.md). -/
  | laneCtrl
  /-- `TIME_NOW` (R45, spec/02_frame_and_time.md). -/
  | timeNow
  /-- `TIME_CTRL` (R45, spec/02_frame_and_time.md). -/
  | timeCtrl
  /-- `TIME_STAT` (R45, spec/02_frame_and_time.md). -/
  | timeStat
  /-- `TIME_OFFSET` (R45, spec/02_frame_and_time.md). -/
  | timeOffset
  /-- `TIME_RATE` (R45, spec/02_frame_and_time.md). -/
  | timeRate
  /-- `TIME_ASYM` (R45, spec/02_frame_and_time.md). -/
  | timeAsym
  /-- `TIME_PDELAY` (R45, spec/02_frame_and_time.md). -/
  | timePdelay
  /-- `TIME_SYNC_OFS` (R45, spec/02_frame_and_time.md). -/
  | timeSyncOfs
  /-- `TIME_CNT` (R45, spec/02_frame_and_time.md). -/
  | timeCnt
  /-- `TIME_SET` (R45, spec/02_frame_and_time.md). -/
  | timeSet
  /-- `TIME_GM_ID` (R45, spec/02_frame_and_time.md). -/
  | timeGmId
  /-- `TIME_SYNCOUT` (R45, spec/02_frame_and_time.md). -/
  | timeSyncout
  /-- `TIME_SYNCOUT_OFS` (R45, spec/02_frame_and_time.md). -/
  | timeSyncoutOfs
  /-- `FRM_PERIOD` (R45, spec/02_frame_and_time.md). -/
  | frmPeriod
  /-- `FRM_OUTDL` (R45, spec/02_frame_and_time.md). -/
  | frmOutdl
  /-- `FRM_CUTOFF` (R45, spec/02_frame_and_time.md). -/
  | frmCutoff
  /-- `FRM_TXOFS` (R45, spec/02_frame_and_time.md). -/
  | frmTxofs
  /-- `FRM_EPOCH` (R45, spec/02_frame_and_time.md). -/
  | frmEpoch
  /-- `FRM_SEQ` (R45, spec/02_frame_and_time.md). -/
  | frmSeq
  /-- `FRM_T0` (R45, spec/02_frame_and_time.md). -/
  | frmT0
  /-- `FRM_STAT` (R45, spec/02_frame_and_time.md). -/
  | frmStat
  /-- `FRM_SKIP` (R45, spec/02_frame_and_time.md). -/
  | frmSkip
  /-- `FRM_LATE_ALL` (R45, spec/02_frame_and_time.md). -/
  | frmLateAll
  /-- `FRM_LATE_CNT` (R45, spec/02_frame_and_time.md). -/
  | frmLateCnt
  /-- `EXC_CTRL` (R67, spec/03_excitation_and_acquisition.md). -/
  | excCtrl
  /-- `EXC_FREQ` (R67, spec/03_excitation_and_acquisition.md). -/
  | excFreq
  /-- `EXC_AMP` (R67, spec/03_excitation_and_acquisition.md). -/
  | excAmp
  /-- `EXC_IXS` (R67, spec/03_excitation_and_acquisition.md). -/
  | excIxs
  /-- `EXC_STAT` (R67, spec/03_excitation_and_acquisition.md). -/
  | excStat
  /-- `ACQ_CTRL` (R67, spec/03_excitation_and_acquisition.md). -/
  | acqCtrl
  /-- `ACQ_PHASE_SET` (R67, spec/03_excitation_and_acquisition.md). -/
  | acqPhaseSet
  /-- `ACQ_LEVELS` (R67, spec/03_excitation_and_acquisition.md). -/
  | acqLevels
  /-- `ACQ_RATIO` (R67, spec/03_excitation_and_acquisition.md). -/
  | acqRatio
  /-- `ACQ_STAT` (R67, spec/03_excitation_and_acquisition.md). -/
  | acqStat
  /-- `ACQ_PHASE` (R67, spec/03_excitation_and_acquisition.md). -/
  | acqPhase
  /-- `ACQ_AMP` (R67, spec/03_excitation_and_acquisition.md). -/
  | acqAmp
  /-- `ACQ_CNT` (R67, spec/03_excitation_and_acquisition.md). -/
  | acqCnt
  /-- `TRK_CTRL` (R89, spec/04_angle_tracking.md). -/
  | trkCtrl
  /-- `TRK_AID` (R89, spec/04_angle_tracking.md). -/
  | trkAid
  /-- `TRK_ZERO` (R89, spec/04_angle_tracking.md). -/
  | trkZero
  /-- `TRK_STILL` (R89, spec/04_angle_tracking.md). -/
  | trkStill
  /-- `TRK_POS_SET` (R89, spec/04_angle_tracking.md). -/
  | trkPosSet
  /-- `TRK_CMD` (R89, spec/04_angle_tracking.md). -/
  | trkCmd
  /-- `DET_CTRL` (R89, spec/04_angle_tracking.md). -/
  | detCtrl
  /-- `DET_SCALE` (R89, spec/04_angle_tracking.md). -/
  | detScale
  /-- `TRK_STAT` (R89, spec/04_angle_tracking.md). -/
  | trkStat
  /-- `TRK_ERR` (R89, spec/04_angle_tracking.md). -/
  | trkErr
  /-- `TRK_ERR_PK` (R89, spec/04_angle_tracking.md). -/
  | trkErrPk
  /-- `TRK_RAW` (R89, spec/04_angle_tracking.md). -/
  | trkRaw
  /-- `TRK_CNT` (R89, spec/04_angle_tracking.md). -/
  | trkCnt
  /-- `DET_OFS` (R89, spec/04_angle_tracking.md). -/
  | detOfs
  /-- `SNAP_POS` (R89, spec/04_angle_tracking.md). -/
  | snapPos
  /-- `SNAP_VEL` (R89, spec/04_angle_tracking.md). -/
  | snapVel
  /-- `SNAP_ACC` (R89, spec/04_angle_tracking.md). -/
  | snapAcc
  /-- `SNAP_T0` (R89, spec/04_angle_tracking.md). -/
  | snapT0
  /-- `SNAP_FLAGS` (R89, spec/04_angle_tracking.md). -/
  | snapFlags
  /-- `MAP_CTRL` (R114, spec/05_angle_error_maps.md). -/
  | mapCtrl
  /-- `MAP_STAT` (R114, spec/05_angle_error_maps.md). -/
  | mapStat
  /-- `MAP_SEG` (R114, spec/05_angle_error_maps.md). -/
  | mapSeg
  /-- `SEG_REJ` (R114, spec/05_angle_error_maps.md). -/
  | segRej
  /-- `MAP_RESID` (R114, spec/05_angle_error_maps.md). -/
  | mapResid
  /-- `MAP_VMIN` (R114, spec/05_angle_error_maps.md). -/
  | mapVmin
  /-- `MAP_VSPLIT` (R114, spec/05_angle_error_maps.md). -/
  | mapVsplit
  /-- `MAP_VMAX` (R114, spec/05_angle_error_maps.md). -/
  | mapVmax
  /-- `MAP_AMAX` (R114, spec/05_angle_error_maps.md). -/
  | mapAmax
  /-- `MAP_LRN` (R114, spec/05_angle_error_maps.md). -/
  | mapLrn
  /-- `MAP_TOL` (R114, spec/05_angle_error_maps.md). -/
  | mapTol
  /-- `PIN_CTRL` (R143, spec/06_pulse_inputs_and_milestones.md). -/
  | pinCtrl
  /-- `PIN_ASSIGN` (R143, spec/06_pulse_inputs_and_milestones.md). -/
  | pinAssign
  /-- `PIN_CPT` (R143, spec/06_pulse_inputs_and_milestones.md). -/
  | pinCpt
  /-- `PIN_EDGE` (R143, spec/06_pulse_inputs_and_milestones.md). -/
  | pinEdge
  /-- `PIN_WIN` (R143, spec/06_pulse_inputs_and_milestones.md). -/
  | pinWin
  /-- `SER_FMT` (R143, spec/06_pulse_inputs_and_milestones.md). -/
  | serFmt
  /-- `SER_TIM` (R143, spec/06_pulse_inputs_and_milestones.md). -/
  | serTim
  /-- `SER_LIM` (R143, spec/06_pulse_inputs_and_milestones.md). -/
  | serLim
  /-- `PIN_ERR` (R143, spec/06_pulse_inputs_and_milestones.md). -/
  | pinErr
  /-- `PIN_COUNT` (R143, spec/06_pulse_inputs_and_milestones.md). -/
  | pinCount
  /-- `PIN_EDGE_T` (R143, spec/06_pulse_inputs_and_milestones.md). -/
  | pinEdgeT
  /-- `PIN_SPEED` (R143, spec/06_pulse_inputs_and_milestones.md). -/
  | pinSpeed
  /-- `PIN_ZDRIFT` (R143, spec/06_pulse_inputs_and_milestones.md). -/
  | pinZdrift
  /-- `PIN_STAT` (R143, spec/06_pulse_inputs_and_milestones.md). -/
  | pinStat
  /-- `MLS_CTRL` (R143, spec/06_pulse_inputs_and_milestones.md). -/
  | mlsCtrl
  /-- `MLS_ASSIGN` (R143, spec/06_pulse_inputs_and_milestones.md). -/
  | mlsAssign
  /-- `MLS_DLY` (R143, spec/06_pulse_inputs_and_milestones.md). -/
  | mlsDly
  /-- `MLS_WIN_START` (R143, spec/06_pulse_inputs_and_milestones.md). -/
  | mlsWinStart
  /-- `MLS_WIN_LEN` (R143, spec/06_pulse_inputs_and_milestones.md). -/
  | mlsWinLen
  /-- `MLS_STAT` (R143, spec/06_pulse_inputs_and_milestones.md). -/
  | mlsStat
  /-- `MLS_CNT` (R143, spec/06_pulse_inputs_and_milestones.md). -/
  | mlsCnt
  /-- `MLS_POP` (R143, spec/06_pulse_inputs_and_milestones.md). -/
  | mlsPop
  /-- `MLS_HEAD` (R143, spec/06_pulse_inputs_and_milestones.md). -/
  | mlsHead
  /-- `EMU_CTRL` (R161, spec/07_encoder_emulation_and_step_outputs.md). -/
  | emuCtrl
  /-- `EMU_LANE` (R161, spec/07_encoder_emulation_and_step_outputs.md). -/
  | emuLane
  /-- `EMU_RES` (R161, spec/07_encoder_emulation_and_step_outputs.md). -/
  | emuRes
  /-- `EMU_Z_POS` (R161, spec/07_encoder_emulation_and_step_outputs.md). -/
  | emuZPos
  /-- `EMU_STEP` (R161, spec/07_encoder_emulation_and_step_outputs.md). -/
  | emuStep
  /-- `EMU_LIM` (R161, spec/07_encoder_emulation_and_step_outputs.md). -/
  | emuLim
  /-- `EMU_PH_CYC` (R161, spec/07_encoder_emulation_and_step_outputs.md). -/
  | emuPhCyc
  /-- `EMU_STALL` (R161, spec/07_encoder_emulation_and_step_outputs.md). -/
  | emuStall
  /-- `EMU_STALL_SCALE` (R161, spec/07_encoder_emulation_and_step_outputs.md). -/
  | emuStallScale
  /-- `EMU_COUNT` (R161, spec/07_encoder_emulation_and_step_outputs.md). -/
  | emuCount
  /-- `EMU_BKLG` (R161, spec/07_encoder_emulation_and_step_outputs.md). -/
  | emuBklg
  /-- `EMU_DEV` (R161, spec/07_encoder_emulation_and_step_outputs.md). -/
  | emuDev
  /-- `EMU_CNT` (R161, spec/07_encoder_emulation_and_step_outputs.md). -/
  | emuCnt
  /-- `EMU_STAT` (R161, spec/07_encoder_emulation_and_step_outputs.md). -/
  | emuStat
  /-- `LOOP_CTRL` (R180, spec/08_loop_cascade.md). -/
  | loopCtrl
  /-- `LOOP_DIV` (R180, spec/08_loop_cascade.md). -/
  | loopDiv
  /-- `TRM_CTRL` (R180, spec/08_loop_cascade.md). -/
  | trmCtrl
  /-- `TRM_SET` (R180, spec/08_loop_cascade.md). -/
  | trmSet
  /-- `LB_DMD` (R180, spec/08_loop_cascade.md). -/
  | lbDmd
  /-- `FE_LIM` (R180, spec/08_loop_cascade.md). -/
  | feLim
  /-- `FE_N` (R180, spec/08_loop_cascade.md). -/
  | feN
  /-- `LOOP_STAT` (R180, spec/08_loop_cascade.md). -/
  | loopStat
  /-- `DMD_OUT` (R180, spec/08_loop_cascade.md). -/
  | dmdOut
  /-- `DMD_FF` (R180, spec/08_loop_cascade.md). -/
  | dmdFf
  /-- `VEL_DEM` (R180, spec/08_loop_cascade.md). -/
  | velDem
  /-- `POS_ERR` (R180, spec/08_loop_cascade.md). -/
  | posErr
  /-- `VEL_ERR` (R180, spec/08_loop_cascade.md). -/
  | velErr
  /-- `TRM_OUT` (R180, spec/08_loop_cascade.md). -/
  | trmOut
  /-- `POS_DEM` (R180, spec/08_loop_cascade.md). -/
  | posDem
  /-- `I_V` (R180, spec/08_loop_cascade.md). -/
  | iV
  /-- `I_P` (R180, spec/08_loop_cascade.md). -/
  | iP
  /-- `I_T` (R180, spec/08_loop_cascade.md). -/
  | iT
  /-- `LOOP_COST` (R180, spec/08_loop_cascade.md). -/
  | loopCost
  /-- `FE_CNT` (R180, spec/08_loop_cascade.md). -/
  | feCnt
  /-- `ADM_BUDGET` (R181, spec/08_loop_cascade.md). -/
  | admBudget
  /-- `ADM_BASE` (R181, spec/08_loop_cascade.md). -/
  | admBase
  /-- `ADM_WORST` (R181, spec/08_loop_cascade.md). -/
  | admWorst
  /-- `COEF_STAT` (R207, spec/09_loop_arithmetic_coefficients_and_trace.md). -/
  | coefStat
  /-- `COEF_CNT` (R207, spec/09_loop_arithmetic_coefficients_and_trace.md). -/
  | coefCnt
  /-- `STAGE_EXP` (R207, spec/09_loop_arithmetic_coefficients_and_trace.md). -/
  | stageExp
  /-- `ENG_RETRY` (R208, spec/09_loop_arithmetic_coefficients_and_trace.md). -/
  | engRetry
  /-- `ENG_FAIL` (R208, spec/09_loop_arithmetic_coefficients_and_trace.md). -/
  | engFail
  /-- `ENG_OVF` (R208, spec/09_loop_arithmetic_coefficients_and_trace.md). -/
  | engOvf
  /-- `TRC_CTRL` (R208, spec/09_loop_arithmetic_coefficients_and_trace.md). -/
  | trcCtrl
  /-- `TRC_CH` (R208, spec/09_loop_arithmetic_coefficients_and_trace.md). -/
  | trcCh
  /-- `TRC_PRE` (R208, spec/09_loop_arithmetic_coefficients_and_trace.md). -/
  | trcPre
  /-- `TRC_TRIG` (R208, spec/09_loop_arithmetic_coefficients_and_trace.md). -/
  | trcTrig
  /-- `TRC_TRIG_VAL` (R208, spec/09_loop_arithmetic_coefficients_and_trace.md). -/
  | trcTrigVal
  /-- `TRC_STAT` (R208, spec/09_loop_arithmetic_coefficients_and_trace.md). -/
  | trcStat
  /-- `TRC_GEOM` (R208, spec/09_loop_arithmetic_coefficients_and_trace.md). -/
  | trcGeom
  /-- `TRC_START` (R208, spec/09_loop_arithmetic_coefficients_and_trace.md). -/
  | trcStart
  /-- `TRC_COUNT` (R208, spec/09_loop_arithmetic_coefficients_and_trace.md). -/
  | trcCount
  /-- `TRC_TRIG_IDX` (R208, spec/09_loop_arithmetic_coefficients_and_trace.md). -/
  | trcTrigIdx
  /-- `TRC_TRIG_SEQ` (R208, spec/09_loop_arithmetic_coefficients_and_trace.md). -/
  | trcTrigSeq
  /-- `PRF_CTRL` (R232, spec/10_profile_and_line_shaft.md). -/
  | prfCtrl
  /-- `VEL_LIM` (R232, spec/10_profile_and_line_shaft.md). -/
  | velLim
  /-- `ACC_LIM` (R232, spec/10_profile_and_line_shaft.md). -/
  | accLim
  /-- `DEC_LIM` (R232, spec/10_profile_and_line_shaft.md). -/
  | decLim
  /-- `JERK_LIM` (R232, spec/10_profile_and_line_shaft.md). -/
  | jerkLim
  /-- `SUP_VEL` (R232, spec/10_profile_and_line_shaft.md). -/
  | supVel
  /-- `SUP_ACC` (R232, spec/10_profile_and_line_shaft.md). -/
  | supAcc
  /-- `SUP_DEC` (R232, spec/10_profile_and_line_shaft.md). -/
  | supDec
  /-- `SUP_JERK` (R232, spec/10_profile_and_line_shaft.md). -/
  | supJerk
  /-- `QS_DEC` (R232, spec/10_profile_and_line_shaft.md). -/
  | qsDec
  /-- `QS_JERK` (R232, spec/10_profile_and_line_shaft.md). -/
  | qsJerk
  /-- `INPOS_WIN` (R232, spec/10_profile_and_line_shaft.md). -/
  | inposWin
  /-- `PRF_QUEUE` (R232, spec/10_profile_and_line_shaft.md). -/
  | prfQueue
  /-- `PRF_TARGET` (R232, spec/10_profile_and_line_shaft.md). -/
  | prfTarget
  /-- `PRF_PP` (R232, spec/10_profile_and_line_shaft.md). -/
  | prfPp
  /-- `PRF_VP` (R232, spec/10_profile_and_line_shaft.md). -/
  | prfVp
  /-- `PRF_AP` (R232, spec/10_profile_and_line_shaft.md). -/
  | prfAp
  /-- `SUP_POS` (R232, spec/10_profile_and_line_shaft.md). -/
  | supPos
  /-- `SUP_TGT` (R232, spec/10_profile_and_line_shaft.md). -/
  | supTgt
  /-- `GEAR_SRC` (R232, spec/10_profile_and_line_shaft.md). -/
  | gearSrc
  /-- `GEAR_NUM` (R232, spec/10_profile_and_line_shaft.md). -/
  | gearNum
  /-- `GEAR_DEN` (R232, spec/10_profile_and_line_shaft.md). -/
  | gearDen
  /-- `PRF_CNT` (R232, spec/10_profile_and_line_shaft.md). -/
  | prfCnt
  /-- `PRF_STAT` (R232, spec/10_profile_and_line_shaft.md). -/
  | prfStat
  /-- `VM_POS` (R233, spec/10_profile_and_line_shaft.md). -/
  | vmPos
  /-- `VM_VEL` (R233, spec/10_profile_and_line_shaft.md). -/
  | vmVel
  /-- `VM_ACC` (R233, spec/10_profile_and_line_shaft.md). -/
  | vmAcc
  /-- `VM_TGT` (R233, spec/10_profile_and_line_shaft.md). -/
  | vmTgt
  /-- `VM_ACC_LIM` (R233, spec/10_profile_and_line_shaft.md). -/
  | vmAccLim
  /-- `VM_DEC_LIM` (R233, spec/10_profile_and_line_shaft.md). -/
  | vmDecLim
  /-- `VM_JERK_LIM` (R233, spec/10_profile_and_line_shaft.md). -/
  | vmJerkLim
  /-- `VM_STAT` (R233, spec/10_profile_and_line_shaft.md). -/
  | vmStat
  /-- `PFE_CTRL` (R254, spec/11_process_front_end.md). -/
  | pfeCtrl
  /-- `PFE_XPT` (R254, spec/11_process_front_end.md). -/
  | pfeXpt
  /-- `PFE_EXC` (R254, spec/11_process_front_end.md). -/
  | pfeExc
  /-- `PFE_TEST` (R254, spec/11_process_front_end.md). -/
  | pfeTest
  /-- `PFE_LEAD_R` (R254, spec/11_process_front_end.md). -/
  | pfeLeadR
  /-- `PFE_DRIFT` (R254, spec/11_process_front_end.md). -/
  | pfeDrift
  /-- `PFE_PAIR` (R254, spec/11_process_front_end.md). -/
  | pfePair
  /-- `PFE_PAIR_WIN` (R254, spec/11_process_front_end.md). -/
  | pfePairWin
  /-- `PFE_LANE` (R254, spec/11_process_front_end.md). -/
  | pfeLane
  /-- `PFE_CMD` (R254, spec/11_process_front_end.md). -/
  | pfeCmd
  /-- `PFE_STAT` (R254, spec/11_process_front_end.md). -/
  | pfeStat
  /-- `PFE_VALUE` (R254, spec/11_process_front_end.md). -/
  | pfeValue
  /-- `PFE_T` (R254, spec/11_process_front_end.md). -/
  | pfeT
  /-- `PFE_RAW` (R254, spec/11_process_front_end.md). -/
  | pfeRaw
  /-- `PFE_TIN` (R254, spec/11_process_front_end.md). -/
  | pfeTin
  /-- `PFE_CARRY` (R254, spec/11_process_front_end.md). -/
  | pfeCarry
  /-- `PFE_STEPS` (R254, spec/11_process_front_end.md). -/
  | pfeSteps
  /-- `PFE_CNT` (R254, spec/11_process_front_end.md). -/
  | pfeCnt
  /-- `PFE_COEF` (R254, spec/11_process_front_end.md). -/
  | pfeCoef
  /-- `PFE_DIE_T` (R254, spec/11_process_front_end.md). -/
  | pfeDieT
  /-- `HP_CTRL` (R287, spec/12_command_protocol.md). -/
  | hpCtrl
  /-- `HP_STAT` (R287, spec/12_command_protocol.md). -/
  | hpStat
  /-- `HP_MAC` (R287, spec/12_command_protocol.md). -/
  | hpMac
  /-- `HP_RX_OK` (R287, spec/12_command_protocol.md). -/
  | hpRxOk
  /-- `HP_RX_CRC` (R287, spec/12_command_protocol.md). -/
  | hpRxCrc
  /-- `HP_RX_GEN` (R287, spec/12_command_protocol.md). -/
  | hpRxGen
  /-- `HP_TX_BUSY` (R287, spec/12_command_protocol.md). -/
  | hpTxBusy
  /-- `HP_POSTED` (R287, spec/12_command_protocol.md). -/
  | hpPosted
  /-- `HP_TX_REPLY` (R287, spec/12_command_protocol.md). -/
  | hpTxReply
  /-- `HP_QMAX` (R287, spec/12_command_protocol.md). -/
  | hpQmax
  /-- `HP_SLOT_WAIT` (R287, spec/12_command_protocol.md). -/
  | hpSlotWait
  /-- `HP_MISS` (R298, spec/13_cyclic_records.md). -/
  | hpMiss
  /-- `HP_REC_TAG` (R298, spec/13_cyclic_records.md). -/
  | hpRecTag
  /-- `HP_REC_DST` (R298, spec/13_cyclic_records.md). -/
  | hpRecDst
  /-- `HP_OMAP` (R298, spec/13_cyclic_records.md). -/
  | hpOmap
  /-- `HP_IMAP` (R298, spec/13_cyclic_records.md). -/
  | hpImap
  /-- `HP_CMAP` (R298, spec/13_cyclic_records.md). -/
  | hpCmap
  /-- `HP_MAP_ERR` (R298, spec/13_cyclic_records.md). -/
  | hpMapErr
  /-- `HP_TX_TIME` (R298, spec/13_cyclic_records.md). -/
  | hpTxTime
  /-- `HP_IN_CNT` (R298, spec/13_cyclic_records.md). -/
  | hpInCnt
  /-- `HP_IN_BAD` (R298, spec/13_cyclic_records.md). -/
  | hpInBad
  /-- `HP_TX_REC` (R298, spec/13_cyclic_records.md). -/
  | hpTxRec
  /-- `HP_IN_STAT` (R298, spec/13_cyclic_records.md). -/
  | hpInStat
  /-- `SAF_VIEW` (R329, spec/14_safety.md). -/
  | safView
  /-- `W_POS` (R329, spec/14_safety.md). -/
  | wPos
  /-- `W_VEL` (R329, spec/14_safety.md). -/
  | wVel
  /-- `W_MAG` (R329, spec/14_safety.md). -/
  | wMag
  /-- `XCMP_DEV` (R329, spec/14_safety.md). -/
  | xcmpDev
  /-- `SAF_CNT` (R329, spec/14_safety.md). -/
  | safCnt
  /-- `SAF_STAT` (R329, spec/14_safety.md). -/
  | safStat
  /-- `SO_FB` (R329, spec/14_safety.md). -/
  | soFb
  /-- `PARAM_CRC` (R329, spec/14_safety.md). -/
  | paramCrc
  /-- `DEV_CAUSE` (R329, spec/14_safety.md). -/
  | devCause
  /-- `CONN_STATE` (R329, spec/14_safety.md). -/
  | connState
  /-- `CONN_CNT` (R329, spec/14_safety.md). -/
  | connCnt
  /-- `CONN_SEQ` (R329, spec/14_safety.md). -/
  | connSeq
  /-- `PROT_STAT` (R351, spec/15_protection_debug_and_power.md). -/
  | protStat
  /-- `PROT_LEAD` (R351, spec/15_protection_debug_and_power.md). -/
  | protLead
  /-- `PROT_PORTMODE` (R351, spec/15_protection_debug_and_power.md). -/
  | protPortmode
  /-- `PROT_DBG` (R351, spec/15_protection_debug_and_power.md). -/
  | protDbg
  /-- `PROT_ETYPE` (R351, spec/15_protection_debug_and_power.md). -/
  | protEtype
  /-- `PROT_FWKEY` (R351, spec/15_protection_debug_and_power.md). -/
  | protFwkey
  /-- `PROT_FW_MIN` (R351, spec/15_protection_debug_and_power.md). -/
  | protFwMin
  /-- `PROT_OWNER` (R351, spec/15_protection_debug_and_power.md). -/
  | protOwner
  /-- `PROT_CONN_ID` (R351, spec/15_protection_debug_and_power.md). -/
  | protConnId
  /-- `PROT_DBGKEY` (R351, spec/15_protection_debug_and_power.md). -/
  | protDbgkey
  /-- `PROT_BOOT` (R351, spec/15_protection_debug_and_power.md). -/
  | protBoot
  /-- `PWR_STAT` (R352, spec/15_protection_debug_and_power.md). -/
  | pwrStat
  /-- `PWR_WAKE` (R352, spec/15_protection_debug_and_power.md). -/
  | pwrWake
  /-- `PWR_WAKE_T` (R352, spec/15_protection_debug_and_power.md). -/
  | pwrWakeT
  /-- `PWR_CAUSE` (R352, spec/15_protection_debug_and_power.md). -/
  | pwrCause
  /-- `DBG_STAT` (R352, spec/15_protection_debug_and_power.md). -/
  | dbgStat
  /-- `DBG_AUTH_FAIL` (R352, spec/15_protection_debug_and_power.md). -/
  | dbgAuthFail
  /-- `HLT_STAT` (R377, spec/16_health_black_box_and_update.md). -/
  | hltStat
  /-- `HLT_CORR` (R377, spec/16_health_black_box_and_update.md). -/
  | hltCorr
  /-- `HLT_UNCORR` (R377, spec/16_health_black_box_and_update.md). -/
  | hltUncorr
  /-- `HLT_LAST_ADDR` (R377, spec/16_health_black_box_and_update.md). -/
  | hltLastAddr
  /-- `ODO_HOURS` (R377, spec/16_health_black_box_and_update.md). -/
  | odoHours
  /-- `ODO_THERM` (R377, spec/16_health_black_box_and_update.md). -/
  | odoTherm
  /-- `ODO_CYC` (R377, spec/16_health_black_box_and_update.md). -/
  | odoCyc
  /-- `ODO_RODEG` (R377, spec/16_health_black_box_and_update.md). -/
  | odoRodeg
  /-- `ODO_MRAM` (R377, spec/16_health_black_box_and_update.md). -/
  | odoMram
  /-- `ODO_EXC` (R377, spec/16_health_black_box_and_update.md). -/
  | odoExc
  /-- `ODO_ECC` (R377, spec/16_health_black_box_and_update.md). -/
  | odoEcc
  /-- `EOL_STAT` (R377, spec/16_health_black_box_and_update.md). -/
  | eolStat
  /-- `EOL_FRAC` (R377, spec/16_health_black_box_and_update.md). -/
  | eolFrac
  /-- `BBX_STAT` (R377, spec/16_health_black_box_and_update.md). -/
  | bbxStat
  /-- `BBX_REC` (R377, spec/16_health_black_box_and_update.md). -/
  | bbxRec
  /-- `BBX_T` (R377, spec/16_health_black_box_and_update.md). -/
  | bbxT
  /-- `BBX_COMMITS` (R377, spec/16_health_black_box_and_update.md). -/
  | bbxCommits
  /-- `FW_STAT` (R377, spec/16_health_black_box_and_update.md). -/
  | fwStat
  /-- `FW_VER` (R377, spec/16_health_black_box_and_update.md). -/
  | fwVer
  /-- `FW_SEC` (R377, spec/16_health_black_box_and_update.md). -/
  | fwSec
  /-- `FW_CNT` (R377, spec/16_health_black_box_and_update.md). -/
  | fwCnt
  /-- `DEV_ID` (R400, spec/18_address_map.md). -/
  | devId
  /-- `DEV_SERIAL` (R400, spec/18_address_map.md). -/
  | devSerial
  /-- `DEV_FW` (R400, spec/18_address_map.md). -/
  | devFw
  /-- `DEV_GENS` (R400, spec/18_address_map.md). -/
  | devGens
  /-- `DEV_LANES` (R400, spec/18_address_map.md). -/
  | devLanes
  /-- `DEV_RUN` (R400, spec/18_address_map.md). -/
  | devRun
  /-- `DEV_FAULT` (R400, spec/18_address_map.md). -/
  | devFault
  /-- `DEV_BARRIER` (R400, spec/18_address_map.md). -/
  | devBarrier
  /-- `DEV_SCRATCH` (R400, spec/18_address_map.md). -/
  | devScratch
  deriving DecidableEq, Repr

end Sys2Proof.Machine
end

