-- ==== Sys2Proof/Machine/RegMap.lean ====
section
/-! DEFINITION. Where each register word lies and how it answers a write (spec/18_address_map.md, R397–R402): base address,
strides, reset value and access masks, from the register tables of spec/. Bits in no mask are RO, BW or reserved. -/
namespace Sys2Proof.Machine

/-- The placement, reset value and access masks of one register (Table 0-4). -/
structure RegInfo where
  /-- Byte address of the first word. -/
  base : Nat
  /-- Byte distance between units (lanes, inputs, ports). -/
  stride : Nat := 0
  /-- Number of units. -/
  units : Nat := 1
  /-- Words of one unit that the table lists under this name. -/
  subs : Nat := 1
  /-- Byte distance between those words. -/
  subStride : Nat := 4
  /-- Reset value of each word; 0 where the table derives it from elsewhere. -/
  reset : Word := 0
  /-- Bits with access RW. -/
  rw : Word := 0
  /-- Bits with access SW. -/
  sw : Word := 0
  /-- Bits with access RC. -/
  rc : Word := 0
  /-- Bits with access W1C. -/
  w1c : Word := 0
  /-- Bits with access WO. -/
  wo : Word := 0
  deriving DecidableEq, Repr

/-- The register tables of the spec, word by word. -/
def RegId.info : RegId → RegInfo
  | .laneStat => { base := 0x100000, stride := 0x400, units := 96, reset := 0x8 }
  | .laneCtrl => { base := 0x100004, stride := 0x400, units := 96, sw := 0x7 }
  | .timeNow => { base := 0x10000, subs := 2 }
  | .timeCtrl => { base := 0x10008, reset := 0x100, rw := 0x7F0333 }
  | .timeStat => { base := 0x1000C, w1c := 0xA0 }
  | .timeOffset => { base := 0x10010 }
  | .timeRate => { base := 0x10014 }
  | .timeAsym => { base := 0x10018, rw := 0xFFFFFFFF }
  | .timePdelay => { base := 0x1001C }
  | .timeSyncOfs => { base := 0x10020, rw := 0xFFFFFFFF }
  | .timeCnt => { base := 0x10024, rc := 0xFFFFFFFF }
  | .timeSet => { base := 0x10028, subs := 2, wo := 0xFFFFFFFF }
  | .timeGmId => { base := 0x10030, subs := 2 }
  | .timeSyncout => { base := 0x10040, reset := 0xC80100, rw := 0xFFFFFF03 }
  | .timeSyncoutOfs => { base := 0x10044, rw := 0xFFFFFFFF }
  | .frmPeriod => { base := 0x10100, reset := 0x186A, sw := 0x1F03FFFF }
  | .frmOutdl => { base := 0x10104, reset := 0x80001250, sw := 0x8003FFFF }
  | .frmCutoff => { base := 0x10108, reset := 0x3E8, sw := 0xFFFF }
  | .frmTxofs => { base := 0x1010C, sw := 0x3FFFF }
  | .frmEpoch => { base := 0x10110, subs := 2, sw := 0xFFFFFFFF }
  | .frmSeq => { base := 0x10118 }
  | .frmT0 => { base := 0x10120, subs := 2 }
  | .frmStat => { base := 0x10128 }
  | .frmSkip => { base := 0x1012C, rc := 0xFFFFFFFF }
  | .frmLateAll => { base := 0x10130, rc := 0xFFFFFFFF }
  | .frmLateCnt => { base := 0x10400, subs := 96, rc := 0xFFFF }
  | .excCtrl => { base := 0x20000, stride := 0x40, units := 12, sw := 0xFFF0003 }
  | .excFreq => { base := 0x20004, stride := 0x40, units := 12, reset := 0x68DB8C, sw := 0xFFFFFFFF }
  | .excAmp => { base := 0x20008, stride := 0x40, units := 12, sw := 0xFFF }
  | .excIxs => { base := 0x2000C, stride := 0x40, units := 12, reset := 0xFFFF0000, sw := 0xFFFFFFFF }
  | .excStat => { base := 0x20010, stride := 0x40, units := 12, w1c := 0x20 }
  | .acqCtrl => { base := 0x21000, stride := 0x20, units := 96, reset := 0x82, sw := 0x1FF }
  | .acqPhaseSet => { base := 0x21004, stride := 0x20, units := 96, sw := 0xFFFF }
  | .acqLevels => { base := 0x21008, stride := 0x20, units := 96, reset := 0x10, sw := 0xFFFFFF }
  | .acqRatio => { base := 0x2100C, stride := 0x20, units := 96, reset := 0xFFFF0000, sw := 0xFFFFFFFF }
  | .acqStat => { base := 0x21010, stride := 0x20, units := 96, reset := 0x60, w1c := 0x1F00 }
  | .acqPhase => { base := 0x21014, stride := 0x20, units := 96 }
  | .acqAmp => { base := 0x21018, stride := 0x20, units := 96 }
  | .acqCnt => { base := 0x2101C, stride := 0x20, units := 96, rc := 0xFFFFFFFF }
  | .trkCtrl => { base := 0x100010, stride := 0x400, units := 96, reset := 0x80, sw := 0x7FF }
  | .trkAid => { base := 0x100014, stride := 0x400, units := 96, reset := 0x8000, sw := 0xFFFFFFFF }
  | .trkZero => { base := 0x100018, stride := 0x400, units := 96, sw := 0xFFFFFF }
  | .trkStill => { base := 0x10001C, stride := 0x400, units := 96, sw := 0xFFFFFFFF }
  | .trkPosSet => { base := 0x100020, stride := 0x400, units := 96, subs := 2, sw := 0xFFFFFFFF }
  | .trkCmd => { base := 0x100028, stride := 0x400, units := 96, sw := 0x3 }
  | .detCtrl => { base := 0x100030, stride := 0x400, units := 96, sw := 0x1F01 }
  | .detScale => { base := 0x100034, stride := 0x400, units := 96, reset := 0x10001, sw := 0xFFFFFFFF }
  | .trkStat => { base := 0x100040, stride := 0x400, units := 96, reset := 0x30, w1c := 0x2000 }
  | .trkErr => { base := 0x100044, stride := 0x400, units := 96 }
  | .trkErrPk => { base := 0x100048, stride := 0x400, units := 96, rc := 0xFFFFFFFF }
  | .trkRaw => { base := 0x10004C, stride := 0x400, units := 96 }
  | .trkCnt => { base := 0x100050, stride := 0x400, units := 96, rc := 0xFFFFFFFF }
  | .detOfs => { base := 0x100058, stride := 0x400, units := 96, subs := 2 }
  | .snapPos => { base := 0x100280, stride := 0x400, units := 96, subs := 2 }
  | .snapVel => { base := 0x100288, stride := 0x400, units := 96 }
  | .snapAcc => { base := 0x10028C, stride := 0x400, units := 96 }
  | .snapT0 => { base := 0x100290, stride := 0x400, units := 96, subs := 2 }
  | .snapFlags => { base := 0x100298, stride := 0x400, units := 96 }
  | .mapCtrl => { base := 0x100080, stride := 0x400, units := 96, reset := 0x3, sw := 0xF }
  | .mapStat => { base := 0x100084, stride := 0x400, units := 96, w1c := 0xC00 }
  | .mapSeg => { base := 0x100088, stride := 0x400, units := 96 }
  | .segRej => { base := 0x10008C, stride := 0x400, units := 96, rc := 0xFFFFFFFF }
  | .mapResid => { base := 0x100090, stride := 0x400, units := 96 }
  | .mapVmin => { base := 0x1000A0, stride := 0x400, units := 96, reset := 0x3F800000, sw := 0xFFFFFFFF }
  | .mapVsplit => { base := 0x1000A4, stride := 0x400, units := 96, sw := 0xFFFFFFFF }
  | .mapVmax => { base := 0x1000A8, stride := 0x400, units := 96, reset := 0x42200000, sw := 0xFFFFFFFF }
  | .mapAmax => { base := 0x1000AC, stride := 0x400, units := 96, reset := 0x40000000, sw := 0xFFFFFFFF }
  | .mapLrn => { base := 0x1000B0, stride := 0x400, units := 96, reset := 0x40020A, sw := 0xFFFF07FF }
  | .mapTol => { base := 0x1000B4, stride := 0x400, units := 96, reset := 0x1E001E, sw := 0xFFFFFFFF }
  | .pinCtrl => { base := 0x40000, stride := 0x40, units := 32, reset := 0x800, sw := 0xF8F }
  | .pinAssign => { base := 0x40004, stride := 0x40, units := 32, reset := 0x7F, rw := 0x7F }
  | .pinCpt => { base := 0x40008, stride := 0x40, units := 32, sw := 0xFFFFFF }
  | .pinEdge => { base := 0x4000C, stride := 0x40, units := 32, reset := 0x40028, sw := 0xFFFF07FF }
  | .pinWin => { base := 0x40010, stride := 0x40, units := 32, reset := 0x3E80001, sw := 0xFFFFFFFF }
  | .serFmt => { base := 0x40014, stride := 0x40, units := 32, reset := 0x3F010010, sw := 0xFFFFFFFF }
  | .serTim => { base := 0x40018, stride := 0x40, units := 32, reset := 0x1432, sw := 0xFFFFFFFF }
  | .serLim => { base := 0x4001C, stride := 0x40, units := 32, sw := 0xFFFFFFFF }
  | .pinErr => { base := 0x40024, stride := 0x40, units := 32, rc := 0xFFFFFFFF }
  | .pinCount => { base := 0x40028, stride := 0x40, units := 32, subs := 2 }
  | .pinEdgeT => { base := 0x40030, stride := 0x40, units := 32, subs := 2 }
  | .pinSpeed => { base := 0x40038, stride := 0x40, units := 32 }
  | .pinZdrift => { base := 0x4003C, stride := 0x40, units := 32, rc := 0xFFFF0000 }
  | .pinStat => { base := 0x40020, stride := 0x40, units := 32, w1c := 0x8CC0 }
  | .mlsCtrl => { base := 0x41000, stride := 0x40, units := 32, sw := 0x1FDF }
  | .mlsAssign => { base := 0x41004, stride := 0x40, units := 32, reset := 0x7F, rw := 0x7F }
  | .mlsDly => { base := 0x41008, stride := 0x40, units := 32, sw := 0x7FFFF }
  | .mlsWinStart => { base := 0x4100C, stride := 0x40, units := 32, sw := 0xFFFFFFFF }
  | .mlsWinLen => { base := 0x41010, stride := 0x40, units := 32, sw := 0xFFFFFFFF }
  | .mlsStat => { base := 0x41014, stride := 0x40, units := 32, w1c := 0x600 }
  | .mlsCnt => { base := 0x41018, stride := 0x40, units := 32, rc := 0xFFFFFFFF }
  | .mlsPop => { base := 0x4101C, stride := 0x40, units := 32, wo := 0x3 }
  | .mlsHead => { base := 0x41020, stride := 0x40, units := 32, subs := 8 }
  | .emuCtrl => { base := 0x50000, stride := 0x40, units := 24, reset := 0xA00, sw := 0x1FF3 }
  | .emuLane => { base := 0x50004, stride := 0x40, units := 24, reset := 0x7F, rw := 0x7F }
  | .emuRes => { base := 0x50008, stride := 0x40, units := 24, reset := 0xFFF, sw := 0xFFFFF }
  | .emuZPos => { base := 0x5000C, stride := 0x40, units := 24, sw := 0xFFFFF }
  | .emuStep => { base := 0x50010, stride := 0x40, units := 24, reset := 0xA0000, sw := 0xFFFFFFFF }
  | .emuLim => { base := 0x50014, stride := 0x40, units := 24, reset := 0x400000, sw := 0xFFFF00FF }
  | .emuPhCyc => { base := 0x50018, stride := 0x40, units := 24, sw := 0xFFFF }
  | .emuStall => { base := 0x5001C, stride := 0x40, units := 24, reset := 0x10, sw := 0x1FFFFFFF }
  | .emuStallScale => { base := 0x50020, stride := 0x40, units := 24, reset := 0x10001, sw := 0xFFFFFFFF }
  | .emuCount => { base := 0x50028, stride := 0x40, units := 24, subs := 2 }
  | .emuBklg => { base := 0x50030, stride := 0x40, units := 24 }
  | .emuDev => { base := 0x50034, stride := 0x40, units := 24 }
  | .emuCnt => { base := 0x50038, stride := 0x40, units := 24, rc := 0xFFFFFFFF }
  | .emuStat => { base := 0x50024, stride := 0x40, units := 24, reset := 0x40, w1c := 0x118 }
  | .loopCtrl => { base := 0x100100, stride := 0x400, units := 96, sw := 0x133FF01F }
  | .loopDiv => { base := 0x100104, stride := 0x400, units := 96, sw := 0x7F7F }
  | .trmCtrl => { base := 0x100108, stride := 0x400, units := 96, reset := 0x100000, sw := 0xFF030F }
  | .trmSet => { base := 0x10010C, stride := 0x400, units := 96, sw := 0xFFFFFFFF }
  | .lbDmd => { base := 0x100110, stride := 0x400, units := 96, sw := 0xFFFFFFFF }
  | .feLim => { base := 0x100114, stride := 0x400, units := 96, sw := 0xFFFFFFFF }
  | .feN => { base := 0x100118, stride := 0x400, units := 96, reset := 0x4, sw := 0xFF }
  | .loopStat => { base := 0x10011C, stride := 0x400, units := 96, w1c := 0x800 }
  | .dmdOut => { base := 0x100120, stride := 0x400, units := 96 }
  | .dmdFf => { base := 0x100124, stride := 0x400, units := 96 }
  | .velDem => { base := 0x100128, stride := 0x400, units := 96 }
  | .posErr => { base := 0x10012C, stride := 0x400, units := 96 }
  | .velErr => { base := 0x100130, stride := 0x400, units := 96 }
  | .trmOut => { base := 0x100134, stride := 0x400, units := 96 }
  | .posDem => { base := 0x100138, stride := 0x400, units := 96, subs := 2 }
  | .iV => { base := 0x100140, stride := 0x400, units := 96 }
  | .iP => { base := 0x100144, stride := 0x400, units := 96 }
  | .iT => { base := 0x100148, stride := 0x400, units := 96 }
  | .loopCost => { base := 0x10014C, stride := 0x400, units := 96 }
  | .feCnt => { base := 0x100150, stride := 0x400, units := 96 }
  | .admBudget => { base := 0x30000, stride := 0x10, units := 4, reset := 0xF75 }
  | .admBase => { base := 0x30004, stride := 0x10, units := 4, reset := 0xF0 }
  | .admWorst => { base := 0x30008, stride := 0x10, units := 4, reset := 0xF0 }
  | .coefStat => { base := 0x100160, stride := 0x400, units := 96, w1c := 0x60 }
  | .coefCnt => { base := 0x100164, stride := 0x400, units := 96, rc := 0xFFFFFFFF }
  | .stageExp => { base := 0x100170, stride := 0x400, units := 96, subs := 8, reset := 0x80808080 }
  | .engRetry => { base := 0x30100, stride := 0x10, units := 4, rc := 0xFFFFFFFF }
  | .engFail => { base := 0x30104, stride := 0x10, units := 4, rc := 0xFFFFFFFF }
  | .engOvf => { base := 0x30108, stride := 0x10, units := 4, reset := 0x1, rc := 0xFFFF0000 }
  | .trcCtrl => { base := 0x30400, reset := 0x100100, rw := 0xFFF11F07 }
  | .trcCh => { base := 0x30410, subs := 16, rw := 0x7FFF }
  | .trcPre => { base := 0x30450, rw := 0x3FFFF }
  | .trcTrig => { base := 0x30454, rw := 0xDF7FFFFF }
  | .trcTrigVal => { base := 0x30458, rw := 0xFFFFFFFF }
  | .trcStat => { base := 0x30460 }
  | .trcGeom => { base := 0x30464, reset := 0xC015555 }
  | .trcStart => { base := 0x30468 }
  | .trcCount => { base := 0x3046C }
  | .trcTrigIdx => { base := 0x30470 }
  | .trcTrigSeq => { base := 0x30474 }
  | .prfCtrl => { base := 0x100200, stride := 0x400, units := 96, reset := 0x201002, sw := 0xFFFFFF03 }
  | .velLim => { base := 0x100204, stride := 0x400, units := 96, reset := 0x3F800000, sw := 0xFFFFFFFF }
  | .accLim => { base := 0x100208, stride := 0x400, units := 96, reset := 0x3F800000, sw := 0xFFFFFFFF }
  | .decLim => { base := 0x10020C, stride := 0x400, units := 96, reset := 0x3F800000, sw := 0xFFFFFFFF }
  | .jerkLim => { base := 0x100210, stride := 0x400, units := 96, reset := 0x41200000, sw := 0xFFFFFFFF }
  | .supVel => { base := 0x100214, stride := 0x400, units := 96, reset := 0x3DCCCCCD, sw := 0xFFFFFFFF }
  | .supAcc => { base := 0x100218, stride := 0x400, units := 96, reset := 0x3F800000, sw := 0xFFFFFFFF }
  | .supDec => { base := 0x10021C, stride := 0x400, units := 96, reset := 0x3F800000, sw := 0xFFFFFFFF }
  | .supJerk => { base := 0x100220, stride := 0x400, units := 96, reset := 0x41200000, sw := 0xFFFFFFFF }
  | .qsDec => { base := 0x100224, stride := 0x400, units := 96, reset := 0x41200000, sw := 0xFFFFFFFF }
  | .qsJerk => { base := 0x100228, stride := 0x400, units := 96, reset := 0x42C80000, sw := 0xFFFFFFFF }
  | .inposWin => { base := 0x10022C, stride := 0x400, units := 96, sw := 0xFFFFFFFF }
  | .prfQueue => { base := 0x100234, stride := 0x400, units := 96 }
  | .prfTarget => { base := 0x100238, stride := 0x400, units := 96, subs := 2 }
  | .prfPp => { base := 0x100240, stride := 0x400, units := 96, subs := 2 }
  | .prfVp => { base := 0x100248, stride := 0x400, units := 96 }
  | .prfAp => { base := 0x10024C, stride := 0x400, units := 96 }
  | .supPos => { base := 0x100250, stride := 0x400, units := 96, subs := 2 }
  | .supTgt => { base := 0x100258, stride := 0x400, units := 96, subs := 2 }
  | .gearSrc => { base := 0x100260, stride := 0x400, units := 96 }
  | .gearNum => { base := 0x100264, stride := 0x400, units := 96 }
  | .gearDen => { base := 0x100268, stride := 0x400, units := 96 }
  | .prfCnt => { base := 0x10026C, stride := 0x400, units := 96, rc := 0xFFFFFFFF }
  | .prfStat => { base := 0x100230, stride := 0x400, units := 96, w1c := 0xE00 }
  | .vmPos => { base := 0x30800, stride := 0x40, units := 8, subs := 2 }
  | .vmVel => { base := 0x30808, stride := 0x40, units := 8 }
  | .vmAcc => { base := 0x3080C, stride := 0x40, units := 8 }
  | .vmTgt => { base := 0x30810, stride := 0x40, units := 8 }
  | .vmAccLim => { base := 0x30814, stride := 0x40, units := 8, reset := 0x3F800000 }
  | .vmDecLim => { base := 0x30818, stride := 0x40, units := 8, reset := 0x3F800000 }
  | .vmJerkLim => { base := 0x3081C, stride := 0x40, units := 8, reset := 0x41200000 }
  | .vmStat => { base := 0x30820, stride := 0x40, units := 8 }
  | .pfeCtrl => { base := 0x60000, stride := 0x100, units := 8, reset := 0x40600, sw := 0xF7FFFF }
  | .pfeXpt => { base := 0x60004, stride := 0x100, units := 8, reset := 0x3FFFFFC0, sw := 0xFFFFFFC0 }
  | .pfeExc => { base := 0x60008, stride := 0x100, units := 8, sw := 0xFF0F0700 }
  | .pfeTest => { base := 0x6000C, stride := 0x100, units := 8, reset := 0x19000010, sw := 0xFFFF03FF }
  | .pfeLeadR => { base := 0x60010, stride := 0x100, units := 8, sw := 0xFFFFFFFF }
  | .pfeDrift => { base := 0x60014, stride := 0x100, units := 8, sw := 0xFFFFFFFF }
  | .pfePair => { base := 0x60018, stride := 0x100, units := 8, reset := 0x80F, sw := 0xFF1F }
  | .pfePairWin => { base := 0x6001C, stride := 0x100, units := 8, sw := 0xFFFFFFFF }
  | .pfeLane => { base := 0x60020, stride := 0x100, units := 8, reset := 0x7F, rw := 0x7F }
  | .pfeCmd => { base := 0x60024, stride := 0x100, units := 8, sw := 0x3 }
  | .pfeStat => { base := 0x60030, stride := 0x100, units := 8, w1c := 0xA00 }
  | .pfeValue => { base := 0x60034, stride := 0x100, units := 8 }
  | .pfeT => { base := 0x60038, stride := 0x100, units := 8, subs := 2 }
  | .pfeRaw => { base := 0x60040, stride := 0x100, units := 8 }
  | .pfeTin => { base := 0x60044, stride := 0x100, units := 8 }
  | .pfeCarry => { base := 0x60048, stride := 0x100, units := 8 }
  | .pfeSteps => { base := 0x6004C, stride := 0x100, units := 8, rc := 0xFFFFFFFF }
  | .pfeCnt => { base := 0x60050, stride := 0x100, units := 8, rc := 0xFFFFFFFF }
  | .pfeCoef => { base := 0x60080, stride := 0x100, units := 8, subs := 24, sw := 0xFFFFFFFF }
  | .pfeDieT => { base := 0x60800 }
  | .hpCtrl => { base := 0xB0000, stride := 0x100, units := 5, reset := 0x10, rw := 0x110 }
  | .hpStat => { base := 0xB0004, stride := 0x100, units := 5, w1c := 0x80 }
  | .hpMac => { base := 0xB0008, stride := 0x100, units := 5, subs := 2 }
  | .hpRxOk => { base := 0xB0010, stride := 0x100, units := 5, rc := 0xFFFFFFFF }
  | .hpRxCrc => { base := 0xB0014, stride := 0x100, units := 5, rc := 0xFFFFFFFF }
  | .hpRxGen => { base := 0xB0018, stride := 0x100, units := 5, rc := 0xFFFFFFFF }
  | .hpTxBusy => { base := 0xB001C, stride := 0x100, units := 5, rc := 0xFFFFFFFF }
  | .hpPosted => { base := 0xB0020, stride := 0x100, units := 5, rc := 0xFFFFFFFF }
  | .hpTxReply => { base := 0xB0024, stride := 0x100, units := 5, rc := 0xFFFFFFFF }
  | .hpQmax => { base := 0xB0028, stride := 0x100, units := 5, rc := 0xFFFFFFFF }
  | .hpSlotWait => { base := 0xB002C, stride := 0x100, units := 5, rc := 0xFFFFFFFF }
  | .hpMiss => { base := 0xB0040, stride := 0x100, units := 4, sw := 0xFF30 }
  | .hpRecTag => { base := 0xB0044, stride := 0x100, units := 4, reset := 0xC000, sw := 0xEFFF }
  | .hpRecDst => { base := 0xB0048, stride := 0x100, units := 4, subs := 2, sw := 0xFFFFFFFF }
  | .hpOmap => { base := 0xB0050, stride := 0x100, units := 4, subs := 3, sw := 0xFFFFFFFF }
  | .hpImap => { base := 0xB005C, stride := 0x100, units := 4, subs := 3, sw := 0xFFFFFFFF }
  | .hpCmap => { base := 0xB0068, stride := 0x100, units := 4, sw := 0xFFFF }
  | .hpMapErr => { base := 0xB006C, stride := 0x100, units := 4, w1c := 0x1 }
  | .hpTxTime => { base := 0xB0070, stride := 0x100, units := 4 }
  | .hpInCnt => { base := 0xB0074, stride := 0x100, units := 4, rc := 0xFFFFFFFF }
  | .hpInBad => { base := 0xB0078, stride := 0x100, units := 4, rc := 0xFFFFFFFF }
  | .hpTxRec => { base := 0xB007C, stride := 0x100, units := 4, rc := 0xFFFFFFFF }
  | .hpInStat => { base := 0xB0800, stride := 0x4, units := 96 }
  | .safView => { base := 0x100300, stride := 0x400, units := 96, reset := 0xF0002040 }
  | .wPos => { base := 0x100304, stride := 0x400, units := 96, subs := 2 }
  | .wVel => { base := 0x10030C, stride := 0x400, units := 96 }
  | .wMag => { base := 0x100310, stride := 0x400, units := 96 }
  | .xcmpDev => { base := 0x100314, stride := 0x400, units := 96 }
  | .safCnt => { base := 0x100318, stride := 0x400, units := 96, rc := 0xFFFFFFFF }
  | .safStat => { base := 0x80000, reset := 0xFFF00000 }
  | .soFb => { base := 0x80004 }
  | .paramCrc => { base := 0x80008 }
  | .devCause => { base := 0x8000C }
  | .connState => { base := 0x80100, subs := 16, subStride := 0x10 }
  | .connCnt => { base := 0x80104, subs := 16, subStride := 0x10, rc := 0xFFFFFFFF }
  | .connSeq => { base := 0x80108, subs := 16, subStride := 0x10 }
  | .protStat => { base := 0xA0000 }
  | .protLead => { base := 0xA0004 }
  | .protPortmode => { base := 0xA0008, reset := 0xAA }
  | .protDbg => { base := 0xA000C, reset := 0x6 }
  | .protEtype => { base := 0xA0010, reset := 0x88B5 }
  | .protFwkey => { base := 0xA0020, subs := 8 }
  | .protFwMin => { base := 0xA0040 }
  | .protOwner => { base := 0xA0080, subs := 12 }
  | .protConnId => { base := 0xA0100, subs := 16 }
  | .protDbgkey => { base := 0xA0140, subs := 32 }
  | .protBoot => { base := 0xA0200 }
  | .pwrStat => { base := 0xC0000, reset := 0x2 }
  | .pwrWake => { base := 0xC0004, rw := 0x10F }
  | .pwrWakeT => { base := 0xC0008, subs := 2, rw := 0xFFFFFFFF }
  | .pwrCause => { base := 0xC0010 }
  | .dbgStat => { base := 0xC0100, w1c := 0x40 }
  | .dbgAuthFail => { base := 0xC0104, rc := 0xFFFF }
  | .hltStat => { base := 0x90000, w1c := 0x151 }
  | .hltCorr => { base := 0x90010, subs := 10, subStride := 0x10, rc := 0xFFFFFFFF }
  | .hltUncorr => { base := 0x90014, subs := 10, subStride := 0x10, rc := 0xFFFF }
  | .hltLastAddr => { base := 0x90018, subs := 10, subStride := 0x10 }
  | .odoHours => { base := 0x90100 }
  | .odoTherm => { base := 0x90104 }
  | .odoCyc => { base := 0x90108 }
  | .odoRodeg => { base := 0x9010C }
  | .odoMram => { base := 0x90120, subs := 8 }
  | .odoExc => { base := 0x90140, subs := 12 }
  | .odoEcc => { base := 0x90170, subs := 10 }
  | .eolStat => { base := 0x90200, reset := 0xFFFF }
  | .eolFrac => { base := 0x90204, subs := 4 }
  | .bbxStat => { base := 0x90300, rc := 0xFFFF0000 }
  | .bbxRec => { base := 0x90304 }
  | .bbxT => { base := 0x90308, subs := 2 }
  | .bbxCommits => { base := 0x90310, rc := 0xFFFFFFFF }
  | .fwStat => { base := 0x90400 }
  | .fwVer => { base := 0x90404, subs := 2 }
  | .fwSec => { base := 0x9040C }
  | .fwCnt => { base := 0x90410, rc := 0xFFFFFFFF }
  | .devId => { base := 0x0, reset := 0x96004200 }
  | .devSerial => { base := 0x8, subs := 2 }
  | .devFw => { base := 0x10 }
  | .devGens => { base := 0x14, reset := 0x7000000 }
  | .devLanes => { base := 0x20, subs := 3 }
  | .devRun => { base := 0x30, subs := 3 }
  | .devFault => { base := 0x40, subs := 3 }
  | .devBarrier => { base := 0x50, subs := 3 }
  | .devScratch => { base := 0xF0, rw := 0xFFFFFFFF }

/-- The registers of one block of Table 18-1. -/
def laneRegs : List RegId :=
  [.laneStat, .laneCtrl, .trkCtrl, .trkAid, .trkZero, .trkStill, .trkPosSet, .trkCmd, .detCtrl, .detScale, .trkStat, .trkErr] ++
  [.trkErrPk, .trkRaw, .trkCnt, .detOfs, .snapPos, .snapVel, .snapAcc, .snapT0, .snapFlags, .mapCtrl, .mapStat, .mapSeg] ++
  [.segRej, .mapResid, .mapVmin, .mapVsplit, .mapVmax, .mapAmax, .mapLrn, .mapTol, .loopCtrl, .loopDiv, .trmCtrl, .trmSet] ++
  [.lbDmd, .feLim, .feN, .loopStat, .dmdOut, .dmdFf, .velDem, .posErr, .velErr, .trmOut, .posDem, .iV] ++
  [.iP, .iT, .loopCost, .feCnt, .coefStat, .coefCnt, .stageExp, .prfCtrl, .velLim, .accLim, .decLim, .jerkLim] ++
  [.supVel, .supAcc, .supDec, .supJerk, .qsDec, .qsJerk, .inposWin, .prfQueue, .prfTarget, .prfPp, .prfVp, .prfAp] ++
  [.supPos, .supTgt, .gearSrc, .gearNum, .gearDen, .prfCnt, .prfStat, .safView, .wPos, .wVel, .wMag, .xcmpDev] ++
  [.safCnt]

/-- The registers of one block of Table 18-1. -/
def timeRegs : List RegId :=
  [.timeNow, .timeCtrl, .timeStat, .timeOffset, .timeRate, .timeAsym, .timePdelay, .timeSyncOfs, .timeCnt, .timeSet, .timeGmId, .timeSyncout] ++
  [.timeSyncoutOfs, .frmPeriod, .frmOutdl, .frmCutoff, .frmTxofs, .frmEpoch, .frmSeq, .frmT0, .frmStat, .frmSkip, .frmLateAll, .frmLateCnt]

/-- The registers of one block of Table 18-1. -/
def excRegs : List RegId :=
  [.excCtrl, .excFreq, .excAmp, .excIxs, .excStat, .acqCtrl, .acqPhaseSet, .acqLevels, .acqRatio, .acqStat, .acqPhase, .acqAmp] ++
  [.acqCnt]

/-- The registers of one block of Table 18-1. -/
def pulseRegs : List RegId :=
  [.pinCtrl, .pinAssign, .pinCpt, .pinEdge, .pinWin, .serFmt, .serTim, .serLim, .pinErr, .pinCount, .pinEdgeT, .pinSpeed] ++
  [.pinZdrift, .pinStat, .mlsCtrl, .mlsAssign, .mlsDly, .mlsWinStart, .mlsWinLen, .mlsStat, .mlsCnt, .mlsPop, .mlsHead]

/-- The registers of one block of Table 18-1. -/
def emuRegs : List RegId :=
  [.emuCtrl, .emuLane, .emuRes, .emuZPos, .emuStep, .emuLim, .emuPhCyc, .emuStall, .emuStallScale, .emuCount, .emuBklg, .emuDev] ++
  [.emuCnt, .emuStat]

/-- The registers of one block of Table 18-1. -/
def engRegs : List RegId :=
  [.admBudget, .admBase, .admWorst, .engRetry, .engFail, .engOvf, .trcCtrl, .trcCh, .trcPre, .trcTrig, .trcTrigVal, .trcStat] ++
  [.trcGeom, .trcStart, .trcCount, .trcTrigIdx, .trcTrigSeq, .vmPos, .vmVel, .vmAcc, .vmTgt, .vmAccLim, .vmDecLim, .vmJerkLim] ++
  [.vmStat]

/-- The registers of one block of Table 18-1. -/
def pfeRegs : List RegId :=
  [.pfeCtrl, .pfeXpt, .pfeExc, .pfeTest, .pfeLeadR, .pfeDrift, .pfePair, .pfePairWin, .pfeLane, .pfeCmd, .pfeStat, .pfeValue] ++
  [.pfeT, .pfeRaw, .pfeTin, .pfeCarry, .pfeSteps, .pfeCnt, .pfeCoef, .pfeDieT]

/-- The registers of one block of Table 18-1. -/
def portRegs : List RegId :=
  [.hpCtrl, .hpStat, .hpMac, .hpRxOk, .hpRxCrc, .hpRxGen, .hpTxBusy, .hpPosted, .hpTxReply, .hpQmax, .hpSlotWait, .hpMiss] ++
  [.hpRecTag, .hpRecDst, .hpOmap, .hpImap, .hpCmap, .hpMapErr, .hpTxTime, .hpInCnt, .hpInBad, .hpTxRec, .hpInStat]

/-- The registers of one block of Table 18-1. -/
def safRegs : List RegId :=
  [.safStat, .soFb, .paramCrc, .devCause, .connState, .connCnt, .connSeq]

/-- The registers of one block of Table 18-1. -/
def protRegs : List RegId :=
  [.protStat, .protLead, .protPortmode, .protDbg, .protEtype, .protFwkey, .protFwMin, .protOwner, .protConnId, .protDbgkey, .protBoot]

/-- The registers of one block of Table 18-1. -/
def pwrRegs : List RegId :=
  [.pwrStat, .pwrWake, .pwrWakeT, .pwrCause, .dbgStat, .dbgAuthFail]

/-- The registers of one block of Table 18-1. -/
def hltRegs : List RegId :=
  [.hltStat, .hltCorr, .hltUncorr, .hltLastAddr, .odoHours, .odoTherm, .odoCyc, .odoRodeg, .odoMram, .odoExc, .odoEcc, .eolStat] ++
  [.eolFrac, .bbxStat, .bbxRec, .bbxT, .bbxCommits, .fwStat, .fwVer, .fwSec, .fwCnt]

/-- The registers of one block of Table 18-1. -/
def devRegs : List RegId :=
  [.devId, .devSerial, .devFw, .devGens, .devLanes, .devRun, .devFault, .devBarrier, .devScratch]

/-- The words of register `r`: units times words of a unit. -/
def RegId.count (r : RegId) : Nat := r.info.units * r.info.subs

/-- The byte address of word `k` of register `r`. -/
def RegId.addr (r : RegId) (k : Nat) : Nat :=
  r.info.base + (k / r.info.subs) * r.info.stride + (k % r.info.subs) * r.info.subStride

/-- The index of the word of `r` that lies at byte address `a`, if one does. -/
def RegId.indexAt (r : RegId) (a : Nat) : Option Nat :=
  let i := r.info
  if a < i.base then none
  else
    let off := a - i.base
    let u := if i.stride = 0 then 0 else off / i.stride
    let rest := off - u * i.stride
    let j := rest / i.subStride
    if u < i.units ∧ j < i.subs ∧ rest % i.subStride = 0 then some (u * i.subs + j) else none

/-- The blocks of Table 18-1 that hold registers: base, extent and registers. The trace window is `traceWindow`. -/
def blocks : List (Nat × Nat × List RegId) :=
  [(0x00000000, 0x10000, devRegs), (0x00010000, 0x10000, timeRegs), (0x00020000, 0x10000, excRegs),
   (0x00030000, 0x10000, engRegs), (0x00040000, 0x10000, pulseRegs), (0x00050000, 0x10000, emuRegs),
   (0x00060000, 0x10000, pfeRegs), (0x00080000, 0x10000, safRegs), (0x00090000, 0x10000, hltRegs),
   (0x000A0000, 0x10000, protRegs), (0x000B0000, 0x10000, portRegs), (0x000C0000, 0x10000, pwrRegs),
   (0x00100000, 0x18000, laneRegs)]

/-- Base of the trace window (Table 18-1). -/
def traceWindow : Nat := 0x01000000

/-- Bytes of the trace window (Table 18-1). -/
def traceWindowLen : Nat := 0x100000

/-- What an address names: a register word, a word inside an extent that no chapter defines, a byte offset into the trace
window, or nothing (R398). -/
inductive Target where
  | reg (r : RegId) (k : Nat)
  | hole
  | trace (off : Nat)
  | outside
  deriving DecidableEq, Repr

/-- The first register of a list that has a word at address `a`. -/
def findReg (a : Nat) : List RegId → Target
  | [] => .hole
  | r :: rest => match r.indexAt a with
    | some k => .reg r k
    | none => findReg a rest

/-- What byte address `a`, a multiple of 4, names (R397, R398). -/
def targetOf (a : Nat) : Target :=
  if traceWindow ≤ a ∧ a < traceWindow + traceWindowLen then .trace (a - traceWindow)
  else match blocks.find? (fun b => decide (b.1 ≤ a ∧ a < b.1 + b.2.1)) with
    | some (_, _, rs) => findReg a rs
    | none => .outside

/-- The multi-word values with RW or SW access, and their width in words (R402). `TIME_SET` is not among them (R45). -/
def RegId.valueWords : RegId → Nat
  | .frmEpoch => 2
  | .trkPosSet => 2
  | .hpRecDst => 2
  | .hpOmap => 3
  | .hpImap => 3
  | .pwrWakeT => 2
  | _ => 1

/-- The coherent groups of Table 18-3 by lowest byte address: `(addr, words)` for the group that starts at `a`. -/
def groupAt (a : Nat) : Option Nat :=
  if a ∈ [0x10000, 0x10110, 0x10120, 0x10030, 0x8, 0x90308, 0x90404] then some 2
  else if a = 0x30 then some 11
  else if 0x100000 ≤ a ∧ a < 0x118000 then
    match (a - 0x100000) % 0x400 with
    | 0x280 => some 7
    | 0x304 => some 3
    | 0x058 => some 2
    | 0x138 => some 2
    | 0x240 => some 4
    | 0x250 => some 2
    | 0x258 => some 2
    | _ => none
  else if 0x40000 ≤ a ∧ a < 0x40800 ∧ (a - 0x40000) % 0x40 = 0x28 then some 5
  else if 0x41000 ≤ a ∧ a < 0x41800 ∧ (a - 0x41000) % 0x40 = 0x20 then some 8
  else if 0x50000 ≤ a ∧ a < 0x50600 ∧ (a - 0x50000) % 0x40 = 0x28 then some 3
  else if 0x60000 ≤ a ∧ a < 0x60800 ∧ (a - 0x60000) % 0x100 = 0x34 then some 5
  else if 0x30800 ≤ a ∧ a < 0x30A00 ∧ (a - 0x30800) % 0x40 = 0 then some 4
  else none

end Sys2Proof.Machine
end

