-- ==== Sys2Proof/Machine/State.lean ====
section
/-! DEFINITION. The state of the GK9600 as plain data: every register, queue, mode and pin that spec/ names, and the queue of
waiting commands. Configuration words, published readings, sticky bits and counters that a register table names stand in
`regs`; what the device works with stands in typed structures; a status bit that restates such a structure is computed at
the read (Machine/RegRead.lean), so that every fact has one home. -/
namespace Sys2Proof.Machine

/-- Why the machine stops with a fault. -/
inductive Fault where
  /-- An event names a lane, input, group, port or other unit that the variant lacks (Table 0-1). Raised by the meanings of
  events, never by a command packet (which answers RANGE, R2). Safe: no device produces such an event. -/
  | absentUnit
  deriving DecidableEq, Repr

/-- Why the model has no meaning for a command. -/
inductive Refusal where
  /-- The command's arm is not written. Safe: nothing follows from a refusal. -/
  | notModelled (mnemonic : String)
  deriving DecidableEq, Repr

/-- One register word that differs from its reset value. -/
structure RegCell where
  id  : RegId
  idx : Nat
  val : Word
  deriving DecidableEq, Repr

/-- The register words: cells in rising order of register and index, none equal to its reset value. -/
abbrev RegFile := List RegCell

/-- The lane states of Table 1-5. -/
inductive LaneState where
  | off | layby | track | run | fault
  deriving DecidableEq, Repr

/-- One lane fault recorded since the lane entered FAULT: its code of Table 1-12, its instant, and what it concerns (the
output of a stall, the word of a memory fault) (R19, R403). -/
structure Cause where
  code : Nat
  t    : Time
  arg  : Nat := 0
  deriving DecidableEq, Repr

/-- Device time, its discipline and the frame schedule (spec/02_frame_and_time.md). -/
structure TimeSt where
  /-- Fractional accumulator of `DTIME` in 10^-9 units (R27). Reset 0. -/
  frac : Nat := 0
  /-- Index k of the last tick issued (R35). Reset: none. -/
  k : Option Nat := none
  /-- `DTIME` of the last tick issued (R37). Reset 0. -/
  t0 : Time := 0
  /-- A step or a schedule change has moved the schedule since the last tick (R34). Reset false. -/
  resched : Bool := false
  /-- The output junction of the last frame is still to come (R42). Reset false. -/
  outDue : Bool := false
  /-- The source in force, `SRC` as taken over at a frame boundary (R29). Reset 0. -/
  src : Nat := 0
  /-- The correction that waits for the next frame boundary: step in units, signed (R33, R45). Reset: none. -/
  stepPend : Option Int := none
  /-- `TIME_SET` armed: the new `DTIME` (R45). Reset: none. -/
  setPend : Option Nat := none
  /-- The low word of `TIME_SET` written (R45). Reset 0. -/
  setLow : Word := 0
  /-- Integral state of the servo, 10^-9 units (R33). Reset 0. -/
  integ : Int := 0
  /-- Consecutive servo updates below 100 ns (R32). Reset 0. -/
  good : Nat := 0
  /-- Consecutive expected edges missing or rejected (R31). Reset 0. -/
  missed : Nat := 0
  /-- The reference instant of the expected edge last decided, accepted or not (R31). Reset: none. -/
  edgeRef : Option Int := none
  /-- `LOCKED` (R32). Reset false. -/
  locked : Bool := false
  /-- `HOLDOVER` (R32). Reset false. -/
  holdover : Bool := false
  /-- `SRC_VALID` (R30). Reset false. -/
  srcValid : Bool := false
  /-- `AS_CAPABLE` (R30). Reset false. -/
  asCapable : Bool := false
  /-- `SLEWING`, `STEP_HELD` (R33). Reset false. -/
  slewing : Bool := false
  /-- The Sync whose Follow_Up is awaited: its receive stamp (R30). Reset: none. -/
  syncPend : Option Time := none
  /-- The Sync interval last received, units (R30, R32). Reset 0. -/
  syncInterval : Nat := 0
  /-- Instant of the last valid Sync (R32). Reset 0. -/
  lastSync : Time := 0
  /-- Transmit stamp t1 of the Pdelay_Req under way (R30). Reset: none. -/
  pdelayT1 : Option Time := none
  /-- The stamps t3 and t4 of the last exchange, from which the neighbour rate ratio is taken (R30). Reset: none. -/
  pdelayPrev : Option (Time × Time) := none
  /-- Neighbour rate ratio (R30). Reset 1. -/
  nrr : Rat := 1
  /-- Mean link delay in units, before rounding (R30). Reset 0. -/
  pdelay : Rat := 0
  /-- Pdelay_Req messages received and answered (R30). Reset 0. -/
  pdelayAnswered : Nat := 0
  /-- The instant of the last Pdelay_Req sent (R30). Reset: none. -/
  pdelayLast : Option Time := none
  /-- The SYNC_OUT pin and the instant its pulse ends (R44). Reset low. -/
  syncOutEnd : Option Time := none
  /-- The last tick index for which a pulse was issued (R44). Reset: none. -/
  syncOutRef : Option Nat := none
  /-- The last whole second for which a pulse was issued; a step clears it (R44). Reset: none. -/
  syncOutSec : Option Nat := none
  /-- The index of the first tick issued after the last step or schedule change (R34, R44). Reset 0. -/
  firstAfter : Nat := 0
  deriving DecidableEq, Repr

/-- What an excitation generator does (R48, R49, R52). -/
inductive GenState where
  /-- Off, EXC± at common mode. -/
  | stopped
  /-- In the start ramp of 16 carrier periods: `RAMPING`. -/
  | ramping
  /-- At full amplitude: `RUNNING`. -/
  | running
  /-- EXC± held at common mode after a short (Table 3-5). -/
  | shorted
  /-- DAC stopped in ECONOMY with `RUN` = 1 and all eight lanes OFF (R51). -/
  | economy
  deriving DecidableEq, Repr

/-- One excitation group (spec/03_excitation_and_acquisition.md). -/
structure Group where
  /-- What the generator does (R48, R49, R51, R52). Reset: stopped (R51). -/
  gen : GenState := .stopped
  /-- Phase of the accumulator, 2^-32 turn, at `phaseT` (R48). Reset 0. -/
  phase : Nat := 0
  /-- The instant at which `phase` stood. Reset 0. -/
  phaseT : Time := 0
  /-- The start of the ramp in progress, or of the last one (R48). Reset 0. -/
  rampT : Time := 0
  /-- The last stop: the instant it began, the share of `AMP` that the output then had, the instant at which it has settled at
  common mode, and whether it ramps there (R49) or keeps its amplitude to a zero crossing (R51). Reset 0, false. -/
  stopT    : Time := 0
  stopFrom : Rat := 0
  stopEnd  : Time := 0
  stopRamp : Bool := false
  /-- `EXC_OPEN`: an open is present (R63). Reset false. -/
  isOpen : Bool := false
  /-- `EXC_SHORT`: a short has been detected and not cleared by a restart (R65). Reset false. -/
  short : Bool := false
  deriving DecidableEq, Repr

/-- Signal acquisition of one lane (spec/03_excitation_and_acquisition.md). -/
structure Acq where
  /-- The LOS causes 1–4 confirmed and not cleared, first confirmed first (R65, R66). Reset: none. -/
  causes : List Nat := []
  /-- Consecutive carrier periods with every check passing (R65). Reset 0. -/
  passCnt : Nat := 0
  /-- A check of the lane has failed within the carrier period now running: a modulator reset or an open (R65). Reset false. -/
  badIn : Bool := false
  /-- `COAST`: the tracker coasts (R62). Reset false. -/
  coast : Bool := false
  /-- The last complete carrier period had its magnitude below `LOS_LEVEL` (R63). Reset false. -/
  magLow : Bool := false
  /-- The winding whose DC mean exceeded 100 mV in the last complete period, with the mean in microvolts (R63). Reset: none. -/
  dcOpen : Option (Nat × Nat) := none
  /-- The instant of the first suspect sample of the present coast (R62). Reset 0. -/
  coastT : Time := 0
  /-- `RANGE`: the input range in use (R55). Reset 0. -/
  range : Nat := 0
  /-- The range that waits for its zero crossing (R57). Reset: none. -/
  rangePend : Option Nat := none
  /-- Consecutive carrier periods with both peaks below the narrow threshold (R56). Reset 0. -/
  narrowCnt : Nat := 0
  /-- Both winding peaks of the carrier period now running, unit of `Demod` (R56). Reset 0. -/
  peakS : Nat := 0
  peakC : Nat := 0
  /-- The estimated carrier phase φ, 2^-32 turn (R59). Reset 0. -/
  phi : Int := 0
  /-- The end of the fast estimation of 8 ms (R60). Reset: none. -/
  fastEnd : Option Time := none
  /-- Residual quadrature, unsigned Q0.16 (`QUAD`). Reset 0. -/
  quad : Nat := 0
  /-- The magnitude of the latest carrier period, unit of `Demod` (R63, R91). Reset 0. -/
  mag : Nat := 0
  /-- Sum of the magnitudes of the periods of the ratio window, and their number (R63). Reset 0. -/
  ratioSum : Nat := 0
  ratioCnt : Nat := 0
  /-- The 64-period ratio, Q4.12 (`RATIO`). Reset 0. -/
  ratio : Nat := 0
  /-- Conditions found at the last evaluation: magnitude, ratio, phase (R63). Reset false. -/
  ampOn : Bool := false
  ratioOn : Bool := false
  phaseOn : Bool := false
  /-- The last instants at which events 0x0205 to 0x0208 were logged (R58, R63). Reset: none. -/
  lastLog : List (Option Time) := [none, none, none, none]
  /-- Instants of the modulator resets of the lane within the last 100 ms, newest first (R63). Reset: none. -/
  resets : List Time := []
  /-- Modulators in reset: sine, cosine (R63). Reset false. -/
  inResetS : Bool := false
  inResetC : Bool := false
  deriving DecidableEq, Repr

/-- Where the re-acquisition of a tracker stands (R82). -/
inductive Reacq where
  /-- Locked, or lost with LOS present. -/
  | idle
  /-- The next update sets θ̂ to the measured angle: true restarts within the first electrical turn (R76, R405). -/
  | jump (restart : Bool)
  /-- Step 1 is done; 256 good updates are awaited. -/
  | settling
  deriving DecidableEq, Repr

/-- One past update of a tracker, for milestone interpolation (R136). -/
structure TrkPoint where
  t   : Time
  th  : Int
  om  : Int
  al  : Int
  deriving DecidableEq, Repr

/-- The tracker of one lane (spec/04_angle_tracking.md). -/
structure Tracker where
  /-- θ̂ in 2^-32 electrical turn, 68 bits signed (R75). Reset 0. -/
  th : Int := 0
  /-- ω̂ in 2^-24 electrical turns/s, 48 bits signed (R71). Reset 0. -/
  om : Int := 0
  /-- `a_corr` in 2^-12 electrical turns/s² (R71). Reset 0. -/
  ac : Int := 0
  /-- a_aid in 2^-12 electrical turns/s² as used in the last update (R73). Reset 0. -/
  aid : Int := 0
  /-- The aid was active in the last update, and the gain used (R74). Reset false, 0. -/
  aidOn : Bool := false
  aidGain : Nat := 0
  /-- Commanded accelerations with the instant from which each applies, newest first (R73). Reset: none. -/
  aidQueue : List (Time × Rat) := []
  /-- The pin instant t_s of the newest update (R38, R69). Reset 0. -/
  ts : Time := 0
  /-- The angle error d of the newest update, 2^-32 electrical turn, and the θ̂ against which it was formed (R71, R97). Reset 0. -/
  d : Int := 0
  thD : Int := 0
  /-- Raw angle of the latest sample, 24 bits (`TRK_RAW`). Reset 0. -/
  raw : Nat := 0
  /-- `POS_OFS`, 64 bits signed (R75). Reset 0. -/
  posOfs : Int := 0
  /-- `REFERENCED` (R76). Reset false. -/
  referenced : Bool := false
  /-- `STILL` (R78). Reset false. -/
  still : Bool := false
  /-- Consecutive updates with |d| above 1/16 turn (R81). Reset 0. -/
  errCnt : Nat := 0
  /-- Consecutive updates above the lock limit, and whether event 0x0212 has been logged for them (R80). Reset 0, false. -/
  spdCnt : Nat := 0
  spdSeen : Bool := false
  /-- Consecutive good updates of the re-acquisition (R82). Reset 0. -/
  goodCnt : Nat := 0
  /-- `LOCK_CAUSE`; not 0: `LOCK_LOST` is set (R81). Reset 3. -/
  lockCause : Nat := 3
  /-- Re-acquisition (R82). Reset: idle. -/
  reacq : Reacq := .idle
  /-- The end of the 2 ms at code 15 (R82). Reset: none. -/
  fastEnd : Option Time := none
  /-- The jump of step 1 of the last re-acquisition, 2^-32 electrical turn (R82). Reset 0. -/
  jump : Int := 0
  /-- LOS stood when the lock was lost, so that the reference clears in any case (R82). Reset false. -/
  afterLos : Bool := false
  /-- The tracking runs (R405). Reset false: the lane is OFF. -/
  tracking : Bool := false
  /-- The lane position is held because tracking is stopped, `SNAP_HELD` (R405). Reset false; the first commit junction sets it
  for a lane in OFF. -/
  posHeld : Bool := false
  /-- The lane position held while tracking is stopped, or while the secondary is invalid on the detour, 64 bits (R88, R405).
  Reset 0. -/
  heldPos : Int := 0
  /-- `DETOUR` (R86). Reset false. -/
  detour : Bool := false
  /-- `DET_FAIL` (R88). Reset false. -/
  detFail : Bool := false
  /-- `DET_OFS`: the detour offset of the last snapshot that computed one, 64 bits (R85). Reset: none. -/
  detOfs : Option Int := none
  /-- An offset has been computed since the lane last entered TRACK (R85). Reset false. -/
  detFresh : Bool := false
  /-- Position, velocity and acceleration of the lane at the last snapshot, unwindowed (R38, R39, R79). Reset 0. -/
  snapPos : Int := 0
  snapVel : Rat := 0
  snapAcc : Rat := 0
  /-- Velocity and acceleration of the demand at the last output junction, for a lane with `STEP_FB` (R156). Reset 0. -/
  demVel : Rat := 0
  demAcc : Rat := 0
  /-- The last updates, newest first, at most 64 (R136). Reset: none. -/
  hist : List TrkPoint := []
  /-- Updates counted modulo 16 for the map decimation (R97). Reset 0. -/
  decim : Nat := 0
  deriving DecidableEq, Repr

/-- The terms of an angle-error map (Table 5-1). -/
structure MapTerms where
  /-- `OS`, `OC`, `RT`, `QD`. -/
  os : Int := 0
  oc : Int := 0
  rt : Int := 0
  qd : Int := 0
  /-- a_k, b_k for k = 1–8. -/
  el : List (Int × Int) := List.replicate 8 (0, 0)
  /-- c_m, e_m for m = 1–32. -/
  me : List (Int × Int) := List.replicate 32 (0, 0)
  deriving DecidableEq, Repr

/-- A map with what its blob says of its origin (Table 5-5). -/
structure AngleMap where
  terms : MapTerms := {}
  /-- Bits 0–3 of blob byte 1: signal, electrical, mechanical terms valid, `SINGLE_BAND`. -/
  valid : Nat := 0
  segs  : Nat := 0
  /-- The lane at learning. -/
  lane  : Nat := 0
  t     : Time := 0
  fcw   : Word := 0
  velA  : Word := 0
  velB  : Word := 0
  resid : Word := 0
  deriving DecidableEq, Repr

/-- One decimated sample of a learning segment (R97). -/
structure SegSample where
  t   : Time
  /-- Corrected measured angle, 2^-32 electrical turn, unwrapped. -/
  tm  : Int
  /-- Fractions of θ̂ and of the lane position, 2^-32 turn. -/
  the : Nat
  psi : Nat
  /-- Corrected envelopes and the period magnitude, unit of `Demod`. -/
  s   : Int
  c   : Int
  m   : Nat
  vel : Rat
  deriving DecidableEq, Repr

/-- The estimates of one segment, or their sums over a band: signal terms as fractions and turns, harmonics in 2^-24
electrical turn (R97). -/
structure SegEst where
  dOS : Rat := 0
  dOC : Rat := 0
  dRT : Rat := 0
  dQD : Rat := 0
  el  : List (Rat × Rat) := List.replicate 8 (0, 0)
  me  : List (Rat × Rat) := List.replicate 32 (0, 0)
  /-- Segments summed, and those of them with mechanical terms (R95). -/
  n   : Nat := 0
  nMe : Nat := 0
  /-- Sum of the mean |vel| of the segments. -/
  vel : Rat := 0
  deriving DecidableEq, Repr

/-- The learner states of Table 5-6. FADING is shown while a fade runs and no learning does. -/
inductive LearnState where
  | idle | waiting | collecting | evaluating | done | failed
  deriving DecidableEq, Repr

/-- A fade in progress (R101). -/
structure Fade where
  start : Time
  /-- Fade time in units. -/
  dur   : Nat
  old   : MapTerms
  deriving DecidableEq, Repr

/-- The learning parameters of a run: `MAP_VMIN`, `MAP_VSPLIT`, `MAP_VMAX`, `MAP_AMAX`, `MAP_LRN`, `MAP_TOL` (R106). -/
structure LearnPar where
  vmin   : Word := 0
  vsplit : Word := 0
  vmax   : Word := 0
  amax   : Word := 0
  lrn    : Word := 0
  tol    : Word := 0
  deriving DecidableEq, Repr

/-- Angle-error map and learner of one lane (spec/05_angle_error_maps.md). -/
structure MapSt where
  /-- The live map; while a fade runs, the map faded in (R101). Reset: no terms. -/
  live : AngleMap := {}
  /-- `SOURCE` (R114). Reset 0. -/
  source : Nat := 0
  /-- The fade in progress (R101). Reset: none. -/
  fade : Option Fade := none
  /-- Start of the mechanical fade-in after `REFERENCED` set, and its duration (R102). Reset: none. -/
  mechFade : Option (Time × Nat) := none
  /-- A map that waits for the next entry to TRACK at full weight (R101). Reset: none. -/
  atTrack : Option (AngleMap × Nat) := none
  /-- `STATE` (Table 5-6). Reset IDLE. -/
  st : LearnState := .idle
  /-- `FAIL_CAUSE`. Reset 0. -/
  failCause : Nat := 0
  /-- Mode of the run: 1 single, 2 continuous (R106). Reset 0. -/
  mode : Nat := 0
  /-- Terms learned: bit 0 signal, 1 electrical, 2 mechanical (R106). Reset 0. -/
  terms : Nat := 0
  /-- The parameters of the run, taken from the registers at the commit that started it (R106). Reset 0. -/
  par : LearnPar := {}
  /-- Evaluations done in this run (R100). Reset 0. -/
  evals : Nat := 0
  /-- Samples of the segment that accumulates, newest first (R97). Reset: none. -/
  seg : List SegSample := []
  /-- The angle at the segment's start, 2^-32 electrical turn, and whether it is set (R95). Reset: none. -/
  segTh : Option Int := none
  /-- vel was negative at the segment's start (R95). Reset false. -/
  segNeg : Bool := false
  /-- `REFERENCED` held throughout the segment, or p = 1 (R95). Reset true. -/
  segMech : Bool := true
  /-- The segment is complete and awaits its evaluation (R97). Reset false. -/
  segDone : Bool := false
  /-- A condition of Table 5-2 failed in a running segment, which awaits its discard (R95). Reset false. -/
  segBad : Bool := false
  /-- Band sums of odd and even segments: A odd, A even, B odd, B even (R97). Reset 0. -/
  sums : List SegEst := List.replicate 4 {}
  /-- Outcomes of the last 256 segments that ended, newest first: true discarded (R98). Reset: none. -/
  outcomes : List Bool := []
  /-- σ of the last 32 accepted segments, in turns, newest first (R97). Reset: none. -/
  sigmas : List Rat := []
  /-- Discarded segments since the start of the run (R107). Reset 0. -/
  discarded : Nat := 0
  /-- Accepted segments since the last drift check (R104). Reset 0. -/
  driftCnt : Nat := 0
  /-- `MAP_RESID`, binary32. Reset 0. -/
  resid : Word := 0
  /-- Term masks of the last evaluation: accepted, rejected (R107). Reset 0. -/
  accepted : Nat := 0
  rejected : Nat := 0
  /-- `SINGLE_BAND`. Reset false. -/
  singleBand : Bool := false
  /-- A new map formed by an evaluation, which enters service at the next commit junction (R100). Reset: none. -/
  newMap : Option AngleMap := none
  /-- The two copies in MRAM as blob bytes, and the one written last (R108). Reset: none. -/
  copyA : Option (List Byte) := none
  copyB : Option (List Byte) := none
  lastB : Bool := false
  deriving DecidableEq, Repr

/-- One counted edge of a pulse input: its stamp, the count after it, its direction. -/
structure PulseEdge where
  t     : Time
  count : Int
  neg   : Bool
  deriving DecidableEq, Repr

/-- A speed measured over a span of edges, or between two serial transfers: the speed and the span (R127, R128). -/
structure Speed where
  v     : Rat
  from_ : Time
  to_   : Time
  deriving DecidableEq, Repr

/-- A level change that waits for its debounce (R120). -/
structure Bounce where
  wire  : Nat
  level : Bool
  t     : Time
  deriving DecidableEq, Repr

/-- One pulse input (spec/06_pulse_inputs_and_milestones.md). -/
structure PulseIn where
  /-- The count, 64 bits signed (R121). Reset 0. -/
  count : Int := 0
  /-- The levels of PA, PB, PZ as sampled; in mode 4 as debounced (R118, R120). Reset low. -/
  a : Bool := false
  b : Bool := false
  z : Bool := false
  /-- The stamp of the last edge on each wire (R120). Reset: none. -/
  tA : Option Time := none
  tB : Option Time := none
  tZ : Option Time := none
  /-- Level changes that wait for their debounce in mode 4 (R120). Reset: none. -/
  bounce : List Bounce := []
  /-- `DIR`: the newest count edge was negative (R143). Reset false. -/
  neg : Bool := false
  /-- Count edges of the last 1 ms and the newest one before them, newest first (R136). Reset: none. -/
  edges : List PulseEdge := []
  /-- The edges the speed has not used yet, newest first (R127). Reset: none. -/
  unused : List PulseEdge := []
  /-- Speed state of R127: direction of the run, its length, its first and last edge. Reset: run_len 0, none. -/
  runNeg : Bool := false
  runLen : Nat := 0
  refEdge : Option PulseEdge := none
  lastEdge : Option PulseEdge := none
  /-- v_meas and the two newest measured speeds, newest first (R127, R128). Reset 0, none. -/
  vMeas : Rat := 0
  speeds : List Speed := []
  /-- Speed and acceleration at the latest capture (R127, R128). Reset 0. -/
  vel : Rat := 0
  acc : Rat := 0
  /-- The speed as the latest capture at a T0 took it (R136). Reset 0. -/
  capVel : Rat := 0
  /-- The T0 at which PIN_ADJUST last set the count: an edge stamped so is absorbed (R140). Reset: none. -/
  setT : Option Time := none
  /-- `SPD_BOUND` and `STILL` (R127). Reset false; the first capture after enable sets `STILL`. -/
  bound : Bool := false
  still : Bool := false
  /-- Source position at the latest capture, Q32.32 (R121). Reset 0. -/
  pos : Int := 0
  /-- Reference counts forward and reverse (R125). Reset: none. -/
  refPos : Option Int := none
  refNeg : Option Int := none
  /-- The last drift logged (R126). Reset: none. -/
  driftLog : Option Int := none
  /-- An index event seen and not yet evaluated: instant, count, direction (R124). Reset: none. -/
  idxPend : Option PulseEdge := none
  /-- `ALIGN_PEND` (R140). Reset false. -/
  alignPend : Bool := false
  /-- `CNT_LOST` (R122). Reset false. -/
  lost : Bool := false
  /-- Pairs with a wire fault: PA, PB, PZ (R119). Reset false. -/
  wireA : Bool := false
  wireB : Bool := false
  wireZ : Bool := false
  /-- Last instant of event 0x0603 (R122). Reset: none. -/
  fastLog : Option Time := none
  /-- The start of the serial transfer under way, and the frame it belongs to (R132). Reset: none. -/
  serStart : Option Time := none
  /-- The index of the last frame with a transfer. Reset: none. -/
  serFrame : Option Nat := none
  /-- u of the last valid transfer (R133). Reset: none. -/
  uPrev : Option Nat := none
  /-- The eight newest valid transfers, newest first: sample instant and count (R38, R136). Reset: none. -/
  transfers : List (Time × Int) := []
  /-- Consecutive bad and good transfers (R134). Reset 0. -/
  badRun : Nat := 0
  goodRun : Nat := 0
  /-- The serial source has gone invalid (R134). Reset false. -/
  serInvalid : Bool := false
  deriving DecidableEq, Repr

/-- A milestone record (Table 6-3). -/
structure MlsRec where
  t     : Time
  pos   : Int
  vel   : Word
  count : Nat
  kind  : Nat
  flags : Nat
  seq   : Nat
  drift : Int
  deriving DecidableEq, Repr

/-- One milestone unit (R135–R138). -/
structure MlsUnit where
  /-- The FIFO, oldest first, at most 16 (R138). Reset empty. -/
  fifo : List MlsRec := []
  /-- `SEQ_NEXT` (R138). Reset 0. -/
  seq : Nat := 0
  /-- `ARMED` (R137, R142). Reset false. -/
  armed : Bool := false
  /-- A run of losses has been logged (R138). Reset false. -/
  lossRun : Bool := false
  /-- An edge has been latched in the present pass of the window (R137). Reset false. -/
  latched : Bool := false
  /-- The lane position at the previous snapshot (R137). Reset: none. -/
  prevPos : Option Int := none
  /-- The FIFO was not empty at the last capture; its head then (R138). Reset false, none. -/
  pending : Bool := false
  head : Option MlsRec := none
  deriving DecidableEq, Repr

/-- One emulation or step output (spec/07_encoder_emulation_and_step_outputs.md). -/
structure EmuOut where
  /-- The emitted count E, 64 bits signed (R147). Reset 0. -/
  e : Int := 0
  /-- K of R148. Reset 0. -/
  k : Int := 0
  /-- The target X (R147). Reset 0. -/
  x : Int := 0
  /-- Edges or steps to come, oldest first: the instant scheduled, whether it is exact, the direction (R149, R154). Reset: none. -/
  queue : List (Time × Bool × Int) := []
  /-- The direction of the last change of X (R150). Reset up. -/
  up : Bool := true
  /-- The lane position at the last update of X, and its instant (R149). Reset: none. -/
  prev : Option (Time × Int) := none
  /-- The instant of the last edge or step and its direction (R147). Reset: none. -/
  lastT : Option Time := none
  lastDir : Int := 1
  /-- The instant at which the pulse of the last step ends (R147). Reset 0. -/
  pulseEnd : Time := 0
  /-- EZ fell at a change of K and stays low until E moves (R151). Reset false. -/
  zHold : Bool := false
  /-- The step set-points of a lane in RUN with its barrier up are in force (R16, R155). Reset false. -/
  on : Bool := false
  /-- Levels of EA, EB, EZ, and of EEN, when the output last changed or at the latest T0 (R145, R151, R159). Reset low. -/
  ea : Bool := false
  eb : Bool := false
  ez : Bool := false
  een : Bool := false
  /-- `HIZ` (R159). Reset true. -/
  hiz : Bool := true
  /-- The output stands still for a loss of feedback (Table 7-2). Reset false. -/
  gap : Bool := false
  /-- The output is off for PARKED and is realigned when the device leaves it (R159). Reset true. -/
  parked : Bool := true
  /-- H of R157. Reset: none. -/
  h : Option Int := none
  /-- `OVR`, `STALL`, `STALL_NOSRC` (R153, R158). Reset false. -/
  ovr : Bool := false
  /-- The backlog lies above `BKLG_LIM`; the output is cut off until EMU_ALIGN (R153). Reset false. -/
  above : Bool := false
  cut : Bool := false
  stall : Bool := false
  noSrc : Bool := false
  /-- E0 and s0 of R158. Reset 0. -/
  e0 : Int := 0
  s0 : Int := 0
  /-- Consecutive snapshots beyond `STALL_WIN`; dev of the last one (R158). Reset 0. -/
  stallRun : Nat := 0
  dev : Int := 0
  deriving DecidableEq, Repr

/-- One section's coefficients: 32-bit mantissas and `BSH` (Table 9-1). -/
structure SectionCoef where
  mb0 : Int
  mb1 : Int
  mb2 : Int
  ma1 : Int
  ma2 : Int
  bsh : Nat
  deriving DecidableEq, Repr

/-- The pass-through section (R194). -/
def passThrough : SectionCoef := ⟨2 ^ 30, 0, 0, 0, 0, 0⟩

/-- A coefficient bank: sections V1–V16, P1–P8, T1–T8 and the gains of Table 9-3. Reset: pass-through, +0.0 (R194). -/
structure Bank where
  secs  : List SectionCoef := List.replicate 32 passThrough
  gains : List Word := List.replicate 15 0
  deriving DecidableEq, Repr

/-- The states of one block-floating stage: mantissas in exponent `e` (R183, R187). -/
structure Stage where
  x1 : Int := 0
  x2 : Int := 0
  y1 : Int := 0
  y2 : Int := 0
  e  : Int := -128
  /-- `first` of R186. -/
  first : Bool := true
  deriving DecidableEq, Repr

/-- The loop structure that admission charges (R175). -/
structure LoopStruct where
  nv      : Nat := 0
  np      : Nat := 0
  nt      : Nat := 0
  posEn   : Bool := false
  dmdMode : Bool := false
  trmDest : Nat := 0
  trmDiv  : Nat := 0
  trmPh   : Nat := 0
  posDiv  : Nat := 0
  posPh   : Nat := 0
  trmSrc  : Nat := 0
  trmMul  : Bool := false
  deriving DecidableEq, Repr

/-- The states of a lane's loops, which an unfinished frame leaves untouched (R163, R170). -/
structure LoopSt where
  /-- Stages V1–V16, P1–P8, T1–T8. Reset: zero states, exponent −128. -/
  stages : List Stage := List.replicate 32 {}
  /-- Integrators, binary32 (R166, R183). Reset +0.0. -/
  iV : Word := 0
  iP : Word := 0
  iT : Word := 0
  /-- Outputs of the last run of each loop, binary32 (R163, R183, R198). Reset +0.0. -/
  uV  : Word := 0
  uP  : Word := 0
  trm : Word := 0
  /-- Integrator treatment still due at the first run after a swap: some true back-calculation, some false clamp to the new
  kerb (Table 9-4). Reset: none. -/
  bcV : Option Bool := none
  bcP : Option Bool := none
  bcT : Option Bool := none
  /-- The clamp state of each outer loop since its last run (R167). Reset false. -/
  kIP  : Bool := false
  kIT  : Bool := false
  kTrm : Bool := false
  /-- The last computation clamped (R167). Reset false. -/
  clamped : Bool := false
  /-- `FE_CNT` (R174). Reset 0. -/
  feCnt : Nat := 0
  /-- The last computed value of each section's output; none before its first run (R202). Reset: none. -/
  secOut : List (Option Word) := List.replicate 32 none
  deriving DecidableEq, Repr

/-- The values of one frame's computation that trace and the readings show, binary32 words but for the positions (R180,
Table 9-5). -/
structure LoopVals where
  pp     : Nat
  vp     : Word
  ap     : Word
  posDem : Nat
  eP     : Word
  uP     : Word
  velDem : Word
  velErr : Word
  uV     : Word
  dmd    : Word
  dff    : Word
  trm    : Word
  proc   : Option Word
  iV     : Word
  iP     : Word
  iT     : Word
  secOut : List (Option Word)
  deriving DecidableEq, Repr

/-- Loop cascade of one lane (spec/08_loop_cascade.md, spec/09). -/
structure LoopLane where
  /-- The two coefficient banks and the one in use, `LIVE_BANK` (R194, R197). Reset: both pass-through, bank 0. -/
  banks : List Bank := [{}, {}]
  live  : Nat := 0
  /-- `STAGED_WR` (R207). Reset false. -/
  stagedWr : Bool := false
  /-- The structure of the last admission, and the one in force (R175, R176). Reset: none. -/
  resv : Option LoopStruct := none
  struct_ : Option LoopStruct := none
  /-- The loop states (R170). -/
  run : LoopSt := {}
  /-- `KERB` of the last output junction of an on-time frame (R167). Reset false. -/
  kerb : Bool := false
  /-- `TRM_HOLD`, consecutive frames with an invalid trim source, frames held since the onset (R173). Reset false, 0. -/
  trmHold : Bool := false
  trmBad  : Nat := 0
  trmHeld : Nat := 0
  /-- The values of the running frame, once its work has completed (R203). Reset: none. -/
  vals : Option LoopVals := none
  /-- That work completed late (R203). Reset false. -/
  late : Bool := false
  /-- The last instant of event 0x0430 (R191). Reset: none. -/
  retryLog : Option Time := none
  deriving DecidableEq, Repr

/-- One cluster (R193, R208). -/
structure Cluster where
  /-- `ST_OK` (R193). Reset true. -/
  stOk : Bool := true
  /-- The start of the last self-test that passed (R193). Reset: none. -/
  passStart : Option Time := none
  deriving DecidableEq, Repr
/-- Trace (R201–R207). -/
structure Trace where
  /-- `STATE`: 0 IDLE, 1 ARMED, 2 TRIGGERED, 3 DONE, 4 STOPPED. Reset IDLE. -/
  st : Nat := 0
  /-- The trace SRAM, 1 MiB: the bytes that differ from zero (R201). Reset empty. -/
  mem : List Host.Cell := []
  /-- `TRC_COUNT`, and the index of the next record. Reset 0. -/
  count : Nat := 0
  next  : Nat := 0
  /-- `TRC_TRIG_IDX`, `TRC_TRIG_SEQ`, `PRE_SHORT` (R205). Reset 0. -/
  trigIdx  : Nat := 0
  trigSeq  : Nat := 0
  preShort : Bool := false
  /-- Records still to come after the trigger (R205). Reset 0. -/
  left : Nat := 0
  /-- TRACE_FORCE action 0 was accepted since the last T0 (R204). Reset false. -/
  force : Bool := false
  /-- No record has been written since the arming (Table 9-6). Reset false. -/
  first : Bool := false
  /-- The frame being recorded and the words its channels took at T0 (R203). Reset: none. -/
  frame : Option Nat := none
  cap   : List Word := []
  /-- The value of channel `TRIG_CH` in the last frame; none: not valid (R204). Reset: none. -/
  prev : Option Word := none
  /-- `LANE_STAT` of `TRIG_LANE` at the last output junction; source 2 has fired in this frame (R204). Reset 0, false. -/
  stat   : Word := 0
  statUp : Bool := false
  /-- The black-box sequence number at the last T0, and the record number of the milestone unit (R204). Reset 0. -/
  bbxMark : Nat := 0
  mlsMark : Nat := 0
  deriving DecidableEq, Repr

/-- A limit set (V, A, D, J) of R212, in turns and seconds. -/
structure LimitSet where
  v : Rat
  a : Rat
  d : Rat
  j : Rat
  deriving DecidableEq, Repr

/-- A segment of constant jerk: its start in units of device time, position in 2^-32 turn, velocity, acceleration, jerk
(R214). -/
structure Seg where
  t : Rat
  p : Int
  v : Rat
  a : Rat
  j : Rat
  deriving DecidableEq, Repr

/-- A plan of one part: its segments in order of time, the last one without an end (R214). -/
structure Plan where
  segs : List Seg
  /-- The end of the plan, units. -/
  tEnd : Rat := 0
  /-- The target that the part stands at from the end on; none for a speed (R214, R216). -/
  target : Option Int := none
  /-- The start of the final deceleration towards a fixed target (R219). -/
  fd : Option Rat := none
  /-- The path passes its target and returns (R218), and the position at rest beyond it. -/
  beyond : Bool := false
  rest : Int := 0
  deriving DecidableEq, Repr

/-- A gear in force (R224–R226). -/
structure Gear where
  /-- 1 virtual master, 2 lane, 3 pulse input. -/
  kind : Nat
  idx  : Nat
  num  : Int
  den  : Nat
  /-- M of the last T0, the remainder r, and base position, velocity and acceleration. -/
  mPrev : Int
  r     : Int
  bp    : Int
  bv    : Rat
  ba    : Rat
  /-- The T0 of the last evaluation. -/
  t     : Time
  /-- Frames with the source invalid (R226). -/
  lost  : Nat := 0
  deriving DecidableEq, Repr

/-- A queued waypoint: target and pass speed (R221). -/
structure Waypoint where
  target : Int
  w      : Rat
  deriving DecidableEq, Repr

/-- What the base does (R210, R220, R221). -/
inductive BaseKind where
  | follow | hold | move | speed | rampStop | quickStop | stopAt | waypoint | gear
  deriving DecidableEq, Repr

/-- The profile generator of one lane (spec/10_profile_and_line_shaft.md). -/
structure Profile where
  /-- The base, and its plan when it is no gear (R210). Reset: follows the feedback. -/
  kind : BaseKind := .follow
  plan : Plan := { segs := [] }
  /-- The main limits of the last plan (R218). -/
  lims : LimitSet := ⟨1, 1, 1, 10⟩
  /-- The move speed that replaces V, 0 for none; the speed commanded (R216). -/
  vmax : Rat := 0
  vcmd : Rat := 0
  gear : Option Gear := none
  /-- sup: its plan, target and limits; none while it is zero (R210, R227). -/
  sup     : Option Plan := none
  supTgt  : Int := 0
  supLims : LimitSet := ⟨1, 1, 1, 10⟩
  /-- The gear engagement has not yet ended: ENGAGE (R225). -/
  engaging : Bool := false
  /-- `DEFERRED`, for base and sup, each with the set that waits for the end of the plan (R219). -/
  baseDef : Bool := false
  supDef  : Bool := false
  baseDefLims : LimitSet := ⟨1, 1, 1, 10⟩
  supDefLims  : LimitSet := ⟨1, 1, 1, 10⟩
  /-- `MST_LOST` (R226). -/
  mstLost : Bool := false
  /-- The waypoint queue, oldest first, at most 16; the pass speed of the waypoint under way, signed (R221). -/
  wps  : List Waypoint := []
  pass : Rat := 0
  deriving DecidableEq, Repr

/-- Profile state of a lane that an unfinished frame does not restore. -/
structure PrfLane where
  /-- The generator (R210). Reset: FOLLOW. -/
  gen : Profile := {}
  /-- The lane entered RUN at the last commit: the base starts from the snapshot (R217). Reset false. -/
  entering : Bool := false
  /-- `OVERSHOOT` of the base and of sup (R218). Reset false. -/
  beyond : Bool := false
  supBeyond : Bool := false
  /-- `IN_POSITION`, frames inside the window in a row, and a MOVE started at the last commit (R228). Reset false, 0. -/
  inpos   : Bool := false
  inCnt   : Nat := 0
  started : Bool := false
  /-- pp, vp, ap at the last T0 (R210). Reset 0. -/
  pp : Int := 0
  vp : Rat := 0
  ap : Rat := 0
  deriving DecidableEq, Repr

/-- A virtual master (R222). -/
structure VMaster where
  /-- Its plan. Reset: at rest at 0. -/
  plan : Plan := { segs := [⟨0, 0, 0, 0, 0⟩], target := some 0 }
  /-- Target velocity (`VM_TGT`). Reset 0. -/
  vt : Word := 0
  /-- A, D, J. Reset 1.0, 1.0, 10.0. -/
  al : Word := 0x3F800000
  dl : Word := 0x3F800000
  jl : Word := 0x41200000
  /-- Position, velocity, acceleration at the last T0. Reset 0. -/
  p : Int := 0
  v : Rat := 0
  a : Rat := 0
  deriving DecidableEq, Repr

/-- A profile command with its checked operands (Table 10-4). -/
inductive PrfCmd where
  | move (kind : Nat) (target : Int) (vel speed : Rat)
  | limits (set : Nat) (v a d j : Word)
  | gear (kind idx align : Nat) (num : Int) (den : Nat) (pos mref : Int)
  | trim (action : Nat) (val : Int)
  | stop (variant phase : Nat)
  | wpAppend (rel : Bool) (w : Rat) (target : Int)
  | wpFlush
  deriving DecidableEq, Repr

/-- A VMASTER action (R223). -/
inductive VmCmd where
  | vel (v : Word)
  | lim (a d j : Word)
  | pos (p : Int)
  deriving DecidableEq, Repr

/-- The finished computation of a lane in RUN, until its work completes (R42, R163). -/
structure LaneWork where
  run  : LoopSt
  vals : LoopVals
  /-- dmd and dff of R163, `POS_DEM`. -/
  dmd    : Word
  dff    : Word
  posDem : Int
  /-- `LOOP_STAT`[6:1], `FE_OVER`, and whether a kerb clamped in this computation or the one before (R167). -/
  kbits  : Nat
  feOver : Bool
  kerb   : Bool
  /-- Outcome bits of a swap: `BC_CLAMP`. -/
  bcClamp : Bool
  /-- The generator at the start of the frame, to which discarded work returns (R42). -/
  saved  : Profile
  /-- What the check of the engine will find if the work misses the output junction (R192). -/
  found  : List Disturb := []
  deriving DecidableEq, Repr

/-- A value of a process channel (R242, R246). -/
structure PfeVal where
  val   : Word := 0
  /-- Stamp t_s. -/
  t     : Time := 0
  valid : Bool := false
  deriving DecidableEq, Repr

/-- One process channel (spec/11_process_front_end.md). -/
structure PfeCh where
  /-- `GAIN`: gain code, or capacitor code − 1 (R243). Reset 0. -/
  gain : Nat := 0
  /-- The gain that takes effect at the next sample boundary (R243). Reset: none. -/
  gainPend : Option Nat := none
  /-- Consecutive measurements below the down threshold (R243). Reset 0. -/
  downCnt : Nat := 0
  /-- The conversion under way spans a gain switch, or a charge reset (R244). Reset false. -/
  spanGain  : Bool := false
  spanReset : Bool := false
  /-- The two newest measurement values x, newest first, and voltages in nanovolts (R244, R248). Reset: none. -/
  xs : List Rat := []
  vs : List Int := []
  /-- `replaced_run` of R244. Reset 0. -/
  replaced : Nat := 0
  /-- The states of the notches (R241), which a gain switch scales and a charge reset shifts (R239, R244). Reset: none. -/
  notch : List Rat := []
  /-- The sample boundary at which the conversion under way began (R240), and the instant from which the boundaries run with
  `SYNC` = 0. Reset 0. -/
  began   : Time := 0
  started : Time := 0
  /-- Conversions left of the settling; the first lead conversion is awaited (R247). Reset 0, false. -/
  settle   : Nat := 0
  leadWait : Bool := false
  /-- The conversion under way: 0 measurement, 1 test, 2 lead (R238, R248). Reset 0. -/
  conv : Nat := 0
  /-- Measurements since the last test, and since the last lead conversion. Reset 0. -/
  sinceTest : Nat := 0
  sinceLead : Nat := 0
  /-- V_lead in nanovolts (R238). Reset 0. -/
  vLead : Int := 0
  /-- Type 7: the carry in pC, a TARE to act at the next measurement, a reset to act at the next boundary (R239). Reset 0. -/
  carry    : Rat := 0
  tarePend : Bool := false
  rstPend  : Bool := false
  /-- Flags of `PFE_STAT`. Reset false. -/
  openWire  : Bool := false
  overRange : Bool := false
  excFault  : Bool := false
  pairDis   : Bool := false
  tempHeld  : Bool := false
  rangeStep : Bool := false
  resetStep : Bool := false
  /-- Consecutive passing tests and conversions while `OPEN_WIRE` is set; consecutive good conversions while `EXC_FAULT` is set
  (Table 11-5). Reset 0. -/
  passTests : Nat := 0
  openConvs : Nat := 0
  goodExc   : Nat := 0
  /-- Last instant of event 0x0803. Reset: none. -/
  ovLog : Option Time := none
  /-- The last valid t since the configuration was applied (R245). Reset: none. -/
  lastT : Option Word := none
  /-- The newest value formed as R246 leaves it, with x and t, the last valid value and the valid one before it. Reset 0,
  invalid. -/
  cur   : PfeVal := {}
  x     : Word := 0
  tin   : Word := 0
  last  : PfeVal := {}
  prev  : PfeVal := {}
  /-- The newest measurement before the pair flag: value, stamp, valid apart from the pair flag (R249). Reset invalid. -/
  meas  : PfeVal := {}
  /-- The value that becomes available at an instant, and the newest available (R242). Reset: none, invalid. -/
  pend  : Option (Time × PfeVal) := none
  avail : PfeVal := {}
  /-- The value captured at the last snapshot (R242). Reset invalid. -/
  snap  : PfeVal := {}
  /-- Measurement count modulo 2^32 (Table of R253). Reset 0. -/
  count : Nat := 0
  /-- Consecutive comparisons beyond and inside the window, kept in the channel with the lower index (R249). Reset 0. -/
  pairBad  : Nat := 0
  pairGood : Nat := 0
  deriving DecidableEq, Repr
/-- A request in a receive queue (R263, R282). -/
structure QReq where
  op  : Nat
  /-- Arrival instant. -/
  arr : Time
  /-- Source MAC address and VLAN tag of a 1000BASE-X request (R260). -/
  src : Nat := 0
  vlan : Option Nat := none
  req : Request
  deriving DecidableEq, Repr

/-- A reply in a transmit queue (R264, R284). -/
structure Reply where
  /-- The packet: header, payload, CRC. -/
  bytes : List Byte
  /-- Destination address and VLAN tag on 1000BASE-X. -/
  dst  : Nat := 0
  vlan : Option Nat := none
  /-- Arrival instant of the request answered. -/
  arr  : Time
  deriving DecidableEq, Repr

/-- The open group of a port (R268). -/
structure OpenGroup where
  /-- Requests served. -/
  count : Nat
  /-- The first failure: status and zero-based index. -/
  failed : Option (Nat × Nat) := none
  /-- What each request logs when the group is accepted: opcode, lane selector, tag, first address (R281). -/
  writes : List (Nat × Nat × Nat × Nat) := []
  /-- The service instant of the last request. -/
  last : Time
  /-- The held lower words of multi-word values as they stood before the group (R402). -/
  low : List RegCell := []
  deriving DecidableEq, Repr

/-- What a background job does when it ends (R283). -/
inductive BgAct where
  /-- MAP_SAVE: lane, whether the blob is returned, the blob (R108). -/
  | mapSave (lane : Nat) (ret : Bool) (blob : List Byte)
  /-- MAP_LOAD from MRAM (R109). -/
  | mapLoad (lane : Nat)
  /-- FW_LOAD of a chunk (R370). -/
  | fwLoad (target offset : Nat) (data : List Byte)
  /-- FW_VERIFY of a region (R371). -/
  | fwVerify (target : Nat)
  /-- BBX_COMMIT (R368). -/
  | bbxCommit
  /-- DETACH (R341). -/
  | detach
  deriving DecidableEq, Repr

/-- A background job under way (R283). -/
structure BgJob where
  q   : QReq
  act : BgAct
  deriving DecidableEq, Repr

/-- A write logged by event 0x0010 or 0x0014 within the last second (R281). -/
structure WriteLog where
  code  : Nat
  op    : Nat
  lane  : Nat
  addr  : Nat
  t     : Time
  /-- Identical requests since, and the instant of the last one. -/
  count : Nat
  last  : Time
  tag   : Nat
  deriving DecidableEq, Repr

/-- One port: 0–3 H0–H3, 4 maintenance (spec/12_command_protocol.md). -/
structure Port where
  /-- `LINK` (R256, R258, R259). Reset down. -/
  link : Bool := false
  /-- The receiver has code-group synchronisation (R258). Reset false. -/
  sync : Bool := false
  /-- Consecutive link-status frames with ready set (R258). Reset 0. -/
  ready : Nat := 0
  /-- The instant of the last link-status frame received, and of the last sent (R258). Reset 0. -/
  statusT : Time := 0
  statusSent : Time := 0
  /-- The receive queue, oldest first (R282). Reset empty. -/
  rx : List QReq := []
  /-- The reply transmit queue, oldest first (R284). Reset empty. -/
  tx : List Reply := []
  /-- The open group (R268). Reset: none. -/
  group : Option OpenGroup := none
  /-- The background job (R283). Reset: none. -/
  bg : Option BgJob := none
  /-- Writes logged within the last second (R281). Reset: none. -/
  logs : List WriteLog := []
  /-- Last instant of events 0x0011, 0x0012, 0x0013, and drops not yet recorded (R263). Reset: none, 0. -/
  dropLog : List (Option Time × Nat) := [(none, 0), (none, 0), (none, 0)]
  /-- The capture buffer: the address of the group's lowest word and its words (R401). Reset: none. -/
  capture : Option (Nat × List Word) := none
  /-- Lower words of multi-word values that wait for their highest word (R402). Reset: none. -/
  lowHeld : List RegCell := []
  /-- What has left the port, newest first: instant and bytes (MODEL's record of the wire). Reset: none. -/
  sent : List (Time × List Byte) := []
  /-- Inbound parts received and not yet accepted, oldest first: instant of the last byte, bytes (R294). Reset empty. -/
  inParts : List (Time × List Byte) := []
  /-- The sequence number of the last accepted part of each index (R294). Reset: none. -/
  inSeq : List (Option Nat) := [none, none]
  /-- The block built at the last output junction: its frame, its parts still to be sent, the bytes of those sent (R297).
  Reset: none. -/
  block : Option (Nat × List (List Byte) × Nat) := none
  deriving DecidableEq, Repr

/-- The state of an Evfo connection (R318). -/
inductive ConnState where
  | idle | wait | ok | fail
  deriving DecidableEq, Repr

/-- One connection (R315–R320). -/
structure Conn where
  /-- `CONN_STATE`. Reset IDLE. -/
  st : ConnState := .idle
  /-- The connection has failed and has not been in OK since (Table 14-3). Reset false. -/
  failed : Bool := false
  /-- `SEQ_IN`, `SEQ_OUT`. Reset 0. -/
  seqIn  : Nat := 0
  seqOut : Nat := 0
  /-- The instant of the last accepted container (R317). Reset 0. -/
  last : Time := 0
  /-- The reference tag, and bytes 16–31 of the outbound payload: opcode, tag, status, data (R320). Reset 0, STATE. -/
  refTag : Nat := 0
  op     : Nat := 0
  tag    : Nat := 0
  status : Nat := 0x60
  data   : List Byte := []
  /-- Last instant of event 0x0B0E (R318). Reset: none. -/
  waitLog : Option Time := none
  deriving DecidableEq, Repr

/-- The safety monitor's view of one lane (R301–R307). -/
structure SafLane where
  /-- `W_ANGLE`, `W_MAG`, and the instant of the newest watch sample; none before the first. Reset 0, none. -/
  theta   : Nat := 0
  mag     : Nat := 0
  sampleT : Option Time := none
  /-- wpos in 2^-16 electrical turn, and its values since the restart, newest first, at most 9 (R302). Reset 0, none. -/
  wpos : Int := 0
  hist : List Int := []
  /-- The next valid sample restarts `W_POS` (R302). Reset true. -/
  restart : Bool := true
  /-- `W_POS` in 2^-32 turn, `W_VEL`. Reset 0. -/
  pos : Int := 0
  vel : Word := 0
  /-- `W_INV`, consecutive valid samples (R303). Reset true, 0. -/
  inv  : Bool := true
  good : Nat := 0
  /-- STO requested by the container (R306). Reset true. -/
  sto : Bool := true
  /-- SS1 requested by the container; its timer's expiry; it has ended (R306). Reset false, none, false. -/
  ss1     : Bool := false
  ss1T    : Option Time := none
  ss1End  : Bool := false
  /-- A STOP variant 1 is due at the next commit (R306). Reset false. -/
  ss1Stop : Bool := false
  /-- SOS active and its P_sos; the SLS code; SDI active, its direction and its extreme (R306). Reset: none active. -/
  sos  : Bool := false
  pSos : Option Int := none
  sls  : Nat := 0
  sdi  : Bool := false
  sdiPos : Bool := false
  sdiM : Option Int := none
  /-- Consecutive samples in violation of SOS, SLS, SDI (R307). Reset 0. -/
  cnt : List Nat := [0, 0, 0]
  /-- A violation of SOS, SLS, SDI has been decided and stands (Table 14-3). Reset false. -/
  caused : List Bool := [false, false, false]
  /-- `VIOL` (Table 14-6). Reset false. -/
  viol : Bool := false
  /-- The references of the cross-comparison with `POS_OFS` at that time; consecutive deviations; `XCMP_FAIL`; `XCMP_DEV`
  (R304). Reset: none, 0, false, 0. -/
  xRef  : Option (Int × Int × Int) := none
  xRun  : Nat := 0
  xFail : Bool := false
  xDev  : Word := 0
  /-- The end of the arming (R321). Reset: none. -/
  armed : Option Time := none
  /-- `PERMIT` at the last output junction (R310). Reset false. -/
  permit : Bool := false
  deriving DecidableEq, Repr

/-- A safety parameter set: the words that differ from zero by word index of the image of R325, in rising order. -/
abbrev ParamSet := List (Nat × Word)

/-- One SI pair (R313). -/
structure SiPair where
  /-- A demand, a discrepancy stands (Table 14-3). Reset false. -/
  demand : Bool := false
  disc   : Bool := false
  /-- Both channels have shown demand together since. Reset false. -/
  both   : Bool := false
  /-- The expiry of the largest `SS1_T` of a demand with function SS1. Reset: none. -/
  ss1T   : Option Time := none
  deriving DecidableEq, Repr

/-- The safety monitor (spec/14_safety.md). Latches and barriers stand in `Crit`. -/
structure Saf where
  lanes : List SafLane := List.replicate 96 {}
  conns : List Conn := List.replicate 16 {}
  pairs : List SiPair := [{}, {}]
  /-- Levels of SI0–SI3 and the instants of their last change (R313). Reset low, 0. -/
  levels : List Bool := [false, false, false, false]
  levelT : List Time := [0, 0, 0, 0]
  /-- The parameter set in force: `PARAM_VALID` (R325). Reset: none. -/
  params : Option ParamSet := none
  /-- The staged set (R326). Reset: all zero. -/
  staged : ParamSet := []
  /-- The MRAM copies, newer first; none: not valid (R325). Reset: none valid. -/
  copies : List (Option ParamSet) := [none, none]
  /-- The connection whose SAFE_PARAM_COMMIT is being written, and the set (R326). Reset: none. -/
  commitBy : Option (Nat × ParamSet) := none
  /-- The last self-test of the group's watch chain failed; its cause stands; the first pass since (R305). Reset false, none. -/
  chainBad   : List Bool := List.replicate 12 false
  chainCause : List Bool := List.replicate 12 false
  chainPass  : List (Option Time) := List.replicate 12 none
  /-- Readback of each SO: 0 agrees, 1 low while on, 2 high while off (R312). Reset 0. -/
  readback : List Nat := List.replicate 12 0
  /-- SO test pulses under way, by start (R312). Reset: none. -/
  pulse : List (Option Time) := List.replicate 12 none
  /-- Device causes latched, in the order of their decision (Table 14-3). Reset: none. -/
  causes : List Nat := []
  /-- The code of the last safety event (Table 14-6). Reset 0. -/
  lastEvt : Nat := 0
  deriving DecidableEq, Repr

/-- The device power states of Table 1-9; OFF has no machine. -/
inductive PowerState where
  | active | economy | parked | dormant
  deriving DecidableEq, Repr

/-- The debug states of Table 15-5. -/
inductive DebugState where
  | closed | observe | openDbg
  deriving DecidableEq, Repr

/-- An outstanding debug nonce (R346). -/
structure Nonce where
  value   : List Byte
  target  : Nat
  expires : Time
  deriving DecidableEq, Repr

/-- Boot, power, pins and debug (spec/15_protection_debug_and_power.md). -/
structure Power where
  /-- The device power state (R338). Reset PARKED (`STATE` reset 2). -/
  st : PowerState := .parked
  /-- The boot has completed and the firmware or the recovery loader runs (R335). Reset false. -/
  booted : Bool := false
  /-- A boot is under way (R335). Reset false. -/
  booting : Bool := false
  /-- The boot ended in recovery (R336). Reset false. -/
  recovery : Bool := false
  /-- `FALLBACK` (R336). Reset false. -/
  fallback : Bool := false
  /-- `RST_CAUSE`: 0 power-on, 1 RESET_N, 2 wake, 3 recovery restart (R351). Reset 0. -/
  rstCause : Nat := 0
  /-- A recovery restart is due at this instant (R336). Reset: none. -/
  restartAt : Option Time := none
  /-- `SETTLING` (R339). Reset false. -/
  settling : Bool := false
  /-- `DETACHED` (R341). Reset false. -/
  detached : Bool := false
  /-- The levels of PRESENT_N and PFAIL_N are active: low (R407). Reset: present, no power failure. -/
  presentLow : Bool := true
  pfailLow : Bool := false
  /-- `WAKE`, the last wake source, and the instant at which it acted or was kept (R343). Reset 0, none. -/
  wake   : Nat := 0
  wakeAt : Option Time := none
  /-- `LAST_CAUSE` (R352). Reset 0. -/
  lastCause : Nat := 0
  /-- An entry to PARKED that acts at the next frame boundary: its `LAST_CAUSE` (R24). Reset: none. -/
  parkPend : Option Nat := none
  /-- DORMANT follows the black-box commit (R338). Reset false. -/
  dormantPend : Bool := false
  /-- A wake source that acted during the entry to DORMANT (R343). Reset: none. -/
  wakeKept : Option Nat := none
  /-- The debug state (R344). Reset CLOSED. -/
  dbg : DebugState := .closed
  /-- The nonce outstanding (R346). Reset: none. -/
  nonce : Option Nonce := none
  /-- EXTEST is in force (R345). Reset false. -/
  extest : Bool := false
  /-- The management core is halted in OPEN (R348). Reset false. -/
  halted : Bool := false
  /-- The SEALED fuse is blown and takes effect at the next boot (R332). Reset false. -/
  sealFuse : Bool := false
  /-- The fused hash of the root public key, 32 bytes (R332). Reset: none. -/
  rootHash : List Byte := []
  /-- The protection image in force in MRAM, its bytes (R334). Reset: none. -/
  image : List Host.Cell := []
  /-- The image in force verified at the last boot (R332). Reset false. -/
  imageOk : Bool := false
  deriving DecidableEq, Repr

/-- One event record of the black box (Table 16-4). -/
structure Event where
  t    : Time
  code : Nat
  kind : Nat
  idx  : Nat
  data : List Byte
  seq  : Nat
  /-- An uncorrectable word lies in the record: it reads with its CRC-16 failing (R356). -/
  bad  : Bool := false
  deriving DecidableEq, Repr

/-- A commit record of Table 16-7 as it was frozen (R364). -/
structure CommitRec where
  kind    : Nat
  merged  : Nat
  late    : Bool := false
  t       : Time
  frmSeq  : Nat
  fwVer   : Word
  slot    : Nat
  power   : Nat
  newest  : Nat
  hours   : Nat
  dieT    : Word
  /-- The newest 1,024 events, oldest first. -/
  events  : List Event
  /-- The 64-byte lane snapshots of the last output junction, 16 words each, in lane order. -/
  snaps   : List (List Word)
  deriving DecidableEq, Repr

/-- A commit trigger that waits: the kind, its first instant, merged fault triggers, and when it falls due (R363, R365). -/
structure CommitWait where
  kind   : Nat
  t      : Time
  merged : Nat
  due    : Time
  deriving DecidableEq, Repr

/-- The black box (R361–R366). -/
structure BlackBox where
  /-- The ring, newest first, at most 4,096 records (R361). Reset empty. -/
  ring : List Event := []
  /-- `BBX_SEQ`, the next sequence number (R366). Reset 0. -/
  nextSeq : Nat := 0
  /-- The instant at which the input queue is empty: one event leaves it every 4 cyc (R362). Reset 0. -/
  queueFree : Time := 0
  /-- Events dropped since the last record (R362). Reset 0. -/
  dropRun : Nat := 0
  /-- The lane snapshots of the last output junction (R364). Reset empty. -/
  snaps : List (List Word) := []
  /-- The commit in progress, `BBX_BUSY` (R364). Reset: none. -/
  running : Option CommitRec := none
  /-- The instant the last commit started (R363). Reset: none. -/
  lastStart : Option Time := none
  /-- A deferred fault commit or one that waits for the management plane (R363, R365). Reset: none. -/
  waiting : Option CommitWait := none
  /-- The commit record in MRAM; none: `BBX_VALID` reads 0 (R364). Reset: none. -/
  commit : Option CommitRec := none
  deriving DecidableEq, Repr

/-- A firmware slot or the staged protection image (R369, R370). -/
structure Region where
  /-- 0 empty, 1 LOADING, 2 loaded, 3 VERIFIED, 4 FAILED (`ST_A`, R377). -/
  st : Nat := 0
  /-- The bytes of the region that differ from zero, by offset (R369). -/
  mem : List Host.Cell := []
  /-- The image is the one the factory loaded, which verifies (MODEL: see the assumption log). -/
  factory : Bool := false
  /-- The SHA-256 digest recorded at the verification (R371), as a value of the opaque hash. -/
  digest : Nat := 0
  deriving DecidableEq, Repr

/-- The switch pause under way (Table 16-9). -/
structure Pause where
  /-- The T0 at which it began. -/
  start : Time
  /-- The slot left and the slot entered. -/
  old : Nat
  new : Nat
  /-- 0 switch, 1 rollback, 2 management restart. -/
  why : Nat
  /-- Event cause for a rollback or restart. -/
  cause : Nat := 0
  /-- The ready deadline has passed; the old working set is being reloaded. -/
  reloading : Bool := false
  deriving DecidableEq, Repr

/-- The odometers of Table 16-2. -/
structure Odometers where
  /-- Operating hours. -/
  hours : Nat := 0
  /-- Thermal hours. -/
  therm : Rat := 0
  /-- Thermal cycles. -/
  cyc : Rat := 0
  /-- Ring-oscillator degradation, ppm. -/
  roDeg : Int := 0
  /-- Highest write count of a block of each of the eight MRAM regions. -/
  mram : List Nat := List.replicate 8 0
  /-- Excitation charge of each group, 0.1 V·s. -/
  exc : List Rat := List.replicate 12 0
  /-- Lifetime corrections of each memory. -/
  ecc : List Nat := List.replicate 10 0
  deriving DecidableEq, Repr

/-- Memory protection, odometers, prediction, firmware slots (spec/16_health_black_box_and_update.md). -/
structure Health where
  /-- Corrections of each memory within the current clock hour (R355). Reset 0. -/
  corrHour : List Nat := List.replicate 10 0
  /-- Operating time in units not yet in `ODO_HOURS` (R358). Reset 0. -/
  hourFrac : Nat := 0
  /-- `DTIME` up to which operating time is counted. Reset 0. -/
  hourFrom : Time := 0
  /-- The odometers as they run (R358). Reset: a device from manufacture. -/
  odo : Odometers := {}
  /-- The last turning point of the die temperature, the extreme since, and the direction of travel (1 rising, -1 falling, 0
  none yet), for the cycle count (R358). Reset: none. -/
  turning : Option (Rat × Rat × Int) := none
  /-- The two MRAM copies of the odometers, the one written last first; none: invalid (R358). Reset: both as manufactured. -/
  odoCopies : List (Option Odometers) := [some {}, some {}]
  /-- Daily values of the four fractions, newest first, at most 90 (R359). Reset empty. -/
  days : List (List Rat) := []
  /-- Days of history held, at most 90 (R359). Reset 0. -/
  dayCount : Nat := 0
  /-- `EOL_WARN` (R360). Reset false. -/
  eolWarn : Bool := false
  /-- The die temperature last delivered, binary32 °C, and the instant up to which thermal hours are counted (R245, R358).
  Reset 0. -/
  dieT : Word := 0
  dieAt : Time := 0
  /-- Uncorrectable configuration and coefficient words still to be rewritten: lane and offset (R356). Reset empty. -/
  badWords : List (Nat × Nat) := []
  /-- Clusters whose tables are being rebuilt (R356). Reset empty. -/
  rebuilding : List Nat := []
  /-- Slots A, B and the staged protection image (R369). Reset: slot A holds the factory firmware, VERIFIED. -/
  regions : List Region := [{ st := 3, factory := true }, {}, {}]
  /-- Version and security version found in slots A, B (R377). -/
  slotVer : List (Word × Nat) := [(0, 0), (0, 0)]
  /-- `REC_SLOT`: the active-slot record (R374). Reset 0 (slot A). -/
  recSlot : Nat := 0
  /-- `RUN_SLOT`: 0 A, 1 B, 3 none (R377). Reset 3: nothing runs before boot. -/
  runSlot : Nat := 3
  /-- End of the probation, while it runs (R374). Reset: none. -/
  probation : Option Time := none
  /-- The slot left at the last switch, to which a rollback returns (R374). Reset 0. -/
  oldSlot : Nat := 0
  /-- The active-slot record is still to be written (R374). Reset false. -/
  recRetry : Bool := false
  /-- The probation mark in MRAM: a switch had begun probation before the reset (R374). Reset false. -/
  probMark : Bool := false
  /-- A rollback or restart that waits for its pause: kind of `Pause.why`, cause (R374, R375). Reset: none. -/
  pause : Option Pause := none
  deriving DecidableEq, Repr

/-- What an accepted request or inbound record stages for a commit junction (R12). -/
inductive Act where
  /-- A staged register word. -/
  | reg (id : RegId) (idx : Nat) (val : Word)
  /-- LANE_PARK (R20). -/
  | park (lane : Nat)
  /-- MAP_LEARN: action and terms (R106). -/
  | mapLearn (lane action terms : Nat)
  /-- MAP_LOAD with a checked map: source 1 MRAM, 2 host blob (R109). -/
  | mapLoad (lane source : Nat) (m : AngleMap)
  /-- PIN_ADJUST (R140). -/
  | pinAdjust (input action : Nat) (value : Int)
  /-- MLS_ARM (R142). -/
  | mlsArm (unit : Nat) (arm : Bool)
  /-- EMU_ALIGN (R160). -/
  | emuAlign (out action : Nat)
  /-- LANE_COMMIT with an admitted structure (R175). -/
  | laneCommit (lane : Nat) (st : LoopStruct)
  /-- COEF_SWAP (R197). -/
  | coefSwap (lane : Nat) (copyBack : Bool)
  /-- A profile command; `all`: a STOP for every lane in RUN; `k`: the frame of a timed command (R229, R230). -/
  | prf (lane : Nat) (cmd : PrfCmd) (all : Bool) (k : Option Nat)
  /-- VMASTER (R223). -/
  | vm (master : Nat) (cmd : VmCmd) (k : Option Nat)
  /-- An inbound record of the lane was accepted (R296). -/
  | inRecord (lane : Nat)
  /-- TRACE_ARM (R205). -/
  | traceArm
  /-- A write of a register word without staging, inside an open group (R268). -/
  | write (id : RegId) (idx : Nat) (val : Word)
  /-- POWER_STATE: the state requested (R338). -/
  | power (target : Nat)
  /-- FW_SWITCH: the slot (R372). -/
  | fwSwitch (slot : Nat)
  deriving DecidableEq, Repr

/-- One accepted staged action that waits for its commit junction (R12, R268). -/
structure Staged where
  /-- The port that staged it. -/
  port : Nat
  /-- The instant of acceptance. -/
  acc  : Time
  /-- It belongs to the open group of its port, and is not accepted yet (R268). -/
  inGroup : Bool := false
  /-- A commit junction held it, because its condition is not met: `CFG_HELD` shows it. -/
  held : Bool := false
  act  : Act
  deriving DecidableEq, Repr

/-- One lane. -/
structure Lane where
  /-- The lane state (R17). Reset OFF. -/
  st : LaneState := .off
  /-- `FAULT_CODE` (R19). Reset 0. -/
  faultCode : Nat := 0
  /-- The fault causes recorded since the lane entered FAULT (R403). Reset: none. -/
  causes : List Cause := []
  /-- `REQ_RESULT` (R20). Reset 0. -/
  reqResult : Nat := 0
  /-- `FRAME_LATE` and the consecutive late frames (R42, R43). Reset 0. -/
  frameLate : Bool := false
  lateRun : Nat := 0
  acq : Acq := {}
  trk : Tracker := {}
  map : MapSt := {}
  /-- Loop cascade (spec/08, spec/09). -/
  loop : LoopLane := {}
  /-- Profile generator (spec/10). -/
  prf : PrfLane := {}
  /-- The computation of the running frame that has not completed (R42). Reset: none. -/
  work : Option LaneWork := none
  /-- Commits since an inbound record last took effect, `IN_LOST` (R296). Reset 0, false. -/
  inAge  : Nat := 0
  inLost : Bool := false
  deriving DecidableEq, Repr

/-- The state that decides safety and that few operations touch. -/
structure Crit where
  /-- Bit n set: the barrier of lane n is up (R21). Reset: every barrier down (R22). -/
  barrierUp : BitVec 96 := 0
  /-- Bit g set: the reaction latch of group g, `SO_LATCH` (R308). Reset: all set. -/
  soLatch : BitVec 12 := 0xFFF
  /-- `DEV_LATCH` (R308). Reset false. -/
  devLatch : Bool := false
  /-- The SEALED fuse as the running boot read it (R331). Reset false: UNSEALED. -/
  sealed : Bool := false
  deriving DecidableEq, Repr

/-- What the RO words of the lane blocks are read from by LANE_READ: the device at the last output junction (R275). -/
structure Shadow where
  seq    : Nat
  regs   : RegFile
  lanes  : List Lane
  staged : List Staged
  saf    : Saf
  deriving DecidableEq, Repr

/-- The device: everything but the queue of waiting commands. -/
structure Dev where
  /-- `DTIME` (R27). Reset 0. -/
  now : Time := 0
  crit : Crit := {}
  /-- The register words that differ from their reset value. Reset: none. -/
  regs : RegFile := []
  /-- What events added to W1C bits and RC counts in the core cycle `freshAt`, which a clearing in that cycle leaves (R7). Reset:
  none, 0. -/
  fresh : RegFile := []
  freshAt : Nat := 0
  /-- Accepted staged writes, oldest first (R12). Reset: none. -/
  staged : List Staged := []
  /-- Free values drawn so far (MODEL's own: see the assumption log). Reset 0. -/
  freeCtr : Nat := 0
  /-- 0 GK9600-A96, 1 GK9600-A48 (R1). Reset 0. -/
  variant : Nat := 0
  time : TimeSt := {}
  lanes : List Lane := List.replicate 96 {}
  groups : List Group := List.replicate 12 {}
  bbx : BlackBox := {}
  hlt : Health := {}
  ports : List Port := List.replicate 5 {}
  /-- The port at which the interpreter's next round starts (R282). Reset H0. -/
  serveNext : Nat := 0
  pwr : Power := {}
  pins : List PulseIn := List.replicate 32 {}
  mls : List MlsUnit := List.replicate 32 {}
  emus : List EmuOut := List.replicate 24 {}
  clusters : List Cluster := List.replicate 4 {}
  vms : List VMaster := List.replicate 8 {}
  pfe : List PfeCh := List.replicate 8 {}
  trc : Trace := {}
  saf : Saf := {}
  /-- The device at the last output junction (R275). Reset: none. -/
  ro : Option Shadow := none
  deriving DecidableEq, Repr

/-- The machine: the waiting commands, first in first out, and the device. -/
structure State where
  pending : List Instr := []
  dev : Dev := {}
  deriving DecidableEq, Repr

/-- The machine at RESET_N release, before the boot (R22, R27, R335). -/
def State.reset : State := {}

end Sys2Proof.Machine
end

