-- ==== Sys2Proof/Machine/Ops.lean ====
section
/-! DEFINITION. The named operations over the state that every family shares: register words, staged writes, the clock, free
values, black-box events and commits, lane faults. -/
namespace Sys2Proof.Machine

/-- Run an operation of the device and answer the next state; the queue of waiting commands is not touched. -/
def onDev (s : State) (f : Dev → Dev) : Host.Outcome State Fault Refusal := .next { s with dev := f s.dev }

/-- As `onDev`, where the unit named exists; otherwise the event cannot occur. -/
def onUnit (present : Dev → Bool) (s : State) (f : Dev → Dev) : Host.Outcome State Fault Refusal :=
  if present s.dev then onDev s f else .fault .absentUnit

/-! ### Variants (R1, R3) -/

/-- Lanes present. -/
def Dev.laneCount (d : Dev) : Nat := if d.variant = 0 then 96 else 48
/-- Excitation groups and STO outputs present. -/
def Dev.groupCount (d : Dev) : Nat := if d.variant = 0 then 12 else 6
/-- Clusters present. -/
def Dev.clusterCount (d : Dev) : Nat := if d.variant = 0 then 4 else 2
/-- Pulse inputs and milestone units present. -/
def Dev.pinCount (d : Dev) : Nat := if d.variant = 0 then 32 else 16
/-- Lane `n` is present. -/
def hasLane (n : Nat) (d : Dev) : Bool := decide (n < d.laneCount)
/-- Group `g` is present. -/
def hasGroup (g : Nat) (d : Dev) : Bool := decide (g < d.groupCount)
/-- Pulse input or milestone unit `i` is present. -/
def hasPin (i : Nat) (d : Dev) : Bool := decide (i < d.pinCount)
/-- Cluster `c` is present. -/
def hasCluster (c : Nat) (d : Dev) : Bool := decide (c < d.clusterCount)
/-- The group of lane `n` (R3). -/
def groupOf (n : Nat) : Nat := n / 8
/-- The cluster of lane `n` (R3). -/
def clusterOf (n : Nat) : Nat := n / 24
/-- The bank of its cluster's lane memory in which the memory of lane `n` lies (R3). -/
def bankOf (n : Nat) : Nat := n % 8

/-! ### Register words -/

/-- Order of the cells: by register, then by index. -/
def cellLt (i : RegId) (k : Nat) (c : RegCell) : Bool :=
  decide (i.ctorIdx < c.id.ctorIdx) || (decide (i = c.id) && decide (k < c.idx))

/-- The reset value of word `k` of register `i`: the table's, and c_10 of a process channel (R245, R254). -/
def resetOf (i : RegId) (k : Nat) : Word :=
  if i = .pfeCoef ∧ k % 24 = 1 then 0x3F800000 else i.info.reset

/-- The value of word `k` of register `i`. -/
def RegFile.get (f : RegFile) (i : RegId) (k : Nat) : Word :=
  match f with
  | [] => resetOf i k
  | c :: rest => if c.id = i ∧ c.idx = k then c.val else RegFile.get rest i k

/-- Put a cell in its place in the order. -/
def RegFile.insert (f : RegFile) (i : RegId) (k : Nat) (v : Word) : RegFile :=
  match f with
  | [] => [⟨i, k, v⟩]
  | c :: rest => if cellLt i k c then ⟨i, k, v⟩ :: c :: rest else c :: RegFile.insert rest i k v

/-- Set word `k` of register `i`: its cell is in its place, and there is none where the value is the reset value. -/
def RegFile.set (f : RegFile) (i : RegId) (k : Nat) (v : Word) : RegFile :=
  let g : RegFile := f.filter fun c => !(decide (c.id = i) && decide (c.idx = k))
  if v = resetOf i k then g else RegFile.insert g i k v

/-- Word `k` of register `i`. -/
def Dev.reg (d : Dev) (i : RegId) (k : Nat) : Word := d.regs.get i k

/-- Set word `k` of register `i`. -/
def Dev.setReg (d : Dev) (i : RegId) (k : Nat) (v : Word) : Dev := { d with regs := d.regs.set i k v }

/-- The field of `n` bits at bit `lo` of word `k` of register `i`. -/
def Dev.fld (d : Dev) (i : RegId) (k lo n : Nat) : Nat := field (d.reg i k) lo n

/-- Set that field. -/
def Dev.setFld (d : Dev) (i : RegId) (k lo n v : Nat) : Dev := d.setReg i k (withField (d.reg i k) lo n v)

/-- The bit `b` of word `k` of register `i`. -/
def Dev.regBit (d : Dev) (i : RegId) (k b : Nat) : Bool := bit (d.reg i k) b

/-- What the events of this core cycle added to word `k` of register `i`: its W1C bits and RC counts (R7). -/
def Dev.freshWord (d : Dev) (i : RegId) (k : Nat) : Word :=
  if d.freshAt = d.now / 20 then ((d.fresh.find? fun c => c.id = i ∧ c.idx = k).map (·.val)).getD 0 else 0

/-- An event of this core cycle adds to word `k` of register `i` (R7). -/
def Dev.noteFresh (d : Dev) (i : RegId) (k : Nat) (f : Word → Word) : Dev :=
  let v := f (d.freshWord i k)
  let l : RegFile := if d.freshAt = d.now / 20 then d.fresh else []
  { d with freshAt := d.now / 20, fresh := ⟨i, k, v⟩ :: l.filter fun c => !(decide (c.id = i) && decide (c.idx = k)) }

/-- Set bit `b`: the event of a sticky flag. -/
def Dev.setFlag (d : Dev) (i : RegId) (k b : Nat) : Dev :=
  (d.setReg i k (d.reg i k ||| bitAt b true)).noteFresh i k fun w => w ||| bitAt b true

/-- Set a sticky flag where the condition holds. -/
def Dev.setFlagIf (d : Dev) (c : Bool) (i : RegId) (k b : Nat) : Dev := if c then d.setFlag i k b else d

/-- Add to a saturating counter field of `n` bits at bit `lo`. -/
def Dev.addCnt (d : Dev) (i : RegId) (k lo n : Nat) (by_ : Nat := 1) : Dev :=
  (d.setFld i k lo n (satNat n (d.fld i k lo n + by_))).noteFresh i k fun w => withField w lo n (satNat n (field w lo n + by_))

/-- Raise a field of `n` bits at bit `lo` that holds the largest value since its last read (R7). -/
def Dev.maxFld (d : Dev) (i : RegId) (k lo n v : Nat) : Dev :=
  (d.setFld i k lo n (max (d.fld i k lo n) v)).noteFresh i k fun w => withField w lo n (max (field w lo n) v)

/-- The binary32 value of a register word. -/
def Dev.regF (d : Dev) (i : RegId) (k : Nat) : Rat := f32 (d.reg i k)

/-- The 64-bit value of words 2k and 2k+1. -/
def Dev.reg64 (d : Dev) (i : RegId) (k : Nat) : Nat := (d.reg i (2 * k)).toNat + (d.reg i (2 * k + 1)).toNat * 2 ^ 32

/-- Set the 64-bit value of words 2k and 2k+1. -/
def Dev.setReg64 (d : Dev) (i : RegId) (k : Nat) (v : Nat) : Dev :=
  (d.setReg i (2 * k) (BitVec.ofNat 32 v)).setReg i (2 * k + 1) (BitVec.ofNat 32 (v / 2 ^ 32))

/-! ### Units -/

/-- Lane `n`. -/
def Dev.lane (d : Dev) (n : Nat) : Lane := d.lanes.getD n {}
/-- Change lane `n`. -/
def Dev.onLane (d : Dev) (n : Nat) (f : Lane → Lane) : Dev := { d with lanes := d.lanes.modify n f }
/-- Excitation group `g`. -/
def Dev.group (d : Dev) (g : Nat) : Group := d.groups.getD g {}
/-- Change group `g`. -/
def Dev.onGroup (d : Dev) (g : Nat) (f : Group → Group) : Dev := { d with groups := d.groups.modify g f }
/-- Change the time block. -/
def Dev.onTime (d : Dev) (f : TimeSt → TimeSt) : Dev := { d with time := f d.time }
/-- Change the black box. -/
def Dev.onBbx (d : Dev) (f : BlackBox → BlackBox) : Dev := { d with bbx := f d.bbx }
/-- Change health and update. -/
def Dev.onHlt (d : Dev) (f : Health → Health) : Dev := { d with hlt := f d.hlt }
/-- Change power and debug. -/
def Dev.onPwr (d : Dev) (f : Power → Power) : Dev := { d with pwr := f d.pwr }
/-- Change the acquisition of lane `n`. -/
def Dev.onAcq (d : Dev) (n : Nat) (f : Acq → Acq) : Dev := d.onLane n fun l => { l with acq := f l.acq }
/-- Change the tracker of lane `n`. -/
def Dev.onTrk (d : Dev) (n : Nat) (f : Tracker → Tracker) : Dev := d.onLane n fun l => { l with trk := f l.trk }
/-- Change the map of lane `n`. -/
def Dev.onMap (d : Dev) (n : Nat) (f : MapSt → MapSt) : Dev := d.onLane n fun l => { l with map := f l.map }

/-- Run an operation for each unit number of a list. -/
def Dev.forEach (d : Dev) (l : List Nat) (f : Nat → Dev → Dev) : Dev := l.foldl (fun e n => f n e) d

/-- Run an operation where a condition holds. -/
def Dev.when (d : Dev) (c : Bool) (f : Dev → Dev) : Dev := if c then f d else d

/-- Run an operation on the value of an option. -/
def Dev.whenSome {α : Type} (d : Dev) (o : Option α) (f : α → Dev → Dev) : Dev :=
  match o with
  | some a => f a d
  | none => d

/-- The lanes present. -/
def Dev.laneList (d : Dev) : List Nat := List.range d.laneCount
/-- The lanes of group `g`. -/
def lanesOfGroup (g : Nat) : List Nat := (List.range 8).map (fun i => 8 * g + i)
/-- The lanes of cluster `c`. -/
def lanesOfCluster (c : Nat) : List Nat := (List.range 24).map (fun i => 24 * c + i)

/-! ### The clock -/

/-- `DTIME` after an event at `t`: an event never moves the clock back, and the count has 64 bits (R27). -/
def instant (now t : Time) : Time := max now t % 2 ^ 64

/-- Move the clock to the instant of an event. -/
def Dev.at (d : Dev) (t : Time) : Dev := { d with now := instant d.now t }

/-- A stamp in the time that a step of `DTIME` leaves; one that lies before zero there becomes zero. -/
def shiftStamp (step : Int) (t : Time) : Time := ((t : Int) + step).toNat

/-- Draw the next free value: a value that the spec leaves open. -/
def Dev.free (d : Dev) : Word × Dev := (Config.freeValue d.freeCtr, { d with freeCtr := d.freeCtr + 1 })

/-- An event of the running device at instant `t`: nothing comes of it before the boot has completed and in DORMANT. -/
def onEvent (present : Dev → Bool) (s : State) (t : Time) (f : Dev → Dev) : Host.Outcome State Fault Refusal :=
  onUnit present s fun d => let d := d.at t; if d.pwr.booted && d.pwr.st ≠ .dormant then f d else d

/-- A device-wide event. -/
def always (_ : Dev) : Bool := true

/-! ### Lane states -/

/-- The code of a lane state (Table 1-5). -/
def LaneState.code : LaneState → Nat
  | .off => 0 | .layby => 1 | .track => 2 | .run => 3 | .fault => 4

/-- The lane is in TRACK or RUN. -/
def LaneState.up (s : LaneState) : Bool := s = .track || s = .run

/-- Lane `n` is in TRACK or RUN. -/
def Dev.laneUp (d : Dev) (n : Nat) : Bool := (d.lane n).st.up

/-- Some lane is in RUN. -/
def Dev.anyRun (d : Dev) : Bool := d.laneList.any fun n => (d.lane n).st = .run

/-- Some lane is in TRACK or RUN. -/
def Dev.anyUp (d : Dev) : Bool := d.laneList.any d.laneUp

/-- The barrier of lane `n` is up. -/
def Dev.barrierUp (d : Dev) (n : Nat) : Bool := d.crit.barrierUp.getLsbD n

/-- The group of the lane is RUNNING (R52). -/
def Dev.groupRunning (d : Dev) (n : Nat) : Bool := (d.group (groupOf n)).gen = .running

/-- `LOS_CAUSE` of lane `n` (R52, R66). -/
def Dev.losCause (d : Dev) (n : Nat) : Nat :=
  if d.groupRunning n then (d.lane n).acq.causes.headD 0
  else if (d.group (groupOf n)).short then 5 else 6

/-- `LOS` of lane `n` is set. -/
def Dev.los (d : Dev) (n : Nat) : Bool := d.losCause n ≠ 0

/-- `LOCK_LOST` of lane `n` is set (R81). -/
def Dev.lockLost (d : Dev) (n : Nat) : Bool := (d.lane n).trk.lockCause ≠ 0

/-! ### Power and management -/

/-- The code of a power state (R338). -/
def PowerState.code : PowerState → Nat
  | .active => 0 | .economy => 1 | .parked => 2 | .dormant => 3

/-- The code of a debug state (R352). -/
def DebugState.code : DebugState → Nat
  | .closed => 0 | .observe => 1 | .openDbg => 2

/-- The device runs: booted and not DORMANT. -/
def Dev.alive (d : Dev) : Bool := d.pwr.booted && d.pwr.st ≠ .dormant

/-- The management plane works: alive, no pause under way, core not halted (R9, R348, R373). -/
def Dev.mgmtUp (d : Dev) : Bool := d.alive && d.hlt.pause.isNone && !d.pwr.halted

/-- The version of the running firmware; zero in recovery (R400). -/
def Dev.fwVersion (d : Dev) : Word :=
  if d.pwr.recovery then 0 else (d.hlt.slotVer.getD d.hlt.runSlot (0, 0)).1

/-- Port `p`. -/
def Dev.port (d : Dev) (p : Nat) : Port := d.ports.getD p {}
/-- Change port `p`. -/
def Dev.onPort (d : Dev) (p : Nat) (f : Port → Port) : Dev := { d with ports := d.ports.modify p f }

/-- The generation of port `p` (Table 12-1): Worost link 2, 1000BASE-X 3, maintenance 1. -/
def Dev.portGen (d : Dev) (p : Nat) : Nat :=
  if p = 4 then 1 else if d.fld .hpCtrl p 0 2 = 1 then 2 else 3

/-- The MAC address of host port `p`, its six bytes as they are sent (`HP_MAC`, Table 12-7). -/
def macBytes (p : Nat) : List Byte := beBytes 6 (Config.mac0 + p)

/-- The port may receive and transmit: enabled, link up (R256). -/
def Dev.portUp (d : Dev) (p : Nat) : Bool := d.alive && d.regBit .hpCtrl p 4 && (p = 4 || (d.port p).link)

/-! ### Staged actions (R12, R268) -/

/-- Stage an action, accepted now; inside an open group it waits for the group's end. -/
def Dev.stage (d : Dev) (port : Nat) (inGroup : Bool) (a : Act) : Dev :=
  { d with staged := d.staged ++ [{ port := port, acc := d.now, inGroup := inGroup, act := a }] }

/-- Arrival at `t` against an expiry: an arrival in the core cycle of the expiry is on time (R40). Core cycles begin at the
multiples of 20 units of `DTIME` (DESIGN CHOICE, log 128). -/
def arrivesBy (t expiry : Time) : Bool := decide (t / 20 ≤ expiry / 20)

/-- The actions a commit junction at `t0` takes (R12, R40): accepted no later than the cycle of the cutoff, not in an open
group. -/
def Staged.due (t0 cutoff : Nat) (s : Staged) : Bool := !s.inGroup && decide (cutoff ≤ t0) && arrivesBy s.acc (t0 - cutoff)

/-- The register word that a staged action writes, if it is one. -/
def Staged.regOf (s : Staged) : Option (RegId × Nat × Word) :=
  match s.act with
  | .reg i k v => some (i, k, v)
  | _ => none

/-- Of several staged writes to one word, the last (R12). -/
def lastWins : List Staged → List Staged
  | [] => []
  | s :: rest =>
    let later := rest.any fun r => match s.regOf, r.regOf with
      | some (i, k, _), some (j, l, _) => i = j && k = l
      | _, _ => false
    if later then lastWins rest else s :: lastWins rest

/-- Apply the staged words of one unit at a commit junction. Bits that `hold` masks keep their value, and the write stays
staged with its held mark. A set that fails `ok` is taken word by word; each word that fails is refused with `err`. -/
def Dev.commitRegs (d : Dev) (es : List Staged) (hold : RegId → Nat → Word → Word) (ok : Dev → Bool) (err : Dev → Dev) :
    Dev :=
  let es := lastWins es
  let put (e : Dev) (s : Staged) : Dev := match s.regOf with
    | some (i, k, v) => let m := hold i k v; e.setReg i k ((v &&& ~~~m) ||| (d.reg i k &&& m))
    | none => e
  let kept := es.filter fun s => match s.regOf with
    | some (i, k, v) => (v ^^^ d.reg i k) &&& hold i k v ≠ 0
    | none => false
  let all := es.foldl put d
  let d' := if ok all then all else es.foldl (fun e s => let f := put e s; if ok f then f else err e) d
  { d' with staged := kept.map (fun s => { s with held := true }) ++ d'.staged }

/-- As `commitRegs`, but a set that fails `ok` is refused whole, and the unit keeps its previous settings. -/
def Dev.commitSet (d : Dev) (es : List Staged) (hold : RegId → Nat → Word → Word) (ok : Dev → Bool) (err : Dev → Dev) : Dev :=
  let e := d.commitRegs es hold (fun _ => true) id
  if ok e then e else err d

/-- A staged write of register `i`, word `k`, is held. -/
def Dev.isHeld (d : Dev) (p : RegId → Nat → Bool) : Bool :=
  d.staged.any fun s => s.held && match s.regOf with
    | some (i, k, _) => p i k
    | none => false

/-! ### Black box (R361–R366) -/

/-- Four bytes of an event's data. -/
def ev4 (v : Nat) : List Byte := leBytes 4 v
/-- Four bytes of a signed item of an event's data. -/
def evI (v : Int) : List Byte := leBytes 4 (unsigned 32 v)
/-- Eight bytes of an event's data. -/
def ev8 (v : Nat) : List Byte := leBytes 8 v

/-- Source kinds of Table 16-5. -/
def kDevice : Nat := 0
def kLane : Nat := 1
def kPort : Nat := 2
def kGroup : Nat := 3
def kPulse : Nat := 4
def kMls : Nat := 5
def kEmu : Nat := 6
def kPfe : Nat := 7
def kConn : Nat := 8
def kCluster : Nat := 9
def kVm : Nat := 10
def kDebug : Nat := 11
def kSi : Nat := 12

/-- An event of the core cycle of `t` that stands behind one of source `kind`, `idx` in the order of R361. -/
def Event.behind (e : Event) (t : Time) (kind idx : Nat) : Bool :=
  decide (e.t / 20 = t / 20) && (decide (kind < e.kind) || (decide (kind = e.kind) && decide (idx < e.idx)))

/-- Put one record into the ring: behind every earlier one, but within a core cycle by ascending source kind, then index, with
the sequence numbers in that order; the record of a run of drops stands first after it (R361, R362). -/
def BlackBox.push (b : BlackBox) (t : Time) (code kind idx : Nat) (data : List Byte) : BlackBox :=
  let late : List Event := if code = 0x0C10 then [] else b.ring.takeWhile fun e => e.behind t kind idx
  let e : Event := ⟨t, code, kind, idx, padTo 16 data, (b.nextSeq + 65536 - late.length) % 65536, false⟩
  { b with ring := (late.map (fun (x : Event) => { x with seq := (x.seq + 1) % 65536 }) ++ e :: b.ring.drop late.length).take 4096,
           nextSeq := (b.nextSeq + 1) % 65536 }

/-- Deliver an event to the black box at the present instant: one event leaves the queue of 64 every 4 cyc, an event that
finds it full is dropped, and the first record after a run of drops is 0x0C10 (R361, R362). -/
def Dev.logEvent (d : Dev) (code kind idx : Nat) (data : List Byte) : Dev :=
  let b := d.bbx
  if b.queueFree ≥ d.now + 64 * 80 then
    (d.onBbx fun b => { b with dropRun := b.dropRun + 1 }).addCnt .bbxStat 0 16 16
  else
    d.onBbx fun b =>
      let b := if b.dropRun = 0 then b
               else { b.push d.now 0x0C10 kDevice 0 (ev4 b.dropRun) with dropRun := 0 }
      { b.push d.now code kind idx data with queueFree := max b.queueFree d.now + 80 }

/-- Count a write to MRAM region `r` (R358). -/
def Dev.mramWrite (d : Dev) (r : Nat) : Dev :=
  d.onHlt fun h => { h with odo := { h.odo with mram := h.odo.mram.modify r (· + 1) } }

/-- Units of one hour. -/
def unitsPerHour : Nat := 3600 * unitsPerSec

/-- Count the operating time up to now into the hours (R358). -/
def Dev.countHours (d : Dev) : Dev :=
  d.onHlt fun h =>
    let f := h.hourFrac + (d.now - h.hourFrom)
    { h with hourFrac := f % unitsPerHour, hourFrom := d.now, odo := { h.odo with hours := h.odo.hours + f / unitsPerHour } }

/-- Write the odometers to the older of their two MRAM copies (R358). -/
def Dev.saveOdo (d : Dev) : Dev :=
  (d.countHours.mramWrite 6).onHlt fun h => { h with odoCopies := [some h.odo, h.odoCopies.headD none] }

/-- The commit record as frozen now (R364, Table 16-7). -/
def Dev.freeze (d : Dev) (kind : Nat) (t : Time) (merged : Nat) : CommitRec :=
  { kind := kind, merged := merged, t := t, frmSeq := (d.time.k.getD 0) % 2 ^ 32, fwVer := d.fwVersion,
    slot := if d.pwr.recovery then 0xFF else d.hlt.runSlot, power := d.pwr.st.code,
    newest := (d.bbx.nextSeq + 65535) % 65536, hours := d.hlt.odo.hours, dieT := d.hlt.dieT,
    events := (d.bbx.ring.take 1024).reverse, snaps := d.bbx.snaps }

/-- Start a commit: the header is invalidated, the image frozen, the odometers saved (R358, R364). -/
def Dev.startCommit (d : Dev) (kind : Nat) (t : Time) (merged : Nat) : Dev :=
  let r := d.freeze kind t merged
  ((d.onBbx fun b => { b with running := some r, lastStart := some d.now, waiting := none, commit := none }).mramWrite 5).saveOdo

/-- A commit trigger of Table 16-6a at the present instant (R363, R364, R365). -/
def Dev.bbxTrigger (d : Dev) (kind : Nat) : Dev :=
  match d.bbx.running with
  | some r =>
    if kind = 1 ∨ kind = 2 then d.onBbx fun b => { b with running := some { r with late := true }, waiting := none }
    else if kind = 5 then
      let due := (d.bbx.lastStart.getD d.now) + 10 * unitsPerSec
      d.onBbx fun b => { b with waiting := match b.waiting with
        | some w => some (if w.kind = 5 then { w with merged := w.merged + 1 } else w)
        | none => some ⟨5, d.now, 0, due⟩ }
    else d.onBbx fun b => { b with waiting := some ⟨kind, d.now, 0, d.now⟩ }
  | none =>
    if kind = 5 then
      match d.bbx.waiting with
      | some w => d.onBbx fun b => { b with waiting := some (if w.kind = 5 then { w with merged := w.merged + 1 } else w) }
      | none =>
        let due := match d.bbx.lastStart with
          | some s => if d.now < s + 10 * unitsPerSec then s + 10 * unitsPerSec else d.now
          | none => d.now
        if due ≤ d.now ∧ d.mgmtUp then d.startCommit 5 d.now 0
        else d.onBbx fun b => { b with waiting := some ⟨5, d.now, 0, due⟩ }
    else if d.mgmtUp then d.startCommit kind d.now 0
    else d.onBbx fun b => { b with waiting := some (match b.waiting with
      | some w => if w.kind < kind then w else ⟨kind, d.now, 0, d.now⟩
      | none => ⟨kind, d.now, 0, d.now⟩) }

/-- Start the commit that waits, if it is due and the management plane works (R363, R365). -/
def Dev.runWaitingCommit (d : Dev) : Dev :=
  match d.bbx.waiting with
  | some w =>
    if w.due ≤ d.now ∧ d.mgmtUp ∧ d.bbx.running.isNone then d.startCommit w.kind w.t w.merged else d
  | none => d

/-! ### Lane faults (R18, R19, R403) -/

/-- A lane fault: the lane enters FAULT at once, or records a further cause in FAULT; a lane in OFF takes none. -/
def Dev.laneFault (d : Dev) (n code : Nat) (arg : Nat := 0) : Dev :=
  let l := d.lane n
  if l.st = .off then d
  else if l.st = .fault then
    d.onLane n fun l => { l with faultCode := code, causes := l.causes ++ [⟨code, d.now, arg⟩] }
  else
    (d.onLane n fun l => { l with st := .fault, faultCode := code, causes := [⟨code, d.now, arg⟩] }).bbxTrigger 5

/-! ### Words of lane memory rewritten by the host (R356) -/

/-- Words of lane memory are rewritten. -/
def Dev.rewritten (d : Dev) (ws : List (Nat × Nat)) : Dev :=
  if d.hlt.badWords = [] then d else d.onHlt fun h => { h with badWords := h.badWords.filter fun w => !ws.contains w }

/-- The words of bank `b` of a lane that hold `count` items of a set from `first` on: sections of 24 bytes, then the gains. -/
def coefWords (n b set first count : Nat) : List (Nat × Nat) :=
  (List.range (if set = 0 then 6 * count else count)).map fun i =>
    (n, 0x400 + 0x400 * b + 4 * i + (if set = 0 then 24 * first else 768 + 4 * first))

/-- The words of bank `b` of a lane. -/
def bankWords (n b : Nat) : List (Nat × Nat) := coefWords n b 0 0 32 ++ coefWords n b 1 0 15

end Sys2Proof.Machine
end

