-- ==== Sys2Proof/Machine/Operands.lean ====
section
/-! DEFINITION. What the commands and events take as operands from several units at once: carrier and tracker constants, the
position, velocity and acceleration of a lane from its present feedback, the position and validity of a pulse input, the
outputs that serve a lane (R39, R75, R84, R121, R122, R156). -/
namespace Sys2Proof.Machine

/-- Change pulse input `i`. -/
def Dev.onPin (d : Dev) (i : Nat) (f : PulseIn → PulseIn) : Dev := { d with pins := d.pins.modify i f }
/-- Pulse input `i`. -/
def Dev.pin (d : Dev) (i : Nat) : PulseIn := d.pins.getD i {}
/-- Change milestone unit `j`. -/
def Dev.onMls (d : Dev) (j : Nat) (f : MlsUnit → MlsUnit) : Dev := { d with mls := d.mls.modify j f }
/-- Milestone unit `j`. -/
def Dev.mlsUnit (d : Dev) (j : Nat) : MlsUnit := d.mls.getD j {}
/-- Change output `o`. -/
def Dev.onEmu (d : Dev) (o : Nat) (f : EmuOut → EmuOut) : Dev := { d with emus := d.emus.modify o f }
/-- Output `o`. -/
def Dev.emu (d : Dev) (o : Nat) : EmuOut := d.emus.getD o {}

/-! ### Carrier -/

/-- The carrier frequency of group `g` in Hz (R46). -/
def Dev.carrier (d : Dev) (g : Nat) : Rat := mkRat ((d.reg .excFreq g).toNat * 6250000 : Nat) (2 ^ 32)

/-- The carrier period of group `g` in units. -/
def Dev.carrierPeriod (d : Dev) (g : Nat) : Rat := 4000000000 / d.carrier g

/-! ### Outputs that serve a lane -/

/-- `SRC` of output `o` (R145). -/
def Dev.emuSrc (d : Dev) (o : Nat) : Nat := d.fld .emuCtrl o 0 2
/-- Counts per turn of output `o` (R146). -/
def Dev.emuRes (d : Dev) (o : Nat) : Nat := d.fld .emuRes o 0 20 + 1
/-- The lane of output `o`. -/
def Dev.emuLane (d : Dev) (o : Nat) : Nat := d.fld .emuLane o 0 7
/-- The outputs assigned to lane `n`. -/
def Dev.emusOf (d : Dev) (n : Nat) : List Nat := (List.range 24).filter fun o => d.emuLane o = n
/-- The output that gives lane `n` its feedback by `STEP_FB`, if one does (R156). -/
def Dev.stepFb (d : Dev) (n : Nat) : Option Nat :=
  (d.emusOf n).find? fun o => d.emuSrc o = 2 && d.regBit .emuCtrl o 8

/-! ### Pulse inputs (R121, R122) -/

/-- The mode of input `i` (Table 6-1). -/
def Dev.pinMode (d : Dev) (i : Nat) : Nat := d.fld .pinCtrl i 0 4
/-- Input `i` counts edges: modes 1–3. -/
def Dev.pinCounts (d : Dev) (i : Nat) : Bool := 1 ≤ d.pinMode i && d.pinMode i ≤ 3
/-- Input `i` is serial: modes 5 and 6. -/
def Dev.pinSerial (d : Dev) (i : Nat) : Bool := d.pinMode i = 5 || d.pinMode i = 6
/-- Counts per turn of input `i` (R121). -/
def Dev.pinCpt (d : Dev) (i : Nat) : Nat :=
  if d.pinSerial i then 2 ^ d.fld .serFmt i 12 6 else d.fld .pinCpt i 0 24 + 1
/-- The input is valid (R122). -/
def Dev.pinValid (d : Dev) (i : Nat) : Bool :=
  let p := d.pin i
  (d.pinCounts i || d.pinSerial i) && !(p.wireA || p.wireB || p.wireZ) && !p.lost && !(d.pinSerial i && p.serInvalid)
/-- The source position of a count, Q32.32 (R121). -/
def Dev.sourcePos (d : Dev) (i : Nat) (count : Rat) : Int :=
  wrapInt 64 (roundEven (count * 2 ^ 32 / (d.pinCpt i : Rat)))
/-- The count at `t` of a serial source, extrapolated linearly from its two newest valid transfers (R38). -/
def Dev.serialCount (d : Dev) (i : Nat) (t : Time) : Rat :=
  let p := d.pin i
  match p.transfers with
  | (t1, c1) :: (t0, c0) :: _ =>
    if t0 < t1 then c1 + ((c1 - c0 : Int) : Rat) * (((t : Int) - t1 : Int) : Rat) / ((t1 - t0 : Nat) : Rat) else c1
  | _ => p.count
/-- The source position of input `i` at `t` (R121, R38). -/
def Dev.pinPosAt (d : Dev) (i : Nat) (t : Time) : Int :=
  d.sourcePos i (if d.pinSerial i then d.serialCount i t else d.pin i |>.count)

/-! ### Lanes -/

/-- Pole pairs of lane `n`. -/
def Dev.poles (d : Dev) (n : Nat) : Nat := d.fld .trkCtrl n 0 4 + 1
/-- The sign of `DIR`. -/
def Dev.dirSign (d : Dev) (n : Nat) : Int := if d.regBit .trkCtrl n 8 then -1 else 1
/-- The lane position of R75 for a given θ̂. -/
def Dev.posOfTheta (d : Dev) (n : Nat) (th : Int) : Int :=
  let z : Int := (d.fld .trkZero n 0 24 * 256 : Nat)
  wrapInt 64 (d.dirSign n * roundEven (mkRat (th - z) (d.poles n)) + (d.lane n).trk.posOfs)
/-- Mechanical velocity in turns/s of an electrical velocity in 2^-24 turns/s. -/
def Dev.mechVel (d : Dev) (n : Nat) (om : Int) : Rat := mkRat (d.dirSign n * om) (d.poles n * 2 ^ 24)
/-- Mechanical acceleration in turns/s² of an electrical acceleration in 2^-12 turns/s². -/
def Dev.mechAcc (d : Dev) (n : Nat) (al : Int) : Rat := mkRat (d.dirSign n * al) (d.poles n * 2 ^ 12)

/-- A position in turns with velocity and acceleration. -/
structure Motion where
  pos : Int
  vel : Rat
  acc : Rat
  deriving DecidableEq, Repr

/-- The extrapolation of R39 in binary64 over `dt` units. -/
def extrapolate (pos : Int) (omega alpha : Rat) (units : Int) : Motion :=
  let dt := rnd64 ((units : Rat) * rnd64 (mkRat 1 4000000000))
  let w := rnd64 omega
  let a := rnd64 alpha
  let inc := rnd64 (rnd64 (w * dt) + rnd64 (rnd64 (rnd64 (mkRat 1 2 * a) * dt) * dt))
  { pos := wrapInt 64 (pos + roundEven (inc * 2 ^ 32)), vel := rnd32 (rnd64 (w + rnd64 (a * dt))), acc := rnd32 a }

/-- The resolver motion of lane `n` at `t` from one tracker update. -/
def Dev.resolverFrom (d : Dev) (n : Nat) (t : Time) (u : TrkPoint) : Motion :=
  extrapolate (d.posOfTheta n u.th) (d.mechVel n u.om) (d.mechAcc n u.al) ((t : Int) - u.t)

/-- The newest update of the tracker as a point. -/
def Tracker.point (k : Tracker) : TrkPoint := ⟨k.ts, k.th, k.om, k.ac + k.aid⟩

/-- The resolver motion of lane `n` extrapolated to `t` (R39). -/
def Dev.resolverAt (d : Dev) (n : Nat) (t : Time) : Motion := d.resolverFrom n t (d.lane n).trk.point

/-- The secondary of lane `n` (R84). -/
def Dev.detSrc (d : Dev) (n : Nat) : Nat := d.fld .detCtrl n 8 5
/-- `DET_EN`. -/
def Dev.detEn (d : Dev) (n : Nat) : Bool := d.regBit .detCtrl n 0
/-- `DET_NUM` / `DET_DEN`. -/
def Dev.detRatio (d : Dev) (n : Nat) : Rat := mkRat (signed 16 (d.fld .detScale n 16 16)) (d.fld .detScale n 0 16)
/-- The scaled secondary position at `t` (R84). -/
def Dev.scaledSecondary (d : Dev) (n : Nat) (t : Time) : Int :=
  wrapInt 64 (roundEven ((d.pinPosAt (d.detSrc n) t : Rat) * d.detRatio n))
/-- The secondary of lane `n` is valid. -/
def Dev.secondaryValid (d : Dev) (n : Nat) : Bool := d.pinValid (d.detSrc n)
/-- The detour of lane `n` is available (R85). -/
def Dev.detAvail (d : Dev) (n : Nat) : Bool := d.detEn n && d.secondaryValid n && (d.lane n).trk.detFresh

/-- The motion of lane `n` at `t` from its present feedback: held value, step count, detour or tracker (R39, R86, R88,
R156, R405). -/
def Dev.motionAt (d : Dev) (n : Nat) (t : Time) : Motion :=
  let k := (d.lane n).trk
  if k.posHeld then ⟨k.heldPos, 0, 0⟩
  else match d.stepFb n with
  | some o => ⟨wrapInt 64 (roundEven (mkRat ((d.emu o).e * 2 ^ 32) (d.emuRes o)) + k.posOfs), k.demVel, k.demAcc⟩
  | none =>
    if k.detour then
      if k.detFail then ⟨k.heldPos, 0, 0⟩
      else
        let p := d.pin (d.detSrc n)
        ⟨wrapInt 64 (d.scaledSecondary n t + k.detOfs.getD 0), rnd32 (p.vel * d.detRatio n), rnd32 (p.acc * d.detRatio n)⟩
    else if k.tracking then d.resolverAt n t
    else ⟨k.heldPos, 0, 0⟩

/-- Tracking of lane `n` is stopped by its state, configuration and power state (R23, R405). -/
def Dev.trackStopped (d : Dev) (n : Nat) : Bool :=
  !(d.alive && (d.pwr.st = .active || d.pwr.st = .economy)) ||
  match (d.lane n).st with
  | .off => true
  | .layby | .fault => !d.regBit .acqCtrl n 0
  | .track | .run => false

/-- The tracker of lane `n` runs: its tracking is not stopped, and its feedback is a resolver (R156, R405). -/
def Dev.trackingOn (d : Dev) (n : Nat) : Bool := (d.stepFb n).isNone && !d.trackStopped n

/-- The lock limit in electrical turns/s: the smaller of 1,000 and f/4 (R80). -/
def Dev.lockLimit (d : Dev) (n : Nat) : Rat :=
  let f := d.carrier (groupOf n) / 4
  if f < 1000 then f else 1000

end Sys2Proof.Machine
end

