-- ==== Sys2Proof/Machine/TimeSync.lean ====
section
/-! DEFINITION. Device time: the clock, the discipline sources and corrections, the frame schedule, SYNC_OUT
(spec/02_frame_and_time.md, R27–R35, R44). -/
namespace Sys2Proof.Machine

/-- The frame period P in units (R35). -/
def Dev.period (d : Dev) : Nat := 20 * d.fld .frmPeriod 0 0 18 + d.fld .frmPeriod 0 24 5

/-- The output deadline in force, cyc (R36). -/
def outdlOf (period outdl : Word) : Nat :=
  if bit outdl 31 then (3 * field period 0 18 + 3) / 4 else field outdl 0 18

/-- The output deadline in force, cyc. -/
def Dev.outdl (d : Dev) : Nat := outdlOf (d.reg .frmPeriod 0) (d.reg .frmOutdl 0)

/-- `CUTOFF` in units. -/
def Dev.cutoff (d : Dev) : Nat := 20 * d.fld .frmCutoff 0 0 16

/-- The instant of tick `k` (R35). -/
def Dev.tickAt (d : Dev) (k : Nat) : Time := d.reg64 .frmEpoch 0 + k * d.period

/-- The first index of the schedule whose tick lies at or after `t`. -/
def Dev.firstTickFrom (d : Dev) (t : Time) : Nat :=
  let e := d.reg64 .frmEpoch 0
  if t ≤ e then 0 else (t - e + d.period - 1) / d.period

/-- The index of the next tick (R34, R35). After a step or a schedule change it lies at least `FRM_OUTDL` + 200 cyc after the
last T0, and not before the present instant. -/
def Dev.nextTick (d : Dev) : Nat :=
  match d.time.k with
  | none => d.firstTickFrom d.now
  | some k =>
    if d.time.resched then max (k + 1) (d.firstTickFrom (max d.now (d.time.t0 + 20 * (d.outdl + 200)))) else k + 1

/-- `FRM_SEQ` (R35). -/
def Dev.frmSeq (d : Dev) : Nat := (d.time.k.getD 0) % 2 ^ 32

/-- One core-clock cycle: 20 units scaled by the rate, without loss in the fraction; the count has 64 bits (R27). -/
def Dev.clockCycle (d : Dev) : Dev :=
  let r := signed 32 (d.reg .timeRate 0).toNat
  let total := d.time.frac + 20 * ((1000000000 + r).toNat)
  { d with now := (d.now + total / 1000000000) % 2 ^ 64, time := { d.time with frac := total % 1000000000 } }

/-- The lock ends: holdover begins with event 0x0A03, and a new acquisition starts (R31, R32). -/
def Dev.enterHoldover (d : Dev) : Dev :=
  (d.onTime fun t => { t with locked := false, good := 0, missed := 0, holdover := true }).logEvent 0x0A03 kDevice 0
    (ev4 d.time.src ++ ev4 (d.reg .timeRate 0).toNat)

/-- Clamp the total rate to ±210 ppm, with `RANGE` where it was beyond (R33). -/
def Dev.applyRate (d : Dev) (r : Int) : Dev :=
  let c := clampInt (-210000) 210000 r
  (d.setFlagIf (decide (c ≠ r)) .timeStat 0 5).setReg .timeRate 0 (wordOfInt c)

/-- One servo update from a phase error in units: DTIME minus reference (R32, R33, Table 2-2). -/
def Dev.servoUpdate (d : Dev) (err : Int) : Dev :=
  let d := d.setReg .timeOffset 0 (wordOfInt (satInt 32 err))
  let bw := d.fld .timeCtrl 0 8 2
  let (integ, rate) := Config.servo bw d.time.integ err
  let mag := err.natAbs
  let wasLocked := d.time.locked
  let d := d.onTime fun t => { t with holdover := false, srcValid := true }
  let d :=
    if mag ≤ 4000 then
      (d.onTime fun t => { t with integ := integ, slewing := false, stepPend := none }).applyRate rate
    else if d.anyRun then
      (d.onTime fun t => { t with integ := integ, slewing := true, stepPend := none }).applyRate
        (rate + clampInt (-10000) 10000 (Config.slew err))
    else d.onTime fun t => { t with slewing := false, stepPend := some (-err) }
  let d := d.onTime fun t => { t with good := if mag < 400 then t.good + 1 else 0 }
  let d := if wasLocked = false ∧ d.time.good ≥ 16 then
      (d.onTime fun t => { t with locked := true }).logEvent 0x0A04 kDevice 0
        (ev4 d.time.src ++ ev4 (d.reg .timeOffset 0).toNat)
    else d
  if wasLocked ∧ mag > 4000 then
    if d.time.src ≥ 2 then d.enterHoldover else d.onTime fun t => { t with locked := false }
  else d

/-- The selected source is 802.1AS on this port, and the port runs generation 3 and may receive and transmit (R30, R256). -/
def Dev.asActive (d : Dev) (port : Nat) : Bool :=
  d.time.src = 1 && d.fld .timeCtrl 0 4 2 = port && d.portGen port = 3 && d.portUp port

/-- Under source 1 the source stays invalid while the selected port does not run generation 3 (R30). -/
def Dev.asCheck (d : Dev) : Dev :=
  if d.time.src = 1 ∧ d.portGen (d.fld .timeCtrl 0 4 2) ≠ 3 then
    d.onTime fun t => { t with srcValid := false, syncPend := none, pdelayT1 := none }
  else d

/-- A frame of IEEE 802.1AS leaves a port, to the address and with the EtherType of R30. The message body is that of the
standard, which the spec does not repeat: the record of the wire holds the header alone (DESIGN CHOICE, log 129). -/
def Dev.asSend (d : Dev) (port : Nat) : Dev :=
  let now := d.now
  d.onPort port fun x => { x with sent := (now, beBytes 6 0x0180C200000E ++ macBytes port ++ beBytes 2 0x88F7) :: x.sent }

/-- The phase error of a Sync: own receive stamp against grandmaster time, link delay and asymmetry (R30). The mean link delay
is scaled by the neighbour rate ratio once more, into the time base of the neighbour (DESIGN CHOICE, log 130). -/
def Dev.syncError (d : Dev) (rx gm : Time) : Int :=
  let delay := roundEven (d.time.pdelay * d.time.nrr)
  (rx : Int) - ((gm : Int) + delay + signed 32 (d.reg .timeAsym 0).toNat)

/-- SYNC_MESSAGE (R30): Sync in one-step or two-step form, or Follow_Up. -/
def Dev.syncMessage (d : Dev) (port domain : Nat) (rx gm : Time) (interval : Nat) (twoStep followUp : Bool) : Dev :=
  if !d.asActive port || domain ≠ d.fld .timeCtrl 0 16 7 then d
  else if followUp then
    match d.time.syncPend with
    | some r => ((d.onTime fun t => { t with syncPend := none, lastSync := d.now }).servoUpdate (d.syncError r gm))
    | none => d
  else if interval < 31250000 ∨ interval > 4000000000 then d
  else
    let d := d.onTime fun t => { t with syncInterval := interval }
    if twoStep then d.onTime fun t => { t with syncPend := some rx }
    else (d.onTime fun t => { t with syncPend := none, lastSync := d.now }).servoUpdate (d.syncError rx gm)

/-- ANNOUNCE_MESSAGE (R30). -/
def Dev.announce (d : Dev) (port domain : Nat) (gm : Quad) : Dev :=
  if !d.asActive port || domain ≠ d.fld .timeCtrl 0 16 7 then d
  else
    let old := d.reg64 .timeGmId 0
    let d' := d.setReg64 .timeGmId 0 gm.toNat
    if old ≠ 0 ∧ old ≠ gm.toNat then
      (d'.setFlag .timeStat 0 7).logEvent 0x0A05 kDevice 0 (leBytes 6 old ++ leBytes 6 gm.toNat)
    else d'

/-- PDELAY_REQ_RECEIVE (R30): the request is answered. -/
def Dev.pdelayAnswer (d : Dev) (port : Nat) : Dev :=
  if d.asActive port then (d.onTime fun t => { t with pdelayAnswered := t.pdelayAnswered + 1 }).asSend port else d

/-- PDELAY_REQ_SEND (R30): an exchange starts, once per second. -/
def Dev.pdelaySend (d : Dev) : Dev :=
  let port := d.fld .timeCtrl 0 4 2
  let due : Bool := match d.time.pdelayLast with
    | some t => decide (t + unitsPerSec ≤ d.now)
    | none => true
  if d.asActive port && due then
    (d.onTime fun t => { t with pdelayT1 := some d.now, pdelayLast := some d.now }).asSend port
  else d

/-- PDELAY_RESPONSE (R30): the exchange is complete; mean link delay and neighbour rate ratio. The ratio scales the time from
the request sent to the response received (DESIGN CHOICE, log 130). -/
def Dev.pdelayResponse (d : Dev) (port : Nat) (t2 t3 t4 : Time) : Dev :=
  match d.asActive port, d.time.pdelayT1 with
  | true, some t1 =>
    let r : Rat := match d.time.pdelayPrev with
      | some (p3, p4) => if p4 < t4 ∧ p3 < t3 then mkRat (t3 - p3 : Nat) (t4 - p4) else d.time.nrr
      | none => d.time.nrr
    let delay : Rat := (r * (((t4 : Int) - t1 : Int) : Rat) - (((t3 : Int) - t2 : Int) : Rat)) / 2
    (d.onTime fun t => { t with pdelayT1 := none, pdelayPrev := some (t3, t4), nrr := r, pdelay := delay,
                                asCapable := decide (0 ≤ delay ∧ delay ≤ (Config.pdelayLimit : Rat)) }).setReg
      .timePdelay 0 (wordOfInt (roundEven delay))
  | _, _ => d

/-- SYNC_TIMEOUT (R32): three Sync intervals with no valid Sync. -/
def Dev.syncTimeout (d : Dev) : Dev :=
  if d.time.src = 1 ∧ d.time.srcValid ∧ ¬ d.time.holdover ∧ d.time.lastSync + 3 * d.time.syncInterval ≤ d.now then
    (((d.onTime fun t => { t with srcValid := false }).enterHoldover).addCnt .timeCnt 0 0 16)
  else d

/-- The reference instant of SYNC_IN nearest to `t`: a frame tick or a whole second, plus `TIME_SYNC_OFS` (Table 2-1). -/
def Dev.syncRef (d : Dev) (t : Time) : Int :=
  let ofs := signed 32 (d.reg .timeSyncOfs 0).toNat
  let x : Int := (t : Int) - ofs
  if d.time.src = 3 then (x + 2000000000) / 4000000000 * 4000000000 + ofs
  else
    let e : Int := d.reg64 .frmEpoch 0
    let p : Int := d.period
    e + (x - e + p / 2) / p * p + ofs

/-- The expected edge at reference `r` is missing or was rejected; each expected edge counts once, and the fourth in a row ends
the lock (R31). `SRC_VALID` clears with the lock, and not before a lock (DESIGN CHOICE, log 131). -/
def Dev.missEdge (d : Dev) (r : Int) : Dev :=
  if d.time.edgeRef = some r then d
  else
    let d := d.onTime fun t => { t with missed := t.missed + 1, edgeRef := some r }
    if d.time.missed ≥ 4 then (d.onTime fun t => { t with srcValid := false }).enterHoldover else d

/-- The stamps of the time unit in the time that a step leaves, so that the intervals that run keep their length (R32, R34,
R44). -/
def TimeSt.shift (t : TimeSt) (step : Int) : TimeSt :=
  { t with lastSync := shiftStamp step t.lastSync, syncPend := t.syncPend.map (shiftStamp step),
           pdelayT1 := t.pdelayT1.map (shiftStamp step), pdelayLast := t.pdelayLast.map (shiftStamp step),
           pdelayPrev := t.pdelayPrev.map fun p => (p.1, shiftStamp step p.2),
           syncOutEnd := t.syncOutEnd.map (shiftStamp step), syncOutSec := none, edgeRef := none }

/-- The instants of a process channel in the time that a step leaves (R240, R242). -/
def PfeCh.shift (x : PfeCh) (step : Int) : PfeCh :=
  let pend := x.pend.map fun p => (shiftStamp step p.1, p.2)
  { x with began := shiftStamp step x.began, started := shiftStamp step x.started, pend := pend }

/-- The instants of the safety monitor in the time that a step leaves: its timers run on its own oscillator (R300, R306, R313,
R317, R321). -/
def Saf.shift (s : Saf) (step : Int) : Saf :=
  let go (t : Option Time) : Option Time := t.map (shiftStamp step)
  let lane (x : SafLane) : SafLane := { x with sampleT := go x.sampleT, ss1T := go x.ss1T, armed := go x.armed }
  let conn (x : Conn) : Conn := { x with last := shiftStamp step x.last, waitLog := go x.waitLog }
  let pair (x : SiPair) : SiPair := { x with ss1T := go x.ss1T }
  { s with lanes := s.lanes.map lane, conns := s.conns.map conn, pairs := s.pairs.map pair,
           levelT := s.levelT.map (shiftStamp step), chainPass := s.chainPass.map go, pulse := s.pulse.map go }

/-- The instants of a port in the time that a step leaves: what arrived before it keeps its distance from the cutoff, and the
intervals of the link and of the log keep their length (R258, R263, R268, R281, R282, R294). -/
def Port.shift (x : Port) (step : Int) : Port :=
  let go (t : Time) : Time := shiftStamp step t
  { x with inParts := x.inParts.map fun p => (go p.1, p.2), group := x.group.map fun g => { g with last := go g.last },
           statusT := go x.statusT, statusSent := go x.statusSent, dropLog := x.dropLog.map fun l => (l.1.map go, l.2),
           logs := x.logs.map fun w => { w with t := go w.t }, rx := x.rx.map fun q => { q with arr := go q.arr } }

/-- Step `DTIME`: the last T0 moves with it, the schedule is taken up afresh, and what arrived before the step keeps its
distance from the cutoff (R12, R33, R34). -/
def Dev.stepTime (d : Dev) (step : Int) : Dev :=
  let wrap (t : Time) : Time := unsigned 64 ((t : Int) + step)
  let staged := d.staged.map fun s => { s with acc := shiftStamp step s.acc }
  let d := { d with now := wrap d.now, staged := staged, ports := d.ports.map (Port.shift · step),
                    pfe := d.pfe.map (PfeCh.shift · step), saf := d.saf.shift step }
  (d.onTime fun t => { t.shift step with t0 := wrap t.t0, resched := true, stepPend := none, setPend := none }).logEvent
    0x0A02 kDevice 0 (leBytes 8 (unsigned 64 step))

/-- SYNC_IN_EDGE (R31): a rising edge at `at_`, stamped to 5 units, rounded down (DESIGN CHOICE, log 132); pulse of `width`
units. -/
def Dev.syncInEdge (d : Dev) (at_ : Time) (width : Nat) : Dev :=
  if d.time.src < 2 ∨ width < 400 then d
  else
    let t := at_ / 5 * 5
    let r := d.syncRef t
    let err := (t : Int) - r
    if d.time.locked ∧ err.natAbs > 8000 then (d.addCnt .timeCnt 0 16 16).missEdge r
    else
      let d := d.onTime fun t => { t with missed := 0, edgeRef := some r }
      match d.time.src, d.time.setPend with
      | 3, some v => if d.anyRun then d.servoUpdate err else d.stepTime ((v : Int) - d.now)
      | _, _ => d.servoUpdate err

/-- SYNC_IN_MISSING (R31): the expected edge nearest to the present instant is missing. -/
def Dev.syncInMissing (d : Dev) : Dev :=
  if d.time.src ≥ 2 ∧ d.time.locked then d.missEdge (d.syncRef d.now) else d

/-- `TIME_SET` complete: arm the new `DTIME` (R45). The caller has checked the source and the lanes. -/
def Dev.armTimeSet (d : Dev) (v : Nat) : Dev := d.onTime fun t => { t with setPend := some v }

/-- `TIME_SET` is answered STATE: a lane in RUN, or source 1 (R45). -/
def Dev.timeSetRefused (d : Dev) : Bool := d.anyRun || d.time.src = 1

/-- Take over a change of `SRC` at a frame boundary: a new acquisition starts (R29). `TIME_RATE`, the integral of the servo
and the measured link delay are kept (DESIGN CHOICE, log 133). -/
def Dev.takeSource (d : Dev) : Dev :=
  let src := d.fld .timeCtrl 0 0 2
  if src = d.time.src then d
  else d.onTime fun t => { t with src := src, locked := false, good := 0, missed := 0, holdover := false,
                                  srcValid := false, slewing := false, stepPend := none, syncPend := none,
                                  edgeRef := none }

/-- Apply the step that waits for the frame boundary, unless a lane is in RUN (R33, R45). -/
def Dev.applyStep (d : Dev) : Dev :=
  if d.anyRun then d
  else match d.time.setPend, d.time.stepPend with
    | some v, p => if d.time.src = 0 ∨ d.time.src = 2 then d.stepTime ((v : Int) - d.now) else
        match p with
        | some s => let keep := d.time.setPend
                    (d.stepTime s).onTime fun t => { t with setPend := keep }
        | none => d
    | none, some s => d.stepTime s
    | none, none => d

/-- Issue tick `k`: the clock stands at its instant, and T0 is the instant that the schedule gives it; indices passed over are
counted (R34, R35). -/
def Dev.issueTick (d : Dev) : Dev :=
  let k := d.nextTick
  let t0 := d.tickAt k
  let skipped := match d.time.k with
    | some l => k - l - 1
    | none => 0
  let d := d.at t0
  let d := d.onTime fun t => { t with k := some k, t0 := t0 % 2 ^ 64, resched := false, outDue := true,
                                      firstAfter := if t.resched then k else t.firstAfter }
  if skipped = 0 then d
  else (d.addCnt .frmSkip 0 0 32 skipped).logEvent 0x0A06 kDevice 0 (ev4 skipped)

/-- The pulse interval of SYNC_OUT in its mode, in units (R44). -/
def Dev.syncOutInterval (d : Dev) : Nat :=
  match d.fld .timeSyncout 0 0 2 with
  | 3 => unitsPerSec
  | 2 => d.period * (if d.fld .timeSyncout 0 8 8 = 0 then 256 else d.fld .timeSyncout 0 8 8)
  | _ => d.period

/-- `OFS`, rounded down to 5 units and limited to half the pulse interval (R45). -/
def Dev.syncOutOfs (d : Dev) : Int :=
  let half : Int := d.syncOutInterval / 2
  clampInt (-half) half (signed 32 (d.reg .timeSyncoutOfs 0).toNat / 5 * 5)

/-- The divider of mode 2 (Table 2-7). -/
def Dev.syncOutDiv (d : Dev) : Nat :=
  if d.fld .timeSyncout 0 0 2 ≠ 2 then 1 else if d.fld .timeSyncout 0 8 8 = 0 then 256 else d.fld .timeSyncout 0 8 8

/-- The first tick index that may still give a pulse: an index passed over gives none (R44). -/
def Dev.syncOutFrom (d : Dev) : Nat := if d.time.resched then d.nextTick else d.time.firstAfter

/-- The reference and instant of the next SYNC_OUT pulse (Table 2-7). The edge is brought down to a multiple of 5 units (DESIGN
CHOICE, log 132). -/
def Dev.syncOutNext (d : Dev) : Option (Nat × Time) :=
  let ofs := d.syncOutOfs
  let edge (ref : Nat) : Time := ((ref : Int) + ofs).toNat / 5 * 5
  let from_ : Time := ((d.now : Int) - ofs).toNat
  match d.fld .timeSyncout 0 0 2 with
  | 0 => none
  | 3 =>
    let first := match d.time.syncOutSec with | some r => r + 1 | none => 0
    let s := max first ((from_ + unitsPerSec - 1) / unitsPerSec)
    some (s, edge (s * unitsPerSec))
  | _ =>
    let first := match d.time.syncOutRef with | some r => r + 1 | none => 0
    let k0 := max (max first d.syncOutFrom) (d.firstTickFrom from_)
    let k := (k0 + d.syncOutDiv - 1) / d.syncOutDiv * d.syncOutDiv
    some (k, edge (d.tickAt k))

/-- SYNC_OUT_PULSE (R44): the pin rises. It is low in PARKED and DORMANT (R340). -/
def Dev.syncOutPulse (d : Dev) : Dev :=
  match d.alive && (d.pwr.st = .active || d.pwr.st = .economy) && d.time.syncOutEnd.isNone, d.syncOutNext with
  | true, some (r, t) =>
    let w := 20 * max 1 (d.fld .timeSyncout 0 16 16)
    let sec := d.fld .timeSyncout 0 0 2 = 3
    let d := d.at t
    d.onTime fun x => { x with syncOutRef := if sec then x.syncOutRef else some r,
                               syncOutSec := if sec then some r else x.syncOutSec,
                               syncOutEnd := some (d.now + min w (d.syncOutInterval / 2)) }
  | _, _ => d

/-- SYNC_OUT_PULSE_END (R44): the pin falls after its width. -/
def Dev.syncOutPulseEnd (d : Dev) : Dev :=
  match d.time.syncOutEnd with
  | some e => (d.at e).onTime fun t => { t with syncOutEnd := none }
  | none => d

end Sys2Proof.Machine
end

