-- ==== Sys2Proof/Machine/Emu.lean ====
section
/-! DEFINITION. Encoder emulation and step outputs (spec/07_encoder_emulation_and_step_outputs.md). -/
namespace Sys2Proof.Machine

/-- Counts of output `o` for a position: pos × (RES + 1), exact (R148). -/
def Dev.emuCounts (d : Dev) (o : Nat) (pos : Int) : Rat := mkRat (pos * d.emuRes o) (2 ^ 32)

/-- The output has a lane. -/
def Dev.emuHasLane (d : Dev) (o : Nat) : Bool := decide (d.emuLane o < d.laneCount)

/-- The output emits by its lane (R152, R155): an emulation while the tracking of its lane is not stopped; a step output while
the step set-points of RUN with the barrier up are in force. DESIGN CHOICE (log 144): these set-points, like the demands, change
at the output junction alone (R16), so the steps committed at one junction are emitted to the next one whatever ends RUN. -/
def Dev.emuLive (d : Dev) (o : Nat) : Bool :=
  d.emuHasLane o && match d.emuSrc o with
    | 1 => !d.trackStopped (d.emuLane o)
    | 2 => (d.emu o).on
    | _ => false

/-- LOS or `LOCK_LOST` with no detour holds an emulation output (Table 7-2). -/
def Dev.emuLost (d : Dev) (o : Nat) : Bool :=
  let n := d.emuLane o
  d.emuSrc o = 1 && d.emuLive o && (d.stepFb n).isNone && !(d.lane n).trk.detour && (d.los n || d.lockLost n)

/-- The pins are high-impedance (R145, R153, R159). -/
def Dev.emuHiz (d : Dev) (o : Nat) : Bool := d.emuSrc o = 0 || (d.emu o).parked || (d.emu o).cut

/-- The level that EEN takes now (R152, R153, R155, R159). -/
def Dev.emuEen (d : Dev) (o : Nat) : Bool :=
  if d.emuHiz o then false else if d.emuLive o then !d.emuLost o else d.regBit .emuCtrl o 10

/-- `MODE` of output `o` (Table 7-1). -/
def Dev.emuMode (d : Dev) (o : Nat) : Nat := d.fld .emuCtrl o 4 2
/-- `INV` of output `o` (R145). -/
def Dev.emuInv (d : Dev) (o : Nat) : Bool := d.regBit .emuCtrl o 6
/-- `DIR_SETUP` of output `o` in units. -/
def Dev.emuSetup (d : Dev) (o : Nat) : Nat := 20 * d.fld .emuStep o 0 16
/-- `STEP_W` of output `o` in units. -/
def Dev.emuWidth (d : Dev) (o : Nat) : Nat := 5 * d.fld .emuStep o 16 16

/-- The least spacing of edges in units (R147). -/
def Dev.emuSpacing (d : Dev) (o : Nat) : Nat := if d.emuMode o = 0 then 100 else max 100 (2 * d.emuWidth o)

/-- The instant at which a count scheduled for `sched` may leave the pin; in step/direction a change of EB waits for the end of
the pulse, and the step for `DIR_SETUP` after it (R147, R149, R154). -/
def Dev.emuInstant (d : Dev) (o : Nat) (sched : Time) (dir : Int) : Time :=
  let x := d.emu o
  match x.lastT with
  | none => sched
  | some l =>
    let s := max sched (l + d.emuSpacing o)
    if d.emuMode o = 1 ∧ dir ≠ x.lastDir then max s (x.pulseEnd + d.emuSetup o) else s

/-- Levels of EA and EB for an emitted count in quadrature: both high at a multiple of 4 (R151), A leads B when counting up,
`INV` reverses (R145). -/
def quadLevels (e : Int) (inv : Bool) : Bool × Bool :=
  let q := (if inv then -e else e) % 4
  (q = 0 || q = 3, q = 0 || q = 1)

/-- The pulse of the last step is high at `t` (R147). -/
def EmuOut.pulseAt (x : EmuOut) (t : Time) : Bool :=
  match x.lastT with
  | some l => decide (l ≤ t) && decide (t < x.pulseEnd)
  | none => false

/-- The direction that EB shows at `t` in step/direction: `DIR_SETUP` before a step it takes that of the step (R147). -/
def Dev.emuDirAt (d : Dev) (o : Nat) (t : Time) : Int :=
  let x := d.emu o
  match x.queue with
  | (sched, _, dir) :: _ => if d.emuInstant o sched dir ≤ t + d.emuSetup o then dir else x.lastDir
  | [] => x.lastDir

/-- The levels of EA and EB at `t` (Table 7-1, R147): quadrature; step and direction (low up); up and down pulses. -/
def Dev.emuLevels (d : Dev) (o : Nat) (t : Time) : Bool × Bool :=
  let x := d.emu o
  match d.emuMode o with
  | 0 => quadLevels x.e (d.emuInv o)
  | 1 => (x.pulseAt t, xor (decide (d.emuDirAt o t < 0)) (d.emuInv o))
  | _ =>
    let down := xor (decide (x.lastDir < 0)) (d.emuInv o)
    (x.pulseAt t && !down, x.pulseAt t && down)

/-- EZ as the count gives it (R151). -/
def Dev.emuZ (d : Dev) (o : Nat) (x : EmuOut) : Bool :=
  d.emuSrc o = 1 && d.regBit .emuCtrl o 7 && !d.emuLost o && !d.emuHiz o && !x.zHold &&
    (x.e + x.k) % (d.emuRes o : Int) = (d.fld .emuZPos o 0 20 : Int)

/-- The pin levels now, after a change of E, K or the state of the output. -/
def Dev.emuPins (d : Dev) (o : Nat) : Dev :=
  let (a, b) := d.emuLevels o d.now
  d.onEmu o fun x => { x with ea := a, eb := b, ez := d.emuZ o x, hiz := d.emuHiz o }

/-- K changes: a high EZ falls at that instant (R151). -/
def EmuOut.rekey (x : EmuOut) (k : Int) : EmuOut := { x with k := k, zHold := x.zHold || (x.ez && decide (k ≠ x.k)) }

/-- Capture E0 and s0 of the stall check, both of this instant (R158). -/
def Dev.emuStallRef (d : Dev) (o : Nat) : Dev :=
  let s := d.pinPosAt (d.fld .emuStall o 24 5) d.now
  d.onEmu o fun x => { x with e0 := x.e, s0 := s, stallRun := 0 }

/-- The count the target reaches for a position in counts, with the hysteresis of a reversal (R148, R150). -/
def emuTarget (x : Int) (up : Bool) (hyst : Rat) (y : Rat) : Int :=
  if up then
    if (x : Rat) + 1 ≤ y then floorRat y else if y < (x : Rat) - hyst then floorRat y else x
  else
    if y < (x : Rat) then floorRat y else if (x : Rat) + 1 + hyst ≤ y then floorRat y else x

/-- The boundary that the `i`th count (from 1) of a change of X crosses. -/
def crossing (x : Int) (up1 : Bool) (rev : Bool) (hyst : Rat) (i : Nat) : Rat :=
  if up1 then
    let b : Rat := (x : Rat) + i
    if rev ∧ i = 1 then b + hyst else b
  else
    let b : Rat := (x : Rat) - i + 1
    if rev ∧ i = 1 then b - hyst else b

/-- Round an instant to the 1.25 ns grid (R147). -/
def grid5 (t : Rat) : Time := ((roundEven (t / 5)) * 5).toNat

/-- The first instant of the 1.25 ns grid at or after `t` (R147). -/
def ceil5 (t : Time) : Time := (t + 4) / 5 * 5

/-- The supervision of the backlog of an emulation output (R153): above `BKLG_LIM` `OVR` sets, once for each overrun; with
`OVR_ACT` the output is cut off until EMU_ALIGN. -/
def Dev.emuBacklog (d : Dev) (o : Nat) : Dev :=
  let x := d.emu o
  let act := d.regBit .emuCtrl o 11
  if d.emuSrc o ≠ 1 ∨ d.emuHiz o then d
  else if (x.x - x.e).natAbs ≤ d.fld .emuLim o 16 16 then d.onEmu o fun x => { x with above := false }
  else
    let d := d.when (!x.above) fun d =>
      ((d.onEmu o fun x => { x with ovr := true, above := true }).addCnt .emuCnt o 16 16).logEvent 0x0701 kEmu o
        (evI (x.x - x.e) ++ ev4 (b2n act))
    d.when act fun d => (d.onEmu o fun x => { x with cut := true, een := false, queue := [] }).emuPins o

/-- A new position of the lane at `t`: X moves and each boundary crossed queues an edge; `exact` edges leave 4.7 µs after
their crossing, others as soon as the spacing allows (R148, R149, R152). -/
def Dev.emuMove (d : Dev) (o : Nat) (t : Time) (pos : Int) (exact : Bool) : Dev :=
  let x := d.emu o
  if d.emuSrc o ≠ 1 ∨ !d.emuLive o ∨ d.emuLost o ∨ d.emuHiz o then d.onEmu o fun x => { x with prev := some (t, pos) }
  else
    let hyst := mkRat (d.fld .emuLim o 0 8) 256
    let y := d.emuCounts o pos - x.k
    let x' := emuTarget x.x x.up hyst y
    let n := (x' - x.x).natAbs
    if n = 0 then d.onEmu o fun x => { x with prev := some (t, pos) }
    else
      let up1 : Bool := x.x < x'
      let rev := up1 ≠ x.up
      let (t0, y0) : Time × Rat := match x.prev with
        | some (t0, p0) => (t0, d.emuCounts o p0 - x.k)
        | none => (t, y)
      let inst (i : Nat) : Time :=
        if !exact then ceil5 t
        else
          let b := crossing x.x up1 rev hyst i
          let tc : Rat := if y = y0 then t else (t0 : Rat) + (b - y0) / (y - y0) * (((t : Int) - t0 : Int) : Rat)
          grid5 (clampRat t0 t tc + 18800)
      let es := (List.range n).map fun i => (inst (i + 1), exact, if up1 then (1 : Int) else -1)
      (d.onEmu o fun x => { x with x := x', up := up1, prev := some (t, pos), queue := x.queue ++ es }).emuBacklog o

/-- A new position of lane `n` moves every emulation output that follows it. -/
def Dev.emuFollow (d : Dev) (n : Nat) (t : Time) (exact : Bool) : Dev :=
  d.forEach (d.emusOf n) fun o d => if d.emuSrc o = 1 then d.emuMove o t (d.motionAt n t).pos exact else d

/-- The value nearest `e` congruent to `h` modulo `m`; a tie takes the lower (R157). -/
def nearestCongruent (e h m : Int) : Int :=
  let lo := e - (e - h) % m
  if 2 * (e - lo) ≤ m then lo else lo + m

/-- The microstep reconciliation of R157: E and X change alike, so K of a target that does not move with E takes the change
back; with `STEP_FB` the lane position moves with E (R156). -/
def Dev.emuReconcile (d : Dev) (o : Nat) : Dev :=
  let m := d.fld .emuPhCyc o 0 16
  let n := d.emuLane o
  let x := d.emu o
  if m = 0 ∨ d.regBit .emuCtrl o 9 then d
  else match x.h with
    | none => d.onEmu o fun x => { x with h := some (x.e % (m : Int)) }
    | some h =>
      let fb : Bool := d.stepFb n = some o
      let e := nearestCongruent x.e h m
      let dx := e - x.e
      let d := d.onEmu o fun x =>
        { x with e := e, x := x.x + dx, k := if fb then x.k else x.k - dx, zHold := x.zHold && decide (dx = 0) }
      let d := (((d.setFlag .emuStat o 3).logEvent 0x0702 kEmu o (evI dx ++ evI h)).emuStallRef o).emuPins o
      if fb then d.emuFollow n d.now false else d

/-- Realign on a position: X = E, the backlog is discarded, K recomputed (R148, R154, R155). -/
def Dev.emuRealignAt (d : Dev) (o : Nat) (pos : Int) : Dev :=
  let y := d.emuCounts o pos
  let c := if d.emuSrc o = 2 then roundEven y else floorRat y
  let now := d.now
  (d.onEmu o fun x =>
    { x.rekey (c - x.e) with x := x.e, queue := [], gap := false, above := false, prev := some (now, pos) }).emuPins o

/-- Realign on the position that the output follows: the position demand for a step output of a lane in RUN, else the lane
position (R148, R154). -/
def Dev.emuRealign (d : Dev) (o : Nat) : Dev :=
  let n := d.emuLane o
  d.emuRealignAt o (if d.emuSrc o = 2 ∧ (d.lane n).st = .run then signed 64 (d.reg64 .posDem n) else (d.motionAt n d.now).pos)

/-- Resume after a loss of feedback has ended: the output is realigned with `GAP`, but where its tracking stopped meanwhile
(Table 7-2). -/
def Dev.emuResume (d : Dev) (o : Nat) : Dev :=
  if !(d.emu o).gap ∨ d.emuLost o then d.onEmu o fun x => { x with gap := x.gap || d.emuLost o }
  else if !d.emuLive o ∨ d.emuHiz o then d.onEmu o fun x => { x with gap := false }
  else ((d.emuRealign o).setFlag .emuStat o 4).logEvent 0x0706 kEmu o (ev4 1)

/-- Bring the output to what the state of lane, device and output now gives: a loss of feedback holds it, an output at its
lay-by values emits nothing, a rise of EEN reconciles under R157 (R152, R155). -/
def Dev.emuRefresh (d : Dev) (o : Nat) : Dev :=
  let d := d.emuResume o
  let want := d.emuEen o
  let was := (d.emu o).een
  let d := if d.emuLive o && !d.emuLost o then d else d.onEmu o fun x => { x with queue := [], x := x.e }
  let d := if want && !was then d.emuReconcile o else d
  (d.onEmu o fun x => { x with een := want }).emuPins o

/-- Refresh the outputs of lane `n`. -/
def Dev.emuRefreshLane (d : Dev) (n : Nat) : Dev := d.forEach (d.emusOf n) fun o d => d.emuRefresh o

/-- A change of `POS_OFS` of lane `n` leaves X where it is: K is recomputed on the new position (R148). -/
def Dev.emuRekey (d : Dev) (n : Nat) (oldPos newPos : Int) : Dev :=
  d.forEach (d.emusOf n) fun o d =>
    if d.emuSrc o = 1 then
      (d.onEmu o fun x =>
        { x.rekey (floorRat (d.emuCounts o newPos) - x.x) with
          prev := x.prev.map fun (t, p) => (t, wrapInt 64 (p + (newPos - oldPos))) }).emuPins o
    else d

/-- Emit one count at `t`: E moves by one, the pulse of a step runs for `STEP_W`, the pins follow; where the count is the
feedback of its lane the emulation outputs of the lane follow it (R145, R147, R151, R156). DESIGN CHOICE (log 145): such an
output follows at the instant of the step. -/
def Dev.emuEmit (d : Dev) (o : Nat) (t : Time) (dir : Int) : Dev :=
  let t := ceil5 t
  let n := d.emuLane o
  let lim := d.fld .emuLim o 16 16
  let d := d.at t
  let d := (d.onEmu o fun x =>
    let e := wrapInt 64 (x.e + dir)
    { x with e := e, queue := x.queue.tail, lastT := some t, lastDir := dir, pulseEnd := t + d.emuWidth o, zHold := false,
             above := x.above && decide (lim < (x.x - e).natAbs) }).emuPins o
  if d.stepFb n = some o then d.emuFollow n t false else d

/-- EMU_EDGE_EMIT (R149): the next edge of an emulation output leaves its pin. -/
def Dev.emuEdgeEmit (d : Dev) (t : Time) (o : Nat) : Dev :=
  let x := d.emu o
  match x.queue with
  | (sched, exact, dir) :: _ =>
    if d.emuSrc o = 1 ∧ x.een then
      let inst := d.emuInstant o sched dir
      d.emuEmit o (if exact then inst else max inst t) dir
    else d
  | [] => d

/-- STEP_EMIT (R154): the next step of a step output leaves its pin at its scheduled instant; steps of the backlog that no
schedule holds, those of a late frame, leave as soon as R147 allows. -/
def Dev.stepEmit (d : Dev) (o : Nat) : Dev :=
  let x := d.emu o
  if !(d.emuSrc o = 2 && d.emuLive o && x.een) then d
  else match x.queue with
    | (sched, _, dir) :: _ => d.emuEmit o (d.emuInstant o sched dir) dir
    | [] =>
      if x.x = x.e then d
      else
        let dir : Int := if x.e < x.x then 1 else -1
        d.emuEmit o (d.emuInstant o 0 dir) dir

/-- The step target of an output junction (R154): `posDem` is the lane's position demand. -/
def Dev.stepTarget (d : Dev) (o : Nat) (posDem : Int) : Dev :=
  if d.emuSrc o ≠ 2 ∨ !d.emuLive o ∨ d.emuHiz o then d
  else
    let x := d.emu o
    let target := roundEven (d.emuCounts o posDem) - x.k
    let n := (target - x.e).natAbs
    let dir : Int := if x.e ≤ target then 1 else -1
    let setup := if dir ≠ x.lastDir then d.emuSetup o else 0
    let start := d.time.t0 + 20 * d.outdl
    let most := min n (d.period / d.emuSpacing o + 1)
    let es := (List.range most).map fun i =>
      (grid5 ((start : Rat) + mkRat ((2 * i + 1) * d.period : Nat) (2 * n)) + setup, true, dir)
    d.onEmu o fun x => { x with x := target, queue := es }

/-- The stall check of one snapshot (R158). -/
def Dev.stallSnapshot (d : Dev) (o : Nat) : Dev :=
  let n := d.emuLane o
  let lim := d.fld .emuStall o 16 8
  if lim = 0 ∨ d.emuSrc o ≠ 2 ∨ !d.emuHasLane o ∨ (d.lane n).st ≠ .run ∨ !(d.emu o).een then d
  else
    let i := d.fld .emuStall o 24 5
    if !d.pinValid i then d.onEmu o fun x => { x with stallRun := 0, noSrc := true }
    else
      let x := d.emu o
      let ratio := mkRat (signed 16 (d.fld .emuStallScale o 16 16)) (d.fld .emuStallScale o 0 16)
      let ds := wrapInt 64 ((d.pin i).pos - x.s0)
      let dev := (x.e - x.e0) - roundEven (mkRat ds (2 ^ 32) * ratio * d.emuRes o)
      d.onEmu o fun x => { x with noSrc := false, dev := dev,
                                  stallRun := if dev.natAbs > d.fld .emuStall o 0 16 then x.stallRun + 1 else 0 }

/-- STALL_DETECT (R158): the deviation has exceeded the window at `STALL_N` consecutive snapshots. -/
def Dev.stallDetect (d : Dev) (o : Nat) : Dev :=
  let x := d.emu o
  let lim := d.fld .emuStall o 16 8
  if lim = 0 ∨ x.stall ∨ x.stallRun < lim then d
  else
    let n := d.emuLane o
    let d := (d.onEmu o fun x => { x with stall := true }).addCnt .emuCnt o 0 16
    let d := d.logEvent 0x0711 kEmu o (evI x.dev ++ ev4 (d.lane n).st.code)
    if d.regBit .emuCtrl o 12 then (d.laneFault n 0x11 o).emuRefreshLane n else d

/-- EMU_ALIGN at its commit junction (R160). -/
def Dev.emuAlign (d : Dev) (o action : Nat) : Dev :=
  let d := if action = 1 then d.emuReconcile o else d
  let d := d.emuRealign o
  let d := d.onEmu o fun x => { x with ovr := false, cut := false, stall := false, h := none, stallRun := 0 }
  (d.emuStallRef o).emuRefresh o

/-- Entry to PARKED: the outputs go to their reset condition; E, K and H are kept (R159). -/
def Dev.emuPark (d : Dev) : Dev :=
  d.forEach (List.range 24) fun o d => (d.onEmu o fun x => { x with parked := true, on := false, queue := [], x := x.e }).emuRefresh o

/-- The device leaves PARKED: each output with a source is realigned (R159). -/
def Dev.emuUnpark (d : Dev) : Dev :=
  d.forEach (List.range 24) fun o d =>
    let d := d.onEmu o fun x => { x with parked := false }
    if d.emuSrc o = 0 then d.emuRefresh o
    else (((d.emuRealign o).setFlag .emuStat o 4).logEvent 0x0706 kEmu o (ev4 2)).emuRefresh o

/-- The step outputs of lane `n` take the step set-points of RUN, or leave them (R155). -/
def Dev.stepsOn (d : Dev) (n : Nat) (on : Bool) : Dev :=
  d.forEach (d.emusOf n) fun o d => if d.emuSrc o = 2 ∧ (d.emu o).on ≠ on then (d.onEmu o fun x => { x with on := on }).emuRefresh o else d

/-- Entry of lane `n` to RUN: EEN rises, which reconciles (R157); then X is set to E, E0 and s0 are captured (R155, R158). -/
def Dev.emuEnterRun (d : Dev) (n : Nat) : Dev :=
  let d := d.stepsOn n true
  d.forEach (d.emusOf n) fun o d =>
    if d.emuSrc o = 2 then (d.emuRealignAt o (d.motionAt n d.now).pos).emuStallRef o else d

/-- What an output keeps through DORMANT: E, K and H (R159). -/
def EmuOut.kept (x : EmuOut) : EmuOut := { e := x.e, k := x.k, h := x.h }

/-- A staged configuration of output `o` is admissible (R145, R146, R161). -/
def Dev.emuCfgOk (d : Dev) (o : Nat) : Bool :=
  let src := d.emuSrc o
  let mode := d.fld .emuCtrl o 4 2
  src ≠ 3 && mode ≠ 3 && !(src = 1 && mode ≠ 0) && !(src = 1 && mode = 0 && d.emuRes o % 4 ≠ 0) &&
  !(src = 2 && mode = 0 && d.emuRes o % 4 ≠ 0) && d.emuRes o ≤ 2 ^ 20 &&
  !(src ≠ 2 && d.regBit .emuCtrl o 8) && !(src = 2 && d.regBit .emuCtrl o 7) &&
  decide (d.fld .emuZPos o 0 20 < d.emuRes o) && decide (10 ≤ d.fld .emuStep o 16 16) && decide (1 ≤ d.fld .emuLim o 16 16) &&
  decide (d.fld .emuStall o 24 5 < d.pinCount) && decide (0 < d.fld .emuStallScale o 0 16)

/-- A change of `SRC`, `MODE`, `RES` or `INV` waits while the lane is in RUN (R160). -/
def Dev.emuCfgHeld (d : Dev) (o : Nat) : Bool := d.emuHasLane o && (d.lane (d.emuLane o)).st = .run

/-- What of the configuration is held and realigned: `SRC`, `MODE`, `INV`, `RES` (R160). -/
def Dev.emuCfgKey (d : Dev) (o : Nat) : Nat × Nat × Bool × Nat :=
  (d.emuSrc o, d.fld .emuCtrl o 4 2, d.regBit .emuCtrl o 6, d.emuRes o)

end Sys2Proof.Machine
end

