-- ==== Sys2Proof/Machine/Track.lean ====
section
/-! DEFINITION. The tracker: the loop of R70, lock and re-acquisition, detour, position set, the map's corrections
(spec/04_angle_tracking.md; R91–R93, R101–R103 of spec/05_angle_error_maps.md). -/
namespace Sys2Proof.Machine

/-! ### The correction in use (R91–R93, R101, R102) -/

/-- The weight of a fade at `t`: rises linearly from 0 to 1 (R101). -/
def fadeWeight (start : Time) (dur : Nat) (t : Time) : Rat :=
  if dur = 0 then 1 else clampRat 0 1 (mkRat ((t : Int) - start) dur)

/-- Blend two numbers with weight `w`. -/
def blend (w : Rat) (a b : Int) : Rat := (a : Rat) + w * ((b - a : Int) : Rat)

/-- The map terms in use at `t`, as rationals: signal terms OS, OC, RT, QD, then the electrical and mechanical
coefficients. -/
structure TermsNow where
  os : Rat
  oc : Rat
  rt : Rat
  qd : Rat
  el : List (Rat × Rat)
  me : List (Rat × Rat)
  deriving DecidableEq, Repr

/-- Mechanical term `m` (from 1) is a term of its own with `p` pole pairs (R93). -/
def mechAllowed (p m : Nat) : Bool := if p = 1 then decide (9 ≤ m) else decide (m % p ≠ 0)

/-- The weight of the mechanical terms at `t` (R102). -/
def Dev.mechWeight (d : Dev) (n : Nat) (t : Time) : Rat :=
  let m := (d.lane n).map
  if d.poles n > 1 ∧ !(d.lane n).trk.referenced then 0
  else match m.mechFade with
    | some (s, dur) => fadeWeight s dur t
    | none => 1

/-- The terms in use at `t` with the weights of R101 and R102. -/
def Dev.termsNow (d : Dev) (n : Nat) (t : Time) : TermsNow :=
  let m := (d.lane n).map
  let new := m.live.terms
  let (w, old) : Rat × MapTerms := match m.fade with
    | some f => (fadeWeight f.start f.dur t, f.old)
    | none => (1, new)
  let wm := d.mechWeight n t
  let pair (wt : Rat) (a b : Int × Int) : Rat × Rat := (wt * blend w a.1 b.1, wt * blend w a.2 b.2)
  { os := blend w old.os new.os, oc := blend w old.oc new.oc, rt := blend w old.rt new.rt, qd := blend w old.qd new.qd,
    el := List.zipWith (pair 1) old.el new.el, me := List.zipWith (pair wm) old.me new.me }

/-- The corrected envelopes of R91; `m` is the magnitude of the latest carrier period. -/
def correctSignals (x : TermsNow) (s c m : Rat) : Rat × Rat :=
  let u := mkRat 1 65536
  let s1 := s - x.os * u * m
  let c1 := (c - x.oc * u * m) / (1 + x.rt * u)
  let (sq, cq) := sinCosTurn (x.qd * mkRat 1 1048576)
  (s1, (c1 + s1 * sq) / cq)

/-- Sum of `a cos(2πkφ) + b sin(2πkφ)` over the listed coefficients, `k` from the given number on. -/
def harmonics (phi : Rat) : Nat → List (Rat × Rat) → Rat
  | _, [] => 0
  | k, (a, b) :: rest =>
    let h : Rat := if a = 0 ∧ b = 0 then 0 else
      let (s, c) := sinCosTurn (phi * k)
      a * c + b * s
    h + harmonics phi (k + 1) rest

/-- The fraction of a fixed-point angle in 2^-32 turn. -/
def frac32 (x : Int) : Nat := unsigned 32 x

/-- The mechanical phase ψ of lane `n` for a given θ̂ (R93), 2^-32 turn. -/
def Dev.psi (d : Dev) (n : Nat) (th : Int) : Nat :=
  if d.poles n = 1 then frac32 th else frac32 (d.posOfTheta n th)

/-- The correction c of R92 at θ̂, rounded to 2^-32 electrical turn. -/
def Dev.mapCorrection (d : Dev) (n : Nat) (x : TermsNow) (th : Int) : Int :=
  let c := harmonics (mkRat (frac32 th) (2 ^ 32)) 1 x.el + harmonics (mkRat (d.psi n th) (2 ^ 32)) 1 x.me
  roundEven (c * 256)

/-! ### Gains (R71, R72) -/

/-- f_B of a bandwidth code in Hz (Table 4-1). -/
def bandwidthHz (code : Nat) : Nat :=
  [250, 300, 350, 400, 500, 600, 700, 800, 1000, 1200, 1400, 1600, 2000, 2500, 3000, 4000].getD code 0

/-- ω_B of a bandwidth code in rad/s. -/
def bandwidthRad (code : Nat) : Rat := ofFx twoPiFx * bandwidthHz code

/-- The gains k1, k2, k3, each rounded at 2^-16 (R71). -/
def gains (code : Nat) : Rat × Rat × Rat :=
  let w := bandwidthRad code
  let r (q : Rat) : Rat := mkRat (roundEven (q * 65536)) 65536
  (r (2 * w), r (2 * w * w), r (w * w * w))

/-- The update interval in seconds (R70). -/
def trkDt : Rat := mkRat 1 625000

/-! ### Detour (R84–R88) -/

/-- Hold the lane position: the secondary is invalid on the detour, or tracking stops (R88, R405). -/
def Dev.holdPos (d : Dev) (n : Nat) : Dev :=
  let p := (d.motionAt n d.now).pos
  d.onTrk n fun k => { k with heldPos := p }

/-- The secondary of a lane on its detour becomes invalid (R88). -/
def Dev.detourFail (d : Dev) (n : Nat) : Dev :=
  if !(d.lane n).trk.detour ∨ (d.lane n).trk.detFail then d
  else
    let d := (d.holdPos n).onTrk n fun k => { k with detFail := true }
    let d := d.logEvent 0x0215 kLane n (ev4 (d.detSrc n) ++ ev4 (d.lane n).st.code)
    if (d.lane n).st = .run then (d.laneFault n 0x15).emuRefreshLane n else d

/-- The secondary of a lane on its detour is valid again (R88). -/
def Dev.detourBack (d : Dev) (n : Nat) : Dev := d.onTrk n fun k => { k with detFail := false }

/-- The validity of input `i` may have changed: lanes on their detour through it react at this instant (R88, R122). -/
def Dev.pinValidity (d : Dev) (i : Nat) : Dev :=
  d.forEach d.laneList fun n d =>
    if (d.lane n).trk.detour ∧ d.detSrc n = i then
      if d.pinValid i then (if (d.lane n).trk.detFail then d.detourBack n else d) else d.detourFail n
    else d

/-- Enter the detour at this instant (R86). -/
def Dev.detourEnter (d : Dev) (n : Nat) : Dev :=
  let d := (d.onTrk n fun k => { k with detour := true, detFail := false }).addCnt .trkCnt n 16 16
  d.logEvent 0x0213 kLane n (ev4 (d.detSrc n) ++ ev8 (unsigned 64 ((d.lane n).trk.detOfs.getD 0)))

/-! ### Lock (R80–R83) -/

/-- The lane fault code of a loss of lock (Table 4-3). -/
def lockFaultCode (cause los : Nat) : Nat :=
  if cause ≠ 3 then 0x10
  else match los with
    | 1 => 0x01 | 2 => 0x02 | 3 => 0x09 | 4 => 0x03 | 5 => 0x04 | _ => 0x10

/-- `LOCK_LOST` sets: detour, fault or re-acquisition under Table 4-3. A lane without a resolver takes no part (R156). -/
def Dev.loseLock (d : Dev) (n cause : Nat) : Dev :=
  let k := (d.lane n).trk
  if (d.stepFb n).isSome then d
  else
    let again := k.lockCause ≠ 0
    let d := d.onTrk n fun k =>
      { k with lockCause := if again then k.lockCause else cause, errCnt := 0, spdCnt := 0, goodCnt := 0, fastEnd := none,
               reacq := if cause = 3 then .idle else .jump false, afterLos := k.afterLos || decide (cause = 3) }
    if again then d
    else
      let d := d.addCnt .trkCnt n 0 16
      if k.detour then d
      else if d.detAvail n then (d.detourEnter n).emuRefreshLane n
      else
        let d := if (d.lane n).st = .run then d.laneFault n (lockFaultCode cause (d.losCause n)) else d
        d.emuRefreshLane n

/-- OVERSPEED (R80): four consecutive updates above the lock limit. One run of such updates logs event 0x0212 once, also where
`LOCK_LOST` stands; its speed carries the sign of ω̂ (DESIGN CHOICE, log 136). -/
def Dev.overspeed (d : Dev) (n : Nat) : Dev :=
  let k := (d.lane n).trk
  if k.spdCnt < 4 ∨ k.spdSeen then d
  else
    let d := (d.onTrk n fun k => { k with spdSeen := true }).logEvent 0x0212 kLane n (wordBytes (toF32 (mkRat k.om (2 ^ 24))))
    if k.lockCause ≠ 0 then d else d.loseLock n 2

/-- LOCK_LOSS (R81): four consecutive updates with |d| above 1/16 turn; an overspeed confirmed in the same update takes
precedence. -/
def Dev.lockLoss (d : Dev) (n : Nat) : Dev :=
  let k := (d.lane n).trk
  if k.errCnt < 4 ∨ k.lockCause ≠ 0 then d
  else if 4 ≤ k.spdCnt ∧ !k.spdSeen then d.overspeed n
  else (d.logEvent 0x0210 kLane n (ev4 1 ++ evI k.d ++ ev4 (d.lane n).st.code)).loseLock n 1

/-- REACQ_FAST_END (R82): the tracker returns to its selected bandwidth. -/
def Dev.reacqFastEnd (d : Dev) (n : Nat) : Dev :=
  match (d.lane n).trk.fastEnd with
  | some e => if e ≤ d.now then d.onTrk n fun k => { k with fastEnd := none } else d
  | none => d

/-- LOCK_REGAINED (R82): 256 consecutive good updates. -/
def Dev.lockRegained (d : Dev) (n : Nat) : Dev :=
  let k := (d.lane n).trk
  if k.lockCause = 0 ∨ k.goodCnt < 256 ∨ d.los n then d
  else
    let d := d.onTrk n fun k => { k with lockCause := 0, reacq := .idle, goodCnt := 0, afterLos := false }
    let d := d.logEvent 0x0211 kLane n (evI k.jump ++ ev4 (b2n (d.lane n).trk.referenced))
    d.emuRefreshLane n

/-- The reference clears: the position restarts within the first electrical turn, the mechanical terms drop out (R76,
R102). -/
def Dev.clearReference (d : Dev) (n : Nat) : Dev :=
  (d.onTrk n fun k => { k with referenced := false, posOfs := 0, th := frac32 k.th }).onMap n fun m => { m with mechFade := none }

/-! ### The update (R70) -/

/-- The aid that applies to a sample at `t` (R73): the newest commanded acceleration in force, scaled. -/
def Dev.aidValue (d : Dev) (n : Nat) (t : Time) : Int :=
  let k := (d.lane n).trk
  let a : Rat := match k.aidQueue.find? (fun e => decide (e.1 ≤ t)) with
    | some e => e.2
    | none => 0
  roundEven (mkRat (d.fld .trkAid n 0 16) 32768 * d.poles n * d.dirSign n * a * 4096)

/-- The aid is active (R73). -/
def Dev.aidActive (d : Dev) (n : Nat) : Bool :=
  let l := d.lane n
  d.fld .trkCtrl n 9 2 = 1 && l.st = .run && d.barrierUp n && !l.acq.coast && !l.trk.detour

/-- Bookkeeping after an update of lane `n`: point history, standstill window, emulation (R78, R136, R149). -/
def Dev.afterUpdate (d : Dev) (n : Nat) (t : Time) : Dev :=
  let k := (d.lane n).trk
  let v := absRat (rnd32 (d.mechVel n k.om))
  let w := d.regF .trkStill n
  let still := if w ≤ 0 then false else if v ≤ w then true else if 2 * w ≤ v then false else k.still
  let d := d.onTrk n fun k => { k with still := still, ts := t, hist := (⟨t, k.th, k.om, k.ac + k.aid⟩ :: k.hist).take 64,
                                       decim := (k.decim + 1) % 16 }
  if k.detour then d else d.emuFollow n t true

/-- The counts of updates above the lock limit after an update that leaves ω̂ at `om` (R80). -/
def Tracker.countSpeed (k : Tracker) (fast : Bool) : Tracker :=
  { k with spdCnt := if fast then k.spdCnt + 1 else 0, spdSeen := k.spdSeen && fast }

/-- ω̂ lies above the lock limit (R80). -/
def Dev.fastAt (d : Dev) (n : Nat) (om : Int) : Bool := decide (d.lockLimit n * 2 ^ 24 < (om.natAbs : Rat))

/-- A coasted update: θ̂ advances with ω̂, α̂ and the aid are zero; it breaks a run of angle errors, and counts for the speed
limit (R62, R70, R80, R81). -/
def Dev.coastUpdate (d : Dev) (n : Nat) (t : Time) : Dev :=
  let fast := d.fastAt n (d.lane n).trk.om
  let d := d.onTrk n fun k =>
    { k.countSpeed fast with
      ac := 0, aid := 0, aidOn := false, errCnt := 0,
      th := wrapInt 68 (roundEven ((k.th : Rat) + mkRat k.om (2 ^ 24) * trkDt * 2 ^ 32)) }
  d.afterUpdate n t

/-- A suspect sample while LOS stands: θ̂ is held, ω̂ and α̂ are zero (R62). -/
def Dev.holdUpdate (d : Dev) (n : Nat) (t : Time) : Dev :=
  (d.onTrk n fun k => { (k.countSpeed false) with om := 0, ac := 0, aid := 0, aidOn := false, errCnt := 0 }).afterUpdate n t

/-- The angle error of a sample against θ̂, 2^-32 electrical turn (R70, R71). -/
def angleError (th : Int) (s c : Rat) : Int :=
  let e := atan2Turn s c - mkRat (frac32 th) (2 ^ 32)
  wrapInt 32 (roundEven (e * 2 ^ 32))

/-- One update of the tracker of lane `n` from a sample that is not suspect (R70, R82, R91, R92). Step 1 of R82 adds d itself:
R92 puts d − c in the place of d in R70 alone. -/
def Dev.trackerUpdate (d : Dev) (n : Nat) (t : Time) (s c : Int) : Dev :=
  let x := d.termsNow n t
  let (sc, cc) := correctSignals x s c ((d.lane n).acq.mag)
  let k := (d.lane n).trk
  let dErr := angleError k.th sc cc
  let corr := d.mapCorrection n x k.th
  let dd := dErr - corr
  let d := d.onTrk n fun k => { k with d := dErr, thD := k.th }
  let d := d.setReg .trkErrPk n (BitVec.ofNat 32 (max (d.reg .trkErrPk n).toNat dErr.natAbs))
  match k.reacq with
  | .jump restart =>
    let clear := !k.detour && (restart || k.afterLos || decide (dErr.natAbs > 2 ^ 30))
    let d := d.onTrk n fun k =>
      { k with th := wrapInt 68 (k.th + dErr), ac := 0, aid := 0, aidOn := false, om := if restart then 0 else k.om,
               jump := dErr, reacq := .settling, goodCnt := 0, errCnt := 0, spdCnt := 0, fastEnd := some (t + 2000 * unitsPerUs) }
    let d := if clear then d.clearReference n else if k.detour && (restart || k.afterLos) then
        d.onTrk n fun k => { k with th := frac32 k.th } else d
    d.afterUpdate n t
  | _ =>
    let code := match k.fastEnd with
      | some _ => 15
      | none => d.fld .trkCtrl n 4 4
    let (k1, k2, k3) := gains code
    let on := d.aidActive n
    let aid := if on then d.aidValue n t else 0
    let gain := d.fld .trkAid n 0 16
    let dq : Rat := mkRat dd (2 ^ 32)
    let ac0 := if on ≠ k.aidOn ∨ (on ∧ gain ≠ k.aidGain) then k.ac - (aid - k.aid) else k.ac
    let ac := roundEven ((ac0 : Rat) + k3 * dq * trkDt * 4096)
    let om0 := roundEven ((k.om : Rat) + (mkRat (ac + aid) 4096 + k2 * dq) * trkDt * 2 ^ 24)
    let om := clampInt (-(1024 * 2 ^ 24)) (1024 * 2 ^ 24) om0
    let th := wrapInt 68 (roundEven ((k.th : Rat) + (mkRat om (2 ^ 24) + k1 * dq) * trkDt * 2 ^ 32))
    let good : Bool := dErr.natAbs < 2 ^ 26 && decide ((om.natAbs : Rat) < d.lockLimit n * 2 ^ 24)
    let fast := d.fastAt n om
    let d := d.onTrk n fun k =>
      { k.countSpeed fast with
        th := th, om := om, ac := ac, aid := aid, aidOn := on, aidGain := gain,
        errCnt := if dErr.natAbs > 2 ^ 28 then k.errCnt + 1 else 0,
        goodCnt := if k.reacq = .settling then (if good then k.goodCnt + 1 else 0) else 0 }
    d.afterUpdate n t

/-! ### Start and stop of tracking (R405) -/

/-- The tracker of lane `n` starts: it acquires as after a loss of signal, and `LOCK_LOST` sets with cause 3, which switches to
an available detour (R86, R405). -/
def Dev.startTracking (d : Dev) (n : Nat) : Dev :=
  let k := (d.lane n).trk
  let d := d.onTrk n fun k =>
    { k with tracking := true, om := 0, ac := 0, aid := 0, aidOn := false, lockCause := 3, goodCnt := 0, errCnt := 0,
             spdCnt := 0, spdSeen := false, fastEnd := none, hist := [], referenced := false, posOfs := 0,
             reacq := if d.los n then .idle else .jump true, afterLos := true }
  let d := d.onMap n fun m => { m with mechFade := none }
  if k.lockCause = 0 ∧ !k.detour ∧ d.detAvail n then (d.detourEnter n).emuRefreshLane n else d.emuRefreshLane n

/-- The tracker of lane `n` stops (R405). -/
def Dev.stopTracking (d : Dev) (n : Nat) : Dev :=
  (d.onTrk n fun k => { k with tracking := false, reacq := .idle, fastEnd := none, hist := [] }).emuRefreshLane n

/-- Bring the tracking of lane `n` to what its state and configuration now give: the position is held while tracking is stopped,
and the tracker runs while the feedback is a resolver (R156, R405). -/
def Dev.refreshTracking (d : Dev) (n : Nat) : Dev :=
  let stop := d.trackStopped n
  let d := if stop && !(d.lane n).trk.posHeld then d.holdPos n else d
  let d := d.onTrk n fun k => { k with posHeld := stop }
  let on := d.trackingOn n
  if on = (d.lane n).trk.tracking then d
  else if on then d.startTracking n
  else d.stopTracking n

/-- LOS of lane `n` has cleared: re-acquisition starts at the next update (R65, R82). -/
def Dev.losCleared (d : Dev) (n : Nat) : Dev :=
  if (d.lane n).trk.tracking ∧ (d.lane n).trk.reacq = .idle ∧ d.lockLost n then
    d.onTrk n fun k => { k with reacq := .jump false, goodCnt := 0 }
  else d

/-! ### Position set and return from the detour (R76, R87) -/

/-- Choose the offsets of lane `n` so that its position at `t` equals `target` (R76). -/
def Dev.setPosition (d : Dev) (n : Nat) (t : Time) (target : Int) : Dev :=
  let old := (d.motionAt n t).pos
  let delta := wrapInt 64 (target - old)
  let d := if (d.lane n).trk.detour then
      d.onTrk n fun k => { k with detOfs := k.detOfs.map fun o => wrapInt 64 (o + delta), heldPos := wrapInt 64 (k.heldPos + delta) }
    else d.onTrk n fun k => { k with posOfs := wrapInt 64 (k.posOfs + delta) }
  d.emuRekey n old target

/-- The duration of a fade in units (R101). -/
def Dev.fadeTime (d : Dev) (n : Nat) : Nat := 1000000000 * 2 ^ d.fld .mapCtrl n 0 3

/-- POS_ARM at its commit junction (R76, R405). -/
def Dev.posArm (d : Dev) (n : Nat) : Dev :=
  let l := d.lane n
  if l.st = .run ∨ d.trackStopped n then d.setFlag .trkStat n 13
  else
    let t0 := d.time.t0
    let old := (d.motionAt n t0).pos
    let set := d.reg64 .trkPosSet n
    let was := l.trk.referenced
    let d := d.setPosition n t0 (signed 64 set)
    let d := d.onTrk n fun k => { k with referenced := true }
    let d := if !was && d.poles n > 1 then d.onMap n fun m => { m with mechFade := some (t0, d.fadeTime n) } else d
    d.logEvent 0x0216 kLane n (ev8 set ++ ev8 (unsigned 64 old))

/-- DET_RETURN at its commit junction (R87). -/
def Dev.detReturn (d : Dev) (n : Nat) : Dev :=
  if !(d.lane n).trk.detour then d
  else if d.los n ∨ d.lockLost n then d.setFlag .trkStat n 13
  else
    let t0 := d.time.t0
    let old := (d.motionAt n t0).pos
    let res := (d.resolverAt n t0).pos
    let d := d.onTrk n fun k => { k with posOfs := wrapInt 64 (k.posOfs + (old - res)), detour := false, detFail := false }
    let d := d.emuRekey n old old
    d.logEvent 0x0214 kLane n (ev8 (unsigned 64 (d.lane n).trk.posOfs))

/-- The entry of lane `n` to TRACK: an offset is to be computed anew before the detour is available (R85). -/
def Dev.enterTrack (d : Dev) (n : Nat) : Dev := d.onTrk n fun k => { k with detFresh := false }

/-! ### Configuration (R77, R78, R84, R88, R89) -/

/-- A staged tracking configuration of lane `n` is admissible (R73, R78, R84, R89). −0.0 in `TRK_STILL` counts as negative
(DESIGN CHOICE, log 137). -/
def Dev.trkCfgOk (d : Dev) (n : Nat) : Bool :=
  decide (d.fld .trkCtrl n 9 2 < 2) && decide (d.fld .trkAid n 16 16 ≤ 2000) && f32Finite (d.reg .trkStill n) &&
  !bit (d.reg .trkStill n) 31 && decide (d.detSrc n < d.pinCount) && decide (0 < d.fld .detScale n 0 16)

/-- `POLES`, `DIR`, `ZERO_OFS`: what R77 holds. -/
def Dev.trkCfgKey (d : Dev) (n : Nat) : Nat × Bool × Nat :=
  (d.fld .trkCtrl n 0 4, d.regBit .trkCtrl n 8, d.fld .trkZero n 0 24)

end Sys2Proof.Machine
end

