-- ==== Sys2Proof/Machine/Acquire.lean ====
section
/-! DEFINITION. Signal acquisition of a lane: ranging, coast, carrier phase, signal monitors, loss of signal
(spec/03_excitation_and_acquisition.md, R54–R66). -/
namespace Sys2Proof.Machine

/-- Full scale of a range in the unit of `Demod`, 2^-24 of 0.9 V (Table 3-2). -/
def rangeFull (r : Nat) : Nat := 2 ^ 24 / 2 ^ r

/-- The acquisition of lane `n` works: its tracking is on (R405). -/
def Dev.acqOn (d : Dev) (n : Nat) : Bool := d.trackingOn n

/-- Log an event of the acquisition at most once per second; `slot` numbers 0x0205 to 0x0208 (R58, R63). -/
def Dev.acqLog (d : Dev) (n slot code : Nat) (data : List Byte) : Dev :=
  let free : Bool := match (d.lane n).acq.lastLog.getD slot none with
    | some t => decide (t + unitsPerSec ≤ d.now)
    | none => true
  if free then (d.onAcq n fun a => { a with lastLog := a.lastLog.set slot (some d.now) }).logEvent code kLane n data else d

/-- `MAG`: 0.9 V / 65,536, saturating, rounded down (DESIGN CHOICE, log 138). -/
def magWord (m : Nat) : Nat := satNat 16 (m / 256)

/-- Confirm LOS cause `c` (1–4) of lane `n`: the coast ends, the lock is lost with cause 3 (R62, R63, R66). -/
def Dev.confirmLos (d : Dev) (n c : Nat) : Dev :=
  if (d.lane n).acq.causes.contains c then d
  else
    (d.onAcq n fun a => { a with causes := a.causes ++ [c], coast := false, passCnt := 0 }).loseLock n 3

/-- A sample of a lane is suspect (R62). -/
def Dev.suspect (d : Dev) (n : Nat) (x : Demod) : Bool :=
  let a := (d.lane n).acq
  let lim := d.fld .acqLevels n 0 8 * 65536
  decide (isqrt ((x.s * x.s + x.c * x.c).toNat) < lim) ||
    (d.regBit .acqCtrl n 1 && (decide (x.dcS > 100000) || decide (x.dcC > 100000))) || a.inResetS || a.inResetC

/-- Clipping of a sample (R58). Where both windings clip, the event names the sine (DESIGN CHOICE, log 139). -/
def Dev.clipCheck (d : Dev) (n : Nat) (x : Demod) : Dev :=
  let a := (d.lane n).acq
  let auto := d.fld .acqCtrl n 2 3 = 0
  if (x.clipS || x.clipC) && (a.range = 0 || !auto) then
    (d.setFlag .acqStat n 8).acqLog n 0 0x0205 (ev4 (if x.clipS then 0 else 1) ++ ev4 a.range)
  else d

/-- The widen rule and the peaks of a sample (R56): a widening cancels a pending narrowing and its count. -/
def Dev.rangeSample (d : Dev) (n : Nat) (x : Demod) : Dev :=
  let a := (d.lane n).acq
  if d.fld .acqCtrl n 2 3 ≠ 0 ∨ a.coast then d
  else
    let ps := max a.peakS x.s.natAbs
    let pc := max a.peakC x.c.natAbs
    let beyond : Bool := decide (100 * max x.s.natAbs x.c.natAbs > 88 * rangeFull a.range) && decide (0 < a.range)
    d.onAcq n fun a =>
      { a with peakS := ps, peakC := pc, rangePend := if beyond then some (a.range - 1) else a.rangePend,
               narrowCnt := if beyond then 0 else a.narrowCnt }

/-- The raw angle of a sample, 24 bits (`TRK_RAW`). -/
def rawAngle (s c : Int) : Nat := unsigned 24 (roundEven (atan2Turn s c * 2 ^ 24))

/-- A coast of lane `n` has lasted two carrier periods at `t` and ends, also where the samples stay suspect and no LOS has been
confirmed (R62; DESIGN CHOICE, log 140: the tracker then takes the sample). -/
def Dev.coastOver (d : Dev) (n : Nat) (t : Time) : Bool :=
  let a := (d.lane n).acq
  a.coast && decide (2 * d.carrierPeriod (groupOf n) < ((t - a.coastT : Nat) : Rat))

/-- A suspect sample: the tracker coasts, or holds while LOS stands (R62). Ranging is frozen while the lane coasts (R57). -/
def Dev.suspectSample (d : Dev) (t : Time) (n : Nat) (x : Demod) : Dev :=
  if d.los n then (d.rangeSample n x).holdUpdate n t
  else
    let d := if (d.lane n).acq.coast then d else d.onAcq n fun a => { a with coast := true, coastT := t }
    d.coastUpdate n t

/-- A sample that the tracker takes: a coast ends, and counts in `SUSPECT_CNT` where its condition has cleared (R62). -/
def Dev.goodSample (d : Dev) (t : Time) (n : Nat) (x : Demod) (cleared : Bool) : Dev :=
  let coast := (d.lane n).acq.coast
  let d := d.onAcq n fun a => { a with coast := false }
  let d := d.when (coast && cleared) fun d => d.addCnt .acqCnt n 16 16
  (d.rangeSample n x).trackerUpdate n t x.s x.c

/-- DEMOD_SAMPLE (R54): the sample with pin instant `t` reaches the tracker 2.9 µs later; suspect samples coast (R62). -/
def Dev.demodSample (d : Dev) (t : Time) (n : Nat) (x : Demod) : Dev :=
  let d := d.at (t + 11600)
  if !d.acqOn n then d
  else
    let d := (d.clipCheck n x).onTrk n fun k => { k with raw := rawAngle x.s x.c }
    if d.suspect n x && !d.coastOver n t then d.suspectSample t n x else d.goodSample t n x (!d.suspect n x)

/-- The start value of φ (Table 3-3). -/
def Dev.phaseStart (d : Dev) (n : Nat) : Int :=
  if d.fld .acqCtrl n 5 2 = 0 then 0
  else clampInt (-(2 ^ 30)) (2 ^ 30) (signed 16 (d.fld .acqPhaseSet n 0 16) * 65536)

/-- The time constant of the estimator in units (R60). -/
def Dev.phaseTau (d : Dev) (n : Nat) : Nat :=
  match (d.lane n).acq.fastEnd with
  | some _ => 1000 * unitsPerUs
  | none => 10 ^ d.fld .acqCtrl n 7 2 * 10000 * unitsPerUs

/-- The phase estimate of one carrier period (R59, R61). `QUAD` is rounded down (DESIGN CHOICE, log 138); with an in-phase
magnitude of zero the spec states no value: a free value (log 141). -/
def Dev.phasePeriod (d : Dev) (n : Nat) (x : Period) : Dev :=
  let a := (d.lane n).acq
  let i2 := (x.iS * x.iS + x.iC * x.iC).toNat
  let q2 := (x.qS * x.qS + x.qC * x.qC).toNat
  let iq := x.iS * x.qS + x.iC * x.qC
  let f := d.carrier (groupOf n)
  let slow : Bool := decide (mkRat (d.lane n).trk.om.natAbs (2 ^ 24) < f / 64)
  let (quad, d) : Nat × Dev :=
    if i2 = 0 then let (w, d) := d.free; (w.toNat % 65536, d) else (satNat 16 (isqrt (q2 * 2 ^ 32 / i2)), d)
  let d := d.onAcq n fun a => { a with quad := quad }
  if d.fld .acqCtrl n 5 2 = 1 ∨ !slow ∨ a.coast ∨ a.mag < d.fld .acqLevels n 0 8 * 65536 then d
  else
    let e0 := atan2Turn (sqrtRat q2) (sqrtRat i2)
    let e := if iq < 0 then -e0 else if iq = 0 then 0 else e0
    let phi := roundEven ((a.phi : Rat) + e * 2 ^ 32 * (d.carrierPeriod (groupOf n) / d.phaseTau n))
    d.onAcq n fun a => { a with phi := clampInt (-(2 ^ 30)) (2 ^ 30) phi }

/-- The flag and onset event of |φ| at 85° (R61, R63). -/
def Dev.phaseLimit (d : Dev) (n : Nat) : Dev :=
  let a := (d.lane n).acq
  let on : Bool := decide (360 * a.phi.natAbs ≥ 85 * 2 ^ 32)
  let d := d.setFlagIf on .acqStat n 11
  let d := if on && !a.phaseOn then d.acqLog n 3 0x0208 (evI (a.phi / 65536)) else d
  d.onAcq n fun a => { a with phaseOn := on }

/-- The magnitude window of one carrier period (R63). -/
def Dev.ampWindow (d : Dev) (n : Nat) : Dev :=
  let a := (d.lane n).acq
  let lo := d.fld .acqLevels n 8 8 * 65536
  let hi := d.fld .acqLevels n 16 8 * 65536
  let on : Bool := (decide (0 < lo) && decide (a.mag < lo)) || (decide (0 < hi) && decide (hi < a.mag))
  let d := d.setFlagIf on .acqStat n 9
  let d := if on && !a.ampOn then d.acqLog n 1 0x0206 (ev4 (magWord a.mag)) else d
  d.onAcq n fun a => { a with ampOn := on }

/-- CARRIER_PERIOD (R59, R63): magnitude, continuity, phase, the counts of narrowing, ratio and passing periods. Where both
windings exceed 100 mV, the sine counts (DESIGN CHOICE, log 139). -/
def Dev.carrierPeriodEnd (d : Dev) (n : Nat) (x : Period) : Dev :=
  if !d.acqOn n ∨ !d.groupRunning n then d
  else
    let a := (d.lane n).acq
    let mag := isqrt ((x.iS * x.iS + x.iC * x.iC).toNat)
    let wire := d.regBit .acqCtrl n 1
    let dc : Option (Nat × Nat) := if !wire then none else if x.dcS > 100000 then some (0, x.dcS)
      else if x.dcC > 100000 then some (1, x.dcC) else none
    let low : Bool := decide (mag < d.fld .acqLevels n 0 8 * 65536)
    let open_ := (d.group (groupOf n)).isOpen
    let pass := !low && dc.isNone && !a.inResetS && !a.inResetC && !a.badIn && !open_
    let thr := 40 * rangeFull a.range
    let small : Bool := decide (100 * a.peakS < thr) && decide (100 * a.peakC < thr) && decide (a.range < 3) &&
      d.fld .acqCtrl n 2 3 = 0 && !a.coast
    let d := d.onAcq n fun a =>
      { a with mag := mag, magLow := low, dcOpen := dc, passCnt := if pass then a.passCnt + 1 else 0, badIn := false,
               narrowCnt := if a.coast then a.narrowCnt else if small then a.narrowCnt + 1 else 0,
               peakS := 0, peakC := 0, ratioSum := a.ratioSum + mag, ratioCnt := a.ratioCnt + 1 }
    ((d.ampWindow n).phasePeriod n x).phaseLimit n

/-- PHASE_FAST_END (R60). -/
def Dev.phaseFastEnd (d : Dev) (n : Nat) : Dev :=
  match (d.lane n).acq.fastEnd with
  | some e => if e ≤ d.now then d.onAcq n fun a => { a with fastEnd := none } else d
  | none => d

/-- LOS_CONFIRM (R63, R66): causes 1 and 2 of the last complete carrier period. -/
def Dev.losConfirm (d : Dev) (n : Nat) : Dev :=
  if !d.acqOn n ∨ !d.groupRunning n then d
  else
    let a := (d.lane n).acq
    let d := if a.magLow && !(d.group (groupOf n)).isOpen && !a.causes.contains 1 then
        (d.logEvent 0x0201 kLane n (ev4 (magWord a.mag) ++ ev4 a.range)).confirmLos n 1
      else d
    match a.dcOpen with
    | some (w, dc) =>
      if a.causes.contains 2 then d
      else (d.logEvent 0x0202 kLane n (ev4 w ++ ev4 (dc / 1000))).confirmLos n 2
    | none => d

/-- LOS of lane `n` has ended: the fast phase estimate and the re-acquisition start (R60, R65, R82). -/
def Dev.losEnded (d : Dev) (n : Nat) : Dev :=
  if d.los n then d
  else (d.onAcq n fun a => { a with fastEnd := some (d.now + 8000 * unitsPerUs) }).losCleared n

/-- LOS_CLEAR (R65): 16 consecutive carrier periods have passed every check. -/
def Dev.losClear (d : Dev) (n : Nat) : Dev :=
  let a := (d.lane n).acq
  if !d.groupRunning n ∨ a.causes = [] ∨ a.passCnt < 16 then d
  else (d.onAcq n fun a => { a with causes := [] }).losEnded n

/-- MODULATOR_RESET (R63): the third reset of a lane within 100 ms confirms LOS cause 3; resets count only while the group is
RUNNING (R52). -/
def Dev.modulatorReset (d : Dev) (t : Time) (n w : Nat) : Dev :=
  if !d.acqOn n then d
  else
    let run := d.groupRunning n
    let d := d.onAcq n fun a =>
      { a with resets := if run then t :: a.resets.filter fun r => decide (t < r + 100000 * unitsPerUs) else [], badIn := true,
               inResetS := if w = 0 then true else a.inResetS, inResetC := if w = 0 then a.inResetC else true }
    let a := (d.lane n).acq
    if a.resets.length ≥ 3 ∧ !a.causes.contains 3 then
      (d.logEvent 0x0209 kLane n (ev4 (2 * n + w % 2) ++ ev4 a.resets.length)).confirmLos n 3
    else d

/-- MODULATOR_RESET_END (R63). -/
def Dev.modulatorResetEnd (d : Dev) (n w : Nat) : Dev :=
  d.onAcq n fun a => if w = 0 then { a with inResetS := false } else { a with inResetC := false }

/-- RANGE_NARROW_COUNT (R56): a narrowing step becomes pending. -/
def Dev.rangeNarrow (d : Dev) (n : Nat) : Dev :=
  let a := (d.lane n).acq
  if a.narrowCnt < 16 ∨ a.rangePend.isSome ∨ a.range ≥ 3 ∨ a.coast ∨ d.fld .acqCtrl n 2 3 ≠ 0 then d
  else d.onAcq n fun a => { a with rangePend := some (a.range + 1), narrowCnt := 0 }

/-- RANGE_CHANGE (R57): the pending step is applied at the zero crossing; while the lane coasts, ranging is frozen. -/
def Dev.rangeChange (d : Dev) (n : Nat) : Dev :=
  let a := (d.lane n).acq
  match a.rangePend with
  | some r =>
    if a.coast then d
    else (d.onAcq n fun a => { a with range := r, rangePend := none, narrowCnt := 0 }).addCnt .acqCnt n 0 16
  | none => d

/-- RATIO_EVAL (R63): the 64-period ratio against its window. With `AMP` = 0 the spec states no ratio: a free value. -/
def Dev.ratioEval (d : Dev) (n : Nat) : Dev :=
  let a := (d.lane n).acq
  if a.ratioCnt < 64 then d
  else
    let amp := d.fld .excAmp (groupOf n) 0 12
    let (r, d) : Nat × Dev :=
      if amp = 0 then let (w, d) := d.free; (w.toNat % 65536, d)
      else
        let v : Rat := mkRat (a.ratioSum * 9) (a.ratioCnt * 10 * 2 ^ 24)
        let ref : Rat := mkRat (amp * 8) 40000
        (satNat 16 (roundEven (v / ref * 4096)).toNat, d)
    let on : Bool := decide (r < d.fld .acqRatio n 0 16) || decide (d.fld .acqRatio n 16 16 < r)
    let d := d.onAcq n fun a => { a with ratio := r, ratioSum := 0, ratioCnt := 0 }
    let d := d.setFlagIf on .acqStat n 10
    let d := if on && !a.ratioOn then d.acqLog n 2 0x0207 (ev4 r) else d
    d.onAcq n fun a => { a with ratioOn := on }

/-- The entry of lane `n` to TRACK, or the start of its acquisition: φ takes its start value and the fast estimate runs
(R60, Table 3-3). -/
def Dev.acqStart (d : Dev) (n : Nat) : Dev :=
  let p := d.phaseStart n
  d.onAcq n fun a => { a with phi := p, fastEnd := some (d.now + 8000 * unitsPerUs), coast := false, ratioSum := 0, ratioCnt := 0 }

/-- Bring the tracking of lane `n` to what its state and configuration give; where it starts, so does the acquisition (R60,
R405). -/
def Dev.retrack (d : Dev) (n : Nat) : Dev :=
  let e := d.refreshTracking n
  if (e.lane n).trk.tracking && !(d.lane n).trk.tracking then e.acqStart n else e

/-- A staged acquisition configuration of lane `n` is admissible (R67). -/
def Dev.acqCfgOk (d : Dev) (n : Nat) : Bool :=
  decide (d.fld .acqCtrl n 5 2 ≠ 3) && decide (d.fld .acqCtrl n 2 3 ≤ 4)

/-- A committed configuration: a fixed range is taken up at the next zero crossing, and a step that waited under another range
mode is dropped; a changed start phase acts at once (R56, R59). -/
def Dev.acqCfgApply (old d : Dev) (n : Nat) : Dev :=
  let m := d.fld .acqCtrl n 2 3
  let d := if m = old.fld .acqCtrl n 2 3 then d else d.onAcq n fun a =>
    { a with rangePend := if m = 0 ∨ m - 1 = a.range then none else some (m - 1), narrowCnt := 0 }
  if (old.fld .acqCtrl n 5 2, old.reg .acqPhaseSet n) ≠ (d.fld .acqCtrl n 5 2, d.reg .acqPhaseSet n) then
    let p := d.phaseStart n
    d.onAcq n fun a => { a with phi := p }
  else d

end Sys2Proof.Machine
end

