-- ==== Sys2Proof/Machine/Excite.lean ====
section
/-! DEFINITION. Excitation groups (spec/03_excitation_and_acquisition.md, R46–R52, R63, R65). -/
namespace Sys2Proof.Machine

/-- The carrier phase of group `g` at `t`, 2^-32 turn: one step of `FCW` per DAC sample of 32 cyc (R46). -/
def Dev.carrierPhase (d : Dev) (g : Nat) (t : Time) : Nat :=
  let x := d.group g
  (x.phase + (t - x.phaseT) / 640 * (d.reg .excFreq g).toNat) % 2 ^ 32

/-- The first DAC sample at or after `t`. -/
def nextDac (t : Time) : Time := (t + 639) / 640 * 640

/-- The share of `AMP` that EXC± of group `g` has at `t`: the start ramp of 16 carrier periods, full amplitude, or what a stop
leaves (R46, R48, R49, R51). -/
def Dev.excLevel (d : Dev) (g : Nat) (t : Time) : Rat :=
  let x := d.group g
  match x.gen with
  | .ramping => clampRat 0 1 (((t : Int) - x.rampT : Int) / (16 * d.carrierPeriod g))
  | .running => 1
  | .shorted => 0
  | .stopped | .economy =>
    if x.stopEnd ≤ t then 0
    else if x.stopRamp then x.stopFrom * ((x.stopEnd - t : Nat) : Rat) / ((x.stopEnd - x.stopT : Nat) : Rat)
    else x.stopFrom

/-- The peak-to-peak differential amplitude of EXC± at `t` in volts (R46). -/
def Dev.excVolts (d : Dev) (g : Nat) (t : Time) : Rat := d.excLevel g t * mkRat (d.fld .excAmp g 0 12 * 16) 40000

/-- The first carrier zero crossing of group `g` at or after `t` (R51). -/
def Dev.excZero (d : Dev) (g : Nat) (t : Time) : Time :=
  let x := d.group g
  let f := (d.reg .excFreq g).toNat
  t - (t - x.phaseT) % 640 + 640 * ((2 ^ 31 - d.carrierPhase g t % 2 ^ 31 + f - 1) / f)

/-- Causes 1–4 of the group's lanes end because the group leaves RUNNING; their LOS stands with cause 5 or 6 (R52). -/
def Dev.leaveRunning (d : Dev) (g : Nat) : Dev :=
  d.forEach (lanesOfGroup g) fun n d =>
    let d := d.onAcq n fun a => { a with causes := [], coast := false, passCnt := 0, magLow := false, dcOpen := none, resets := [] }
    if (d.lane n).trk.tracking then d.loseLock n 3 else d

/-- Start the generator of group `g` at this commit junction (R48). -/
def Dev.genStart (d : Dev) (g : Nat) : Dev :=
  let t0 := d.time.t0
  let c := d.reg .excCtrl g
  let start := if bit c 1 then t0 else nextDac t0
  let d := d.onGroup g fun x => { x with gen := .ramping, phase := field c 16 12 * 2 ^ 20, phaseT := start, rampT := start, isOpen := false }
  d.logEvent 0x020A kGroup g (ev4 (d.reg .excFreq g).toNat ++ ev4 (d.reg .excAmp g).toNat ++ ev4 1)

/-- The output of group `g` stops from the present T0 on: with a ramp to zero over 4 carrier periods, or at its first zero
crossing (R49, R51). `RUNNING` clears when the stop begins; for a stop at the zero crossing that is the frame boundary (DESIGN
CHOICE, log 142). -/
def Dev.excRelease (d : Dev) (g : Nat) (to_ : GenState) (ramp : Bool) : Dev :=
  let t0 := d.time.t0
  let level := d.excLevel g t0
  let end_ := if ramp then t0 + (floorRat (4 * d.carrierPeriod g)).toNat else d.excZero g t0
  (d.onGroup g fun x => { x with gen := to_, isOpen := false, stopT := t0, stopFrom := level, stopEnd := end_, stopRamp := ramp }).leaveRunning g

/-- Stop the generator of group `g` (R49, R51). -/
def Dev.genStop (d : Dev) (g : Nat) (ramp : Bool) : Dev :=
  if (d.group g).gen = .stopped then d
  else
    let d := d.excRelease g .stopped ramp
    d.logEvent 0x020A kGroup g (ev4 (d.reg .excFreq g).toNat ++ ev4 (d.reg .excAmp g).toNat ++ ev4 0)

/-- RAMP_COMPLETE (R48, R65): `RUNNING` sets after 16 carrier periods, at the whole unit next to that instant; a short that
did not recur has cleared. -/
def Dev.rampComplete (d : Dev) (g : Nat) : Dev :=
  let x := d.group g
  if x.gen ≠ .ramping ∨ ((d.now + 1 - x.rampT : Nat) : Rat) ≤ 16 * d.carrierPeriod g then d
  else
    (d.onGroup g fun x => { x with gen := .running, short := false }).forEach (lanesOfGroup g) fun n d => d.losEnded n

/-- An excitation short (Table 3-5): EXC± at common mode, `RUNNING` cleared, LOS cause 5 on the group's lanes. -/
def Dev.excShort (d : Dev) (g peak : Nat) : Dev :=
  let d := d.onGroup g fun x => { x with gen := .shorted, short := true, isOpen := false }
  (d.logEvent 0x0204 kGroup g (ev4 peak)).leaveRunning g

/-- The carrier period that runs does not pass for the group's lanes: the excitation is open (R65). -/
def Dev.openSeen (d : Dev) (g : Nat) : Dev :=
  d.forEach (lanesOfGroup g) fun n d => d.onAcq n fun a => { a with badIn := true, passCnt := 0 }

/-- LOS cause 4 on lane `n`: a lane whose tracking is stopped takes the cause alone (R63, R405). -/
def Dev.openLane (d : Dev) (n : Nat) : Dev :=
  if d.acqOn n then d.confirmLos n 4
  else if (d.lane n).acq.causes.contains 4 then d
  else d.onAcq n fun a => { a with causes := a.causes ++ [4] }

/-- An excitation open (Table 3-5): LOS cause 4 on all eight lanes; the generator keeps running. -/
def Dev.excOpen (d : Dev) (g peak : Nat) : Dev :=
  let d := (d.onGroup g fun x => { x with isOpen := true }).logEvent 0x0203 kGroup g (ev4 peak)
  (d.forEach (lanesOfGroup g) fun n d => d.openLane n).openSeen g

/-- EXC_HALF_PERIOD (R63): the IXS± peak against its thresholds; the excitation charge is counted (R358). -/
def Dev.excHalfPeriod (d : Dev) (g peak : Nat) : Dev :=
  let x := d.group g
  if x.gen ≠ .ramping ∧ x.gen ≠ .running then d
  else
    let peak := satNat 16 peak
    let vs : Rat := mkRat (peak * 4) 1000000 * (4 / ofFx twoPiFx) * (d.carrierPeriod g / 8000000000)
    let d := d.onHlt fun h => { h with odo := { h.odo with exc := h.odo.exc.modify g (· + vs * 10) } }
    let d := d.setFld .excStat g 16 16 peak
    let lo := d.fld .excIxs g 0 16
    if d.fld .excIxs g 16 16 < peak then d.excShort g peak
    else if x.gen = .running ∧ 0 < lo ∧ peak < lo then (if x.isOpen then d.openSeen g else d.excOpen g peak)
    else d.onGroup g fun x => { x with isOpen := false }

/-- A staged group configuration is within its limits (R46). -/
def Dev.excCfgOk (d : Dev) (g : Nat) : Bool :=
  let f := (d.reg .excFreq g).toNat
  decide (1374390 ≤ f) && decide (f ≤ 13743895) && decide (d.fld .excAmp g 0 12 ≤ 4000)

/-- Some lane of group `g` is in TRACK or RUN. -/
def Dev.groupUp (d : Dev) (g : Nat) : Bool := (lanesOfGroup g).any d.laneUp

/-- The bits of a staged group word that its condition holds (R47, R49, R51). -/
def Dev.excHold (d : Dev) (g : Nat) (i : RegId) (v : Word) : Word :=
  let up := d.groupUp g
  match i with
  | .excFreq | .excAmp => if up then 0xFFFFFFFF else 0
  | .excCtrl => if (up && !bit v 0) || (d.pwr.st = .parked && bit v 0) then 1 else 0
  | _ => 0

/-- Commit the staged words of group `g`, all of them or none, then start, stop or retune its generator (R46–R51). -/
def Dev.excCommit (d : Dev) (g : Nat) (es : List Staged) : Dev :=
  let was := d.regBit .excCtrl g 0
  let fcw := d.reg .excFreq g
  let t0 := d.time.t0
  let now := d.carrierPhase g t0
  let d := d.commitSet es (fun i _ v => d.excHold g i v) (fun e => e.excCfgOk g) (fun e => e.setFlag .excStat g 5)
  let run := d.regBit .excCtrl g 0
  let live := (d.group g).gen = .running || (d.group g).gen = .ramping
  if run && !was then d.genStart g
  else if !run && was then d.genStop g true
  else if live && d.reg .excFreq g ≠ fcw then
    let c := d.reg .excCtrl g
    d.onGroup g fun x => { x with phase := if bit c 1 then field c 16 12 * 2 ^ 20 else now, phaseT := t0 }
  else d

/-- ECONOMY at a commit junction (R51): a running group with every lane OFF stops its DAC; it restarts with a ramp when a
lane leaves OFF, or when the device returns to ACTIVE. The restart logs event 0x020A as a start, the stop logs none (DESIGN
CHOICE, log 143). -/
def Dev.excEconomy (d : Dev) (g : Nat) : Dev :=
  let allOff := (lanesOfGroup g).all fun n => (d.lane n).st = .off
  match (d.group g).gen with
  | .running => if d.pwr.st = .economy && allOff then d.excRelease g .economy true else d
  | .economy => if d.pwr.st = .active || !allOff then d.genStart g else d
  | _ => d

/-- Entry to PARKED: every generator stops at its first carrier zero crossing, and `RUN` clears (R51). -/
def Dev.excPark (d : Dev) : Dev :=
  d.forEach (List.range 12) fun g d => (d.genStop g false).setFld .excCtrl g 0 1 0

end Sys2Proof.Machine
end

