-- ==== Sys2Proof/Machine/LoopArith.lean ====
section
/-! DEFINITION. Loop arithmetic to the bit: binary32 operations, kerbs, block-floating stages, the loop of R164 and the
integrator step (R164, R166, R183–R188). -/
namespace Sys2Proof.Machine

/-- The sign bit of a binary32 word. -/
def signW (a : Word) : Bool := bit a 31

/-- An exact result as a binary32 word, rounded once (R184). Zero is signed as in IEEE 754: a result that underflows keeps its
sign, an exact zero is −0.0 where `neg` holds. -/
def toW (neg : Bool) (q : Rat) : Word :=
  let w := toF32 q
  if w = 0 ∧ (q < 0 ∨ (q = 0 ∧ neg)) then 0x80000000 else w

/-- A binary32 word with its sign turned. -/
def neg32 (a : Word) : Word := a ^^^ 0x80000000
/-- A fused multiply-add a×b + c in binary32 (R184): an exact zero is −0.0 only where both terms are negative. -/
def fma32 (a b c : Word) : Word := toW (xor (signW a) (signW b) && signW c) (f32 a * f32 b + f32 c)
/-- A binary32 sum. -/
def add32 (a b : Word) : Word := toW (signW a && signW b) (f32 a + f32 b)
/-- A binary32 product. -/
def mul32 (a b : Word) : Word := toW (xor (signW a) (signW b)) (f32 a * f32 b)
/-- −0.0 written as +0.0 (R168). -/
def plusZero (a : Word) : Word := if a = 0x80000000 then 0 else a

/-- A kerb: the value clamped, and −1, 0 or 1 for the limit it clamped at (R166, R167). -/
def kerb (lo hi x : Word) : Word × Int :=
  if f32 x < f32 lo then (lo, -1) else if f32 hi < f32 x then (hi, 1) else (x, 0)
/-- A kerb symmetric about zero. -/
def kerbSym (lim x : Word) : Word × Int := kerb (neg32 lim) lim x

/-- The sign of a rational. -/
def signRat (x : Rat) : Int := if x < 0 then -1 else if 0 < x then 1 else 0

/-- lb of R186: the binary exponent; minus infinity, for zero, as a number below every exponent that occurs. -/
def lb (v : Rat) : Int := if v = 0 then -100000 else ratExp v

/-- The exponent that R186 chooses for a stage, before its upper limit. -/
def stageExp (first : Bool) (e h : Int) : Int :=
  if first ∨ e < h - 29 then max (h - 29) (-128) else if h - 29 ≤ e - 2 then max (e - 1) (-128) else e

/-- A mantissa re-expressed from exponent `e` to `f`: a right shift rounds to nearest even (R186). -/
def reexpress (m e f : Int) : Int := roundEven ((m : Rat) * pow2 (e - f))

/-- One run of a section: the new stage states and the exact output; none: the exponent overflows (R186, R188). -/
def stageRun (c : SectionCoef) (s : Stage) (x0 : Rat) : Option (Stage × Rat) :=
  let val (m : Int) : Rat := (m : Rat) * pow2 s.e
  let cb (m : Int) : Int := lb ((m : Rat) * pow2 ((c.bsh : Int) - 30))
  let ca (m : Int) : Int := lb ((m : Rat) * pow2 (-30))
  let lx0 := lb x0
  let lx1 := lb (val s.x1)
  let lx2 := lb (val s.x2)
  let ly1 := lb (val s.y1)
  let ly2 := lb (val s.y2)
  let m := max (lx0 + cb c.mb0) (max (lx1 + cb c.mb1) (max (lx2 + cb c.mb2) (max (ly1 + ca c.ma1) (ly2 + ca c.ma2))))
  let h := max lx0 (max lx1 (max lx2 (max ly1 (max ly2 (m + 5)))))
  let f := stageExp s.first s.e h
  if 127 < f then none
  else
    let x1 := reexpress s.x1 s.e f
    let x2 := reexpress s.x2 s.e f
    let y1 := reexpress s.y1 s.e f
    let y2 := reexpress s.y2 s.e f
    let m0 := roundEven (x0 * pow2 (-f))
    let acc := (c.mb0 * m0 + c.mb1 * x1 + c.mb2 * x2) * 2 ^ c.bsh - (c.ma1 * y1 + c.ma2 * y2)
    let y0 := roundEven (mkRat acc (2 ^ 30))
    some ({ x1 := m0, x2 := x1, y1 := y0, y2 := y1, e := f, first := false }, (y0 : Rat) * pow2 f)

/-- The outcome of a cascade of sections: the states, the outputs and the value that leaves it, or the stage that
overflowed. -/
abbrev CascadeOut := Except Nat (List Stage × List (Option Word) × Rat)

/-- Run sections `base` to `base + n − 1` on `x` (R164). -/
def cascadeRun (secs : List SectionCoef) (base : Nat) : Nat → List Stage → List (Option Word) → Rat → CascadeOut
  | 0, st, out, x => .ok (st, out, x)
  | n + 1, st, out, x =>
    match cascadeRun secs base n st out x with
    | .error i => .error i
    | .ok (st, out, y) =>
      let i := base + n
      match stageRun (secs.getD i passThrough) (st.getD i {}) y with
      | none => .error i
      | some (s, z) => .ok (st.set i s, out.set i (some (toF32 z)), z)

/-- The gain with index `i` of Table 9-3. -/
def Bank.gain (b : Bank) (i : Nat) : Word := b.gains.getD i 0

/-- The places of a loop in banks and stages: first section, gain KP, KI, IK. -/
structure LoopIx where
  base : Nat
  kp   : Nat
  ki   : Nat
  ik   : Nat
  deriving DecidableEq, Repr

/-- VEL: sections V1–V16, `KPV`, `KIV`, `IKV`. -/
def ixVel : LoopIx := ⟨0, 0, 1, 2⟩
/-- POS: sections P1–P8, `KPP`, `KIP`, `IKP`. -/
def ixPos : LoopIx := ⟨16, 3, 4, 5⟩
/-- TRIM: sections T1–T8, `KPT`, `KIT`, `IKT`. -/
def ixTrm : LoopIx := ⟨24, 6, 7, 8⟩

/-- What a run of a loop gives: states, outputs, the integrator before its step, the unkerbed u, whether the
back-calculation clamped and whether the integrator kerb did. -/
structure LoopRun where
  stages  : List Stage
  secOut  : List (Option Word)
  i       : Word
  u       : Word
  bcClamp : Bool
  clamped : Bool
  deriving DecidableEq, Repr

/-- One run of a loop with `n` sections on the exact error `e`, `e32` in binary32 (R164, R187, R198): `bc` is the treatment still
due after a swap and `uPrev` the output of the loop's last run. -/
def loopRun (b : Bank) (ix : LoopIx) (n : Nat) (st : List Stage) (out : List (Option Word)) (e : Rat) (e32 i uPrev : Word)
    (bc : Option Bool) : Except Nat LoopRun :=
  match cascadeRun b.secs ix.base n st out e with
  | .error k => .error k
  | .ok (st, out, y) =>
    let x := if n = 0 then e32 else toF32 y
    let ik := b.gain ix.ik
    let kp := b.gain ix.kp
    match bc with
    | some true =>
      let (i', c) := kerbSym ik (fma32 (neg32 kp) x uPrev)
      .ok ⟨st, out, i', if c = 0 then uPrev else fma32 kp x i', c ≠ 0, c ≠ 0⟩
    | some false =>
      let (i', c) := kerbSym ik i
      .ok ⟨st, out, i', fma32 kp x i', false, c ≠ 0⟩
    | none => .ok ⟨st, out, i, fma32 kp x i, false, false⟩

/-- c_X of R185: two roundings; `tx` is the period of the loop's runs in seconds. -/
def stepConst (b : Bank) (ix : LoopIx) (tx : Rat) : Word := mul32 (mul32 (b.gain ix.kp) (b.gain ix.ki)) (toF32 tx)

/-- The integrator step of R166 with its kerb: `downs` pairs each downstream kerb's clamp with the sign that carries the
step to it. A step that would drive a clamped quantity further is skipped. -/
def integrate (b : Bank) (ix : LoopIx) (tx : Rat) (e i : Word) (downs : List (Int × Int)) : Word × Bool :=
  let c := stepConst b ix tx
  let sg := signRat (f32 c) * signRat (f32 e)
  if downs.any fun (k, s) => k ≠ 0 && sg * s = k then (i, false)
  else
    let (i', k) := kerbSym (b.gain ix.ik) (fma32 c e i)
    (i', k ≠ 0)

end Sys2Proof.Machine
end

