-- ==== Sys2Proof/Machine/Pfe.lean ====
section
/-! DEFINITION. The process measurement front end: conversions, ranging, charge amplifier, tests, linearisation, validity, pairs
and configuration (R235–R250). -/
namespace Sys2Proof.Machine

/-- Change process channel `c`. -/
def Dev.onPfe (d : Dev) (c : Nat) (f : PfeCh → PfeCh) : Dev := { d with pfe := d.pfe.modify c f }
/-- Process channel `c`. -/
def Dev.ch (d : Dev) (c : Nat) : PfeCh := d.pfe.getD c {}

/-- `TYPE`. -/
def Dev.pfeType (d : Dev) (c : Nat) : Nat := d.fld .pfeCtrl c 0 4
/-- The output rate in samples per second (Table 11-3). -/
def pfeRate (code : Nat) : Nat := [10, 20, 50, 100, 250, 500, 1000, 2000, 4000, 8000].getD code 1000
/-- The sample period in units. -/
def Dev.pfePeriod (d : Dev) (c : Nat) : Nat := unitsPerSec / pfeRate (d.fld .pfeCtrl c 8 4)
/-- The channels run: ACTIVE or ECONOMY (R246, R250). -/
def Dev.pfePowered (d : Dev) : Bool := d.alive && (d.pwr.st = .active || d.pwr.st = .economy)

/-- The full scale of a gain code in nanovolts, as a rational (Table 11-4). -/
def fullScale (g : Nat) : Rat := mkRat 900000000 (2 ^ g)
/-- The full scale of the charge amplifier in pC for capacitor code − 1 (R239). -/
def chargeScale (g : Nat) : Rat := (9 * 10 ^ g : Nat)

/-- The last sample boundary of channel `c` at or before `t` (R240): from `FRM_EPOCH` in `DTIME` with `SYNC` = 1, and from the
instant at which the channel started with `SYNC` = 0. -/
def Dev.pfeEdge (d : Dev) (c : Nat) (t : Time) : Int :=
  let e : Int := if d.regBit .pfeCtrl c 18 then d.reg64 .frmEpoch 0 else (d.ch c).started
  let p : Int := d.pfePeriod c
  e + ((t : Int) - e) / p * p

/-- The partner of channel `c` (R249). -/
def Dev.pfePartner (d : Dev) (c : Nat) : Option Nat :=
  let p := d.fld .pfePair c 0 4
  if p < 8 then some p else (List.range 8).find? fun q => d.fld .pfePair q 0 4 = c

/-- The comparison of channel `c` and its partner starts afresh, with `PAIR_DISAGREE` clear on both, as one of the two restarts
(DESIGN CHOICE, log 148). -/
def Dev.pairReset (d : Dev) (c : Nat) : Dev :=
  let clear (x : PfeCh) : PfeCh := { x with pairBad := 0, pairGood := 0, pairDis := false }
  (d.onPfe c clear).whenSome (d.pfePartner c) fun q d => d.onPfe q clear

/-- t of channel `c` while its source is valid (R245). -/
def Dev.pfeTempNow (d : Dev) (c : Nat) : Option Word :=
  match d.fld .pfeCtrl c 20 4 with
  | 0 => some 0
  | 1 => some d.hlt.dieT
  | s => let q := d.ch (s - 2); if q.cur.valid then some q.cur.val else none

/-- Restart a channel: the conversion under way is abandoned, the next begins at the next sample boundary, and the value held
is invalid (R240, R246, R247, R250). -/
def Dev.pfeRestart (d : Dev) (c : Nat) : Dev :=
  let ty := d.pfeType c
  let rm := d.fld .pfeCtrl c 4 4
  let d := (d.pairReset c).onPfe c fun x => { x with started := d.now }
  let edge := d.pfeEdge c d.now
  let t := d.pfeTempNow c
  d.onPfe c fun x =>
    { x with gain := if rm = 0 then 0 else rm - 1, gainPend := none, downCnt := 0, spanGain := false, spanReset := false,
             xs := [], vs := [], replaced := 0, notch := [], settle := 4, leadWait := ty = 4, conv := 0, sinceTest := 0,
             sinceLead := 0, vLead := 0, carry := 0, tarePend := false, rstPend := false, openWire := false,
             overRange := false, excFault := false, tempHeld := false, rangeStep := false, resetStep := false, passTests := 0,
             openConvs := 0, goodExc := 0, lastT := t, cur := { x.cur with valid := false }, meas := {}, pend := none,
             avail := { x.avail with valid := false },
             began := (if edge = d.now then edge else edge + d.pfePeriod c).toNat }

/-- A new value is formed at `t`, the end of its conversion: it becomes available 20 µs later, an invalid one is replaced by
the previous valid one, and the channels that take t from a valid one hold it (R242, R245, R246). -/
def Dev.pfeForm (d : Dev) (c : Nat) (t : Time) (v : PfeVal) : Dev :=
  let d := d.onPfe c fun x =>
    let w := if v.valid then v else { x.last with valid := false }
    { x with cur := w, last := if v.valid then v else x.last, prev := if v.valid then x.last else x.prev,
             pend := some (t + 80000, w) }
  if v.valid then
    d.forEach (List.range 8) fun k d =>
      if d.fld .pfeCtrl k 20 4 = c + 2 then d.onPfe k fun x => { x with lastT := some v.val } else d
  else d

/-- The newest value of channel `c` becomes invalid at `t` by a later finding: the valid value before it stands in its place
(R246, R248, Example 11-1; DEDUCED, log 149). -/
def Dev.pfeRevoke (d : Dev) (c : Nat) (t : Time) : Dev :=
  d.onPfe c fun x =>
    if x.cur.valid then
      let w := { x.prev with valid := false }
      { x with cur := w, last := x.prev, pend := some (t + 80000, w) }
    else x

/-- Values due by `t` become available (R242). -/
def Dev.pfeAvailable (d : Dev) (c : Nat) (t : Time) : Dev :=
  match (d.ch c).pend with
  | some (a, v) => if a ≤ t then d.onPfe c fun x => { x with avail := v, pend := none } else d
  | none => d

/-! ### Linearisation (R245) -/

/-- Horner in x for one power of t: coefficients of descending order. -/
def hornerX (x : Rat) (cs : List Rat) : Rat := cs.foldl (fun s c => rnd64 (rnd64 (s * x) + c)) 0

/-- The value of R245 in binary64, rounded to binary32. -/
def linearise (cs : List Word) (x t : Rat) : Word :=
  let row (j : Nat) : Rat := hornerX x ((List.range 6).map fun i => f32 (cs.getD (6 * j + (5 - i)) 0))
  let y := [3, 2, 1, 0].foldl (fun y j => rnd64 (rnd64 (y * t) + row j)) 0
  toF32 y

/-- t for channel `c`: its value, whether it is held, none where no valid t has existed (R245). -/
def Dev.pfeTemp (d : Dev) (c : Nat) : Option Word × Bool :=
  match d.pfeTempNow c with
  | some t => (some t, false)
  | none => ((d.ch c).lastT, true)

/-! ### Pairs (R249) -/

/-- Set or clear `PAIR_DISAGREE` on both channels. -/
def Dev.setPair (d : Dev) (lo hi : Nat) (v : Bool) : Dev :=
  let d := (d.onPfe lo fun x => { x with pairDis := v, pairBad := 0, pairGood := 0 }).onPfe hi fun x => { x with pairDis := v }
  d.logEvent (if v then 0x0804 else 0x0805) kPfe lo (wordBytes (d.ch lo).meas.val ++ wordBytes (d.ch hi).meas.val)

/-- Compare the values with equal stamps of channel `c`, whose conversion ended at `t`, and its partner (R249). -/
def Dev.pairCompare (d : Dev) (c : Nat) (t : Time) : Dev :=
  match d.pfePartner c with
  | none => d
  | some q =>
    let lo := min c q
    let hi := max c q
    let a := (d.ch lo).meas
    let b := (d.ch hi).meas
    if !a.valid ∨ !b.valid then d.onPfe lo fun x => { x with pairBad := 0, pairGood := 0 }
    else if a.t ≠ b.t then d
    else
      let n := d.fld .pfePair lo 8 8
      let beyond : Bool := decide (d.regF .pfePairWin lo < absRat (f32 a.val - f32 b.val))
      let d := d.onPfe lo fun x =>
        { x with pairBad := if beyond then x.pairBad + 1 else 0, pairGood := if beyond then 0 else x.pairGood + 1 }
      let x := d.ch lo
      if !x.pairDis ∧ n ≤ x.pairBad then
        let d := d.setPair lo hi true
        if d.regBit .pfePair lo 4 then d.pfeRevoke q t else d
      else if x.pairDis ∧ n ≤ x.pairGood then d.setPair lo hi false
      else d

/-- The pair flag invalidates the values of channel `c` (R246). -/
def Dev.pairInvalid (d : Dev) (c : Nat) : Bool :=
  (d.ch c).pairDis && match d.pfePartner c with
    | some q => d.regBit .pfePair (min c q) 4
    | none => false

/-! ### Conversions (R238, R239, R243, R244, R246–R248) -/

/-- The excitation fault of a conversion (Table 11-5): cause of event 0x0808. -/
def Dev.excCause (d : Dev) (c : Nat) (x : Conversion) : Option Nat :=
  match d.pfeType c with
  | 2 =>
    let m := d.fld .pfeExc c 24 8
    if m ≠ 0 ∧ x.iExc < m * 20000 then some 1 else if 10000000 ≤ x.iExc then some 2 else none
  | 3 | 4 | 5 => if x.comply then none else some 3
  | _ => none

/-- The excitation fault flag (Table 11-5, R247). -/
def Dev.excUpdate (d : Dev) (c : Nat) (x : Conversion) : Dev :=
  match d.excCause c x with
  | some k =>
    let was := (d.ch c).excFault
    let d := d.onPfe c fun y => { y with excFault := true, goodExc := 0 }
    if was then d else d.logEvent 0x0808 kPfe c (ev4 k)
  | none =>
    if !(d.ch c).excFault then d
    else d.onPfe c fun y => if y.goodExc = 0 then { y with goodExc := 1 } else { y with excFault := false, goodExc := 0, settle := 4 }

/-- The source current in nanoamperes (`EXC_I`). -/
def excCurrent (code : Nat) : Nat := [0, 50000, 100000, 250000, 500000, 1000000].getD code 0

/-- The sample of a measurement after the notches of channel `c` (R241); test and lead conversions, the ranging and the limits
take the sample before them (DESIGN CHOICE, log 150). -/
def Dev.pfeNotched (d : Dev) (c : Nat) (v : Int) : Rat × Dev :=
  let bits := d.fld .pfeCtrl c 12 6
  if bits = 0 then (v, d)
  else
    let r := Config.notch bits (d.fld .pfeCtrl c 8 4) (d.ch c).gain (d.ch c).notch v
    (r.2, d.onPfe c fun y => { y with notch := r.1 })

/-- x of a measurement of `v` nanovolts in types 1–6, binary64; none where the divisor is zero (R237, R238). -/
def Dev.nativeX (d : Dev) (c : Nat) (v : Rat) (x : Conversion) : Option Rat :=
  let i : Rat := (excCurrent (d.fld .pfeExc c 8 3) : Nat)
  match d.pfeType c with
  | 2 => if x.vExc = 0 then none else some (rnd64 (v / x.vExc))
  | 3 => if i = 0 then none else some (rnd64 (v / i - d.regF .pfeLeadR c))
  | 4 => if i = 0 then none else some (rnd64 ((v - (d.ch c).vLead) / i))
  | 5 => if i = 0 then none else some (rnd64 (v / i))
  | _ => some (rnd64 (v / 1000000))

/-- Automatic gain after a measurement (R243): the new pending gain and the count of 16. -/
def autoGain (y : PfeCh) (v : Int) (clip : Bool) : PfeCh :=
  let m : Rat := (v.natAbs : Nat)
  if 0 < y.gain ∧ (clip ∨ fullScale y.gain * mkRat 88 100 < m) then
    { y with gainPend := some (y.gain - 1), downCnt := 0 }
  else if y.gain < 7 ∧ m < fullScale y.gain * mkRat 40 100 ∧ !clip then
    if 15 ≤ y.downCnt then { y with gainPend := some (y.gain + 1), downCnt := 0 } else { y with downCnt := y.downCnt + 1 }
  else { y with downCnt := 0 }

/-- The sample boundary that ends a conversion: a gain switch or a charge reset due takes effect, and the next conversion spans
it (R239, R243, R244). `due` is the gain that was pending when the conversion ended. -/
def Dev.pfeBoundary (d : Dev) (c : Nat) (due : Option Nat) (reset : Bool) : Dev :=
  let y := d.ch c
  let sw := match due, y.gainPend with
    | some g, some g' => if g = g' then some g else none
    | _, _ => none
  let d := match sw with
    | some g =>
      let scale (s : Rat) : Rat := s * mkRat (2 ^ y.gain : Nat) (2 ^ g)
      (d.onPfe c fun y => { y with gain := g, gainPend := none, spanGain := true, notch := y.notch.map scale }).addCnt
        .pfeSteps c 16 16
    | none => d.onPfe c fun y => { y with spanGain := false }
  if reset then (d.onPfe c fun y => { y with spanReset := true, rstPend := false }).addCnt .pfeSteps c 16 16
  else d.onPfe c fun y => { y with spanReset := false }

/-- The kind of the next conversion (R238, R244, R248). -/
def Dev.pfeNext (d : Dev) (c : Nat) : Dev :=
  let n := d.fld .pfeTest c 16 8
  let le := d.fld .pfeTest c 0 8
  d.onPfe c fun y =>
    if y.openWire then { y with conv := 1 }
    else if y.spanGain || y.spanReset then { y with conv := 0 }
    else if n ≠ 0 ∧ n ≤ y.sinceTest then { y with conv := 1 }
    else if d.pfeType c = 4 ∧ (y.leadWait ∧ 4 ≤ y.sinceLead ∨ le ≤ y.sinceLead) then { y with conv := 2 }
    else { y with conv := 0 }

/-- A test conversion ends at `t` (R248). -/
def Dev.pfeTest (d : Dev) (c : Nat) (t : Time) (x : Conversion) : Dev :=
  let y := d.ch c
  let mean : Rat := match y.vs with
    | a :: b :: _ => mkRat (a + b) 2
    | [a] => a
    | [] => x.v
  let fail : Bool := x.clip || decide (fullScale y.gain * mkRat (d.fld .pfeTest c 24 8) 100 < absRat ((x.v : Rat) - mean))
  let d := d.onPfe c fun y => { y with sinceTest := 0 }
  if fail then
    let d := d.onPfe c fun y => { y with openWire := true, passTests := 0, openConvs := y.openConvs + 1 }
    if y.openWire then d
    else
      let d := (d.addCnt .pfeCnt c 16 16).logEvent 0x0801 kPfe c (wordBytes (toF32 (mkRat x.v 1000000)) ++ wordBytes y.x)
      d.pfeRevoke c t
  else if y.openWire then
    if 1 ≤ y.passTests then
      (d.onPfe c fun y => { y with openWire := false, passTests := 0, openConvs := 0, settle := 4 }).logEvent 0x0802 kPfe c
        (ev4 (y.openConvs + 1))
    else d.onPfe c fun y => { y with passTests := 1, openConvs := y.openConvs + 1 }
  else d

/-- Over-range of a measurement (Table 11-5). -/
def Dev.pfeOver (d : Dev) (c : Nat) (beyond : Bool) (x : Word) : Dev :=
  if beyond then
    let d := (d.onPfe c fun y => { y with overRange := true }).addCnt .pfeCnt c 0 16
    if ((d.ch c).ovLog.map fun l => decide (l + unitsPerSec ≤ d.now)).getD true then
      (d.onPfe c fun y => { y with ovLog := some d.now }).logEvent 0x0803 kPfe c (ev4 (d.ch c).gain ++ wordBytes x)
    else d
  else d.onPfe c fun y => { y with overRange := false }

/-- The value of a measurement with native value `x`, none where R244 or the spec leaves none, whose conversion ended at `t`:
stamp, linearisation, validity, pair (R242, R245, R246, R249). -/
def Dev.pfeValue (d : Dev) (c : Nat) (x : Option Rat) (t : Time) (settled : Bool) : Dev :=
  let (tw, held) := d.pfeTemp c
  let stamp := unsigned 64 ((t : Int) - (3 * d.pfePeriod c / 2 : Nat))
  let d := d.onPfe c fun y => { y with tempHeld := held, lastT := if held then y.lastT else tw, tin := tw.getD y.tin,
                                        x := (x.map toF32).getD y.x, count := (y.count + 1) % 2 ^ 32 }
  let cs := (List.range 24).map fun k => d.reg .pfeCoef (24 * c + k)
  let y := d.ch c
  let val := linearise cs (x.getD 0) (f32 (tw.getD 0))
  let ok := x.isSome && tw.isSome && settled && !y.openWire && !y.overRange && !y.excFault
  let d := (d.onPfe c fun y => { y with meas := ⟨val, stamp, ok⟩ }).pairCompare c t
  d.pfeForm c t ⟨val, stamp, ok && !d.pairInvalid c⟩

/-- The measurement boundary of a charge channel, with `v` femtocoulombs on the amplifier and `q` pC after the notches: the
carry, the reset due and x, in the order of R239. A TARE takes the place of the drift, so that x is zero (R239). -/
def Dev.chargeX (d : Dev) (c : Nat) (v : Int) (q : Rat) : Rat × Dev :=
  let y := d.ch c
  let amp := mkRat v 1000
  let short : Bool := y.rstPend || decide (chargeScale y.gain * mkRat 3 4 < absRat amp)
  let carry := if y.tarePend then rnd64 (-q) else y.carry
  let carry := if short then rnd64 (carry + amp) else carry
  let rest := if short then q - amp else q
  let carry := if y.tarePend then carry
    else rnd64 (carry - rnd64 (d.regF .pfeDrift c * rnd64 (mkRat (d.pfePeriod c) unitsPerSec)))
  (rnd64 (carry + rest), d.onPfe c fun y =>
    { y with carry := carry, tarePend := false, rstPend := short,
             notch := if short then y.notch.map fun s => s - amp else y.notch })

/-- The raw native value of a measurement, and the carry of a charge channel that it moves (R239, R243). -/
def Dev.pfeRaw (d : Dev) (c : Nat) (x : Conversion) : Rat × Dev :=
  let (v, d) := d.pfeNotched c x.v
  if d.pfeType c = 7 then d.chargeX c x.v (v / 1000)
  else match d.nativeX c v x with
    | some r => (r, d)
    | none => let (w, d) := d.free; (f32 w, d)

/-- A measurement ends at `t` (R239, R243–R246). -/
def Dev.pfeMeasure (d : Dev) (c : Nat) (t : Time) (x : Conversion) (settled : Bool) : Dev :=
  let ty := d.pfeType c
  let auto : Bool := ty ≠ 7 && d.fld .pfeCtrl c 4 4 = 0
  let y0 := d.ch c
  let (raw, d) := d.pfeRaw c x
  let beyond : Bool := x.clip && (ty = 7 || !auto || y0.gain = 0)
  let replace : Bool := y0.spanGain || y0.spanReset || (x.clip && auto && 0 < y0.gain)
  let val : Option Rat := if !replace then some raw
    else match y0.xs with
      | a :: b :: _ => if y0.replaced < 2 then some (rnd64 (2 * a - b)) else none
      | _ => none
  let d := d.onPfe c fun y =>
    { y with rangeStep := replace && !y0.spanReset, resetStep := y0.spanReset,
             replaced := if replace then y.replaced + 1 else 0,
             xs := match val with | some v => (v :: y.xs).take 2 | none => y.xs,
             vs := (x.v :: y.vs).take 2, sinceTest := y.sinceTest + 1, sinceLead := y.sinceLead + 1 }
  let d := if replace && val.isSome then d.addCnt .pfeSteps c 0 16 else d
  let d := if auto then d.onPfe c fun y => autoGain y x.v x.clip else d
  let d := d.pfeOver c beyond (toF32 raw)
  d.pfeValue c val t settled

/-- A conversion of channel `c` ends at the sample boundary `t` (R238–R248). -/
def Dev.pfeEnds (d : Dev) (c : Nat) (t : Time) (x : Conversion) : Dev :=
  let y := d.ch c
  let settled : Bool := y.settle = 0 && !y.leadWait
  let d := (d.onPfe c fun z => { z with settle := z.settle - 1, began := t }).excUpdate c x
  let d := match y.conv with
    | 1 => d.pfeTest c t x
    | 2 => d.onPfe c fun z => { z with vLead := x.v, leadWait := false, sinceLead := 0 }
    | _ => d.pfeMeasure c t x settled
  (d.pfeBoundary c y.gainPend (d.ch c).rstPend).pfeNext c

/-- The sample boundary that ends the conversion under way, if the present instant has reached it: the last boundary, after
the one at which the conversion began (R240, R250). -/
def Dev.pfeEndsAt (d : Dev) (c : Nat) : Option Time :=
  let t := d.pfeEdge c d.now
  if ((d.ch c).began : Int) < t then some t.toNat else none

/-- PFE_CONVERSION_END: nothing comes of an end reported before the sample boundary, and one reported after it is placed on it
(R240; DESIGN CHOICE, log 147). -/
def Dev.pfeConversion (d : Dev) (c : Nat) (x : Conversion) : Dev :=
  if d.pfeType c = 0 ∨ !d.pfePowered then d else d.whenSome (d.pfeEndsAt c) fun t d => d.pfeEnds c t x

/-- `PFE_CMD` at its commit junction (R239). -/
def Dev.pfeCmdCommit (d : Dev) (c : Nat) (tare force : Bool) : Dev :=
  if d.pfeType c ≠ 7 then d
  else d.onPfe c fun y => { y with tarePend := y.tarePend || tare, rstPend := y.rstPend || force }

/-- The snapshot of channel `c`: the newest value available at or before T0 (R242). -/
def Dev.pfeCapture (d : Dev) (c : Nat) (t0 : Time) : Dev :=
  (d.pfeAvailable c t0).onPfe c fun y => { y with snap := { y.avail with valid := y.avail.valid && d.pfePowered } }

/-- Entry to PARKED or DORMANT: every channel stops (R250). -/
def Dev.pfeStop (d : Dev) : Dev :=
  d.forEach (List.range 8) fun c d =>
    let d := if d.pfeType c = 7 then d.setFlag .pfeStat c 9 else d
    d.onPfe c fun y => { y with carry := 0, cur := { y.cur with valid := false }, meas := {}, pend := none,
                                 avail := { y.avail with valid := false }, snap := { y.snap with valid := false } }

/-- Leaving PARKED: every configured channel restarts with settling (R247, R250). -/
def Dev.pfeStart (d : Dev) : Dev := d.forEach (List.range 8) fun c d => if d.pfeType c = 0 then d else d.pfeRestart c

/-! ### Configuration (R235, R236, R240–R250) -/

/-- `POS_PIN`, `NEG_PIN`, `EXC_PIN`, `BIAS_PIN`, `BIAS_MODE` of a channel. -/
def Dev.pfePins (d : Dev) (c : Nat) : Nat × Nat × Nat × Nat × Nat :=
  (d.fld .pfeXpt c 6 6, d.fld .pfeXpt c 12 6, d.fld .pfeXpt c 18 6, d.fld .pfeXpt c 24 6, d.fld .pfeXpt c 30 2)

/-- The pins suit the type (Table 11-2). -/
def Dev.pinsFit (d : Dev) (c : Nat) : Bool :=
  let (p, n, e, b, m) := d.pfePins c
  let no (x : Nat) : Bool := x = 63
  let yes (x : Nat) : Bool := x < 32
  match d.pfeType c with
  | 0 => no p && no n && no e && no b && m = 0
  | 1 => yes p && yes n && no e && no b && m = 0
  | 2 | 5 => yes p && yes n && yes e && yes b && m = 2 && e ≠ n && b ≠ p && e ≠ b
  | 3 => yes p && e = p && yes n && b = n && m = 2 && e ≠ b
  | 4 => yes p && e = p && yes n && yes b && m = 2 && e ≠ n && b ≠ p && e ≠ b
  | 6 => yes p && yes n && no e && ((no b && m = 0) || (b = n && m = 1))
  | 7 => yes p && (yes n || no n) && no e && no b && m = 0
  | _ => false

/-- No excitation or bias pin has such a role in another channel (R236). -/
def Dev.pinsFree (d : Dev) (c : Nat) : Bool :=
  let (_, _, e, b, _) := d.pfePins c
  (List.range 8).all fun q => q = c ||
    (let (_, _, e', b', _) := d.pfePins q
     (e = 63 || (e ≠ e' && e ≠ b')) && (b = 63 || (b ≠ e' && b ≠ b')))

/-- The notches suit the rate (R241). -/
def notchOk (notch rate : Nat) : Bool :=
  (List.range 6).all fun i => !notch.testBit i || 4 * [50, 60, 100, 120, 150, 180].getD i 0 ≤ pfeRate rate

/-- The pairing of channel `c` is allowed (R249). -/
def Dev.pairOk (d : Dev) (c : Nat) : Bool :=
  let p := d.fld .pfePair c 0 4
  (p < 8 || p = 15) && (match d.pfePartner c with
    | none => true
    | some q => q ≠ c && (d.fld .pfePair q 0 4 = 15 || d.fld .pfePair q 0 4 = c) &&
        d.fld .pfeCtrl q 8 4 = d.fld .pfeCtrl c 8 4 && d.regBit .pfeCtrl c 18 && d.regBit .pfeCtrl q 18) &&
  (List.range 8).all fun q => q = c || d.fld .pfePair q 0 4 ≠ c || p = 15 || p = q

/-- The temperature source of channel `c`, and its use by others, are allowed (R245). -/
def Dev.tempOk (d : Dev) (c : Nat) : Bool :=
  let s := d.fld .pfeCtrl c 20 4
  s ≤ 9 && (s < 2 || (s - 2 ≠ c && d.fld .pfeCtrl (s - 2) 20 4 < 2 &&
    (List.range 8).all fun q => q = c || d.fld .pfeCtrl q 20 4 ≠ c + 2))

/-- The configuration of channel `c` is allowed (R235–R249, R254). -/
def Dev.pfeCfgOk (d : Dev) (c : Nat) : Bool :=
  let ty := d.pfeType c
  let rm := d.fld .pfeCtrl c 4 4
  ty ≤ 7 && (if ty = 7 then 1 ≤ rm && rm ≤ 4 else rm ≤ 8) && d.fld .pfeCtrl c 8 4 ≤ 9 &&
  notchOk (d.fld .pfeCtrl c 12 6) (d.fld .pfeCtrl c 8 4) && d.tempOk c && d.pinsFit c && d.pinsFree c &&
  d.fld .pfeExc c 16 4 ≤ 12 && d.fld .pfeExc c 8 3 ≤ 5 &&
  1 ≤ d.fld .pfeTest c 24 8 && d.fld .pfeTest c 24 8 ≤ 100 && d.fld .pfeTest c 8 2 ≤ 2 && 1 ≤ d.fld .pfeTest c 0 8 &&
  !(ty = 7 && d.fld .pfeTest c 16 8 ≠ 0) &&
  f32Finite (d.reg .pfeLeadR c) && f32Finite (d.reg .pfeDrift c) &&
  d.fld .pfePair c 8 8 ≠ 0 && d.pairOk c && f32Finite (d.reg .pfePairWin c) && decide (0 ≤ d.regF .pfePairWin c) &&
  (List.range 24).all fun k => f32Finite (d.reg .pfeCoef (24 * c + k))

/-- A lane in RUN trims by channel `c` (R250). -/
def Dev.pfeBusy (d : Dev) (c : Nat) : Bool :=
  d.laneList.any fun n => (d.lane n).st = .run && d.fld .loopCtrl n 24 2 ≠ 0 && d.fld .trmCtrl n 0 4 = c

/-- The staged set of channel `c` at the commit junction: held, or applied whole with a restart, or refused whole (R250). -/
def Dev.pfeCommit (d : Dev) (c : Nat) (es : List Staged) : Dev :=
  if es.isEmpty then d
  else if d.pfeBusy c then { d with staged := es.map (fun s => { s with held := true }) ++ d.staged }
  else
    let put (e : Dev) (s : Staged) : Dev := match s.regOf with
      | some (i, k, v) => e.setReg i k v
      | none => e
    let d' := es.foldl put (d.pairReset c)
    if d'.pfeCfgOk c then
      let d' := d'.pfeRestart c
      (if d'.pfePowered then d' else d'.onPfe c fun y => { y with settle := 4 }).logEvent 0x0809 kPfe c
        (ev4 0 ++ ev4 (d'.pfeType c))
    else (d.setFlag .pfeStat c 11).logEvent 0x0809 kPfe c (ev4 0x0031 ++ ev4 (d'.pfeType c))

end Sys2Proof.Machine
end

