-- ==== Sys2Proof/Machine/Planner.lean ====
section
/-! DEFINITION. Jerk-limited planning of speed changes, stops and moves under one limit set, and the evaluation of a plan at a
frame tick (R212, R214–R216, R218, R221, R406). Durations are rationals with 80 fraction bits; no float is involved. -/
namespace Sys2Proof.Machine

/-- Round to 80 fraction bits. -/
def dy (x : Rat) : Rat := mkRat (roundEven (x * 2 ^ 80)) (2 ^ 80)

/-- A path before it is placed in time: durations in seconds with their jerks. -/
abbrev Steps := List (Rat × Rat)

/-- Displacement in turns over `t` seconds (R214). -/
def displacement (v a j t : Rat) : Rat := v * t + a * t * t / 2 + j * t * t * t / 6

/-- Distance, end velocity and end acceleration of a path. -/
def runSteps (v a : Rat) : Steps → Rat × Rat × Rat
  | [] => (0, v, a)
  | (t, j) :: rest =>
    let (p, v', a') := runSteps (dy (v + a * t + j * t * t / 2)) (dy (a + j * t)) rest
    (dy (displacement v a j t) + p, v', a')

/-- The distance of a path. -/
def distOf (v a : Rat) (st : Steps) : Rat := (runSteps v a st).1

/-- The first `tau` seconds of a path. -/
def takeTime : Rat → Steps → Steps
  | _, [] => []
  | tau, (t, j) :: rest => if tau ≤ t then [(tau, j)] else (t, j) :: takeTime (tau - t) rest

/-- The duration of a path. -/
def durationOf (st : Steps) : Rat := st.foldl (fun s x => s + x.1) 0

/-- A rational with the sign given. -/
def withSign (s : Int) (x : Rat) : Rat := if s < 0 then -x else x

/-- From a state whose velocity cannot reach zero with zero acceleration, the ramp of R406: to the crossing of zero, then
down to the bound A. Gives the steps and the state they lead to. -/
def escape (l : LimitSet) (v a : Rat) : Steps × Rat × Rat :=
  let b := absRat a
  let s := signRat a
  let low (b : Rat) : Steps × Rat × Rat :=
    if l.a < b then
      let t := dy ((b - l.a) / l.j)
      ([(t, withSign (-s) l.j)], withSign s (dy ((b * b - l.a * l.a) / (2 * l.j))), withSign s l.a)
    else ([], 0, withSign s b)
  if a = 0 then ([], v, a)
  else if v = 0 then low b
  else if v * a < 0 ∧ 2 * l.j * absRat v < b * b then
    let b' := dy (sqrtRat (b * b - 2 * l.j * absRat v))
    let (st, v', a') := low b'
    ((dy ((b - b') / l.j), withSign (-s) l.j) :: st, v', a')
  else ([], v, a)

/-- A change of velocity from (v0, a0) to (v1, 0) that does not reverse: the acceleration ramps to a peak, holds and ramps to
zero (R212, R218). -/
def vchange (l : LimitSet) (v0 a0 v1 : Rat) : Steps :=
  let vz := v0 + a0 * absRat a0 / (2 * l.j)
  let dv := v1 - vz
  if dv = 0 then (if a0 = 0 then [] else [(dy (absRat a0 / l.j), withSign (-(signRat a0)) l.j)])
  else
    let s := signRat dv
    let sv := if v0 ≠ 0 then signRat v0 else if a0 ≠ 0 then signRat a0 else if v1 ≠ 0 then signRat v1 else s
    let amax := if s = sv then l.a else l.d
    let ap2 := l.j * absRat dv + (if signRat a0 = s then a0 * a0 else 0)
    let peak := dy (sqrtRat ap2)
    let ap := if amax < peak then amax else peak
    let a1 := withSign s ap
    let j1 := withSign (signRat (a1 - a0)) l.j
    let t1 := dy (absRat (a1 - a0) / l.j)
    let t3 := dy (ap / l.j)
    let dv1 := a0 * t1 + j1 * t1 * t1 / 2
    let dv3 := a1 * t3 / 2
    let th := if ap = 0 then 0 else dy ((v1 - v0 - dv1 - dv3) / a1)
    [(t1, j1), (if th < 0 then 0 else th, 0), (t3, withSign (-s) l.j)]

/-- A change of velocity; a reversal comes to rest first (R212). -/
def speedSteps (l : LimitSet) (v0 a0 v1 : Rat) : Steps :=
  let (e, v, a) := escape l v0 a0
  e ++ (if v * v1 < 0 ∨ (v = 0 ∧ a * v1 < 0) then vchange l v a 0 ++ vchange l 0 0 v1 else vchange l v a v1)

/-- Bisection on the time spent on a path: the longest prefix, within `fuel` halvings of `[lo, hi]`, after which `ok` still
holds. -/
def bisect (ok : Rat → Bool) : Nat → Rat → Rat → Rat
  | 0, lo, _ => lo
  | n + 1, lo, hi => let m := dy ((lo + hi) / 2); if ok m then bisect ok n m hi else bisect ok n lo m

/-- A path from (v0, a0) over the distance `dist` in direction `s`, without a reversal, that ends with velocity `u` and zero
acceleration as soon as possible: towards V as long as possible, then to `u` (R214, R221). Gives the steps, and those before
the change to `u`. -/
def forward (l : LimitSet) (s : Int) (v0 a0 u dist : Rat) : Steps × Steps :=
  let up := speedSteps l v0 a0 (withSign s l.v)
  let after (st : Steps) : Steps :=
    let (_, v, a) := runSteps v0 a0 st
    st ++ speedSteps l v a u
  let fits (st : Steps) : Bool := decide (distOf v0 a0 (after st) * s ≤ dist * s)
  if fits up then
    let rest := (dist - distOf v0 a0 (after up)) / withSign s l.v
    let st := up ++ [(dy (if rest < 0 then 0 else rest), 0)]
    (after st, st)
  else
    let tau := bisect (fun t => fits (takeTime t up)) 128 0 (durationOf up)
    let st := takeTime tau up
    (after st, st)

/-- Place a path in time, from the state at `t0`; each segment starts where the one before it ends (R214). -/
def placeSteps : Rat → Int → Rat → Rat → Steps → List Seg × Rat × Int
  | t, p, _, _, [] => ([], t, p)
  | t, p, v, a, (d, j) :: rest =>
    let p' := wrapInt 64 (p + roundEven (displacement v a j d * 2 ^ 32))
    let (l, te, pe) := placeSteps (t + d * 4000000000) p' (dy (v + a * d + j * d * d / 2)) (dy (a + j * d)) rest
    if d ≤ 0 then (l, te, pe) else (⟨t, p, v, a, j⟩ :: l, te, pe)

/-- The kinematic state of a part: position, velocity, acceleration. -/
abbrev Kin := Int × Rat × Rat

/-- A plan from steps and a kinematic state. -/
def planOf (t0 : Rat) (k : Kin) (st : Steps) (target : Option Int) (vEnd : Rat) : Plan :=
  let (l, te, pe) := placeSteps t0 k.1 k.2.1 k.2.2 st
  { segs := l ++ [⟨te, target.getD pe, vEnd, 0, 0⟩], tEnd := te, target := target }

/-- A part at rest. -/
def planHold (t0 : Rat) (p : Int) : Plan := { segs := [⟨t0, p, 0, 0, 0⟩], tEnd := t0, target := some p }

/-- Clamp a speed to ±V (R216). -/
def capSpeed (l : LimitSet) (v : Rat) : Rat := clampRat (-l.v) l.v v

/-- A change of speed, after which the part runs on (R216 kind 2, R218, R220). -/
def planSpeed (l : LimitSet) (t0 : Rat) (k : Kin) (v1 : Rat) : Plan :=
  let u := capSpeed l v1
  planOf t0 k (speedSteps l k.2.1 k.2.2 u) none u

/-- The distance of a ramp stop (R220). -/
def stopDistance (l : LimitSet) (v a : Rat) : Rat := distOf v a (speedSteps l v a 0)

/-- A distance in turns as a position difference. -/
def q32 (x : Rat) : Int := roundEven (x * 2 ^ 32)

/-- A moving part whose stop ends within this of its target is on its course: four units of position, which cover the rounding
of segment starts. -/
def reachTol : Rat := mkRat 4 (2 ^ 32)

/-- The start, within the steps of a final stop from acceleration `a`, of the deceleration itself (R219). -/
def decelStart (l : LimitSet) (s : Int) (a : Rat) : Rat := if 0 < a * s then absRat a / l.j else 0

/-- A position move to rest at `target` (R214–R216, R218). The direction of motion is that after a ramp of R406, which may turn
it. -/
def planMove (l : LimitSet) (t0 : Rat) (k : Kin) (target : Int) : Plan :=
  let v := k.2.1
  let a := k.2.2
  let dist := mkRat (wrapInt 64 (target - k.1)) (2 ^ 32)
  let stop := speedSteps l v a 0
  let ds := distOf v a stop
  let rem := dist - ds
  let (_, ve, ae) := escape l v a
  let sv := if ve ≠ 0 then signRat ve else signRat ae
  let rest := wrapInt 64 (k.1 + q32 ds)
  if rem = 0 ∨ (absRat rem ≤ reachTol ∧ stop ≠ []) then
    { planOf t0 k stop (some target) 0 with fd := some (t0 + decelStart l sv a * 4000000000), rest := rest }
  else if sv ≠ 0 ∧ (0 < rem) ≠ (0 < sv) then
    let s := signRat rem
    let (tail, pre) := forward l s 0 0 0 rem
    let (_, _, a1) := runSteps 0 0 pre
    { planOf t0 k (stop ++ tail) (some target) 0 with
      fd := some (t0 + (durationOf stop + durationOf pre + decelStart l s a1) * 4000000000),
      beyond := decide (0 < dist * sv), rest := rest }
  else
    let s := signRat rem
    let (st, pre) := forward l s v a 0 dist
    let (_, _, a1) := runSteps v a pre
    { planOf t0 k st (some target) 0 with
      fd := some (t0 + (durationOf pre + decelStart l s a1) * 4000000000), rest := rest }

/-- A path that passes `target` with speed `u` (signed, in the direction of travel) and zero acceleration, or with the speed
nearest to it that the distance allows (R221), sought from the speed that the part has once its acceleration is zero. DESIGN
CHOICE (log 146): where not even that ramp ends before the target, as after a limit change, the part passes the target within
the ramp and takes the next waypoint at its end. -/
def planPass (l : LimitSet) (t0 : Rat) (k : Kin) (target : Int) (u : Rat) : Plan × Rat :=
  let v := k.2.1
  let a := k.2.2
  let dist := mkRat (wrapInt 64 (target - k.1)) (2 ^ 32)
  let s := signRat u
  let u := capSpeed l u
  if distOf v a (speedSteps l v a u) * s ≤ dist * s then
    (planOf t0 k (forward l s v a u dist).1 (some target) u, u)
  else
    let vz := dy (v + a * absRat a / (2 * l.j))
    let path (x : Rat) : Steps := speedSteps l v a (dy (vz + (u - vz) * x))
    let fits (x : Rat) : Bool := decide (distOf v a (path x) * s ≤ dist * s)
    let w := if fits 0 then bisect fits 96 0 1 else 0
    let u' := dy (vz + (u - vz) * w)
    let p := planOf t0 k (path w) none u'
    ({ p with target := if fits 0 then some target else p.segs.getLast?.map (·.p) }, u')

/-- The segment that holds at `t`: the last one that starts no later. -/
def segAt (t : Rat) : List Seg → Option Seg
  | [] => none
  | s :: rest => match segAt t rest with
    | some r => some r
    | none => if s.t ≤ t then some s else none

/-- Evaluate a plan at T0: binary64 seconds, velocity and acceleration in binary64 (R214). -/
def Plan.at (p : Plan) (t : Time) : Kin :=
  match segAt (t : Rat) p.segs with
  | none => match p.segs with
    | s :: _ => (s.p, s.v, s.a)
    | [] => (0, 0, 0)
  | some s =>
    let tau := rnd64 (((t : Rat) - s.t) / 4000000000)
    (wrapInt 64 (s.p + q32 (displacement s.v s.a s.j tau)), rnd64 (s.v + s.a * tau + s.j * tau * tau / 2),
     rnd64 (s.a + s.j * tau))

/-- The plan has ended by `t`. -/
def Plan.done (p : Plan) (t : Time) : Bool := decide (p.tEnd ≤ (t : Rat))

/-- At `t` the plan is in its final deceleration towards a fixed target (R219). -/
def Plan.inFinal (p : Plan) (t : Time) : Bool :=
  p.target.isSome && (match p.fd with | some f => decide (f ≤ (t : Rat)) | none => false) && !p.done t

end Sys2Proof.Machine
end

