-- ==== Sys2Proof/Machine/Profile.lean ====
section
/-! DEFINITION. The profile generator and the virtual masters: limits, moves, stops, waypoints, gearing, trims, the order of
the commands of one commit, the evaluation at T0 (R210–R231). -/
namespace Sys2Proof.Machine

/-- Change the profile part of lane `n`. -/
def Dev.onPrf (d : Dev) (n : Nat) (f : PrfLane → PrfLane) : Dev := d.onLane n fun l => { l with prf := f l.prf }
/-- Change the generator of lane `n`. -/
def Dev.onGen (d : Dev) (n : Nat) (f : Profile → Profile) : Dev := d.onPrf n fun x => { x with gen := f x.gen }
/-- The generator of lane `n`. -/
def Dev.gen (d : Dev) (n : Nat) : Profile := (d.lane n).prf.gen

/-- The main limits (R212). -/
def Dev.mainLims (d : Dev) (n : Nat) : LimitSet := ⟨d.regF .velLim n, d.regF .accLim n, d.regF .decLim n, d.regF .jerkLim n⟩
/-- The superimposed limits. -/
def Dev.supLims (d : Dev) (n : Nat) : LimitSet := ⟨d.regF .supVel n, d.regF .supAcc n, d.regF .supDec n, d.regF .supJerk n⟩
/-- The limits of a quick stop: V unchanged (R220). -/
def Dev.qsLims (d : Dev) (n : Nat) : LimitSet := ⟨d.regF .velLim n, d.regF .qsDec n, d.regF .qsDec n, d.regF .qsJerk n⟩
/-- The main limits with a move speed in place of V (R216). -/
def LimitSet.withSpeed (l : LimitSet) (s : Rat) : LimitSet := if 0 < s ∧ s < l.v then { l with v := s } else l

/-- Position, velocity and acceleration of the superimposed part. -/
def Profile.supAt (g : Profile) (t : Time) : Kin := match g.sup with | some p => p.at t | none => (0, 0, 0)
/-- Position, velocity and acceleration of the base. -/
def Profile.baseAt (g : Profile) (t : Time) : Kin :=
  match g.gear with
  | some x => (x.bp, x.bv, x.ba)
  | none => g.plan.at t
/-- sup is at rest at its target. -/
def Profile.supRest (g : Profile) (t : Time) : Bool := match g.sup with | some p => p.done t | none => true
/-- The sum of both parts (R210). -/
def Profile.sumAt (g : Profile) (t : Time) : Kin :=
  let b := g.baseAt t
  let s := g.supAt t
  (wrapInt 64 (b.1 + s.1), b.2.1 + s.2.1, b.2.2 + s.2.2)
/-- Base and sup collapsed into one state; gear and sup end (R220, R226, R227). -/
def Profile.merged (g : Profile) : Profile :=
  { g with gear := none, sup := none, supTgt := 0, engaging := false, mstLost := false, baseDef := false, supDef := false }
/-- `PRF_STAT.MODE` (R232). -/
def Profile.mode (g : Profile) : Nat :=
  match g.kind with
  | .follow => 0 | .hold => 1 | .move | .waypoint => 2 | .speed => 3
  | .gear => if g.engaging then 4 else 5
  | .rampStop | .quickStop | .stopAt => 6

/-! ### Gear sources (R224, R226) -/

/-- The lane source is valid (R226). -/
def Dev.laneSourceOk (d : Dev) (i : Nat) : Bool :=
  let l := d.lane i
  !d.trackStopped i && ((d.stepFb i).isSome ||
    ((l.trk.tracking || l.trk.detour) && (l.trk.detour || !(d.los i || d.lockLost i)) && !l.trk.detFail))

/-- M, v_M, a_M and validity of a gear source at `t`. -/
def Dev.gearSource (d : Dev) (kind idx : Nat) (t : Time) : Int × Rat × Rat × Bool :=
  match kind with
  | 1 => let m := d.vms.getD idx {}
         (m.p, m.v, m.a, true)
  | 2 => let m := d.motionAt idx t
         (m.pos, m.vel, 0, d.laneSourceOk idx)
  | _ => (d.pinPosAt idx t, rnd32 (d.pin idx).vel, 0, d.pinValid idx)

/-- NUM / DEN of a velocity in binary64. -/
def gearRate (v : Rat) (num : Int) (den : Nat) : Rat := rnd64 (rnd64 (v * num) / den)

/-- Engage a gear, or change it: sup takes over every difference (R224, R225, R227). -/
def Dev.gearEngage (d : Dev) (n : Nat) (t : Time) (kind idx align : Nat) (num : Int) (den : Nat) (pos mref : Int) : Dev :=
  let g := d.gen n
  let pp := g.sumAt t
  let s := g.supAt t
  let (m, vm, am, _) := d.gearSource kind idx t
  let (pos, mref) := if align = 0 then (pp.1, m) else (pos, mref)
  let q0 := wrapInt 64 (m - mref) * num
  let inc := q0 / (den : Int)
  let x : Gear := { kind := kind, idx := idx, num := num, den := den, mPrev := m, r := q0 - inc * den,
                    bp := wrapInt 64 (pos + inc), bv := gearRate vm num den, ba := gearRate am num den, t := t }
  let remain := match g.sup with | some _ => wrapInt 64 (g.supTgt - s.1) | none => 0
  let sp := wrapInt 64 (pp.1 - x.bp)
  let tgt := wrapInt 64 ((if align = 2 then roundEven (mkRat sp (2 ^ 32)) * 2 ^ 32 else 0) + remain)
  let main := d.mainLims n
  d.onPrf n fun p => { p with supBeyond := false, gen :=
    { p.gen with kind := .gear, gear := some x, engaging := true, mstLost := false, baseDef := false, supDef := false,
                 sup := some (planMove main t (sp, rnd64 (pp.2.1 - x.bv), rnd64 (pp.2.2 - x.ba)) tgt),
                 supTgt := tgt, supLims := main } }

/-! ### Stops (R220) -/

/-- STOP by its variant, on the sum of both parts (R220). -/
def Dev.prfStop (d : Dev) (n : Nat) (t : Time) (variant phase : Nat) : Dev :=
  let g := d.gen n
  let k := g.sumAt t
  let main := d.mainLims n
  let g := { g.merged with wps := [], pass := 0, lims := main, vmax := 0 }
  let put (g : Profile) : Dev := d.onGen n fun _ => g
  match variant with
  | 0 => put { g with kind := .rampStop, plan := planSpeed main t k 0 }
  | 1 => put { g with kind := .quickStop, plan := planSpeed (d.qsLims n) t k 0 }
  | _ =>
    let sp := wrapInt 64 (k.1 + q32 (stopDistance main k.2.1 k.2.2))
    let up := sp + ((phase : Int) - sp) % 2 ^ 32
    let dir := if k.2.1 ≠ 0 then signRat k.2.1 else signRat k.2.2
    let tgt := if dir < 0 ∧ up ≠ sp then up - 2 ^ 32 else up
    (put { g with kind := .stopAt, plan := planMove main t k (wrapInt 64 tgt) }).onPrf n fun p => { p with beyond := false }

/-- The base of a geared lane at T0, with the loss of its source (R224, R226). -/
def Dev.gearStep (d : Dev) (n : Nat) (t : Time) : Dev :=
  match (d.gen n).gear with
  | none => d
  | some x =>
    if x.t = t then d
    else
      let (m, vm, am, ok) := d.gearSource x.kind x.idx t
      let put (x : Gear) (d : Dev) : Dev := d.onGen n fun g => { g with gear := some x }
      let src := ev4 x.kind ++ ev4 x.idx
      if ok ∧ x.lost = 0 then
        let q := wrapInt 64 (m - x.mPrev) * x.num + x.r
        let inc := q / (x.den : Int)
        put { x with t := t, mPrev := m, r := q - inc * x.den, bp := wrapInt 64 (x.bp + inc),
                     bv := gearRate vm x.num x.den, ba := gearRate am x.num x.den } d
      else
        let run := roundEven (x.bv * mkRat (t - x.t : Nat) 4000000000 * 2 ^ 32)
        let y := { x with t := t, bp := wrapInt 64 (x.bp + run), ba := 0 }
        if ok then
          let d := (put { y with lost := 0 } d).logEvent 0x0513 kLane n (ev4 x.lost)
          d.gearEngage n t x.kind x.idx 0 x.num x.den 0 0
        else
          let d := put { y with lost := x.lost + 1 } d
          let d := if x.lost = 0 then (d.onGen n fun g => { g with mstLost := true }).logEvent 0x0512 kLane n src else d
          if x.lost + 1 > d.fld .prfCtrl n 16 16 then (d.prfStop n t 1 0).logEvent 0x0514 kLane n src else d

/-- MASTER_TIMEOUT (R226): the source is still invalid after `MST_TO` frames. -/
def Dev.masterTimeout (d : Dev) (n : Nat) : Dev :=
  match (d.gen n).gear with
  | some x =>
    if x.lost > d.fld .prfCtrl n 16 16 then (d.prfStop n x.t 1 0).logEvent 0x0514 kLane n (ev4 x.kind ++ ev4 x.idx) else d
  | none => d

/-! ### Waypoints (R221) -/

/-- The limits at the end of a plan: the set that waited for it, else that of the plan (R218, R219). -/
def Dev.limsAtEnd (d : Dev) (n : Nat) : LimitSet := if (d.gen n).baseDef then d.mainLims n else (d.gen n).lims

/-- Take the head of the queue at `t` from the state `k`: a deferral ends, and an `OVERSHOOT` of the base (R218, R219). -/
def Dev.takeWaypoint (d : Dev) (n : Nat) (t : Rat) (k : Kin) : Dev :=
  match (d.gen n).wps with
  | [] => d
  | w :: rest =>
    let main := d.limsAtEnd n
    let d := (d.onPrf n fun p => { p with beyond := false }).onGen n fun g => { g with baseDef := false }
    let s := signRat (mkRat (wrapInt 64 (w.target - k.1)) 1)
    let same : Bool := match rest with
      | x :: _ => s ≠ 0 && signRat (mkRat (wrapInt 64 (x.target - w.target)) 1) = s
      | [] => false
    if w.w ≠ 0 ∧ same then
      let (p, u) := planPass main t k w.target (withSign s (capSpeed main (absRat w.w)))
      d.onGen n fun g => { g with kind := .waypoint, plan := p, lims := main, vmax := 0, pass := u, wps := rest }
    else
      let d := d.setFlagIf (w.w ≠ 0) .prfStat n 9
      d.onGen n fun g => { g with kind := .waypoint, plan := planMove main t k w.target, lims := main, vmax := 0, pass := 0,
                                  wps := rest }

/-- The end of a plan: the next waypoint, a stop after a pass with nothing queued, or a hold (R214, R220, R221). -/
def Dev.advancePlan (d : Dev) (n : Nat) (t : Time) : Nat → Dev
  | 0 => d
  | fuel + 1 =>
    let g := d.gen n
    match g.kind with
    | .hold => if g.wps.isEmpty then d else (d.takeWaypoint n t (g.plan.at t)).advancePlan n t fuel
    | .waypoint =>
      if !g.plan.done t then d
      else
        let k : Kin := (g.plan.target.getD 0, g.pass, 0)
        if !g.wps.isEmpty then (d.takeWaypoint n g.plan.tEnd k).advancePlan n t fuel
        else if g.pass ≠ 0 then
          (d.onGen n fun x => { x with kind := .rampStop, pass := 0, plan := planSpeed (d.limsAtEnd n) g.plan.tEnd k 0 }).advancePlan
            n t fuel
        else (d.onGen n fun x => { x with kind := .hold, plan := planHold t k.1, baseDef := false }).advancePlan n t fuel
    | .move | .rampStop | .quickStop | .stopAt =>
      if !g.plan.done t then d
      else (d.onGen n fun x => { x with kind := .hold, plan := planHold t (g.plan.at t).1, baseDef := false }).advancePlan n t fuel
    | .follow | .speed | .gear => d

/-! ### Commands of one commit (R216–R220, R227, R231) -/

/-- The opcode of a profile command, for event 0x0511. -/
def PrfCmd.opcode : PrfCmd → Nat
  | .move .. => 0x0500 | .limits .. => 0x0501 | .gear .. => 0x0502 | .trim .. => 0x0503 | .stop .. => 0x0504
  | .wpAppend .. => 0x0505 | .wpFlush => 0x0505

/-- Discard a command (R231). -/
def Dev.prfDiscard (d : Dev) (n : Nat) (c : PrfCmd) (reason : Nat) : Dev :=
  ((d.setFlag .prfStat n 10).addCnt .prfCnt n 16 16).logEvent 0x0511 kLane n (ev4 c.opcode ++ ev4 reason)

/-- Entry to RUN (R217): the base starts at the lane position. -/
def Dev.prfEnter (d : Dev) (n : Nat) (t : Time) : Dev :=
  let m := d.motionAt n t
  let v := if d.regBit .prfCtrl n 1 then m.vel else 0
  let main := d.mainLims n
  let g : Profile := if v = 0 then { kind := .hold, plan := planHold t m.pos, lims := main }
                     else { kind := .rampStop, plan := planSpeed main t (m.pos, v, 0) 0, lims := main }
  d.onPrf n fun p => { p with gen := g, entering := false }

/-- The overshoot of R218 step 3: the flag of the part, counter, event. -/
def Dev.overshoot (d : Dev) (n : Nat) (sup : Bool) (p : Plan) : Dev :=
  ((d.onPrf n fun x => { x with beyond := x.beyond || !sup, supBeyond := x.supBeyond || sup }).addCnt .prfCnt n 0 16).logEvent 0x0510 kLane n
    (ev8 (unsigned 64 (p.target.getD 0)) ++ ev8 (unsigned 64 p.rest))

/-- A changed main set meets the base: replan, or defer; a set that is deferred stays so until its plan ends (R218, R219). -/
def Dev.limitsBase (d : Dev) (n : Nat) (t : Time) : Dev :=
  let g := d.gen n
  let main := d.mainLims n
  if g.lims = main then d
  else
    let k := g.plan.at t
    let fixed := g.kind = .move ∨ g.kind = .stopAt ∨ (g.kind = .waypoint ∧ g.pass = 0)
    if (g.baseDef ∧ g.baseDefLims = main) ∨ (d.regBit .prfCtrl n 0 ∧ fixed ∧ g.plan.inFinal t) then
      d.onGen n fun g => { g with baseDef := true, baseDefLims := main }
    else
      let put (p : Plan) (d : Dev) : Dev := d.onGen n fun g => { g with plan := p, lims := main, baseDef := false }
      match g.kind with
      | .speed => put (planSpeed main t k g.vcmd) d
      | .rampStop => put (planSpeed main t k 0) d
      | .waypoint =>
        if g.pass = 0 then
          let p := planMove main t k (g.plan.target.getD k.1)
          if p.beyond then (put p d).overshoot n false p else put p d
        else
          let (p, u) := planPass main t k (g.plan.target.getD k.1) (capSpeed main g.pass)
          (put p d).onGen n fun g => { g with pass := u }
      | .move | .stopAt =>
        let p := planMove (main.withSpeed g.vmax) t k (g.plan.target.getD k.1)
        if p.beyond then (put p d).overshoot n false p else put p d
      | .hold | .gear | .follow => d.onGen n fun g => { g with lims := main }
      | .quickStop => d

/-- A changed set meets sup (R218, R219, R225). -/
def Dev.limitsSup (d : Dev) (n : Nat) (t : Time) : Dev :=
  let g := d.gen n
  match g.sup with
  | none => d
  | some p =>
    let l := if g.engaging then d.mainLims n else d.supLims n
    if g.supLims = l ∨ p.done t then d
    else if (g.supDef ∧ g.supDefLims = l) ∨ (d.regBit .prfCtrl n 0 ∧ !g.engaging ∧ p.inFinal t) then
      d.onGen n fun g => { g with supDef := true, supDefLims := l }
    else
      let q := planMove l t (p.at t) g.supTgt
      let d := d.onGen n fun g => { g with sup := some q, supLims := l, supDef := false }
      if q.beyond then d.overshoot n true q else d

/-- MOVE at its commit (R216, R227). -/
def Dev.prfMove (d : Dev) (n : Nat) (t : Time) (kind : Nat) (target : Int) (vel speed : Rat) : Dev :=
  let g := d.gen n
  let old := if g.kind = .move then g.plan.target.getD 0 else (g.baseAt t).1
  let k := g.sumAt t
  let main := d.mainLims n
  let g := { g.merged with wps := [], pass := 0, lims := main, vmax := 0 }
  let put (g : Profile) : Dev := d.onPrf n fun p => { p with gen := g, started := decide (kind ≠ 2), beyond := false }
  if kind = 2 then put { g with kind := .speed, vcmd := vel, plan := planSpeed main t k vel }
  else
    let tgt := if kind = 0 then target else wrapInt 64 (old + target)
    put { g with kind := .move, vmax := speed, plan := planMove (main.withSpeed speed) t k tgt }

/-- GEAR at its commit (R224, R225). -/
def Dev.prfGear (d : Dev) (n : Nat) (t : Time) (kind idx align : Nat) (num : Int) (den : Nat) (pos mref : Int) : Dev :=
  if kind = 0 then
    let g := d.gen n
    let k := g.sumAt t
    let main := d.mainLims n
    let v1 := rnd64 (k.2.1 + k.2.2 * absRat k.2.2 / (2 * main.j))
    d.onPrf n fun p => { p with beyond := false, gen :=
      { g.merged with kind := .speed, vcmd := v1, lims := main, vmax := 0, plan := planSpeed main t k v1 } }
  else if !(d.gearSource kind idx t).2.2.2 then d.prfDiscard n (.gear kind idx align num den pos mref) 3
  else d.gearEngage n t kind idx align num den pos mref

/-- TRIM at its commit (R227). -/
def Dev.prfTrim (d : Dev) (n : Nat) (t : Time) (action : Nat) (val : Int) : Dev :=
  let g := d.gen n
  let s := g.supAt t
  let l := if g.engaging then d.mainLims n else d.supLims n
  let tgt := match action with
    | 0 => wrapInt 64 (g.supTgt + val)
    | 1 => val
    | _ => wrapInt 64 (s.1 + q32 (stopDistance l s.2.1 s.2.2))
  d.onPrf n fun p => { p with supBeyond := false, gen :=
    { g with sup := some (planMove l t s tgt), supTgt := tgt, supLims := l, supDef := false } }

/-- WAYPOINT append at its commit (R221). -/
def Dev.prfAppend (d : Dev) (n : Nat) (t : Time) (rel : Bool) (w : Rat) (target : Int) : Dev :=
  let g := d.gen n
  let prev := match g.wps.getLast? with
    | some x => x.target
    | none => if g.kind = .move ∨ g.kind = .waypoint then g.plan.target.getD 0 else (g.baseAt t).1
  let tgt := if rel then wrapInt 64 (prev + target) else target
  d.onGen n fun g => { g with wps := (g.wps ++ [({ target := tgt, w := w } : Waypoint)]).take 16 }

/-- A command that a STOP of the same junction displaces (R231). -/
def Dev.prfDisplaced (d : Dev) (n : Nat) (c : PrfCmd) : Dev :=
  match c with
  | .stop .. | .wpFlush | .limits .. => d
  | c => d.prfDiscard n c 2

/-- The MOVE or GEAR of a junction that counts (R231). -/
def Dev.prfMain (d : Dev) (n : Nat) (t : Time) (c : PrfCmd) : Dev :=
  match c with
  | .move k tg v s => d.prfMove n t k tg v s
  | .gear k i al nu de po mr => d.prfGear n t k i al nu de po mr
  | _ => d

/-- A change of the waypoint queue at its junction (R221, R231). -/
def Dev.prfQueue (d : Dev) (n : Nat) (t : Time) (c : PrfCmd) : Dev :=
  match c with
  | .wpAppend r w tg => d.prfAppend n t r w tg
  | .wpFlush => d.onGen n fun g => { g with wps := [] }
  | _ => d

/-- A TRIM at its junction (R227, R231). -/
def Dev.prfSup (d : Dev) (n : Nat) (t : Time) (c : PrfCmd) : Dev :=
  match c with
  | .trim a v => d.prfTrim n t a v
  | _ => d

/-- The profile commands of lane `n` that fall due at T0, oldest first, each with its `all` mark, with the forced stops of
step 3 (SS1, R306) and step 7 (`MISS_ACT`, R296), in the order of R231. -/
def Dev.prfCommands (d : Dev) (n : Nat) (t : Time) (cs : List (PrfCmd × Bool)) (stop3 stop7 : Option Nat) : Dev :=
  let cs := cs.filter fun c => match c.1 with | .limits .. => false | _ => true
  if (d.lane n).st ≠ .run then
    cs.foldl (fun d c => if c.2 then d else d.prfDiscard n c.1 1) d
  else
    let d := if (d.lane n).prf.entering then d.prfEnter n t else d
    let d := (d.gearStep n t).advancePlan n t 40
    let d := (d.limitsBase n t).limitsSup n t
    let stops := (cs.filterMap fun c => match c.1 with | .stop v p => some (v, p) | _ => none) ++
                 (match stop3 with | some v => [((v, 0) : Nat × Nat)] | none => [])
    let d := match stops.getLast? with
      | some (v, p) => (cs.foldl (fun d c => d.prfDisplaced n c.1) d).prfStop n t v p
      | none =>
        let main := (cs.filter fun c => match c.1 with | .move .. | .gear .. => true | _ => false).getLast?
        let d := d.whenSome main fun c d => d.prfMain n t c.1
        let d := cs.foldl (fun d c => d.prfQueue n t c.1) d
        cs.foldl (fun d c => d.prfSup n t c.1) d
    match stop7 with
    | some v => d.prfStop n t v 0
    | none => d

/-! ### Evaluation (R210, R214, R225) -/

/-- The words that show the generator (R232). -/
def Dev.prfShow (d : Dev) (n : Nat) (pp : Int) (vp ap : Rat) (sp : Int) : Dev :=
  let g := d.gen n
  let d := (((d.setReg64 .prfPp n (unsigned 64 pp)).setReg .prfVp n (toF32 vp)).setReg .prfAp n (toF32 ap)).setReg64 .supPos n
    (unsigned 64 sp)
  let d := d.setReg64 .supTgt n (unsigned 64 g.supTgt)
  let d := match g.gear with | some _ => d | none => d.whenSome g.plan.target fun x d => d.setReg64 .prfTarget n (unsigned 64 x)
  d.onPrf n fun p => { p with pp := pp, vp := vp, ap := ap }

/-- The generator of a lane in RUN at T0, after the commands of the commit. -/
def Dev.prfEvaluate (d : Dev) (n : Nat) (t : Time) : Dev :=
  let d := ((d.gearStep n t).advancePlan n t 40)
  let g := d.gen n
  let rest := g.supRest t
  let d := if g.engaging ∧ rest then
      (d.onGen n fun g => { g with engaging := false }).logEvent 0x0515 kLane n (ev8 (unsigned 64 g.supTgt))
    else d
  let d := if rest then d.onGen n fun g => { g with supDef := false } else d
  let k := (d.gen n).sumAt t
  d.prfShow n k.1 (rnd32 k.2.1) (rnd32 k.2.2) ((d.gen n).supAt t).1

/-- Every plan, the gear, the queue and sup are dropped: outside RUN the generator follows the feedback (R210). -/
def Dev.prfDrop (d : Dev) (n : Nat) : Dev := d.onPrf n fun p => { p with gen := {}, entering := false, started := false }

/-- Outside RUN the generator follows the feedback (R210). -/
def Dev.prfFollow (d : Dev) (n : Nat) (m : Motion) : Dev :=
  let d := d.prfDrop n
  d.prfShow n m.pos m.vel 0 0

/-! ### In position (R228) -/

/-- `IN_POSITION` at the output junction of an on-time frame in RUN. -/
def Dev.inPosition (d : Dev) (n : Nat) (t0 : Time) (posDem pos : Int) : Dev :=
  let g := d.gen n
  let win := d.regF .inposWin n
  let inside := win ≠ 0 && absRat (mkRat (wrapInt 64 (posDem - pos)) (2 ^ 32)) ≤ win
  let ok := g.mode = 1 || g.mode = 5 || (g.mode = 3 && g.plan.done t0)
  d.onPrf n fun p =>
    let c := if inside then p.inCnt + 1 else 0
    { p with inCnt := c, started := false,
             inpos := ok && g.supRest t0 && !p.started && inside && d.fld .prfCtrl n 8 8 ≤ c }

/-! ### Virtual masters (R222, R223) -/

/-- Change master `m`. -/
def Dev.onVm (d : Dev) (m : Nat) (f : VMaster → VMaster) : Dev := { d with vms := d.vms.modify m f }

/-- The limits of a master: it has no V of its own, so that of Table 10-1. -/
def VMaster.lims (x : VMaster) : LimitSet := ⟨1000, f32 x.al, f32 x.dl, f32 x.jl⟩

/-- A master is at rest: velocity and target velocity zero, its change complete (R223). -/
def VMaster.atRest (x : VMaster) (t : Time) : Bool := (x.plan.at t).2.1 = 0 && f32 x.vt = 0 && x.plan.done t

/-- A VMASTER action at its commit junction (R223). -/
def Dev.vmCommit (d : Dev) (t : Time) (m : Nat) (c : VmCmd) : Dev :=
  let x := d.vms.getD m {}
  let k := x.plan.at t
  match c with
  | .vel v => d.onVm m fun x => { x with vt := v, plan := planSpeed x.lims t k (f32 v) }
  | .lim a dd j =>
    d.onVm m fun x => let x := { x with al := a, dl := dd, jl := j }
                      { x with plan := if x.plan.done t then x.plan else planSpeed x.lims t k (f32 x.vt) }
  | .pos p =>
    if !x.atRest t then d.logEvent 0x0517 kVm m (ev4 (unsigned 32 p) ++ wordBytes (toF32 k.2.1))
    else
      let delta := p - k.1
      let d := d.forEach d.laneList fun n d => match (d.gen n).gear with
        | some g => if g.kind = 1 ∧ g.idx = m then
            d.onGen n fun y => { y with gear := some { g with mPrev := wrapInt 64 (g.mPrev + delta) } } else d
        | none => d
      (d.onVm m fun x => { x with plan := planHold t p }).logEvent 0x0516 kVm m (ev4 (unsigned 32 k.1) ++ ev4 (unsigned 32 p))

/-- The masters at T0. -/
def Dev.vmEvaluate (d : Dev) (t : Time) : Dev :=
  { d with vms := d.vms.map fun x => let k := x.plan.at t; { x with p := k.1, v := k.2.1, a := k.2.2 } }

/-- Lanes geared to master `m`. -/
def Dev.vmFollowers (d : Dev) (m : Nat) : Nat :=
  (d.laneList.filter fun n => match (d.gen n).gear with | some g => g.kind = 1 && g.idx = m | none => false).length

/-! ### Configuration (R213, R232) -/

/-- A velocity limit in range (Table 10-1). -/
def velOk (w : Word) : Bool := f32Finite w && decide (0 < f32 w) && decide (f32 w ≤ 1000)
/-- 10^-6 as a binary32 value. -/
def microF32 : Rat := rnd32 (mkRat 1 1000000)
/-- An acceleration or deceleration in range. -/
def accOk (w : Word) : Bool := f32Finite w && decide (microF32 ≤ f32 w) && decide (f32 w ≤ 1000000)
/-- A jerk in range. -/
def jerkOk (w : Word) : Bool := f32Finite w && decide (microF32 ≤ f32 w) && decide (f32 w ≤ 1000000000)
/-- A binary32 pattern that is finite and not negative. -/
def f32NonNeg (w : Word) : Bool := f32Finite w && decide (0 ≤ f32 w)

/-- The staged profile values of lane `n` are allowed. -/
def Dev.prfCfgOk (d : Dev) (n : Nat) : Bool :=
  velOk (d.reg .velLim n) && accOk (d.reg .accLim n) && accOk (d.reg .decLim n) && jerkOk (d.reg .jerkLim n) &&
  velOk (d.reg .supVel n) && accOk (d.reg .supAcc n) && accOk (d.reg .supDec n) && jerkOk (d.reg .supJerk n) &&
  accOk (d.reg .qsDec n) && jerkOk (d.reg .qsJerk n) && f32NonNeg (d.reg .inposWin n) && d.fld .prfCtrl n 8 8 ≠ 0

/-- The register words of a LIMITS command (R218). -/
def limitsWords (n set : Nat) (v a d j : Word) : List (RegId × Nat × Word) :=
  match set with
  | 0 => [(.velLim, n, v), (.accLim, n, a), (.decLim, n, d), (.jerkLim, n, j)]
  | 1 => [(.supVel, n, v), (.supAcc, n, a), (.supDec, n, d), (.supJerk, n, j)]
  | _ => [(.qsDec, n, d), (.qsJerk, n, j)]

end Sys2Proof.Machine
end

