-- ==== Sys2Proof/Machine/Cascade.lean ====
section
/-! DEFINITION. The loop cascade of a lane: one frame's computation, its completion, entry to RUN, the swap of the banks, the
trim source (R163–R174, R197–R200). -/
namespace Sys2Proof.Machine

/-- Change the loop part of lane `n`. -/
def Dev.onLoop (d : Dev) (n : Nat) (f : LoopLane → LoopLane) : Dev := d.onLane n fun l => { l with loop := f l.loop }
/-- The loop part of lane `n`. -/
def Dev.loop (d : Dev) (n : Nat) : LoopLane := (d.lane n).loop
/-- The structure in force of lane `n`. -/
def Dev.loopStruct (d : Dev) (n : Nat) : LoopStruct := (d.loop n).struct_.getD {}
/-- The live bank of lane `n`. -/
def LoopLane.bank (x : LoopLane) : Bank := x.banks.getD x.live {}

/-- The frame period in seconds. -/
def Dev.periodSec (d : Dev) : Rat := mkRat d.period unitsPerSec

/-- A loop with divider code `c` and phase `ph` runs in the slot (R171). -/
def Dev.slotRuns (d : Dev) (c ph : Nat) : Bool := d.frmSeq % 16 % 2 ^ c = ph

/-- What the outer loops leave: states, and what their integrators take. -/
structure OuterRun where
  run  : LoopSt
  /-- The loop ran, with the error it took. -/
  err  : Option Word
  kern : Int
  /-- The integrator stands at its kerb after a swap, and a back-calculation put it there (R166, R198). -/
  clamped : Bool
  bcClamp : Bool
  deriving DecidableEq, Repr

/-- The trim loop of a frame (R163, R172, R173). -/
def Dev.trimRun (d : Dev) (n : Nat) (st : LoopStruct) (b : Bank) (r : LoopSt) : Except Nat OuterRun :=
  let p := (d.ch st.trmSrc).snap
  if st.trmDest = 0 ∨ !d.slotRuns st.trmDiv st.trmPh ∨ !p.valid then .ok ⟨r, none, 0, false, false⟩
  else
    let e := add32 (d.reg .trmSet n) (neg32 p.val)
    match loopRun b ixTrm st.nt r.stages r.secOut (f32 e) e r.iT r.trm r.bcT with
    | .error k => .error k
    | .ok x =>
      let (u, k) := kerbSym (b.gain 14) x.u
      .ok ⟨{ r with stages := x.stages, secOut := x.secOut, iT := x.i, trm := u, bcT := none, kTrm := k ≠ 0 }, some e, k,
            x.clamped, x.bcClamp⟩

/-- The position loop of a frame (R163): it takes the binary64 `e` exactly (R187). -/
def Dev.posRun (d : Dev) (st : LoopStruct) (b : Bank) (r : LoopSt) (e : Rat) : Except Nat OuterRun :=
  let e32 := toF32 e
  if !st.posEn ∨ !d.slotRuns st.posDiv st.posPh then .ok ⟨r, none, 0, false, false⟩
  else match loopRun b ixPos st.np r.stages r.secOut e e32 r.iP r.uP r.bcP with
    | .error k => .error k
    | .ok x =>
      .ok ⟨{ r with stages := x.stages, secOut := x.secOut, iP := x.i, uP := x.u, bcP := none }, some e32, 0, x.clamped, x.bcClamp⟩

/-- The velocity loop of a frame: what an inner loop leaves, its output as `uV` of the states. -/
def velRun (st : LoopStruct) (b : Bank) (r : LoopSt) (e : Word) : Except Nat OuterRun :=
  if st.dmdMode then .ok ⟨r, none, 0, false, false⟩
  else match loopRun b ixVel st.nv r.stages r.secOut (f32 e) e r.iV r.uV r.bcV with
    | .error k => .error k
    | .ok x =>
      .ok ⟨{ r with stages := x.stages, secOut := x.secOut, iV := x.i, uV := x.u, bcV := none }, some e, 0, x.clamped, x.bcClamp⟩

/-- The integrator of a loop that ran takes its step; whether it stands at its kerb (R166, R167). -/
def OuterRun.step (x : OuterRun) (b : Bank) (ix : LoopIx) (tx : Rat) (i : Word) (held : Bool) (downs : List (Int × Int)) :
    Word × Bool :=
  match x.err with
  | some e => let y := integrate b ix tx e i downs; (y.1, y.2 || x.clamped)
  | none => (i, held)

/-- One frame of lane `n` in RUN (R163, R166, R167, R174); `saved` is the generator at the start of the frame. The error
names the stage whose exponent overflowed (R188). -/
def Dev.laneCompute (d : Dev) (n : Nat) (saved : Profile) : Except Nat LaneWork :=
  let l := d.lane n
  let st := d.loopStruct n
  let b := l.loop.bank
  let t := d.periodSec
  let prev := l.loop.run.clamped
  let vp := toF32 l.prf.vp
  let ap := toF32 l.prf.ap
  match d.trimRun n st b l.loop.run with
  | .error k => .error k
  | .ok tr =>
    let trm := tr.run.trm
    let posDem := wrapInt 64 (l.prf.pp + if st.trmDest = 1 then roundEven (f32 trm * 2 ^ 32) else 0)
    let eP := rnd64 (mkRat (wrapInt 64 (posDem - l.trk.snapPos)) (2 ^ 32))
    match d.posRun st b tr.run eP with
    | .error k => .error k
    | .ok pr =>
      let uP := if st.posEn then pr.run.uP else 0
      let vTrm := if st.trmDest = 2 then (if st.trmMul then mul32 trm vp else trm) else 0
      let (velDem, kVel) := kerbSym (b.gain 11) (add32 (fma32 (b.gain 9) vp uP) vTrm)
      let tff := fma32 (b.gain 10) ap (if st.trmDest = 3 then trm else 0)
      let velErr := add32 velDem (neg32 (toF32 l.trk.snapVel))
      match velRun st b pr.run velErr with
      | .error k => .error k
      | .ok vr =>
        let r := vr.run
        let (tq, kTq) := kerb (b.gain 13) (b.gain 12) (if st.dmdMode then tff else add32 r.uV tff)
        let (iV, kIV) := vr.step b ixVel t r.iV false [(kTq, 1)]
        let (iP, kIP) := pr.step b ixPos (t * 2 ^ st.posDiv) r.iP (st.posEn && r.kIP) [(kVel, 1)]
        let (iT, kIT) := tr.step b ixTrm (t * 2 ^ st.trmDiv) r.iT r.kIT <| [(tr.kern, 1)] ++
          (if st.trmDest = 2 then [(kVel, if st.trmMul then signRat (f32 vp) else 1)] else []) ++
          (if st.trmDest = 3 then [(kTq, 1)] else [])
        let kbits := 1 * b2n (kVel ≠ 0) + 2 * b2n (kTq ≠ 0) + 4 * b2n r.kTrm + 8 * b2n kIV + 16 * b2n kIP + 32 * b2n kIT
        let lim := d.regF .feLim n
        let beyond : Bool := lim ≠ 0 && lim < absRat (rnd32 eP)
        let r := { r with iV := iV, iP := iP, iT := iT, kIP := kIP, kIT := kIT, clamped := kbits ≠ 0,
                          feCnt := if beyond then satNat 8 (r.feCnt + 1) else 0 }
        let dmd := plusZero (if st.dmdMode then velDem else tq)
        let dff := if st.dmdMode then plusZero tq else 0
        .ok { run := r, dmd := dmd, dff := dff, posDem := posDem, kbits := kbits, feOver := beyond,
              kerb := kbits ≠ 0 || prev, bcClamp := vr.bcClamp || pr.bcClamp || tr.bcClamp, saved := saved,
              vals := { pp := unsigned 64 l.prf.pp, vp := vp, ap := ap, posDem := unsigned 64 posDem, eP := toF32 eP,
                        uP := uP, velDem := velDem, velErr := velErr, uV := if st.dmdMode then 0 else r.uV, dmd := dmd, dff := dff,
                        trm := trm, proc := if st.trmDest = 0 then none else some (d.ch st.trmSrc).snap.val,
                        iV := iV, iP := iP, iT := iT, secOut := r.secOut } }

/-- The word of stage exponents 4w to 4w+3 (R207). -/
def stageWord (st : List Stage) (w : Nat) : Word :=
  BitVec.ofNat 32 (leNat ((List.range 4).map fun i => BitVec.ofInt 8 (st.getD (4 * w + i) {}).e))

/-- The work of lane `n` completes: its states and readings are kept (R42, R180, R207). `late`: after the deadline. -/
def Dev.completeWork (d : Dev) (n : Nat) (late : Bool) : Dev :=
  match (d.lane n).work with
  | none => d
  | some w =>
    let d := d.onLane n fun l => { l with work := none, loop := { l.loop with run := w.run, vals := some w.vals, late := late } }
    let d := (((d.setReg .velDem n w.vals.velDem).setReg .posErr n w.vals.eP).setReg .velErr n w.vals.velErr).setReg .trmOut n
      w.vals.trm
    let d := ((d.setReg .iV n w.vals.iV).setReg .iP n w.vals.iP).setReg .iT n w.vals.iT
    let d := (d.setFld .loopStat n 1 6 w.kbits).setFld .loopStat n 10 1 (b2n w.feOver)
    let d := d.setFlagIf w.bcClamp .coefStat n 5
    d.forEach (List.range 8) fun i d => d.setReg .stageExp (8 * n + i) (stageWord w.run.stages i)

/-- Work that is not complete at T0 is discarded: the generator returns to the start of its frame (R42). -/
def Dev.discardWork (d : Dev) (n : Nat) : Dev :=
  match (d.lane n).work with
  | none => d
  | some w => d.onLane n fun l => { l with work := none, prf := { l.prf with gen := w.saved } }

/-- Entry to RUN: fresh loop states (R170). -/
def Dev.loopEnter (d : Dev) (n : Nat) : Dev :=
  let i := if (d.loopStruct n).dmdMode then 0 else d.reg .lbDmd n
  (d.onLoop n fun x => { x with run := { iV := i }, trmHold := false, trmBad := 0, trmHeld := 0 }).onPrf n fun p =>
    { p with entering := true }

/-- Leaving RUN: the loop states, every plan, the gear, the queue and sup are discarded (R170, R210, R226). -/
def Dev.loopLeave (d : Dev) (n : Nat) : Dev :=
  ((d.onLane n fun l => { l with work := none }).onLoop n fun x =>
    { x with run := {}, kerb := false, trmHold := false, trmBad := 0, trmHeld := 0 }).prfDrop n

/-- COEF_SWAP at its commit junction (R197, R198): a `KERB` that is set waits for a whole frame inside the new limits (R199). -/
def Dev.coefSwapCommit (d : Dev) (n : Nat) (copyBack : Bool) : Dev :=
  let x := d.loop n
  let live := 1 - x.live
  let banks := if copyBack then List.replicate 2 (x.banks.getD live {}) else x.banks
  let run := (d.lane n).st = .run
  let bump := d.regBit .loopCtrl n 28
  let back := bump && !x.kerb
  let swapped (r : LoopSt) : LoopSt :=
    { r with stages := r.stages.map (fun s => { s with first := true }), bcV := some back, bcP := some back, bcT := some back,
             clamped := r.clamped || x.kerb }
  let d := d.onLoop n fun x => { x with live := live, banks := banks, stagedWr := false,
                                        run := if run then swapped x.run else x.run }
  let d := (d.addCnt .coefCnt n 16 16).setFlagIf (run && bump && x.kerb) .coefStat n 6
  let outcome := if !run then 0 else if !bump then 3 else if x.kerb then 2 else 1
  d.logEvent 0x0434 kLane n (ev4 live ++ ev4 outcome)

/-- A structure takes effect at its commit junction (R175, R176). -/
def Dev.structCommit (d : Dev) (n : Nat) (s : LoopStruct) : Dev :=
  let d := d.onLoop n fun x => { x with resv := some s, struct_ := some s }
  let w := d.reg .loopCtrl n
  let w := withField (withField (withField w 0 5 s.nv) 12 4 s.np) 16 4 s.nt
  let w := withField (withField (withField w 20 1 (b2n s.dmdMode)) 21 1 (b2n s.posEn)) 24 2 s.trmDest
  let d := d.setReg .loopCtrl n w
  let d := d.setReg .loopDiv n (at_ 12 s.trmDiv ||| at_ 8 s.trmPh ||| at_ 4 s.posDiv ||| at_ 0 s.posPh)
  (d.setFld .trmCtrl n 0 4 s.trmSrc).setFld .trmCtrl n 8 1 (b2n s.trmMul)

/-- Bits of the structure registers that only an admitted LANE_COMMIT writes (R175). -/
def structHold (r : RegId) : Word :=
  match r with
  | .loopCtrl => 0x033FF01F
  | .loopDiv => 0x7F7F
  | .trmCtrl => 0x10F
  | _ => 0

/-- `LB_DMD` of lane `n` is allowed with the `DMD_MODE` in force (R169). -/
def Dev.lbDmdOk (d : Dev) (n : Nat) : Bool :=
  let lb := d.reg .lbDmd n
  f32Finite lb && (d.regBit .loopCtrl n 20 || absRat (f32 lb) ≤ 4)

/-- The other loop settings of lane `n` are allowed (R173, R180). -/
def Dev.loopCfgOk (d : Dev) (n : Nat) : Bool :=
  f32NonNeg (d.reg .feLim n) && d.fld .feN n 0 8 ≠ 0 && (!d.regBit .trmCtrl n 9 || d.fld .trmCtrl n 16 8 ≠ 0) &&
    f32Finite (d.reg .trmSet n)

/-- The trim source of lane `n` at the snapshot (R173). -/
def Dev.trimSource (d : Dev) (n : Nat) : Dev :=
  let l := d.lane n
  let st := d.loopStruct n
  if l.st ≠ .run ∨ st.trmDest = 0 then d
  else if (d.ch st.trmSrc).snap.valid then
    let d := d.onLoop n fun x => { x with trmBad := 0 }
    if l.loop.trmHold then
      if d.slotRuns st.trmDiv st.trmPh then
        (d.onLoop n fun x => { x with trmHold := false, trmHeld := 0 }).logEvent 0x0422 kLane n
          (ev4 st.trmSrc ++ ev4 l.loop.trmHeld)
      else d.onLoop n fun x => { x with trmHeld := x.trmHeld + 1 }
    else d
  else
    let d := d.onLoop n fun x => { x with trmHold := true, trmBad := x.trmBad + 1, trmHeld := x.trmHeld + 1 }
    if l.loop.trmHold then d else d.logEvent 0x0421 kLane n (ev4 st.trmSrc ++ ev4 l.st.code)

/-- TRIM_SOURCE_FAULT (R173): at the output junction, late or not, of the `TRM_HOLD_N`th frame with an invalid source. -/
def Dev.trimFault (d : Dev) (n : Nat) : Dev :=
  let l := d.lane n
  if l.st = .run ∧ d.regBit .trmCtrl n 9 ∧ l.loop.trmHold ∧ d.fld .trmCtrl n 16 8 ≤ l.loop.trmBad then
    d.laneFault n 0x21 else d

/-- FOLLOWING_ERROR (R174): the error has stood above the limit for `FE_N` frames. -/
def Dev.followingError (d : Dev) (n : Nat) : Dev :=
  let l := d.lane n
  if l.st = .run ∧ d.regBit .loopStat n 10 ∧ d.fld .feN n 0 8 ≤ l.loop.run.feCnt then
    (d.laneFault n 0x20).logEvent 0x0420 kLane n (wordBytes (d.reg .posErr n) ++ wordBytes (d.reg .feLim n))
  else d

end Sys2Proof.Machine
end

