-- ==== Sys2Proof/Machine/Admit.lean ====
section
/-! DEFINITION. Admission of loop structures: charges, budget, loads of a cluster, the staged structure of a lane
(R175–R179, R181). -/
namespace Sys2Proof.Machine

/-- The last staged value of a register word as port `p` sees it, or the value in force (R20, R268, R402): writes inside an
open group count for the port of the group alone. -/
def Dev.stagedReg (d : Dev) (p : Nat) (i : RegId) (k : Nat) : Word :=
  d.staged.foldl (fun w s => match s.act with
    | .reg j l v => if i = j ∧ k = l ∧ (s.inGroup → s.port = p) then v else w
    | _ => w) (d.reg i k)

/-- The loop structure that the staged registers of lane `n` spell for port `p` (R175). -/
def Dev.stagedStruct (d : Dev) (p n : Nat) : LoopStruct :=
  let c := d.stagedReg p .loopCtrl n
  let v := d.stagedReg p .loopDiv n
  let t := d.stagedReg p .trmCtrl n
  { nv := field c 0 5, np := field c 12 4, nt := field c 16 4, posEn := bit c 21, dmdMode := bit c 20, trmDest := field c 24 2,
    trmDiv := field v 12 3, trmPh := field v 8 4, posDiv := field v 4 3, posPh := field v 0 4,
    trmSrc := field t 0 4, trmMul := bit t 8 }

/-- The structure's values are allowed (R171, R172, R180). -/
def LoopStruct.ok (s : LoopStruct) : Bool :=
  s.nv ≤ 16 && s.np ≤ 8 && s.nt ≤ 8 && s.trmDiv ≤ 4 && s.posDiv ≤ 4 && s.trmPh < 2 ^ s.trmDiv && s.posPh < 2 ^ s.posDiv &&
    s.trmSrc < 8 && !(s.trmMul && s.trmDest ≠ 2)

/-- The charge of every slot: lane base, profile generator, velocity loop (Table 8-4). -/
def LoopStruct.baseCost (s : LoopStruct) : Nat := 22 + if s.dmdMode then 0 else 4 + 2 * s.nv
/-- The charge of the position loop. -/
def LoopStruct.posCost (s : LoopStruct) : Nat := if s.posEn then 4 + 2 * s.np else 0
/-- The charge of the trim loop. -/
def LoopStruct.trmCost (s : LoopStruct) : Nat := if s.trmDest ≠ 0 then 4 + 2 * s.nt else 0

/-- The charge of a structure in slot `k` (Table 8-4). -/
def LoopStruct.cost (s : LoopStruct) (k : Nat) : Nat :=
  s.baseCost + (if k % 2 ^ s.posDiv = s.posPh then s.posCost else 0) + (if k % 2 ^ s.trmDiv = s.trmPh then s.trmCost else 0)

/-- The reservation of lane `n`: its last admission, applied or still staged (R176). -/
def Dev.reservation (d : Dev) (n : Nat) : Option LoopStruct :=
  d.staged.foldl (fun r s => match s.act with
    | .laneCommit m st => if m = n then some st else r
    | _ => r) (d.loop n).resv

/-- The budget of a cluster for an output deadline in cyc (R178). -/
def budget (outdl : Nat) : Nat := 85 * (outdl - 32) / 100

/-- The reservations of cluster `c`, with `new` in place of lane `n`'s. -/
def Dev.reserved (d : Dev) (c : Nat) (new : Option (Nat × LoopStruct)) : List LoopStruct :=
  (lanesOfCluster c).filterMap fun n => match new with
    | some (m, s) => if m = n then some s else d.reservation n
    | none => d.reservation n

/-- The load of slot `k` (R178). -/
def slotLoad (l : List LoopStruct) (k : Nat) : Nat := 240 + (l.map (·.cost k)).foldl (· + ·) 0

/-- The worst slot, the lowest index among equals, and its load (R178). -/
def worstSlot (l : List LoopStruct) : Nat × Nat :=
  (List.range 16).foldl (fun w k => let x := slotLoad l k; if w.2 < x then (k, x) else w) (0, slotLoad l 0)

/-- Every cluster fits an output deadline (R36). -/
def Dev.allFit (d : Dev) (outdl : Nat) : Bool :=
  (List.range 4).all fun c => (worstSlot (d.reserved c none)).2 ≤ budget outdl

/-- The outcome of admission for a lane's staged structure: admitted, worst slot, load, budget (R178). -/
def Dev.admission (d : Dev) (n : Nat) (s : LoopStruct) : Bool × Nat × Nat × Nat :=
  let (k, load) := worstSlot (d.reserved (clusterOf n) (some (n, s)))
  let b := budget d.outdl
  (load ≤ b, k, load, b)

/-- The reply data of LANE_COMMIT and LANE_ADMIT (R178). -/
def admitReply (c k load b : Nat) : List Byte := [BitVec.ofNat 8 c, BitVec.ofNat 8 k] ++ leBytes 2 load ++ leBytes 2 (satNat 16 b)

/-- `ADM_HELD`: a staged structure awaits admission (R175, R180). -/
def Dev.admHeld (d : Dev) (n : Nat) : Bool :=
  d.staged.any fun s => match s.act with
    | .reg i k v => k = n && (v ^^^ d.reg i k) &&& structHold i ≠ 0
    | _ => false

/-- The read-only bits of `LOOP_STAT` (R180). -/
def Dev.loopStatRo (d : Dev) (n : Nat) : Word :=
  (d.reg .loopStat n &&& 0x47E) ||| bits [(12, d.admHeld n), (9, (d.loop n).trmHold)]

end Sys2Proof.Machine
end

