-- ==== Sys2Proof/Machine/MapLearn.lean ====
section
/-! DEFINITION. Angle-error maps: the learner, its estimator and consistency test, fades, blobs
(spec/05_angle_error_maps.md). -/
namespace Sys2Proof.Machine

/-- Arcseconds in one electrical turn. -/
def arcsecTurn : Rat := 1296000

/-- π as a rational of 96 fraction bits. -/
def twoPi : Rat := ofFx twoPiFx

/-! ### Segments (R95, R96) -/

/-- The learner runs: WAITING, COLLECTING or EVALUATING. -/
def MapSt.learning (m : MapSt) : Bool := m.st = .waiting || m.st = .collecting || m.st = .evaluating

/-- The learner, or the drift monitor, accumulates segments (R95, R104). -/
def MapSt.active (m : MapSt) : Bool :=
  match m.st with
  | .waiting | .collecting => true
  | .idle | .done => m.source ≠ 0
  | _ => false

/-- The learning parameters in force for lane `n`: those of its run, else the registers (R104, R106). -/
def Dev.learnPar (d : Dev) (n : Nat) : LearnPar :=
  let m := (d.lane n).map
  if m.learning then m.par else
    { vmin := d.reg .mapVmin n, vsplit := d.reg .mapVsplit n, vmax := d.reg .mapVmax n, amax := d.reg .mapAmax n,
      lrn := d.reg .mapLrn n, tol := d.reg .mapTol n }

/-- The conditions of Table 5-2 for one update of lane `n`, apart from those on the whole segment. -/
def Dev.learnOk (d : Dev) (n : Nat) : Bool :=
  let l := d.lane n
  let q := d.learnPar n
  let v := absRat (d.mechVel n l.trk.om)
  l.st.up && l.trk.lockCause = 0 && !d.los n && !l.acq.coast && !l.trk.detour && l.trk.reacq = .idle && l.acq.fastEnd.isNone &&
  decide (f32 q.vmin ≤ v) && decide (v ≤ f32 q.vmax) &&
  decide (mkRat l.trk.om.natAbs (2 ^ 24) ≤ d.carrier (groupOf n) / 8) &&
  decide (absRat (d.mechAcc n (l.trk.ac + l.trk.aid)) ≤ f32 q.amax) &&
  !d.regBit .laneStat n 5 && l.map.fade.isNone && l.map.mechFade.isNone

/-- The angle of a full segment in 2^-32 electrical turn (R95). -/
def Dev.segLength (d : Dev) (n : Nat) : Nat := 2 ^ 32 * 2 ^ field (d.learnPar n).lrn 8 3 * d.poles n

/-- Mark the running segment of lane `n` as failed: it is discarded whole (R95). -/
def Dev.segmentFail (d : Dev) (n : Nat) : Dev :=
  d.onMap n fun m =>
    if m.segTh.isSome && !m.segBad then
      { m with segBad := true, segDone := false, st := if m.st = .collecting then .waiting else m.st }
    else m

/-- One update of lane `n` as the learner sees it (R95, R97); `s`, `c` are the demodulated envelopes. The samples are taken on
the grid of every 16th update of the tracker. -/
def Dev.mapSample (d : Dev) (n : Nat) (t : Time) (s c : Int) : Dev :=
  let l := d.lane n
  let m := l.map
  if !m.active || m.segDone || m.segBad then d
  else
    let k := l.trk
    let neg : Bool := decide (d.mechVel n k.om < 0)
    let sameSign : Bool := m.segTh.isNone || m.segNeg == neg
    if !d.learnOk n || !sameSign then d.segmentFail n
    else
      let p := d.poles n
      let mech : Bool := k.referenced || p = 1
      let start := m.segTh.getD k.th
      let x := d.termsNow n t
      let (sc, cc) := correctSignals x s c l.acq.mag
      let smp : SegSample :=
        { t := t, tm := k.thD + k.d - d.mapCorrection n x k.thD, the := frac32 k.thD, psi := d.psi n k.thD,
          s := roundEven sc, c := roundEven cc, m := l.acq.mag, vel := d.mechVel n k.om }
      let done : Bool := decide ((k.th - start).natAbs ≥ d.segLength n)
      d.onMap n fun m =>
        { m with segTh := some start, segNeg := neg, segMech := (m.segTh.isNone || m.segMech) && mech,
                 seg := if k.decim = 0 then smp :: m.seg else m.seg,
                 segDone := done, st := if m.st = .waiting then .collecting else m.st }

/-! ### Estimator (R97) -/

/-- Sum of a list of rationals. -/
def sumRat (l : List Rat) : Rat := l.foldl (· + ·) 0

/-- The mean of a list of rationals; zero of the empty list. -/
def meanRat (l : List Rat) : Rat := if l.isEmpty then 0 else sumRat l / l.length

/-- Remove from a sequence of uniform samples its projection onto {1, t, t²}. -/
def detrend (f : List Rat) : List Rat :=
  let n := f.length
  let ts : List Rat := (List.range n).map fun (i : Nat) => mkRat (2 * (i : Int) - ((n : Int) - 1)) 2
  let q : Rat := mkRat ((n : Int) * n - 1) 12
  let p2 := ts.map fun t => t * t - q
  let dot (a b : List Rat) : Rat := sumRat (List.zipWith (· * ·) a b)
  let c0 := meanRat f
  let n1 := dot ts ts
  let n2 := dot p2 p2
  let c1 := if n1 = 0 then 0 else dot f ts / n1
  let c2 := if n2 = 0 then 0 else dot f p2 / n2
  List.zipWith (fun x (t, p) => x - c0 - c1 * t - c2 * p) f (List.zip ts p2)

/-- The arc sine in radians. -/
def asinRad (x : Rat) : Rat :=
  let y := clampRat (-1) 1 x
  let a := atan2Turn (absRat y) (sqrtRat (1 - y * y))
  (if y < 0 then -a else a) * twoPi

/-- The estimates of one segment and its σ in electrical turns (R97). The residuals are orthogonal to {1, t, t²}, so the
product with a basis function equals that with its orthogonal part. -/
def estimate (p : Nat) (mech : Bool) (smps : List SegSample) : SegEst × Rat :=
  let n := smps.length
  let res := detrend (smps.map fun x => (x.tm : Rat))
  let scale (r : Rat) : Rat := 2 * r / n / 256
  let coef (ang : SegSample → Nat) (k : Nat) : Rat × Rat :=
    let sc := smps.map fun x => sinCosTurn (mkRat (ang x * k : Nat) (2 ^ 32))
    (scale (sumRat (List.zipWith (fun r q => r * q.2) res sc)), scale (sumRat (List.zipWith (fun r q => r * q.1) res sc)))
  let el := (List.range 8).map fun i => coef (·.the) (i + 1)
  let me := (List.range 32).map fun i => if mech && mechAllowed p (i + 1) then coef (·.psi) (i + 1) else (0, 0)
  let own := detrend (smps.map fun x => (harmonics (mkRat x.the (2 ^ 32)) 1 el + harmonics (mkRat x.psi (2 ^ 32)) 1 me) * 256)
  let rest := List.zipWith (· - ·) res own
  let sigma := sqrtRat (meanRat (rest.map fun r => r * r)) / 2 ^ 32
  let ms := meanRat (smps.map fun x => (x.m : Rat))
  let ss := smps.map fun x => (x.s : Rat)
  let cs := smps.map fun x => (x.c : Rat)
  let mS := meanRat ss
  let mC := meanRat cs
  let varS := meanRat (ss.map fun x => (x - mS) * (x - mS))
  let varC := meanRat (cs.map fun x => (x - mC) * (x - mC))
  let cov := meanRat (List.zipWith (fun a b => (a - mS) * (b - mC)) ss cs)
  let dOS := if ms = 0 then 0 else mS / ms
  let dOC := if ms = 0 then 0 else mC / ms
  let dRT := if varS = 0 then 0 else sqrtRat (varC / varS) - 1
  let prod := varS * varC
  let dQD := if prod = 0 then 0 else -(asinRad (cov / sqrtRat prod))
  let u (rad : Rat) : Rat := rad / twoPi * 2 ^ 24
  let el := el.modify 0 fun (a, b) => (a - u dOS, b + u dOC)
  let el := el.modify 1 fun (a, b) => (a + u (dQD / 2), b + u (dRT / 2))
  ({ dOS := dOS, dOC := dOC, dRT := dRT, dQD := dQD, el := el, me := me, n := 1, nMe := if mech then 1 else 0,
     vel := meanRat (smps.map fun x => absRat x.vel) }, sigma)

/-- Add two pairs. -/
def addPair (a b : Rat × Rat) : Rat × Rat := (a.1 + b.1, a.2 + b.2)

/-- Add the estimates of a segment to a band sum. -/
def SegEst.add (a b : SegEst) : SegEst :=
  { dOS := a.dOS + b.dOS, dOC := a.dOC + b.dOC, dRT := a.dRT + b.dRT, dQD := a.dQD + b.dQD,
    el := List.zipWith addPair a.el b.el, me := List.zipWith addPair a.me b.me,
    n := a.n + b.n, nMe := a.nMe + b.nMe, vel := a.vel + b.vel }

/-- The larger of the middle pair's mean: the median of a list. -/
def medianRat (l : List Rat) : Rat :=
  let s := l.mergeSort (fun a b => decide (a ≤ b))
  let n := s.length
  if n = 0 then 0 else if n % 2 = 1 then s.getD (n / 2) 0 else (s.getD (n / 2 - 1) 0 + s.getD (n / 2) 0) / 2

/-- Segments summed in band A (0) or B (1). -/
def MapSt.bandCount (m : MapSt) (b : Nat) : Nat := (m.sums.getD (2 * b) {}).n + (m.sums.getD (2 * b + 1) {}).n

/-- A learner failure (R98, R100). -/
def Dev.learnFail (d : Dev) (n cause : Nat) : Dev :=
  let d := d.onMap n fun m => { m with st := .failed, failCause := cause, seg := [], segTh := none, segDone := false, segBad := false }
  d.logEvent 0x0303 kLane n (ev4 cause ++ ev4 (d.reg .segRej n).toNat)

/-- Discard the segment that has ended (R95, R97, R98). -/
def Dev.segmentDiscard (d : Dev) (n : Nat) : Dev :=
  let d := d.onMap n fun m =>
    { m with seg := [], segTh := none, segDone := false, segBad := false, segMech := true, discarded := m.discarded + 1,
             outcomes := (true :: m.outcomes).take 256, st := if m.st = .collecting then .waiting else m.st }
  let d := d.addCnt .segRej n 0 32
  let m := (d.lane n).map
  if m.learning && decide ((m.outcomes.filter id).length > 128) then d.learnFail n 1 else d

/-- `SEG_A`, `SEG_B` shown (R114). -/
def Dev.showBands (d : Dev) (n : Nat) : Dev :=
  let m := (d.lane n).map
  d.setReg .mapSeg n (at_ 0 (satNat 16 (m.bandCount 0)) ||| at_ 16 (satNat 16 (m.bandCount 1)))

/-- SEGMENT_END (R96, R97, R103): evaluate the segment and accept or discard it. -/
def Dev.segmentEnd (d : Dev) (n : Nat) : Dev :=
  let m := (d.lane n).map
  if m.segBad then d.segmentDiscard n
  else if !m.segDone then d
  else if !d.mgmtUp then d.segmentDiscard n
  else
    let (e, sigma) := estimate (d.poles n) m.segMech m.seg.reverse
    let lim := if m.sigmas.length ≥ 32 then 4 * medianRat m.sigmas else 1800 / arcsecTurn
    if lim < sigma then d.segmentDiscard n
    else
      let split := f32 (d.learnPar n).vsplit
      let segs := field (d.learnPar n).lrn 16 16
      let band := if split ≤ 0 ∨ split ≤ e.vel then 1 else 0
      let full := m.learning && decide (m.bandCount band ≥ segs)
      let odd := m.bandCount band % 2
      let d := d.onMap n fun m =>
        { m with seg := [], segTh := none, segDone := false, segMech := true,
                 sums := if full then m.sums else m.sums.modify (2 * band + odd) (SegEst.add · e),
                 outcomes := (false :: m.outcomes).take 256,
                 sigmas := if full then m.sigmas else (sigma :: m.sigmas).take 32,
                 driftCnt := if m.learning then m.driftCnt else m.driftCnt + 1 }
      let d := if m.learning then d.showBands n else d
      let m := (d.lane n).map
      let allFull : Bool := decide (m.bandCount 1 ≥ segs) && (decide (split ≤ 0) || decide (m.bandCount 0 ≥ segs))
      if m.learning && allFull then d.onMap n fun m => { m with st := .evaluating } else d

/-! ### Consistency test (R99, R100) -/

/-- The estimate of term `i` from a band sum, as a complex amplitude in arcsec electrical, with the number of segments:
0–3 `OS`, `OC`, `RT`, `QD`; 4–11 electrical; 12–43 mechanical (Table 5-4). -/
def SegEst.term (e : SegEst) (i : Nat) : (Rat × Rat) × Nat :=
  let rad (x : Rat) : Rat := x * arcsecTurn / twoPi
  let har (p : Rat × Rat) : Rat × Rat := (p.1 * arcsecTurn / 2 ^ 24, p.2 * arcsecTurn / 2 ^ 24)
  match i with
  | 0 => ((rad e.dOS, 0), e.n)
  | 1 => ((rad e.dOC, 0), e.n)
  | 2 => ((rad (e.dRT / 2), 0), e.n)
  | 3 => ((rad (e.dQD / 2), 0), e.n)
  | _ => if i < 12 then (har (e.el.getD (i - 4) (0, 0)), e.n) else (har (e.me.getD (i - 12) (0, 0)), e.nMe)

/-- The mean estimate of a term over band sums; none without segments. -/
def termMean (i : Nat) (es : List SegEst) : Option (Rat × Rat) :=
  let ts := es.map (·.term i)
  let n := ts.foldl (fun (a : Nat) t => a + t.2) 0
  let s := ts.foldl (fun a t => addPair a t.1) (0, 0)
  if n = 0 then none else some (s.1 / n, s.2 / n)

/-- The squared magnitude of a complex amplitude. -/
def norm2 (a : Rat × Rat) : Rat := a.1 * a.1 + a.2 * a.2

/-- Two estimates agree within T (R99): `cAbs` in arcsec, `cRel` a fraction. -/
def agree (cAbs cRel : Rat) (a b : Rat × Rat) : Bool :=
  let m := if norm2 a < norm2 b then norm2 b else norm2 a
  let diff := norm2 (a.1 - b.1, a.2 - b.2)
  decide (diff ≤ cAbs * cAbs) || decide (diff ≤ cRel * cRel * m)

/-- Both estimates exist and agree. -/
def agreeOpt (cAbs cRel : Rat) (a b : Option (Rat × Rat)) : Bool :=
  match a, b with
  | some x, some y => agree cAbs cRel x y
  | _, _ => false

/-- The term passes both tests of R99. -/
def termPasses (cAbs cRel : Rat) (two : Bool) (sums : List SegEst) (i : Nat) : Bool :=
  let g (k : Nat) : SegEst := sums.getD k {}
  let band (b : Nat) : Bool := agreeOpt cAbs cRel (termMean i [g (2 * b)]) (termMean i [g (2 * b + 1)])
  if two then band 0 && band 1 && agreeOpt cAbs cRel (termMean i [g 0, g 1]) (termMean i [g 2, g 3]) else band 1

/-- The sum of the magnitudes of all harmonic coefficients (R94). -/
def MapTerms.weight (m : MapTerms) : Nat := (m.el ++ m.me).foldl (fun a p => a + p.1.natAbs + p.2.natAbs) 0

/-- Every term lies within its limit and the sum within 65,535 (R94, Table 5-1). -/
def MapTerms.ok (m : MapTerms) : Bool :=
  decide (m.os.natAbs ≤ 3277) && decide (m.oc.natAbs ≤ 3277) && decide (m.rt.natAbs ≤ 6554) && decide (m.qd.natAbs ≤ 8738) &&
  (m.el ++ m.me).all (fun p => decide (p.1.natAbs ≤ 16384) && decide (p.2.natAbs ≤ 16384)) && decide (m.weight ≤ 65535)

/-- Add the residual of term `i`, given in arcsec, to a map. -/
def MapTerms.addTerm (m : MapTerms) (i : Nat) (v : Rat × Rat) : MapTerms :=
  let rad (x : Rat) : Rat := x * twoPi / arcsecTurn
  let h (x : Rat) : Int := roundEven (x * 2 ^ 24 / arcsecTurn)
  match i with
  | 0 => { m with os := m.os + roundEven (rad v.1 * 65536) }
  | 1 => { m with oc := m.oc + roundEven (rad v.1 * 65536) }
  | 2 => { m with rt := m.rt + roundEven (2 * rad v.1 * 65536) }
  | 3 => { m with qd := m.qd + roundEven (2 * v.1 / arcsecTurn * 2 ^ 20) }
  | _ => if i < 12 then { m with el := m.el.modify (i - 4) fun p => (p.1 + h v.1, p.2 + h v.2) }
         else { m with me := m.me.modify (i - 12) fun p => (p.1 + h v.1, p.2 + h v.2) }

/-- The term is learned in a run with the given terms byte and pole pairs (R93, R106). -/
def termWanted (terms p : Nat) (single : Bool) (i : Nat) : Bool :=
  if i < 4 then terms % 2 = 1 else if i < 12 then terms / 2 % 2 = 1
  else terms / 4 % 2 = 1 && !single && mechAllowed p (i - 11)

/-- The outcome of one evaluation: new terms, masks of accepted and rejected terms, largest accepted change in arcsec,
residual in arcsec. -/
structure EvalOut where
  terms : MapTerms
  accepted : Nat := 0
  rejected : Nat := 0
  change2 : Rat := 0
  diff2 : Rat := 0
  deriving DecidableEq, Repr

/-- Judge term `i` (R99): accepted, it takes the mean of all its estimates, unless that would break R94. -/
def evalTerm (cAbs cRel : Rat) (two single : Bool) (terms p : Nat) (sums : List SegEst) (o : EvalOut) (i : Nat) : EvalOut :=
  if !termWanted terms p single i && !(terms / 4 % 2 = 1 && single && decide (12 ≤ i) && mechAllowed p (i - 11)) then o
  else
    let g (k : Nat) : SegEst := sums.getD k {}
    let used := if two then [g 0, g 1, g 2, g 3] else [g 2, g 3]
    let v := (termMean i used).getD (0, 0)
    let t := o.terms.addTerm i v
    if termWanted terms p single i && termPasses cAbs cRel two sums i && t.ok then
      let odd := (termMean i (if two then [g 0, g 2] else [g 2])).getD (0, 0)
      let even := (termMean i (if two then [g 1, g 3] else [g 3])).getD (0, 0)
      { o with terms := t, accepted := o.accepted + 2 ^ i, change2 := if o.change2 < norm2 v then norm2 v else o.change2,
               diff2 := o.diff2 + norm2 (odd.1 - even.1, odd.2 - even.2) }
    else { o with rejected := o.rejected + 2 ^ i }

/-- The number of set bits of a 44-bit mask. -/
def popcount44 (m : Nat) : Nat := ((List.range 44).filter fun i => m.testBit i).length

/-- `MAP_RESID` of the accepted terms: the rms of the odd-minus-even differences, halved (R100). -/
def residOf (o : EvalOut) : Word :=
  let n := popcount44 o.accepted
  if n = 0 then 0 else toF32 (sqrtRat (o.diff2 / n) / 2)

/-- Judge every term. -/
def Dev.evaluateTerms (d : Dev) (n : Nat) (two single : Bool) (terms : Nat) : EvalOut :=
  let m := (d.lane n).map
  let q := d.learnPar n
  let cAbs := mkRat (field q.tol 0 16) 10
  let cRel := mkRat (field q.lrn 0 8) 100
  (List.range 44).foldl (evalTerm cAbs cRel two single terms (d.poles n) m.sums) { terms := m.live.terms }

/-- The mean |vel| of a band. -/
def MapSt.bandVel (m : MapSt) (b : Nat) : Rat :=
  let v := (m.sums.getD (2 * b) {}).vel + (m.sums.getD (2 * b + 1) {}).vel
  if m.bandCount b = 0 then 0 else v / m.bandCount b

/-- MAP_EVALUATE (R99, R100). -/
def Dev.mapEvaluate (d : Dev) (n : Nat) : Dev :=
  let m := (d.lane n).map
  if m.st ≠ .evaluating ∨ !d.mgmtUp then d
  else
    let q := d.learnPar n
    let two : Bool := 0 < f32 q.vsplit
    let single : Bool := !two || decide (2 * m.bandVel 1 < 3 * m.bandVel 0)
    let o := d.evaluateTerms n two single m.terms
    let resid := if o.accepted = 0 then m.resid else residOf o
    let segs := m.bandCount 0 + m.bandCount 1
    let new : AngleMap :=
      { terms := o.terms, valid := (m.live.valid ||| m.terms) % 8 + (if single then 8 else 0), segs := segs, lane := n, t := d.now,
        fcw := d.reg .excFreq (groupOf n), velA := toF32 (m.bandVel 0), velB := toF32 (m.bandVel 1), resid := resid }
    let cAbs := mkRat (field q.tol 0 16) 10
    let serve : Bool := decide (o.accepted ≠ 0) && (m.mode = 1 || m.evals = 0 || decide (cAbs * cAbs < o.change2))
    let d := d.onMap n fun m =>
      { m with accepted := o.accepted, rejected := o.rejected, resid := resid, singleBand := single, evals := m.evals + 1,
               newMap := if serve then some new else m.newMap, sums := List.replicate 4 {}, driftCnt := 0,
               st := if m.mode = 2 then .waiting else if o.accepted = 0 then .failed else .done,
               failCause := if m.mode ≠ 2 ∧ o.accepted = 0 then 2 else 0 }
    let d := d.logEvent 0x0302 kLane n (ev4 (o.accepted % 2 ^ 32) ++ ev4 (o.rejected % 2 ^ 32) ++ wordBytes resid)
    let d := if m.mode = 2 then d.showBands n else d
    if m.mode ≠ 2 ∧ o.accepted = 0 then d.logEvent 0x0303 kLane n (ev4 2 ++ ev4 (d.reg .segRej n).toNat) else d

/-- MAP_DRIFT_CHECK (R104): after every 64 accepted segments of the drift monitor. -/
def Dev.mapDriftCheck (d : Dev) (n : Nat) : Dev :=
  let m := (d.lane n).map
  if m.driftCnt < 64 ∨ m.learning ∨ !d.mgmtUp then d
  else
    let two : Bool := decide (0 < m.bandCount 0) && decide (0 < m.bandCount 1)
    let sums := if m.bandCount 1 = 0 then [{}, {}, m.sums.getD 0 {}, m.sums.getD 1 {}] else m.sums
    let d1 := d.onMap n fun m => { m with sums := sums }
    let o := d1.evaluateTerms n two false 7
    let resid := residOf o
    let d := d.onMap n fun m => { m with resid := resid, driftCnt := 0, sums := List.replicate 4 {} }
    if (d.fld .mapTol n 16 16 : Rat) < f32 resid then
      (d.setFlag .mapStat n 10).logEvent 0x0308 kLane n (wordBytes resid)
    else d

/-! ### Service of a map (R100–R103) -/

/-- The terms in use at `t`, rounded to their units. -/
def Dev.blendedTerms (d : Dev) (n : Nat) (t : Time) : MapTerms :=
  let m := (d.lane n).map
  match m.fade with
  | none => m.live.terms
  | some f =>
    let w := fadeWeight f.start f.dur t
    let b (x y : Int) : Int := roundEven (blend w x y)
    let new := m.live.terms
    { os := b f.old.os new.os, oc := b f.old.oc new.oc, rt := b f.old.rt new.rt, qd := b f.old.qd new.qd,
      el := List.zipWith (fun x y => (b x.1 y.1, b x.2 y.2)) f.old.el new.el,
      me := List.zipWith (fun x y => (b x.1 y.1, b x.2 y.2)) f.old.me new.me }

/-- Bring map `m` of the given source into service at this commit junction: by a fade in TRACK and RUN, else at full weight
from the next entry to TRACK (R101). -/
def Dev.serveMap (d : Dev) (n source : Nat) (m : AngleMap) : Dev :=
  if d.laneUp n then
    let t0 := d.time.t0
    let old := d.blendedTerms n t0
    let d := d.onMap n fun x => { x with live := m, source := source, atTrack := none, fade := some ⟨t0, d.fadeTime n, old⟩ }
    (d.segmentFail n).logEvent 0x0304 kLane n (ev4 source ++ ev4 (d.fld .mapCtrl n 0 3))
  else d.onMap n fun x => { x with atTrack := some (m, source) }

/-- The entry of lane `n` to TRACK takes up a map that waits (R101). -/
def Dev.mapEnterTrack (d : Dev) (n : Nat) : Dev :=
  match (d.lane n).map.atTrack with
  | some (m, s) => d.onMap n fun x => { x with live := m, source := s, fade := none, atTrack := none }
  | none => d

/-- The largest |c_new − c_old| over a mechanical turn, 2^-24 electrical turn, taken on 1,024 angles θ̂ with the mechanical phase
of each (R93, event 0x0305); mechanical terms that are held at weight zero add nothing (R102). -/
def Dev.fadeSpan (d : Dev) (n : Nat) (old new : MapTerms) : Nat :=
  let p := d.poles n
  let held : Bool := decide (1 < p) && !(d.lane n).trk.referenced
  let dif (a b : List (Int × Int)) : List (Rat × Rat) :=
    List.zipWith (fun x y => (((y.1 - x.1 : Int) : Rat), ((y.2 - x.2 : Int) : Rat))) a b
  let el := dif old.el new.el
  let me := if held then [] else dif old.me new.me
  (List.range 1024).foldl (fun (best : Nat) (i : Nat) =>
    let th : Int := (i * p * 2 ^ 22 : Nat)
    let c := harmonics (mkRat (frac32 th) (2 ^ 32)) 1 el + harmonics (mkRat (d.psi n th) (2 ^ 32)) 1 me
    max best (roundEven (absRat c)).natAbs) 0

/-- FADE_COMPLETE (R101). -/
def Dev.fadeComplete (d : Dev) (n : Nat) : Dev :=
  let m := (d.lane n).map
  let d := match m.mechFade with
    | some (s, dur) => if s + dur ≤ d.now then d.onMap n fun m => { m with mechFade := none } else d
    | none => d
  match m.fade with
  | some f =>
    if d.now < f.start + f.dur then d
    else (d.onMap n fun m => { m with fade := none }).logEvent 0x0305 kLane n (ev4 (d.fadeSpan n f.old m.live.terms))
  | none => d

/-- Some term is applied with a non-zero weight at `t` (R103). -/
def Dev.mapActive (d : Dev) (n : Nat) (t : Time) : Bool :=
  let x := d.termsNow n t
  x.os ≠ 0 || x.oc ≠ 0 || x.rt ≠ 0 || x.qd ≠ 0 || (x.el ++ x.me).any fun p => p.1 ≠ 0 || p.2 ≠ 0

/-- A change of `POLES` or `DIR` clears the live map at once and fails a run (R98, R103). -/
def Dev.mapPolesChanged (d : Dev) (n : Nat) : Dev :=
  let d := d.onMap n fun m => { m with live := {}, source := 0, fade := none, atTrack := none, newMap := none, mechFade := none }
  let d := d.logEvent 0x0309 kLane n (ev4 2)
  if (d.lane n).map.learning then d.learnFail n 3 else d

/-- A lane state change as the learner sees it (R98): OFF and FAULT fail a run, LAYBY leaves it waiting. -/
def Dev.mapLaneState (d : Dev) (n : Nat) : Dev :=
  let l := d.lane n
  if !l.map.learning then d
  else match l.st with
    | .off | .fault => d.learnFail n 3
    | .layby => (d.segmentFail n).onMap n fun m => { m with st := if m.st = .collecting then .waiting else m.st }
    | _ => d

/-- MAP_LEARN at its commit junction (R106): a start takes its parameters from the registers in force; action 3 clears the live
map alone. -/
def Dev.mapLearnCommit (d : Dev) (n action terms : Nat) : Dev :=
  let clear (m : MapSt) : MapSt :=
    { m with seg := [], segTh := none, segDone := false, segBad := false, segMech := true, sums := List.replicate 4 {},
             outcomes := [], sigmas := [], discarded := 0, driftCnt := 0, failCause := 0, evals := 0 }
  match action with
  | 0 => (d.onMap n fun m => { clear m with st := .idle, mode := 0, newMap := none }).showBands n
  | 3 => (d.serveMap n 0 {}).logEvent 0x0309 kLane n (ev4 1)
  | _ =>
    let q := (d.onMap n fun m => { m with st := .idle }).learnPar n
    let d := (d.onMap n fun m => { clear m with st := .waiting, mode := action, terms := terms, par := q }).showBands n
    (d.logEvent 0x0301 kLane n (ev4 action ++ ev4 terms)).mapLaneState n

/-! ### Blobs (R108–R112) -/

/-- A signed 16-bit field of a blob. -/
def b16 (x : Int) : List Byte := leBytes 2 (unsigned 16 x)

/-- The bytes of a map blob but its CRC (Table 5-5). -/
def Dev.blobBody (d : Dev) (n : Nat) (m : AngleMap) : List Byte :=
  let t := m.terms
  [1, BitVec.ofNat 8 (m.valid % 16 + (if d.regBit .trkCtrl n 8 then 16 else 0)), BitVec.ofNat 8 (d.poles n), 0] ++
  leBytes 2 m.lane ++ leBytes 2 m.segs ++ leBytes 8 m.t ++ wordBytes m.fcw ++ wordBytes m.velA ++ wordBytes m.velB ++
  wordBytes m.resid ++ b16 t.os ++ b16 t.oc ++ b16 t.rt ++ b16 t.qd ++
  t.el.flatMap (fun p => b16 p.1 ++ b16 p.2) ++ t.me.flatMap (fun p => b16 p.1 ++ b16 p.2) ++ zeros 52

/-- The map blob of lane `n` (R108, R111): the map being faded in, not the blend. -/
def Dev.mapBlob (d : Dev) (n : Nat) : List Byte :=
  let b := d.blobBody n (d.lane n).map.live
  b ++ leBytes 4 (crc32 b)

/-- A signed 16-bit field at an offset. -/
def s16At (bs : List Byte) (o : Nat) : Int := signed 16 (u16At bs o)

/-- The CRC of a blob is right. -/
def blobCrcOk (bs : List Byte) : Bool := decide (bs.length = 256) && crc32 (bs.take 252) = u32At bs 252

/-- Check a blob for lane `n` in the order of R109: the map, or the status of the first failure; bytes that Table 5-5 gives as
zero must be zero (R404). -/
def Dev.readBlob (d : Dev) (n : Nat) (bs : List Byte) : Except Nat AngleMap :=
  let excluded : Bool := (List.range 32).any fun i => !mechAllowed (byteAt bs 2) (i + 1) && (slice bs (72 + 4 * i) 4).any (· ≠ 0)
  if !blobCrcOk bs then .error 0x31
  else if byteAt bs 0 ≠ 1 then .error 0x13
  else if 32 ≤ byteAt bs 1 ∨ byteAt bs 3 ≠ 0 ∨ (slice bs 200 52).any (· ≠ 0) ∨ excluded then .error 0x31
  else if byteAt bs 2 ≠ d.poles n ∨ (byteAt bs 1 / 16 % 2 = 1) ≠ d.regBit .trkCtrl n 8 then .error 0x31
  else
    let p := d.poles n
    let t : MapTerms :=
      { os := s16At bs 32, oc := s16At bs 34, rt := s16At bs 36, qd := s16At bs 38,
        el := (List.range 8).map fun i => (s16At bs (40 + 4 * i), s16At bs (42 + 4 * i)),
        me := (List.range 32).map fun i =>
          if mechAllowed p (i + 1) then (s16At bs (72 + 4 * i), s16At bs (74 + 4 * i)) else (0, 0) }
    if !t.ok then .error 0x31
    else .ok { terms := t, valid := byteAt bs 1 % 16, segs := u16At bs 6, lane := u16At bs 4, t := u64At bs 8, fcw := wordAt bs 16,
               velA := wordAt bs 20, velB := wordAt bs 24, resid := wordAt bs 28 }

/-- The newer MRAM copy whose CRC is valid (R108). -/
def MapSt.stored (m : MapSt) : Option (List Byte) :=
  let ok (c : Option (List Byte)) : Option (List Byte) := c.filter blobCrcOk
  if m.lastB then (ok m.copyB).orElse fun _ => ok m.copyA else (ok m.copyA).orElse fun _ => ok m.copyB

/-- Write a blob to the older MRAM copy of lane `n` (R108). -/
def Dev.mapStore (d : Dev) (n : Nat) (blob : List Byte) : Dev :=
  let d := d.onMap n fun m =>
    if m.lastB then { m with copyA := some blob, lastB := false } else { m with copyB := some blob, lastB := true }
  (d.mramWrite 2).logEvent 0x0307 kLane n (ev4 (b2n (d.lane n).map.lastB) ++ ev4 0)

/-- MAP_LOAD at its commit junction (R109): a run is stopped, the map replaces the live one. -/
def Dev.mapLoadCommit (d : Dev) (n source : Nat) (m : AngleMap) : Dev :=
  let d := if (d.lane n).map.learning then d.mapLearnCommit n 0 0 else d.onMap n fun m => { m with st := .idle }
  let d := d.setFlagIf (m.fcw ≠ d.reg .excFreq (groupOf n)) .mapStat n 11
  (d.serveMap n source m).logEvent 0x0306 kLane n (ev4 source ++ ev4 0)

/-- AUTOLOAD finds no map that it can load: the lane runs without one, and event 0x0306 carries the status (R110). -/
def Dev.autoloadFails (d : Dev) (n status : Nat) : Dev :=
  (d.onMap n fun m => { m with live := {}, source := 0, fade := none, mechFade := none, atTrack := none, newMap := none }).logEvent
    0x0306 kLane n (ev4 1 ++ ev4 status)

/-- AUTOLOAD at a commit into LAYBY (R110). -/
def Dev.mapAutoload (d : Dev) (n : Nat) : Dev :=
  if !d.regBit .mapCtrl n 3 then d
  else match (d.lane n).map.stored with
    | none => d.autoloadFails n 0x50
    | some bs => match d.readBlob n bs with
      | .ok m => d.mapLoadCommit n 1 m
      | .error e => d.autoloadFails n e

/-- The map work of a commit junction (R100): a map formed by an evaluation enters service. -/
def Dev.mapCommit (d : Dev) (n : Nat) : Dev :=
  match (d.lane n).map.newMap with
  | some m => (d.onMap n fun x => { x with newMap := none }).serveMap n 3 m
  | none => d

/-- A staged map configuration is admissible (R114). -/
def Dev.mapCfgOk (d : Dev) (n : Nat) : Bool :=
  let s := d.fld .mapLrn n 16 16
  decide (8 ≤ s) && decide (s ≤ 4096) && decide (d.fld .mapLrn n 8 3 ≤ 4)

/-- The fade weight λ of the fade that runs, of the whole map or else of the mechanical terms, in Q0.16; 0 where none runs (R101,
R102, R107, R114). -/
def Dev.fadeShown (d : Dev) (n : Nat) : Nat :=
  let m := (d.lane n).map
  match m.fade.map (fun f => (f.start, f.dur)) <|> m.mechFade with
  | some (s, dur) => satNat 16 (floorRat (fadeWeight s dur d.now * 65536)).toNat
  | none => 0

/-- A fade runs (R101, R102). -/
def MapSt.fading (m : MapSt) : Bool := m.fade.isSome || m.mechFade.isSome

/-- `STATE` of `MAP_STAT` (Table 5-6): FADING while a fade runs outside a learning run. -/
def MapSt.stateCode (m : MapSt) : Nat :=
  match m.st with
  | .waiting => 1
  | .collecting => 2
  | .evaluating => 3
  | .idle => if m.fading then 4 else 0
  | .done => if m.fading then 4 else 5
  | .failed => 6

end Sys2Proof.Machine
end

