-- ==== Sys2Proof/Machine/Milestone.lean ====
section
/-! DEFINITION. Milestone units: the latch of a lane position at an edge, arming, windows, missing marks and the FIFO
(R135–R138, R140–R142). -/
namespace Sys2Proof.Machine

/-- The lane of unit `j`; none: 127. -/
def Dev.mlsLane (d : Dev) (j : Nat) : Option Nat :=
  let n := d.fld .mlsAssign j 0 7
  if n < d.laneCount then some n else none
/-- `SRC` of unit `j`. -/
def Dev.mlsSrc (d : Dev) (j : Nat) : Nat := d.fld .mlsCtrl j 0 5
/-- `WIRE` of unit `j`. -/
def Dev.mlsWire (d : Dev) (j : Nat) : Nat := d.fld .mlsCtrl j 6 2
/-- `EDGE` of unit `j`. -/
def Dev.mlsEdgeSel (d : Dev) (j : Nat) : Nat := d.fld .mlsCtrl j 8 2
/-- `ARM` of unit `j`. -/
def Dev.mlsArmMode (d : Dev) (j : Nat) : Nat := d.fld .mlsCtrl j 10 2

/-- The lane has no feedback state: no step count, and its detour failed or its tracker stopped or lost (R136). -/
def Dev.noFeedback (d : Dev) (n : Nat) : Bool :=
  let k := (d.lane n).trk
  (d.stepFb n).isNone && (if k.detour then k.detFail else !k.tracking || k.lockCause ≠ 0)

/-- The count of a counting input at its last edge at or before `t`: before the oldest edge kept, the count it moved (R136). -/
def PulseIn.countAt (p : PulseIn) (t : Time) : Int :=
  match p.edges.find? fun e => e.t ≤ t with
  | some e => e.count
  | none => match p.edges.getLast? with
    | some e => wrapInt 64 (if e.neg then e.count + 1 else e.count - 1)
    | none => p.count

/-- The count of a serial input at its last transfer at or before `t`; before the oldest transfer kept, that one's (R136). -/
def PulseIn.serialAt (p : PulseIn) (t : Time) : Int :=
  match p.transfers.find? fun x => x.1 ≤ t with
  | some x => x.2
  | none => (p.transfers.getLast?.map (·.2)).getD p.count

/-- The source position of input `i` at its last edge, or its last transfer, at or before `t` (R136). -/
def Dev.pinEdgePos (d : Dev) (i : Nat) (t : Time) : Int :=
  d.sourcePos i (if d.pinSerial i then (d.pin i).serialAt t else (d.pin i).countAt t)

/-- Position, velocity and flag bits 0–2 of lane `n` at the latch instant `te` (R136). -/
def Dev.latchAt (d : Dev) (lane : Option Nat) (te : Time) : Int × Rat × Nat :=
  match lane with
  | none => (0, 0, 4)
  | some n =>
    let k := (d.lane n).trk
    if d.noFeedback n then (0, 0, 4)
    else if (d.stepFb n).isSome then let m := d.motionAt n te; (m.pos, m.vel, 0)
    else if k.detour then
      let i := d.detSrc n
      (wrapInt 64 (roundEven ((d.pinEdgePos i te : Rat) * d.detRatio n) + k.detOfs.getD 0),
       rnd32 ((d.pin i).capVel * d.detRatio n), 2)
    else
      let u := (k.hist.find? fun u => u.t ≤ te).getD (k.hist.getLastD k.point)
      let m := d.resolverFrom n te u
      (m.pos, m.vel, if (d.lane n).acq.coast then 1 else 0)

/-- Store a record, or discard it where the FIFO is full (R138). -/
def Dev.mlsPush (d : Dev) (j : Nat) (r : MlsRec) : Dev :=
  let u := d.mlsUnit j
  let r := { r with seq := u.seq }
  let d := d.onMls j fun u => { u with seq := (u.seq + 1) % 65536 }
  if u.fifo.length < 16 then d.onMls j fun u => { u with fifo := u.fifo ++ [r], lossRun := false }
  else
    let d := (d.addCnt .mlsCnt j 16 16).setFlag .mlsStat j 9
    if u.lossRun then d else (d.onMls j fun u => { u with lossRun := true }).logEvent 0x060A kMls j (ev4 u.seq)

/-- The record of unit `j` for an edge with stamp `tp` and count `c` (R136, Table 6-3). -/
def Dev.mlsRecord (d : Dev) (j : Nat) (tp : Time) (c : Int) (kind : Nat) (drift : Int) : MlsRec :=
  let te := tp - d.fld .mlsDly j 0 19
  let (pos, vel, fl) := d.latchAt (d.mlsLane j) te
  let i := d.mlsSrc j
  { t := te, pos := pos, vel := toF32 vel, count := if d.pinCounts i then unsigned 32 c else 0, kind := kind,
    flags := fl + 8 * b2n (!d.pinValid i), seq := 0, drift := satInt 16 drift }

/-- The fraction of `pos` lies in the window of unit `j` (R137). -/
def Dev.mlsInWindow (d : Dev) (j : Nat) (pos : Int) : Bool :=
  decide (unsigned 32 (pos - (d.reg .mlsWinStart j).toNat) < (d.reg .mlsWinLen j).toNat)

/-- An edge that unit `j` watches: latched as its arming allows (R136, R137, R142). -/
def Dev.mlsLatch (d : Dev) (j : Nat) (tp : Time) (c : Int) (kind : Nat) (drift : Int) : Dev :=
  if !(d.mlsUnit j).armed then d
  else
    let r := d.mlsRecord j tp c kind drift
    if d.mlsArmMode j = 2 ∧ (r.flags.testBit 2 ∨ !d.mlsInWindow j r.pos) then d.addCnt .mlsCnt j 0 16
    else
      (d.mlsPush j r).onMls j fun u => { u with latched := true, armed := u.armed && d.mlsArmMode j ≠ 1 }

/-- The units present. -/
def Dev.mlsList (d : Dev) : List Nat := List.range d.pinCount

/-- An edge on wire `w` of input `i` reaches the units that watch it (R135). -/
def Dev.mlsEdge (d : Dev) (i w : Nat) (tp : Time) (rising : Bool) : Dev :=
  if d.pinSerial i ∧ w < 2 then d
  else
    let c := (d.pin i).count
    d.forEach d.mlsList fun j d =>
      if d.mlsSrc j = i ∧ d.mlsWire j = w ∧ (d.mlsEdgeSel j = 3 ∨ d.mlsEdgeSel j = if rising then 1 else 2) then
        d.mlsLatch j tp c (if rising then 0 else 1) 0
      else d

/-- An index event of input `i` with count `c` reaches the units with `WIRE` = 3 (R135, R137). -/
def Dev.mlsIndex (d : Dev) (i : Nat) (tp : Time) (c drift : Int) : Dev :=
  d.forEach d.mlsList fun j d =>
    if d.mlsSrc j = i ∧ d.mlsWire j = 3 ∧ d.mlsEdgeSel j ≠ 0 then d.mlsLatch j tp c 2 drift else d

/-- An index slip enters every unit with `WIRE` = 3 on the input, whatever its arming and window (R126, R137). -/
def Dev.mlsSlip (d : Dev) (i : Nat) (tp : Time) (c drift : Int) : Dev :=
  d.forEach d.mlsList fun j d =>
    if d.mlsSrc j = i ∧ d.mlsWire j = 3 ∧ d.mlsEdgeSel j ≠ 0 then d.mlsPush j (d.mlsRecord j tp c 3 drift) else d

/-- The position has crossed the end of the window in its direction of motion between two snapshots (R137): positions wrap
modulo 2^64, so the motion is their signed difference (R39). -/
def Dev.passEnds (d : Dev) (j : Nat) (p0 p1 : Int) : Bool :=
  let p1 := p0 + wrapInt 64 (p1 - p0)
  let s : Int := (d.reg .mlsWinStart j).toNat
  let e : Int := s + (d.reg .mlsWinLen j).toNat
  if p0 < p1 then decide ((p0 - e) / 2 ^ 32 < (p1 - e) / 2 ^ 32)
  else decide ((p1 - s) / 2 ^ 32 < (p0 - s) / 2 ^ 32)

/-- Unit `j` at the snapshot of T0 (R137, R138): the end of a pass without a mark, then the head of the FIFO. -/
def Dev.mlsSnapshot (d : Dev) (j : Nat) (t0 : Time) : Dev :=
  let lane := (d.mlsLane j).filter fun n => !d.noFeedback n
  let pos := lane.map fun n => (d.motionAt n t0).pos
  let d := match (d.mlsUnit j).prevPos, pos with
    | some p0, some p1 =>
      if d.mlsArmMode j = 2 ∧ d.passEnds j p0 p1 then
        let d' := if d.regBit .mlsCtrl j 12 ∧ (d.mlsUnit j).armed ∧ d.mlsEdgeSel j ≠ 0 ∧ !(d.mlsUnit j).latched then
            let r := d.mlsRecord j t0 (d.pin (d.mlsSrc j)).count 4 0
            let m := d.motionAt ((d.mlsLane j).getD 0) t0
            d.mlsPush j { r with t := t0, pos := m.pos, vel := toF32 m.vel }
          else d
        d'.onMls j fun u => { u with latched := false }
      else d
    | _, _ => d
  d.onMls j fun u => { u with prevPos := pos, pending := !u.fifo.isEmpty, head := u.fifo.head? }

/-- The bytes of a milestone record (Table 6-3). -/
def MlsRec.bytes (r : MlsRec) : List Byte :=
  leBytes 8 r.t ++ leBytes 8 (unsigned 64 r.pos) ++ wordBytes r.vel ++ leBytes 4 r.count ++
    [BitVec.ofNat 8 r.kind, BitVec.ofNat 8 r.flags] ++ leBytes 2 r.seq ++ leBytes 2 (unsigned 16 r.drift) ++ zeros 2

/-- Remove the head record (R138). -/
def Dev.mlsPop (d : Dev) (j : Nat) : Dev := d.onMls j fun u => { u with fifo := u.fifo.tail }
/-- Empty the FIFO (R143). -/
def Dev.mlsFlush (d : Dev) (j : Nat) : Dev := d.onMls j fun u => { u with fifo := [] }
/-- MLS_ARM at its commit junction (R142). -/
def Dev.mlsArmCommit (d : Dev) (j : Nat) (on : Bool) : Dev := d.onMls j fun u => { u with armed := on }

/-- The staged values of unit `j` are allowed (R135, R143). -/
def Dev.mlsCfgOk (d : Dev) (j : Nat) : Bool :=
  d.mlsArmMode j ≠ 3 && d.mlsSrc j < d.pinCount && !(d.pinSerial (d.mlsSrc j) && d.mlsWire j < 2) &&
    d.fld .mlsDly j 0 19 ≤ 400000

end Sys2Proof.Machine
end

