-- ==== Sys2Proof/Machine/SafetyMon.lean ====
section
/-! DEFINITION. The safety monitor: parameters, watch path, functions, reactions and latches, SO outputs, SI pairs, the
deliberate reset (spec/14_safety.md, R300–R313, R321–R328). -/
namespace Sys2Proof.Machine

/-- Change the safety monitor. -/
def Dev.onSaf (d : Dev) (f : Saf → Saf) : Dev := { d with saf := f d.saf }
/-- The monitor's view of lane `n`. -/
def Dev.safLane (d : Dev) (n : Nat) : SafLane := d.saf.lanes.getD n {}
/-- Change the monitor's view of lane `n`. -/
def Dev.onSafLane (d : Dev) (n : Nat) (f : SafLane → SafLane) : Dev := d.onSaf fun s => { s with lanes := s.lanes.modify n f }
/-- Connection `c`. -/
def Dev.conn (d : Dev) (c : Nat) : Conn := d.saf.conns.getD c {}
/-- Change connection `c`. -/
def Dev.onConn (d : Dev) (c : Nat) (f : Conn → Conn) : Dev := d.onSaf fun s => { s with conns := s.conns.modify c f }
/-- SI pair `i`. -/
def Dev.siPair (d : Dev) (i : Nat) : SiPair := d.saf.pairs.getD i {}
/-- Change SI pair `i`. -/
def Dev.onPair (d : Dev) (i : Nat) (f : SiPair → SiPair) : Dev := d.onSaf fun s => { s with pairs := s.pairs.modify i f }

/-- Log a safety event and keep its code as the last one (Table 14-6, R330). -/
def Dev.safLog (d : Dev) (code kind idx : Nat) (data : List Byte) : Dev :=
  (d.logEvent code kind idx data).onSaf fun s => { s with lastEvt := code }

/-! ### Safety parameters (R325) -/

/-- Word `i` of the image of a parameter set. -/
def ParamSet.word (p : ParamSet) (i : Nat) : Word :=
  match p with
  | [] => 0
  | (k, w) :: rest => if k = i then w else ParamSet.word rest i

/-- Put a word into a parameter set; zero words are not listed. -/
def ParamSet.put (p : ParamSet) (i : Nat) (v : Word) : ParamSet :=
  match p with
  | [] => if v = 0 then [] else [(i, v)]
  | (k, w) :: rest =>
    if i < k then (if v = 0 then (k, w) :: rest else (i, v) :: (k, w) :: rest)
    else if i = k then (if v = 0 then rest else (i, v) :: rest)
    else (k, w) :: ParamSet.put rest i v

/-- Word of parameter `i` of lane `n`, of connection `c`, of the device: the image of R325. -/
def laneParam (n i : Nat) : Nat := 16 * n + i
/-- See `laneParam`. -/
def connParam (c i : Nat) : Nat := 1536 + 4 * c + i
/-- See `laneParam`. -/
def devParam (i : Nat) : Nat := 1600 + i

/-- The 6,464 bytes of the image. -/
def ParamSet.bytes (p : ParamSet) : List Byte := (List.range 1616).flatMap fun i => wordBytes (p.word i)
/-- The CRC-32C of the image. -/
def ParamSet.crc (p : ParamSet) : Nat := crc32c p.bytes

/-- The set in force, all zero where there is none. -/
def Dev.params (d : Dev) : ParamSet := d.saf.params.getD []
/-- Parameter `i` of lane `n` in force. -/
def Dev.laneP (d : Dev) (n i : Nat) : Word := d.params.word (laneParam n i)
/-- Device parameter `i` in force. -/
def Dev.devP (d : Dev) (i : Nat) : Nat := (d.params.word (devParam i)).toNat

/-- The lane record of a set is all zero: the lane is unused (R325). -/
def ParamSet.unused (p : ParamSet) (n : Nat) : Bool := (List.range 16).all fun i => p.word (laneParam n i) = 0
/-- The parameter record of lane `n` is in use. -/
def Dev.recordUsed (d : Dev) (n : Nat) : Bool := d.saf.params.isSome && !d.params.unused n

/-- The lanes of the eight slots of connection `c`: a list word of zero is empty, and so is a byte of 0xFF. -/
def ParamSet.slots (p : ParamSet) (c : Nat) : List (Option Nat) :=
  (List.range 8).map fun i =>
    let w := p.word (connParam c (i / 4))
    let b := field w (8 * (i % 4)) 8
    if w = 0 ∨ b = 0xFF then none else some b

/-- The lanes listed by connection `c`. -/
def ParamSet.connLanes (p : ParamSet) (c : Nat) : List Nat := (p.slots c).filterMap id
/-- The connection has a lane list or a `T_EXP` (R318). -/
def ParamSet.connUsed (p : ParamSet) (c : Nat) : Bool := !(p.connLanes c).isEmpty || p.word (connParam c 2) ≠ 0
/-- The connection that lists lane `n` in the set in force. -/
def Dev.connOf (d : Dev) (n : Nat) : Option Nat := (List.range 16).find? fun c => (d.params.connLanes c).contains n
/-- `T_EXP` of connection `c` in microseconds; 50,000 in commissioning (R327). -/
def Dev.tExp (d : Dev) (c : Nat) : Nat := if d.saf.params.isNone then 50000 else (d.params.word (connParam c 2)).toNat
/-- The connection identity of the protection image. -/
def Dev.connIdent (d : Dev) (c : Nat) : Word := d.reg .protConnId c

/-- The state that a connection takes from the set in force (R318, R327). -/
def Dev.connRest (d : Dev) (c : Nat) : ConnState :=
  if d.connIdent c = 0 then .idle
  else if d.saf.params.isNone || d.params.connUsed c then .wait else .idle

/-! ### SO outputs and causes (R308, R311, Table 14-3) -/

/-- SO of group `g` is commanded on (R311): the off-pulses of R312 do not count. -/
def Dev.soOn (d : Dev) (g : Nat) : Bool :=
  d.pwr.booted && d.crit.sealed && d.pwr.dbg ≠ .openDbg && d.saf.params.isSome && !d.crit.devLatch &&
    !d.crit.soLatch.getLsbD g && d.pwr.st ≠ .parked && d.pwr.st ≠ .dormant && decide (g < d.groupCount)

/-- `SI_MODE` of pair `i`. -/
def Dev.siMode (d : Dev) (i : Nat) : Nat := d.devP (2 + i) % 4
/-- `SI_FUNC` of pair `i`: 1 STO, 2 SS1. -/
def Dev.siFunc (d : Dev) (i : Nat) : Nat := d.devP (2 + i) / 256 % 4
/-- The groups mapped to pair `i`. -/
def Dev.siGroups (d : Dev) (i : Nat) : List Nat := (List.range d.groupCount).filter fun g => (d.devP (6 + i)).testBit g

/-- An SI demand or discrepancy stands on group `g`. -/
def Dev.siCause (d : Dev) (g : Nat) : Bool :=
  (List.range 2).any fun i => ((d.siPair i).demand || (d.siPair i).disc) && (d.siGroups i).contains g

/-- A group cause of Table 14-3 is present on group `g`. -/
def Dev.groupCause (d : Dev) (g : Nat) : Bool :=
  (lanesOfGroup g).any (fun n => let x := d.safLane n
    x.caused.any id || x.xFail || match d.connOf n with
      | some c => (d.conn c).failed
      | none => false) ||
  d.saf.chainCause.getD g false || d.saf.readback.getD g 0 = 1 || d.siCause g

/-- STO is requested for lane `n`, by its container or by an SI pair of its group (Table 14-2). -/
def Dev.stoAsked (d : Dev) (n : Nat) : Bool :=
  (d.safLane n).sto || (List.range 2).any fun i =>
    (d.siPair i).demand && d.siFunc i = 1 && (d.siGroups i).contains (groupOf n)

/-- STO is requested for lane `n`, or its SS1 has ended (R306). -/
def Dev.stoReq (d : Dev) (n : Nat) : Bool := d.stoAsked n || (d.safLane n).ss1End

/-- A cause of a reaction is present on lane `n`. -/
def Dev.causePresent (d : Dev) (n : Nat) : Bool := d.stoReq n || d.groupCause (groupOf n) || d.crit.devLatch

/-- Bring the barriers of the lanes of a list down, and end their arming (R308, R321). -/
def Dev.lowerBarriers (d : Dev) (ns : List Nat) : Dev :=
  let m : BitVec 96 := ns.foldl (fun m n => m ||| (1#96 <<< n)) 0
  let d := { d with crit := { d.crit with barrierUp := d.crit.barrierUp &&& ~~~m } }
  d.forEach ns fun n d => (d.onSafLane n fun x => { x with armed := none }).emuRefreshLane n

/-- Lane reaction (R308). -/
def Dev.laneReaction (d : Dev) (n : Nat) : Dev := (d.lowerBarriers [n]).bbxTrigger 5

/-- Group reaction without the black-box commit. -/
def Dev.groupOff (d : Dev) (g : Nat) : Dev :=
  ({ d with crit := { d.crit with soLatch := d.crit.soLatch ||| (1#12 <<< g) } }).lowerBarriers (lanesOfGroup g)

/-- Group reaction on a list of groups (R308). -/
def Dev.groupReaction (d : Dev) (gs : List Nat) : Dev := (d.forEach gs fun g d => d.groupOff g).bbxTrigger 5

/-- Device reaction for a cause (R308, Table 14-3). -/
def Dev.deviceReaction (d : Dev) (cause : Nat) : Dev :=
  if d.saf.causes.contains cause then d
  else
    let d := { d with crit := { d.crit with devLatch := true } }
    let d := (d.onSaf fun s => { s with causes := s.causes ++ [cause] }).safLog 0x0B09 kDevice 0 (ev4 cause)
    d.groupReaction (List.range d.groupCount)

/-- Device cause 5 ends when PARKED is left. -/
def Dev.parkedCauseEnds (d : Dev) : Dev :=
  let d := d.onSaf fun s => { s with causes := s.causes.filter (· ≠ 5) }
  { d with crit := { d.crit with devLatch := !d.saf.causes.isEmpty } }

/-! ### Watch path (R301–R303) -/

/-- A function of lane `n` is active: 0 SOS, 1 SLS, 2 SDI; a request for STO overrides them (R307). -/
def Dev.fnActive (d : Dev) (n f : Nat) : Bool :=
  let x := d.safLane n
  !d.stoAsked n && (if f = 0 then x.sos else if f = 1 then x.sls ≠ 0 else x.sdi)

/-- The difference of two Q32.32 positions in turns. -/
def turnsBetween (a b : Int) : Rat := mkRat (wrapInt 64 (a - b)) (2 ^ 32)

/-- The newest sample violates function `f` (R303, R306). -/
def Dev.violates (d : Dev) (n f : Nat) : Bool :=
  let x := d.safLane n
  x.inv ||
    (if f = 0 then
      (match x.pSos with
       | some p => decide (f32 (d.laneP n 8) < absRat (turnsBetween x.pos p))
       | none => false) || decide (f32 (d.laneP n 9) < absRat (f32 x.vel))
    else if f = 1 then decide (f32 (d.laneP n (3 + x.sls)) < absRat (f32 x.vel))
    else match x.sdiM with
      | some m => decide (f32 (d.laneP n 10) < (if x.sdiPos then turnsBetween m x.pos else turnsBetween x.pos m))
      | none => false)

/-- Count the newest sample for function `f` (R307); a sample within the limits ends its cause (Table 14-3). -/
def Dev.countSample_ (d : Dev) (n f : Nat) : Dev :=
  if d.fnActive n f && d.violates n f then
    d.onSafLane n fun x => { x with cnt := x.cnt.modify f (fun c => satNat 8 (c + 1)) }
  else d.onSafLane n fun x => { x with cnt := x.cnt.set f 0, caused := x.caused.set f false }

/-- The origins of an active SOS and an active SDI at a valid sample (R302, R306). -/
def SafLane.origins (x : SafLane) (sos sdi : Bool) : SafLane :=
  { x with pSos := if sos then some (x.pSos.getD x.pos) else none,
           sdiM := if sdi then some (match x.sdiM with
             | some m => if x.sdiPos then max m x.pos else min m x.pos
             | none => x.pos) else none }

/-- W_POS for a position in 2^-16 electrical turn (R302). -/
def Dev.watchPos (d : Dev) (n : Nat) (wpos : Int) : Int :=
  let s : Int := if (d.laneP n 1).toNat = 1 then -1 else 1
  wrapInt 64 (roundEven (mkRat (s * wpos * 65536) (d.laneP n 0).toNat))

/-- W_VEL for the held positions, newest first (R302). -/
def Dev.watchVel (d : Dev) (n : Nat) (h : List Int) : Word :=
  let k := h.length - 1
  let s : Int := if (d.laneP n 1).toNat = 1 then -1 else 1
  toF32 (mkRat (s * (h.headD 0 - h.getLastD 0) * 25000) (65536 * k * (d.laneP n 0).toNat))

/-- A watch sample of lane `n` (R301–R303, R307). -/
def Dev.watchSample (d : Dev) (n : Nat) (s c : Int) : Dev :=
  let x := d.safLane n
  let theta := (roundEven (atan2Turn (s : Rat) (c : Rat) * 65536)).toNat % 65536
  let mag := satNat 16 (isqrt (s * s + c * c).toNat)
  let dth : Int := if x.sampleT.isNone then 0 else signed 16 ((theta + 65536 - x.theta) % 65536)
  let t := d.now
  let d := d.onSafLane n fun x => { x with theta := theta, mag := mag, sampleT := some t }
  if !d.recordUsed n then d
  else
    let ok := decide ((d.laneP n 12).toNat ≤ mag) && decide (mag ≤ (d.laneP n 13).toNat) && decide (dth.natAbs < 8192) &&
      !d.saf.chainBad.getD (groupOf n) false
    let d :=
      if ok then
        let w := if x.restart then 0 else x.wpos + dth
        let h := if x.restart then [0] else (w :: x.hist).take 9
        let p := d.watchPos n w
        let v := d.watchVel n h
        let sos := d.fnActive n 0
        let sdi := d.fnActive n 2
        d.onSafLane n fun x => SafLane.origins
          { x with wpos := w, hist := h, restart := false, pos := p, vel := v, good := satNat 8 (x.good + 1),
                   inv := x.inv && decide (x.good + 1 < 8),
                   pSos := if x.restart then none else x.pSos, sdiM := if x.restart then none else x.sdiM } sos sdi
      else
        let d := d.onSafLane n fun x => { x with restart := true, good := 0, inv := true }
        if x.inv then d else d.safLog 0x0B05 kLane n (ev4 mag ++ ev4 0)
    d.forEach [0, 1, 2] fun f d => d.countSample_ n f

/-- SAFETY_VIOLATION (R307, R308): `fn` 1 SOS, 2 SLS, 3 SDI has `FILT` consecutive samples in violation. -/
def Dev.safetyViolation (d : Dev) (n fn : Nat) : Dev :=
  let x := d.safLane n
  let f := fn - 1
  if fn = 0 ∨ 3 < fn ∨ !d.recordUsed n ∨ !d.fnActive n f ∨ x.caused.getD f false ∨ x.cnt.getD f 0 < (d.laneP n 2).toNat then d
  else
    let d := d.onSafLane n fun x => { x with caused := x.caused.set f true, viol := true }
    let d := (d.addCnt .safCnt n 16 16).safLog 0x0B03 kLane n
      ([BitVec.ofNat 8 fn] ++ zeros 3 ++ ev8 (unsigned 64 x.pos) ++ wordBytes x.vel)
    d.groupReaction [groupOf n]

/-! ### Cross-comparison (R304) -/

/-- XCMP_FAIL (R304): the third consecutive comparison beyond the window. -/
def Dev.xcmpFail (d : Dev) (n : Nat) : Dev :=
  let x := d.safLane n
  if x.xFail ∨ x.xRun < 3 then d
  else
    let d := (d.onSafLane n fun x => { x with xFail := true }).safLog 0x0B04 kLane n (wordBytes x.xDev)
    d.groupReaction [groupOf n]

/-- Lane `n` meets the conditions of the cross-comparison. -/
def Dev.xcmpOn (d : Dev) (n : Nat) : Bool :=
  let l := d.lane n
  d.recordUsed n && !(d.safLane n).inv && !l.trk.detour && !l.acq.coast && !d.lockLost n && !d.los n

/-- The cross-comparison at a snapshot. -/
def Dev.xcmp (d : Dev) (n : Nat) : Dev :=
  let x := d.safLane n
  match d.xcmpOn n, x.sampleT with
  | true, some ts =>
    let pos := (d.motionAt n ts).pos
    let ofs := (d.lane n).trk.posOfs
    let fresh : Dev := d.onSafLane n fun x => { x with xRef := some (pos, x.pos, ofs), xRun := 0, xDev := 0 }
    match x.xRef with
    | some (p0, w0, o0) =>
      if o0 ≠ ofs then fresh
      else
        let dev : Rat := ((d.laneP n 0).toNat : Rat) * (turnsBetween pos p0 - turnsBetween x.pos w0)
        if f32 (d.laneP n 11) < absRat dev then
          (d.onSafLane n fun x => { x with xRun := satNat 8 (x.xRun + 1), xDev := toF32 dev }).xcmpFail n
        else d.onSafLane n fun x => { x with xRun := 0, xFail := false, xDev := toF32 dev }
    | none => fresh
  | _, _ => d.onSafLane n fun x => { x with xRef := none, xRun := 0 }

/-! ### Requests (R306) -/

/-- SS1 of lane `n` by its container: a new request starts the timer, a withdrawal cancels it or ends the cause. -/
def Dev.ss1Request (d : Dev) (n : Nat) (on : Bool) : Dev :=
  let x := d.safLane n
  if on = x.ss1 then d
  else if on then
    let ms := (d.laneP n 3).toNat
    let e := d.now + 1000 * unitsPerUs * ms
    let d := d.onSafLane n fun x => { x with ss1 := true, ss1T := some e, ss1Stop := true }
    d.safLog 0x0B02 kLane n (ev4 ms)
  else d.onSafLane n fun x => { x with ss1 := false, ss1T := none, ss1End := false }

/-- The requests of an accepted container for lane `n` (R306, R307, Table 14-5). -/
def Dev.laneRequest (d : Dev) (n : Nat) (enable ss1 sos sdi sdiPos : Bool) (sls : Nat) : Dev :=
  let x := d.safLane n
  let sto := !enable || decide (5 ≤ sls)
  let d := d.ss1Request n (ss1 && !sto)
  let sos := sos && !sto
  let sdi := sdi && !sto
  let sls := if sto then 0 else sls
  let d := d.onSafLane n fun x =>
    let c := x.cnt
    let c := if sos then c else c.set 0 0
    let c := if sls = x.sls then c else c.set 1 0
    let same := sdi && x.sdi && sdiPos = x.sdiPos
    let c := if same then c else c.set 2 0
    let k := x.caused
    let k := if sos then k else k.set 0 false
    let k := if sls = 0 then k.set 1 false else k
    let k := if sdi then k else k.set 2 false
    { x with sto := sto, sos := sos, sls := sls, sdi := sdi, sdiPos := sdiPos, cnt := c, caused := k,
             pSos := if sos then x.pSos else none, sdiM := if same then x.sdiM else none }
  if sto && !x.sto then (d.safLog 0x0B01 kLane n (ev4 0)).laneReaction n else d

/-- The timer of SS1 of lane `n` expires: by its container, or by an SI pair of its group (R306, R313). -/
def Dev.ss1Expiry (d : Dev) (n : Nat) : Dev :=
  match (d.safLane n).ss1T with
  | some e =>
    let d := (d.at e).onSafLane n fun x => { x with ss1T := none, ss1End := true }
    (d.safLog 0x0B01 kLane n (ev4 2)).laneReaction n
  | none =>
    match (List.range 2).find? fun i => (d.siPair i).ss1T.isSome && (d.siGroups i).contains (groupOf n) with
    | some i =>
      let d := (d.at ((d.siPair i).ss1T.getD 0)).onPair i fun p => { p with ss1T := none }
      let gs := d.siGroups i
      let d := d.forEach (gs.flatMap lanesOfGroup) fun m d => if d.recordUsed m then d.safLog 0x0B01 kLane m (ev4 2) else d
      d.groupReaction gs
    | none => d

/-! ### SI inputs (R313) -/

/-- Channel `k` of pair `i` shows demand. -/
def Dev.siAtDemand (d : Dev) (i k : Nat) : Bool :=
  let l := d.saf.levels.getD (2 * i + k) false
  if d.siMode i = 2 ∧ k = 1 then l else !l

/-- The levels of the inputs as four bits. -/
def Dev.siLevels (d : Dev) : Nat := (List.range 4).foldl (fun a k => a + b2n (d.saf.levels.getD k false) * 2 ^ k) 0

/-- SI_LEVEL_CHANGE: a level changes; a demand ends when both channels are at the run level after demand together
(Table 14-3). -/
def Dev.siLevel (d : Dev) (k : Nat) (level : Bool) : Dev :=
  if d.saf.levels.getD k false = level then d
  else
    let t := d.now
    let d := d.onSaf fun s => { s with levels := s.levels.set k level, levelT := s.levelT.set k t }
    let i := k / 2
    match d.siAtDemand i 0, d.siAtDemand i 1 with
    | true, true => d.onPair i fun p => { p with both := true }
    | false, false => d.onPair i fun p => if p.both then {} else p
    | _, _ => d

/-- The reaction of a demand of pair `i` under its function. -/
def Dev.siReact (d : Dev) (i : Nat) : Dev :=
  let gs := d.siGroups i
  let ns := (gs.flatMap lanesOfGroup).filter d.recordUsed
  if d.siFunc i = 2 then
    let ms := ns.foldl (fun m n => max m (d.laneP n 3).toNat) 0
    let e := d.now + 1000 * unitsPerUs * ms
    let d := d.onPair i fun p => { p with ss1T := some e }
    d.forEach ns fun n d =>
      (d.onSafLane n fun x => { x with ss1Stop := true, armed := none }).safLog 0x0B02 kLane n (ev4 (d.laneP n 3).toNat)
  else (d.forEach ns fun n d => d.safLog 0x0B01 kLane n (ev4 1)).groupReaction gs

/-- SI_DEMAND: a channel of the pair has shown demand for 500 µs. -/
def Dev.siDemand (d : Dev) (i : Nat) : Dev :=
  let held (k : Nat) : Bool := d.siAtDemand i k && decide (d.saf.levelT.getD (2 * i + k) 0 + 500 * unitsPerUs ≤ d.now)
  if d.siMode i = 0 ∨ (d.siPair i).demand ∨ !(held 0 || held 1) then d
  else
    let both := d.siAtDemand i 0 && d.siAtDemand i 1
    let d := (d.onPair i fun p => { p with demand := true, both := both || p.both }).safLog 0x0B08 kSi i (ev4 d.siLevels)
    d.siReact i

/-- SI_DISCREPANCY: the channels have disagreed for longer than `SI_DISC`. -/
def Dev.siDiscrepancy (d : Dev) (i : Nat) : Dev :=
  let since := max (d.saf.levelT.getD (2 * i) 0) (d.saf.levelT.getD (2 * i + 1) 0)
  if d.siMode i = 0 ∨ (d.siPair i).disc ∨ d.siAtDemand i 0 = d.siAtDemand i 1 ∨
     d.now ≤ since + 1000 * unitsPerUs * d.devP (4 + i) then d
  else
    let d := (d.onPair i fun p => { p with disc := true }).safLog 0x0B08 kSi i (ev4 d.siLevels)
    d.groupReaction (d.siGroups i)

/-! ### Self-tests and SO readback (R305, R312) -/

/-- SAFETY_SELF_TEST: `kind` 1 lockstep, 2 clock, 3 parameter CRC, 4 the watch chain of a group. -/
def Dev.safetySelfTest (d : Dev) (kind g : Nat) (pass : Bool) : Dev :=
  let t := d.now
  if kind = 4 then
    if pass then
      match d.saf.chainPass.getD g none with
      | some p =>
        if p + unitsPerSec ≤ t then
          d.onSaf fun s => { s with chainBad := s.chainBad.set g false, chainCause := s.chainCause.set g false }
        else d.onSaf fun s => { s with chainBad := s.chainBad.set g false }
      | none => d.onSaf fun s => { s with chainBad := s.chainBad.set g false, chainPass := s.chainPass.set g (some t) }
    else
      let was := d.saf.chainCause.getD g false
      let d := d.onSaf fun s => { s with chainBad := s.chainBad.set g true, chainCause := s.chainCause.set g true,
                                         chainPass := s.chainPass.set g none }
      if was then d else (d.safLog 0x0B05 kGroup g (ev4 0 ++ ev4 4)).groupReaction [g]
  else if pass ∨ kind = 0 ∨ 4 < kind ∨ (kind = 3 ∧ d.saf.params.isNone) then d
  else d.deviceReaction kind

/-- SO stuck on: a device cause (Table 14-3). -/
def Dev.soStuck (d : Dev) (g : Nat) : Dev :=
  ((d.onSaf fun s => { s with readback := s.readback.set g 2 }).safLog 0x0B07 kGroup g (ev4 2)).deviceReaction 4

/-- SO_READBACK_FAULT: `kind` 1 off while on, 2 stuck on, 0 the readback has agreed again for 1 s. -/
def Dev.soReadback (d : Dev) (g kind : Nat) : Dev :=
  let rb := d.saf.readback.getD g 0
  if kind = 0 then (if rb = 1 then d.onSaf fun s => { s with readback := s.readback.set g 0 } else d)
  else if kind = 1 then
    if !d.soOn g ∨ (d.saf.pulse.getD g none).isSome ∨ rb ≠ 0 then d
    else
      let d := (d.onSaf fun s => { s with readback := s.readback.set g 1 }).safLog 0x0B07 kGroup g (ev4 1)
      d.groupReaction [g]
  else if kind = 2 then (if d.soOn g ∨ rb = 2 then d else d.soStuck g)
  else d

/-- SO_TEST_PULSE: the off-pulse of group `g` begins. -/
def Dev.soPulse (d : Dev) (g : Nat) : Dev :=
  if !d.soOn g ∨ (d.saf.pulse.getD g none).isSome then d
  else
    let t := d.now
    d.onSaf fun s => { s with pulse := s.pulse.set g (some t) }

/-- SO_TEST_PULSE_END: SOFB not low during the pulse is an SO stuck on. -/
def Dev.soPulseEnd (d : Dev) (g : Nat) (low : Bool) : Dev :=
  match d.saf.pulse.getD g none with
  | none => d
  | some _ =>
    let d := d.onSaf fun s => { s with pulse := s.pulse.set g none }
    if low then d else d.soStuck g

/-- The level of SOFBg as the last check left it: it follows SOg, off in a test pulse, but for a standing readback fault. -/
def Dev.soFb (d : Dev) (g : Nat) : Bool :=
  match d.saf.readback.getD g 0 with
  | 1 => false
  | 2 => true
  | _ => d.soOn g && (d.saf.pulse.getD g none).isNone

/-! ### The deliberate reset (R321, R322) -/

/-- Lane `n` may be armed: present, its barrier down, every cause ended. -/
def Dev.armable (d : Dev) (n : Nat) : Bool := hasLane n d && !d.barrierUp n && !d.causePresent n

/-- SAFE_RESET_ACK on connection `c`: the slots armed. -/
def Dev.resetAck (d : Dev) (c mask : Nat) : Nat × Dev :=
  let slots := d.params.slots c
  let hit := (List.range 8).filter fun i => mask.testBit i && match slots.getD i none with
    | some n => d.armable n
    | none => false
  let listed := hit.filterMap fun i => slots.getD i none
  let free := d.laneList.filter fun n => (d.connOf n).isNone && d.armable n
  let e := d.now + 10 * unitsPerSec
  let d := d.forEach (listed ++ free) fun n d => d.onSafLane n fun x => { x with armed := some e }
  let bits := hit.foldl (fun a i => a + 2 ^ i) 0
  (bits, d.safLog 0x0B0A kConn c (ev4 bits))

/-- Lift the barriers of the armed lanes with no cause, and clear the latches of groups wholly up (R321). -/
def Dev.liftBarriers (d : Dev) : Dev :=
  let ns := d.laneList.filter fun n => (match (d.safLane n).armed with | some e => decide (d.now < e) | none => false) &&
    !d.causePresent n
  let m : BitVec 96 := ns.foldl (fun m n => m ||| (1#96 <<< n)) 0
  let d := { d with crit := { d.crit with barrierUp := d.crit.barrierUp ||| m } }
  let d := d.forEach ns fun n d => d.onSafLane n fun x => { x with armed := none, viol := false }
  let gs := (List.range d.groupCount).filter fun g => d.crit.soLatch.getLsbD g && (lanesOfGroup g).all d.barrierUp
  let k : BitVec 12 := gs.foldl (fun k g => k ||| (1#12 <<< g)) 0
  let d := { d with crit := { d.crit with soLatch := d.crit.soLatch &&& ~~~k } }
  if ns.isEmpty ∧ gs.isEmpty then d
  else d.safLog 0x0B0B kDevice 0 (ev8 (m.toNat % 2 ^ 64) ++ ev4 k.toNat)

/-- SAFE_RST_EDGE: the falling edge of a pulse of `width` units. -/
def Dev.safeRst (d : Dev) (width : Nat) : Dev :=
  if 50000 * unitsPerUs ≤ width ∧ width ≤ 500000 * unitsPerUs then d.liftBarriers
  else d.safLog 0x0B0C kDevice 0 (ev4 1 ++ ev4 (width / (1000 * unitsPerUs)))

/-- SAFE_RST_HELD: the level has been high for 10 s. -/
def Dev.safeRstHeld (d : Dev) : Dev := d.safLog 0x0B0C kDevice 0 (ev4 2 ++ ev4 10000)

/-- ARMING_EXPIRY: 10 s after the acceptance (R321). -/
def Dev.armingExpiry (d : Dev) (n : Nat) : Dev :=
  match (d.safLane n).armed with
  | some e => (d.at e).onSafLane n fun x => { x with armed := none }
  | none => d

/-! ### Permits and the set in force (R310, R325–R327) -/

/-- The torque permit of lane `n` (R310). -/
def Dev.permit (d : Dev) (n : Nat) : Bool :=
  d.crit.sealed && (d.lane n).st = .run && d.barrierUp n && !d.stoReq n && d.soOn (groupOf n) && match d.connOf n with
    | some c => (d.conn c).st = .ok
    | none => false

/-- A lane whose record is all zero has no watch monitoring: `W_INV` reads 1 (R325). -/
def Dev.watchOff (d : Dev) (n : Nat) : Dev :=
  if d.recordUsed n then d
  else d.onSafLane n fun x => { x with inv := true, good := 0, restart := true, xRef := none, xRun := 0, xFail := false }

/-- A parameter set comes into force (R325–R327): connections whose record changed return to WAIT, or go to IDLE; STO stays
requested on their lanes until a container enables them, and on no unlisted lane. -/
def Dev.applyParams (d : Dev) (p : ParamSet) : Dev :=
  let was := d.saf.params
  let old := was.getD []
  let changed := (List.range 16).filter fun c =>
    was.isNone || (List.range 4).any fun i => old.word (connParam c i) ≠ p.word (connParam c i)
  let d := d.onSaf fun s => { s with params := some p }
  let d := d.forEach changed fun c d => d.onConn c fun x =>
    { x with st := d.connRest c, failed := x.failed && d.connRest c ≠ .idle }
  d.forEach (List.range 96) fun n d =>
    let d := d.watchOff n
    match d.connOf n with
    | none => d.onSafLane n fun x => { x with sto := false, ss1 := false, ss1T := none, ss1End := false, sos := false, sls := 0,
                                              sdi := false, caused := [false, false, false], cnt := [0, 0, 0] }
    | some c =>
      if changed.contains c then
        let d := d.onSafLane n fun x => { x with sto := true }
        if d.barrierUp n then d.laneReaction n else d
      else d

end Sys2Proof.Machine
end

