-- ==== Sys2Proof/Machine/Packet.lean ====
section
/-! DEFINITION. Packets: status codes, the answer of a handler, headers, replies, who may write (R262–R265, R277–R281). -/
namespace Sys2Proof.Machine

/-- Status codes of Table 12-5. -/
def stOk : Nat := 0x0000
/-- See `stOk`. -/
def stBusy : Nat := 0x0001
/-- See `stOk`. -/
def stStaged : Nat := 0x0002
/-- See `stOk`. -/
def stBadOpcode : Nat := 0x0010
/-- See `stOk`. -/
def stBadLength : Nat := 0x0011
/-- See `stOk`. -/
def stBadGen : Nat := 0x0013
/-- See `stOk`. -/
def stNotOwner : Nat := 0x0020
/-- See `stOk`. -/
def stLocked : Nat := 0x0021
/-- See `stOk`. -/
def stAdmission : Nat := 0x0030
/-- See `stOk`. -/
def stRange : Nat := 0x0031
/-- See `stOk`. -/
def stSafetyHeld : Nat := 0x0040
/-- See `stOk`. -/
def stNvmFail : Nat := 0x0050
/-- See `stOk`. -/
def stState : Nat := 0x0060

/-- The answer to a request: status and what follows it. -/
structure Resp where
  status : Nat
  data   : List Byte := []
  deriving DecidableEq, Repr

/-- What a handler gives: the answer, or none where a background job answers later, and the device. -/
abbrev Served := Option Resp × Dev

/-- An answer with no effect. -/
def Dev.answer (d : Dev) (st : Nat) (data : List Byte := []) : Served := (some ⟨st, data⟩, d)

/-- The request is accepted: OK or STAGED (R277). -/
def Resp.accepted (r : Resp) : Bool := r.status = stOk || r.status = stStaged

/-- The payload limit of a generation (Table 12-3). -/
def payloadLimit (gen : Nat) : Nat := if gen = 1 then 256 else 1024

/-- The most words that a read, and a write, of a generation carries (R271, R272). -/
def readMax (gen : Nat) : Nat := if gen = 1 then 63 else 255
/-- See `readMax`. -/
def writeMax (gen : Nat) : Nat := if gen = 1 then 62 else 254

/-- A header of Table 12-3. -/
def header (gen minor flags op tag len lane : Nat) : List Byte :=
  [BitVec.ofNat 8 (gen * 16 + minor), BitVec.ofNat 8 flags] ++ leBytes 2 op ++ leBytes 2 tag ++ leBytes 2 len ++ leBytes 2 lane ++
    zeros 2

/-- A packet: header, payload, CRC-32 (R262). -/
def packet (gen minor flags op tag lane : Nat) (payload : List Byte) : List Byte :=
  let b := header gen minor flags op tag payload.length lane ++ payload
  b ++ leBytes 4 (crc32 b)

/-- The reply to a request (R264). -/
def replyBytes (op : Nat) (r : Request) (a : Resp) : List Byte :=
  packet r.gen r.minor (if 0x10 ≤ a.status then 3 else 1) op r.tag.toNat r.lane (leBytes 2 a.status ++ a.data)

/-! ### Rights (R278) -/

/-- The lead port (R278); H0 until an image names another. -/
def Dev.leadPort (d : Dev) : Nat := d.fld .protLead 0 0 4
/-- The owner port of lane `n`; 15 none. -/
def Dev.owner (d : Dev) (n : Nat) : Nat := d.fld .protOwner (n / 8) (4 * (n % 8)) 4
/-- Port `p` owns lane `n`. -/
def Dev.owns (d : Dev) (p n : Nat) : Bool := d.owner n = p && decide (n < d.laneCount)
/-- Port `p` is the lead port. -/
def Dev.leads (d : Dev) (p : Nat) : Bool := d.leadPort = p
/-- The lanes that port `p` owns. -/
def Dev.ownedLanes (d : Dev) (p : Nat) : List Nat := d.laneList.filter (d.owns p)
/-- The writer of a unit assigned to a lane: its owner, or the lead port while it is unassigned (R139, R160, R251). -/
def Dev.ownsUnit (d : Dev) (p lane : Nat) : Bool := if lane = 127 then d.leads p else d.owns p lane

/-- Steps 9 and 10 of Table 12-4 for an opcode whose payload names its unit in byte 0: the unit is present, and the sender may
write it by the lane it is assigned to; then `go` (R2, R139, R263). -/
def Dev.forUnit (d : Dev) (r : Request) (present : Bool) (lane : Nat) (go : Served) : Served :=
  if r.payload = [] then d.answer stBadLength
  else if !present then d.answer stRange
  else if !d.ownsUnit r.port lane then d.answer stNotOwner
  else go

/-- Connection `c` is mapped on this port (R289). -/
def Dev.connPort (d : Dev) (c : Nat) : Option Nat := (List.range 4).find? fun p => d.regBit .hpCmap p c

/-! ### Links (R256, R258) -/

/-- The link of host port `p` changes state: `LINK_CHG`, event 0x0016 with the mode. A link that comes up takes the next inbound
part of each index whatever its sequence number (R294). -/
def Dev.linkSet (d : Dev) (p : Nat) (up : Bool) : Dev :=
  if (d.port p).link = up then d
  else
    let d := d.onPort p fun x => { x with link := up, inSeq := if up then [none, none] else x.inSeq }
    (d.setFlag .hpStat p 7).logEvent 0x0016 kPort p (ev4 (b2n up) ++ ev4 (d.fld .hpCtrl p 0 2))

/-- The receiver of host port `p` loses synchronisation: the link goes down (R258). -/
def Dev.linkLose (d : Dev) (p : Nat) : Dev := (d.onPort p fun x => { x with sync := false, ready := 0 }).linkSet p false

/-! ### Logging of writes (R281) -/

/-- Log an accepted write, or a refusal with its status, of port `p`: an identical one within a second is only counted
(R281). A refusal keeps its status where an accepted write keeps its tag. -/
def Dev.logWrite (d : Dev) (p code op lane tag addr : Nat) (status : Nat := 0) : Dev :=
  let same (w : WriteLog) : Bool :=
    w.code = code && w.op = op && w.lane = lane && w.addr = addr && decide (d.now < w.t + unitsPerSec)
  let t := d.now
  let tag := if code = 0x0014 then status else tag
  if (d.port p).logs.any same then
    d.onPort p fun x => { x with logs := x.logs.map fun w => if same w then { w with count := w.count + 1, last := t, tag := tag } else w }
  else
    let d := d.onPort p fun x => { x with logs := x.logs ++ [⟨code, op, lane, addr, t, 0, t, tag⟩] }
    if code = 0x0014 then d.logEvent code kPort p (ev4 op ++ ev4 lane ++ ev4 tag ++ ev4 1)
    else d.logEvent code kPort p (ev4 op ++ ev4 lane ++ ev4 tag ++ ev4 addr)

/-- The summary record of one write that was logged (R281). -/
def Dev.logSummary (d : Dev) (p : Nat) (w : WriteLog) : Dev :=
  if w.count = 0 then d
  else if w.code = 0x0014 then d.logEvent w.code kPort p (ev4 w.op ++ ev4 w.lane ++ ev4 w.tag ++ ev4 w.count)
  else d.logEvent w.code kPort p (ev4 w.count ++ ev8 w.last)

/-- WRITE_LOG_SUMMARY: at the end of the second one record gives the number of identical requests since, and the instant of
the last one (R281). -/
def Dev.writeLogSummary (d : Dev) (p : Nat) : Dev :=
  let beyond (w : WriteLog) : Bool := decide (w.t + unitsPerSec ≤ d.now)
  let done := (d.port p).logs.filter beyond
  let d := d.onPort p fun x => { x with logs := x.logs.filter fun w => !beyond w }
  done.foldl (fun d w => d.logSummary p w) d

end Sys2Proof.Machine
end

