-- ==== Sys2Proof/Machine/Evfo.lean ====
section
/-! DEFINITION. Evfo containers and connections, and the commands they carry (R314–R320, R325–R327). -/
namespace Sys2Proof.Machine

/-! ### Commands of a connection (R320, R326) -/

/-- What target and index of Table 14-9 name: the word of the image, if they name one. -/
def Dev.paramWord (d : Dev) (target index : Nat) : Option Nat :=
  if target < d.laneCount ∧ index < 14 then some (laneParam target index)
  else if 0xC0 ≤ target ∧ target < 0xD0 ∧ index < 3 then some (connParam (target - 0xC0) index)
  else if target = 0xFF ∧ index < 8 then some (devParam index)
  else none

/-- A binary32 value above 0, at most `hi` where it is given. -/
def posF32 (w : Word) (hi : Option Rat) : Bool :=
  f32Finite w && decide (0 < f32 w) && match hi with
    | some h => decide (f32 w ≤ h)
    | none => true

/-- The value is valid for lane parameter `i` (Table 14-9). -/
def laneParamOk (i : Nat) (v : Word) : Bool :=
  let n := v.toNat
  match i with
  | 0 => decide (1 ≤ n ∧ n ≤ 16)
  | 1 => decide (n ≤ 1)
  | 2 => decide (1 ≤ n ∧ n ≤ 64)
  | 3 => decide (1 ≤ n ∧ n ≤ 30000)
  | 4 | 5 | 6 | 7 => posF32 v (some 1000)
  | 8 | 9 | 10 => posF32 v none
  | 11 => f32Finite v && decide (rnd32 (mkRat 1 1000) ≤ f32 v) && decide (f32 v ≤ mkRat 1 4)
  | 12 | 13 => decide (n ≤ 0xFFFF)
  | _ => decide (n = 0)

/-- The record of lane `n` is all zero or wholly valid (R325). -/
def ParamSet.laneOk (p : ParamSet) (n : Nat) : Bool :=
  p.unused n || ((List.range 16).all (fun i => laneParamOk i (p.word (laneParam n i))) &&
    decide ((p.word (laneParam n 12)).toNat < (p.word (laneParam n 13)).toNat))

/-- No lane stands twice in the lists, and every byte names a lane of the variant or is empty. -/
def Dev.listsOk (d : Dev) (p : ParamSet) : Bool :=
  let all := (List.range 16).flatMap p.connLanes
  decide all.Nodup && all.all fun n => decide (n < d.laneCount)

/-- A value for `target` and `index` is within Table 14-9, given the staged set with it. -/
def Dev.paramOk (d : Dev) (target index : Nat) (v : Word) (after : ParamSet) : Bool :=
  let n := v.toNat
  if target < 0xC0 then v = 0 || laneParamOk index v
  else if target < 0xFF then
    if index < 2 then v ≠ 0 && d.listsOk after
    else decide (100 ≤ n ∧ n ≤ 65535) && decide (2 * d.period ≤ n * unitsPerUs)
  else match index with
    | 0 => decide (50 ≤ n ∧ n ≤ 500)
    | 1 => decide (10 ≤ n ∧ n ≤ 10000)
    | 2 | 3 => decide (n % 4 ≤ 2) && decide (n / 256 ≤ 2) && decide (n / 4 % 64 = 0) && (n % 4 = 0 || n / 256 ≠ 0)
    | 4 | 5 => decide (1 ≤ n ∧ n ≤ 500)
    | _ => decide (n < 4096)

/-- The barrier of lane `n` is up, or it is in RUN: its parameters stand (R326). -/
def Dev.paramHeld (d : Dev) (n : Nat) : Bool := d.barrierUp n || (d.lane n).st = .run

/-- Connection `c` may write parameters: it is in OK on the lead port (R326). -/
def Dev.paramWriter (d : Dev) (c : Nat) : Bool :=
  (d.conn c).st = .ok && match d.connPort c with
    | some p => d.leads p
    | none => false

/-- SAFE_PARAM_WR (R326): the status and the device. -/
def Dev.paramWr (d : Dev) (c target index : Nat) (v : Word) : Nat × Dev :=
  if !d.paramWriter c then (stNotOwner, d)
  else match d.paramWord target index with
    | none => (stRange, d)
    | some i =>
      let held :=
        if target < 0xC0 then d.paramHeld target
        else if target < 0xFF then (d.params.connLanes (target - 0xC0)).any d.paramHeld
        else (List.range 96).any d.barrierUp
      let after := d.saf.staged.put i v
      if held then (stState, d)
      else if !d.paramOk target index v after then (stRange, d)
      else (stOk, d.onSaf fun s => { s with staged := after })

/-- SAFE_PARAM_RD (R320): the status and the data. -/
def Dev.paramRd (d : Dev) (target index which : Nat) : Nat × List Byte :=
  match d.paramWord target index with
  | none => (stRange, [])
  | some i =>
    if which = 0 then (stOk, wordBytes (d.params.word i))
    else if which = 1 then (stOk, wordBytes (d.saf.staged.word i))
    else (stRange, [])

/-- SAFE_PARAM_COMMIT (R325, R326): refused, or the write to MRAM begins. -/
def Dev.paramCommit (d : Dev) (c : Nat) (crc : Word) : Nat × Dev :=
  let p := d.saf.staged
  let refuse (d : Dev) (st : Nat) : Nat × Dev := (st, d.safLog 0x0B0D kConn c (ev4 st ++ ev4 p.crc))
  if !d.paramWriter c then refuse d stNotOwner
  else if p.crc ≠ crc.toNat then refuse d stRange
  else if !((List.range 96).all p.laneOk) ∨ ((List.range 16).flatMap p.connLanes).any p.unused then refuse d stRange
  else if d.saf.commitBy.isSome then refuse d stBusy
  else (stBusy, d.onSaf fun s => { s with commitBy := some (c, p) })

/-- SAFE_PARAM_COMMIT_COMPLETE (R326): the older copy is written, and the set applies at once. -/
def Dev.paramCommitEnd (d : Dev) (ok : Bool) : Dev :=
  match d.saf.commitBy with
  | none => d
  | some (c, p) =>
    let st := if ok then stOk else stNvmFail
    let d := (d.onSaf fun s => { s with commitBy := none }).mramWrite 7
    -- the reply of a later command, or of a new entry to OK, stands
    let d := d.onConn c fun x =>
      if x.op = 2 ∧ x.status = stBusy then { x with status := st, data := if ok then leBytes 4 p.crc else [] } else x
    let d := d.safLog 0x0B0D kConn c (ev4 st ++ ev4 p.crc)
    if ok then (d.onSaf fun s => { s with copies := [some p, s.copies.headD none] }).applyParams p
    else d.onSaf fun s => { s with copies := [s.copies.headD none, none] }

/-- Execute a command of connection `c`: its tag becomes the reference, its reply stands until the next one (R320). -/
def Dev.connCommand (d : Dev) (c op tag : Nat) (args : List Byte) : Dev :=
  let done (d : Dev) (st : Nat) (data : List Byte) : Dev :=
    d.onConn c fun x => { x with refTag := tag, op := op, tag := tag, status := st, data := data }
  match op with
  | 0 =>
    if d.saf.params.isNone then done d stState []
    else let (m, d) := d.resetAck c (byteAt args 0); done d stOk [BitVec.ofNat 8 m]
  | 1 => let (st, d) := d.paramWr c (byteAt args 0) (byteAt args 1) (wordAt args 2); done d st []
  | 2 => let (st, d) := d.paramCommit c (wordAt args 0); done d st []
  | 3 => let (st, b) := d.paramRd (byteAt args 0) (byteAt args 1) (byteAt args 2); done d st b
  | _ => done d stBadOpcode []

/-- A command that an accepted container of connection `c` carries: its tag differs from the reference (R320). -/
def Dev.connExec (d : Dev) (c op tag : Nat) (args : List Byte) : Dev :=
  if (d.conn c).st = .ok ∧ tag ≠ (d.conn c).refTag then d.connCommand c op tag args else d

/-! ### Inbound containers (R316–R318) -/

/-- Connection `c` fails: 1 watchdog, 2 sequence, 3 time expectation (R318). -/
def Dev.connFail (d : Dev) (c cause : Nat) : Dev :=
  let d := (d.onConn c fun x => { x with st := .fail, failed := true }).addCnt .connCnt c 0 16
  let d := d.safLog 0x0B06 kConn c (ev4 cause)
  let gs := ((d.params.connLanes c).map groupOf).eraseDups
  if gs.isEmpty then d else d.groupReaction gs

/-- The instant at which the watchdog of connection `c` expires. -/
def Dev.connDeadline (d : Dev) (c : Nat) : Time := (d.conn c).last + unitsPerUs * d.tExp c

/-- CONNECTION_WATCHDOG (R317). -/
def Dev.connWatchdog (d : Dev) (c : Nat) : Dev :=
  if (d.conn c).st = .ok then (d.at (d.connDeadline c)).connFail c 1 else d

/-- The requests of an accepted payload on the lanes of the connection (Table 14-5). -/
def Dev.connRequests (d : Dev) (c : Nat) (b : List Byte) : Dev :=
  d.forEach (List.range 8) fun i d =>
    match (d.params.slots c).getD i none with
    | some n => d.laneRequest n ((byteAt b 0).testBit i) ((byteAt b 1).testBit i) ((byteAt b 2).testBit i)
        ((byteAt b 3).testBit i) ((byteAt b 4).testBit i) (u32At b 5 / 16 ^ i % 16)
    | none => d

/-- A container is accepted in OK. -/
def Dev.connAccept (d : Dev) (c : Nat) (b : List Byte) : Dev :=
  let t := d.now
  let d := d.onConn c fun x => { x with seqIn := u16At b 32, last := t }
  (d.connRequests c b).connExec c (byteAt b 16) (byteAt b 17) (slice b 18 14)

/-- The entry to OK: the container sets sequence and reference tag and executes no command (R318, R320). -/
def Dev.connEnter (d : Dev) (c : Nat) (b : List Byte) : Dev :=
  let tag := byteAt b 17
  let d := d.onConn c fun x => { x with st := .ok, failed := false, refTag := tag, op := 0, tag := tag, status := stState, data := [] }
  d.connAccept c b

/-- A container with a valid CRC in WAIT or FAIL (R318). -/
def Dev.connWaiting (d : Dev) (c : Nat) (b : List Byte) : Dev :=
  if u16At b 34 = d.tExp c then d.connEnter c b
  else
    let t := d.now
    let quiet : Bool := match (d.conn c).waitLog with
      | some l => decide (t < l + unitsPerSec)
      | none => false
    if quiet then d
    else (d.onConn c fun x => { x with waitLog := some t }).safLog 0x0B0E kConn c (ev4 (u16At b 34) ++ ev4 (d.tExp c))

/-- An inbound slot of connection `c` in the order of R316. -/
def Dev.container (d : Dev) (c : Nat) (b : List Byte) : Dev :=
  let x := d.conn c
  if crc32c (wordBytes (d.connIdent c) ++ [0] ++ b.take 36) ≠ u32At b 36 then d.addCnt .connCnt c 16 16
  else match x.st with
    | .idle => d
    | .wait | .fail => d.connWaiting c b
    | .ok =>
      -- a container accepted in the core cycle of the expiry is too late, and one after it meets FAIL (R41, R317)
      if d.connDeadline c / 20 ≤ d.now / 20 then
        let late := decide (d.connDeadline c / 20 < d.now / 20)
        let d := d.connFail c 1
        if late then d.connWaiting c b else d
      else if u16At b 32 = x.seqIn then d
      else if u16At b 32 ≠ (x.seqIn + 1) % 65536 then d.connFail c 2
      else if u16At b 34 ≠ d.tExp c then d.connFail c 3
      else d.connAccept c b

/-! ### Outbound containers (R319, Table 14-6) -/

/-- Bits of a slot byte: bit i is what `f` says of the lane in slot i. -/
def slotByte (slots : List (Option Nat)) (f : Nat → Bool) : Byte :=
  BitVec.ofNat 8 ((List.range 8).foldl (fun a i => a + match slots.getD i none with
    | some n => b2n (f n) * 2 ^ i
    | none => 0) 0)

/-- Bits of a mask over the groups. -/
def groupBits (f : Nat → Bool) : Nat := (List.range 12).foldl (fun a g => a + b2n (f g) * 2 ^ g) 0

/-- `SI_DISC` of both pairs. -/
def Dev.siDiscBits (d : Dev) : Nat := b2n (d.siPair 0).disc + 2 * b2n (d.siPair 1).disc

/-- The code of a connection state. -/
def ConnState.code : ConnState → Nat
  | .idle => 0 | .wait => 1 | .ok => 2 | .fail => 3

/-- The outbound payload of connection `c`. -/
def Dev.outPayload (d : Dev) (c : Nat) : List Byte :=
  let s := d.params.slots c
  let x := d.conn c
  [slotByte s fun n => (d.safLane n).permit, slotByte s fun n => !d.barrierUp n, slotByte s d.stoReq,
   slotByte s fun n => (d.safLane n).viol, slotByte s fun n => d.fnActive n 0, slotByte s fun n => d.fnActive n 2,
   slotByte s fun n => d.fnActive n 1, slotByte s fun n => (d.safLane n).inv] ++
  leBytes 2 (groupBits d.soOn) ++ leBytes 2 (groupBits d.soFb) ++
  [BitVec.ofNat 8 (d.siLevels + 16 * d.siDiscBits + 64 * b2n ((d.params.connLanes c).any fun n => (d.safLane n).armed.isSome) +
     128 * b2n (!d.crit.sealed)), BitVec.ofNat 8 x.st.code] ++
  leBytes 2 d.saf.lastEvt ++ [BitVec.ofNat 8 x.op, BitVec.ofNat 8 x.tag] ++ leBytes 2 x.status ++ padTo 12 x.data

/-- Build the outbound container of connection `c`: its slot and the device (R315, R319). -/
def Dev.buildContainer (d : Dev) (c : Nat) : List Byte × Dev :=
  let d := d.onConn c fun x => { x with seqOut := (x.seqOut + 1) % 65536 }
  let b := d.outPayload c ++ leBytes 2 (d.conn c).seqOut ++ leBytes 2 (d.tExp c)
  (b ++ leBytes 4 (crc32c (wordBytes (d.connIdent c) ++ [1] ++ b)), d)

end Sys2Proof.Machine
end

