-- ==== Sys2Proof/Machine/Records.lean ====
section
/-! DEFINITION. Cyclic records: maps, parts, acceptance, ages, the outbound block (spec/13_cyclic_records.md, R289–R298). -/
namespace Sys2Proof.Machine

/-! ### Maps (R289, R291, R297) -/

/-- The lanes of a lane mask of port `p`. -/
def Dev.maskLanes (d : Dev) (r : RegId) (p : Nat) : List Nat :=
  let ws := [d.reg r (3 * p), d.reg r (3 * p + 1), d.reg r (3 * p + 2)]
  (List.range 96).filter fun n => bit (ws.getD (n / 32) 0) (n % 32)
/-- The outbound map of port `p`. -/
def Dev.omap (d : Dev) (p : Nat) : List Nat := d.maskLanes .hpOmap p
/-- The inbound map of port `p`. -/
def Dev.imap (d : Dev) (p : Nat) : List Nat := d.maskLanes .hpImap p
/-- The container map of port `p`. -/
def Dev.cmap (d : Dev) (p : Nat) : List Nat := (List.range 16).filter fun c => d.regBit .hpCmap p c

/-- The bytes of a part with `n` records of `size` bytes and `c` containers (Table 13-1). -/
def partLen (size n c : Nat) : Nat := 20 + size * n + 40 * c

/-- Port `p` runs Worost link. -/
def Dev.worost (d : Dev) (p : Nat) : Bool := d.fld .hpCtrl p 0 2 = 1

/-- The parts of a block: what part of the lanes and of the connections each carries (R291). A block with nothing to carry
has no part. -/
def Dev.shares (d : Dev) (p size : Nat) (lanes conns : List Nat) : List (List Nat × List Nat) :=
  if lanes.isEmpty ∧ conns.isEmpty then []
  else if d.worost p ∨ 2 + partLen size lanes.length conns.length ≤ 1500 then [(lanes, conns)]
  else
    let a := (lanes.length + 1) / 2
    let b := (conns.length + 1) / 2
    [(lanes.take a, conns.take b), (lanes.drop a, conns.drop b)]

/-- The outbound parts of port `p`. -/
def Dev.outShares (d : Dev) (p : Nat) : List (List Nat × List Nat) := d.shares p 24 (d.omap p) (d.cmap p)
/-- The inbound parts of port `p`. -/
def Dev.inShares (d : Dev) (p : Nat) : List (List Nat × List Nat) := d.shares p 16 (d.imap p) (d.cmap p)

/-- `TX_TIME` of port `p` in cyc (R297). -/
def Dev.txTime (d : Dev) (p : Nat) : Nat :=
  let bs := (d.outShares p).map fun s => partLen 24 s.1.length s.2.length
  if d.worost p then (bs.map fun b => ((b + 7) * 8 + 4) / 5).foldl (· + ·) 0
  else ((bs.map fun b => (b + 44) * 8).foldl (· + ·) 0 + 4) / 5

/-- A part is within its size limit (R291). -/
def Dev.partsFit (d : Dev) (p size : Nat) (l : List (List Nat × List Nat)) : Bool :=
  d.worost p || l.all fun s => decide (2 + partLen size s.1.length s.2.length ≤ 1500)

/-- The transmit time of some port does not fit (R289). -/
def Dev.txOver (d : Dev) : Bool := (List.range 4).any fun p => decide (d.outdl < d.fld .frmTxofs 0 0 18 + d.txTime p)

/-- Another map case of R289 fails. -/
def Dev.mapsBad (d : Dev) : Bool :=
  (List.range 4).any (fun p =>
    (d.imap p).any (fun n => !d.owns p n) || (d.worost p && !(d.cmap p).isEmpty) ||
      !d.partsFit p 24 (d.outShares p) || !d.partsFit p 16 (d.inShares p)) ||
  !decide ((List.range 4).flatMap d.cmap).Nodup

/-! ### Inbound parts (R294, R295) -/

/-- INBOUND_PART_RECEIVE: the last byte of a part comes in at this instant. -/
def Dev.partReceive (d : Dev) (p : Nat) (bytes : List Byte) : Dev :=
  let t := d.now
  if p < 4 ∧ d.portUp p then d.onPort p fun x => { x with inParts := x.inParts ++ [(t, bytes)] } else d

/-- The part is sound for port `p` (R294): CRC, version, direction, counts, lane numbers. -/
def Dev.partSound (d : Dev) (p : Nat) (b : List Byte) : Bool :=
  let n := byteAt b 2
  let c := byteAt b 3
  let body := b.take (b.length - 4)
  decide (b.length = partLen 16 n c) && decide (crc32 body = u32At b (b.length - 4)) && decide (byteAt b 0 = 1) &&
    (byteAt b 1).testBit 2 &&
    match (d.inShares p)[byteAt b 1 % 2]? with
    | some (ls, cs) => decide (n = ls.length) && decide (c = cs.length) &&
        decide ((List.range n).map (fun i => byteAt b (16 + 16 * i)) = ls)
    | none => false

/-- Stage an action of an inbound record: a command accepted in the same cycle counts as later (R279). -/
def Dev.stageInbound (d : Dev) (p : Nat) (a : Act) : Dev :=
  let earlier (s : Staged) : Bool := decide (s.acc < d.now)
  { d with staged := d.staged.filter earlier ++ [{ port := p, acc := d.now, act := a }] ++ d.staged.filter fun s => !earlier s }

/-- What an inbound lane record stages (R293). -/
def Dev.stageRecord (d : Dev) (p n : Nat) (b : List Byte) : Dev :=
  let f := byteAt b 1
  let d := d.stageInbound p (.inRecord n)
  let d := d.when (f.testBit 0) fun d => d.stageInbound p (.reg .trmSet n (wordAt b 4))
  let d := d.when (f.testBit 1) fun d => d.stageInbound p (.prf n (.trim 0 (signed 64 (u64At b 8))) false none)
  d.when (f.testBit 2) fun d => d.stageInbound p (.reg .laneCtrl n (at_ 0 (byteAt b 2 % 8)))

/-- A part is newer than the last one taken: its sequence number is ahead by less than half the range (R294). -/
def seqFresh (last : Option Nat) (seq : Nat) : Bool :=
  match last with
  | some l => let k := (seq + 2 ^ 32 - l) % 2 ^ 32; decide (1 ≤ k) && decide (k < 2 ^ 31)
  | none => true

/-- Stage the lane records of a part for the lanes of its share (R293). -/
def Dev.takeRecords (d : Dev) (p : Nat) (b : List Byte) (ls : List Nat) : Dev :=
  (List.range ls.length).foldl (fun d j => d.stageRecord p (ls.getD j 0) (slice b (16 + 16 * j) 16)) d

/-- Accept the containers of a part, which follow its `n` lane records (R295). -/
def Dev.takeContainers (d : Dev) (b : List Byte) (n : Nat) (cs : List Nat) : Dev :=
  (List.range cs.length).foldl (fun d j => d.container (cs.getD j 0) (slice b (16 + 16 * n + 40 * j) 40)) d

/-- Take a sound and fresh part: its records are staged, its containers accepted in their order (R293–R295). -/
def Dev.takePart (d : Dev) (p : Nat) (b : List Byte) : Dev :=
  let i := byteAt b 1 % 2
  let seq := u32At b 4
  let d := d.onPort p fun x => { x with inSeq := x.inSeq.set i (some seq) }
  let late := !arrivesBy d.now (d.tickAt d.nextTick - d.cutoff)
  let d := d.when late fun d => d.addCnt .hpInCnt p 16 16
  let s := (d.inShares p).getD i ([], [])
  (d.takeRecords p b s.1).takeContainers b s.1.length s.2

/-- INBOUND_PART_ACCEPT: 80 cyc after the last byte of the oldest part received (R294, R295). -/
def Dev.partAccept (d : Dev) (p : Nat) : Dev :=
  match (d.port p).inParts with
  | [] => d
  | (t, b) :: rest =>
    let d := (d.at (t + 1600)).onPort p fun x => { x with inParts := rest }
    if !d.partSound p b then d.addCnt .hpInBad p 16 16
    else if !seqFresh ((d.port p).inSeq.getD (byteAt b 1 % 2) none) (u32At b 4) then d.addCnt .hpInCnt p 0 16
    else d.takePart p b

/-! ### Ages (R296) -/

/-- The port whose inbound map names lane `n`. -/
def Dev.inPort (d : Dev) (n : Nat) : Option Nat := 
  (List.range 4).find? fun p => d.regBit .hpImap (3 * p + n / 32) (n % 32)

/-- INBOUND_MISS: `IN_AGE` of lane `n` has reached `IN_MISS`: `IN_LOST` and event 0x0017. -/
def Dev.inboundMiss (d : Dev) (n : Nat) : Dev :=
  match d.inPort n with
  | some p =>
    let lim := d.fld .hpMiss p 8 8
    if lim = 0 ∨ (d.lane n).inLost ∨ (d.lane n).inAge < lim then d
    else (d.onLane n fun l => { l with inLost := true }).logEvent 0x0017 kLane n (ev4 p ++ ev4 (d.fld .hpMiss p 4 2))
  | none => d

/-- The age of lane `n` at a commit junction; `came`: a record takes effect (R296). -/
def Dev.inboundAge (d : Dev) (n : Nat) (came : Bool) : Dev :=
  match d.inPort n with
  | some p =>
    if came then
      let l := d.lane n
      let d := d.onLane n fun l => { l with inAge := 0, inLost := false }
      if l.inLost then d.logEvent 0x0018 kLane n (ev4 p ++ ev4 l.inAge) else d
    else (d.onLane n fun l => { l with inAge := l.inAge + 1 }).inboundMiss n
  | none => d

/-- `MISS_ACT` of lane `n` where its records were lost between the devices `d` and `e` (R296). -/
def missAct (d e : Dev) (n : Nat) : Nat :=
  if (e.lane n).inLost ∧ !(d.lane n).inLost then
    match e.inPort n with
    | some p => e.fld .hpMiss p 4 2
    | none => 0
  else 0

/-! ### Outbound blocks (R290, R297) -/

/-- The outbound record of lane `n` (Table 13-2). -/
def Dev.outRecord (d : Dev) (n : Nat) : List Byte :=
  wordBytes (d.reg .snapPos (2 * n)) ++ wordBytes (d.reg .snapPos (2 * n + 1)) ++ wordBytes (d.reg .snapVel n) ++
    wordBytes (d.reg .dmdOut n) ++ wordBytes (d.reg .dmdFf n) ++ wordBytes (d.reg .laneStat n)

/-- Build part `i` of a block of `m` parts. -/
def Dev.buildPart (d : Dev) (i m : Nat) (s : List Nat × List Nat) : List Byte × Dev :=
  let (slots, d) := s.2.foldl (fun (a : List Byte × Dev) c => let (b, d) := a.2.buildContainer c; (a.1 ++ b, d)) ([], d)
  let b := [1, BitVec.ofNat 8 (i + 2 * b2n (i + 1 = m)), BitVec.ofNat 8 s.1.length, BitVec.ofNat 8 s.2.length] ++
    leBytes 4 d.frmSeq ++ leBytes 8 d.time.t0 ++ s.1.flatMap d.outRecord ++ slots
  (b ++ leBytes 4 (crc32 b), d)

/-- The block of port `p` at the output junction. -/
def Dev.buildBlock (d : Dev) (p : Nat) : Dev :=
  let ss := d.outShares p
  let (ps, d) := (List.range ss.length).foldl (fun (a : List (List Byte) × Dev) i =>
    let (b, d) := a.2.buildPart i ss.length (ss.getD i ([], [])); (a.1 ++ [b], d)) ([], d)
  let k := d.time.k.getD 0
  d.onPort p fun x => { x with block := if ps.isEmpty then none else some (k, ps, 0) }

/-- A frame of 1000BASE-X without its FCS: destination, the port's own address, an optional 802.1Q tag, the EtherType of the
protection image, the client data with its padding (R260, R292). -/
def Dev.ethFrame (d : Dev) (p : Nat) (dst : List Byte) (vlan : Option Nat) (data : List Byte) : List Byte :=
  let tag := match vlan with
    | some v => [0x81, 0x00] ++ beBytes 2 v
    | none => []
  dst ++ macBytes p ++ tag ++ beBytes 2 (d.fld .protEtype 0 0 16) ++ data ++ zeros (46 - data.length)

/-- The frame that carries a part of a block: of kind 0x02 on Worost link; on 1000BASE-X to `HP_REC_DST`, tagged with `REC_PCP`
and `REC_VID` (R257, R291, R292). -/
def Dev.recordFrame (d : Dev) (p : Nat) (part : List Byte) : List Byte :=
  if d.worost p then 2 :: part
  else
    let dst := (wordBytes (d.reg .hpRecDst (2 * p)) ++ wordBytes (d.reg .hpRecDst (2 * p + 1))).take 6
    d.ethFrame p dst (some (d.fld .hpRecTag p 13 3 * 8192 + d.fld .hpRecTag p 0 12)) ([2, 0] ++ part)

/-- RECORD_TRANSMIT: the next part of the block of port `p` leaves, from T0 of the following frame plus `FRM_TXOFS` (R297). -/
def Dev.recordTransmit (d : Dev) (p : Nat) : Dev :=
  match (d.port p).block with
  | some (k, part :: rest, sent) =>
    if (d.time.k.getD 0) ≤ k then d
    else
      let d := d.at (d.time.t0 + 20 * d.fld .frmTxofs 0 0 18 + sent)
      if !d.portUp p then (d.onPort p fun x => { x with block := none }).addCnt .hpInBad p 0 16
      else
        let t := d.now
        let f := d.recordFrame p part
        (d.onPort p fun x => { x with block := if rest.isEmpty then none else some (k, rest, sent + 32 * (part.length + 44)),
                                      sent := (t, f) :: x.sent }).addCnt .hpTxRec p 0 32
  | _ => d

end Sys2Proof.Machine
end

