-- ==== Sys2Proof/Machine/Mem.lean ====
section
/-! DEFINITION. Byte memories in one canonical form: addresses strictly rising, no entry equal to what an unlisted address
reads as, which is 0 (DESIGN CHOICE: see the assumption log). The trace SRAM, the firmware regions and the protection image
are held so. -/
namespace Sys2Proof.Machine

/-- What an address that no entry lists reads as. -/
def memBlank : Byte := 0

/-- The byte at address `a`. -/
def memRead (m : List Host.Cell) (a : Nat) : Byte :=
  match m with
  | [] => memBlank
  | (k, b) :: rest => if k = a then b else memRead rest a

/-- Write one byte; writing what an unlisted address reads as removes the entry. -/
def memWrite (m : List Host.Cell) (a : Nat) (v : Byte) : List Host.Cell :=
  match m with
  | [] => if v = memBlank then [] else [(a, v)]
  | (k, b) :: rest =>
    if a < k then (if v = memBlank then (k, b) :: rest else (a, v) :: (k, b) :: rest)
    else if a = k then (if v = memBlank then rest else (a, v) :: rest)
    else (k, b) :: memWrite rest a v

/-- Write a byte string from address `a` on. -/
def memWrites (m : List Host.Cell) (a : Nat) : List Byte → List Host.Cell
  | [] => m
  | v :: rest => memWrites (memWrite m a v) (a + 1) rest

/-- Read `n` bytes from address `a` on. -/
def memReads (m : List Host.Cell) (a n : Nat) : List Byte := (List.range n).map fun i => memRead m (a + i)

/-- Addresses rise strictly, all at or above `lo`, and no entry is blank. -/
def memWfFrom (lo : Nat) : List Host.Cell → Bool
  | [] => true
  | (k, b) :: rest => decide (lo ≤ k) && decide (b ≠ memBlank) && memWfFrom (k + 1) rest

/-- The canonical form of a byte memory. -/
def memWf (m : List Host.Cell) : Bool := memWfFrom 0 m

end Sys2Proof.Machine
end

