-- ==== Sys2Proof/Machine/Trace.lean ====
section
/-! DEFINITION. Trace: settings, records, triggers (R201–R206). -/
namespace Sys2Proof.Machine

/-- Change the trace. -/
def Dev.onTrc (d : Dev) (f : Trace → Trace) : Dev := { d with trc := f d.trc }

/-- `NCH`. -/
def Dev.trcNch (d : Dev) : Nat := d.fld .trcCtrl 0 8 5
/-- `DEC`; 0 means 4,096. -/
def Dev.trcDec (d : Dev) : Nat := if d.fld .trcCtrl 0 20 12 = 0 then 4096 else d.fld .trcCtrl 0 20 12
/-- `TRIG_SRC`. -/
def Dev.trcSrc (d : Dev) : Nat := d.fld .trcCtrl 0 0 3
/-- `MODE`: roll. -/
def Dev.trcRoll (d : Dev) : Bool := d.regBit .trcCtrl 0 16
/-- `RLEN` (R203). -/
def Dev.trcRlen (d : Dev) : Nat := 8 + 4 * d.trcNch
/-- The depth in records (R203). -/
def Dev.trcDepth (d : Dev) : Nat := 1048576 / d.trcRlen
/-- Lane and node of channel `c`. -/
def Dev.trcChan (d : Dev) (c : Nat) : Nat × Nat := (d.fld .trcCh c 8 7, d.fld .trcCh c 0 8)
/-- `TRIG_CH`. -/
def Dev.trcTrigCh (d : Dev) : Nat := d.fld .trcTrig 0 24 5

/-- A node of 64 bits (Table 9-5). -/
def node64 (n : Nat) : Bool := n = 0x01 || n = 0x04 || n = 0x07
/-- A node that records raw bits. -/
def nodeRaw (n : Nat) : Bool := n = 0x14 || n = 0x15 || n = 0x16
/-- A node that the table lists. -/
def nodeListed (n : Nat) : Bool := decide (n ≤ 0x16) || (decide (0x20 ≤ n) && decide (n ≤ 0x3F))

/-- The channel settings obey R202. -/
def Dev.trcChansOk (d : Dev) : Bool :=
  let nch := d.trcNch
  let second (c : Nat) : Bool := 0 < c && c % 2 = 1 && node64 (d.trcChan (c - 1)).2
  (List.range 16).all fun c =>
    let (l, n) := d.trcChan c
    second c || (nodeListed n && decide (l < d.laneCount) && (!node64 n || (decide (c % 2 = 0) && decide (c + 1 < nch))))

/-- The trace settings are allowed (R202, R204, R208). -/
def Dev.trcCfgOk (d : Dev) : Bool :=
  let nch := d.trcNch
  decide (1 ≤ nch) && decide (nch ≤ 16) && decide (d.trcSrc ≤ 5) && d.fld .trcTrig 0 30 2 ≠ 3 &&
    decide (d.fld .trcPre 0 0 18 < d.trcDepth) && d.trcChansOk &&
    (d.trcSrc ≠ 1 || (let n := (d.trcChan d.trcTrigCh).2
      decide (d.trcTrigCh < nch) && !node64 n && !nodeRaw n &&
        !(0 < d.trcTrigCh && d.trcTrigCh % 2 = 1 && node64 (d.trcChan (d.trcTrigCh - 1)).2))) &&
    (d.trcSrc ≠ 2 || decide (d.fld .trcTrig 0 16 7 < d.laneCount)) && (d.trcSrc ≠ 5 || decide (d.trcTrigCh < d.pinCount))

/-- The trace records: ARMED or TRIGGERED. -/
def Trace.recording (x : Trace) : Bool := x.st = 1 || x.st = 2

/-- The words of a 64-bit value. -/
def word64 (v k : Nat) : Word := BitVec.ofNat 32 (if k = 0 then v else v / 2 ^ 32)

/-- The word that channel `c` takes at T0, for nodes of the snapshot; `k` 0 low, 1 high. -/
def Dev.trcAtT0 (d : Dev) (lane node k : Nat) : Word :=
  let t := (d.lane lane).trk
  match node with
  | 0x01 => word64 (unsigned 64 t.snapPos) k
  | 0x02 => toF32 t.snapVel
  | 0x03 => toF32 t.snapAcc
  | 0x14 => d.reg .laneStat lane
  | 0x15 => (d.reg .loopStat lane &&& 0x800) ||| d.loopStatRo lane
  | 0x16 => wordOfInt t.d
  | _ => 0

/-- The word that channel `c` of the frame under way takes from the lane's computation; none: not computed (Table 9-5). -/
def Dev.trcLoop (d : Dev) (lane node k : Nat) : Option Word :=
  let st := d.loopStruct lane
  match (d.lane lane).loop.vals with
  | none => none
  | some v =>
    match node with
    | 0x04 => some (word64 v.pp k)
    | 0x05 => some v.vp
    | 0x06 => some v.ap
    | 0x07 => some (word64 v.posDem k)
    | 0x08 => some v.eP
    | 0x09 => if st.posEn then some v.uP else none
    | 0x0A => some v.velDem
    | 0x0B => some v.velErr
    | 0x0C => if st.dmdMode then none else some v.uV
    | 0x0D => some v.dmd
    | 0x0E => some v.dff
    | 0x0F => if st.trmDest = 0 then none else some v.trm
    | 0x10 => v.proc
    | 0x11 => if st.dmdMode then none else some v.iV
    | 0x12 => if st.posEn then some v.iP else none
    | 0x13 => if st.trmDest = 0 then none else some v.iT
    | n => if 0x20 ≤ n then v.secOut.getD (n - 0x20) none else none

/-- The node of channel `c` and which word of it the channel takes (R202). -/
def Dev.trcNode (d : Dev) (c : Nat) : Nat × Nat × Nat :=
  if 0 < c ∧ c % 2 = 1 ∧ node64 (d.trcChan (c - 1)).2 then ((d.trcChan (c - 1)).1, (d.trcChan (c - 1)).2, 1)
  else ((d.trcChan c).1, (d.trcChan c).2, 0)

/-- The node is taken at T0 (Table 9-5). -/
def nodeT0 (n : Nat) : Bool := decide (n ≤ 0x03) || nodeRaw n

/-- The value of channel `c` of the frame recorded, and whether it is valid. -/
def Dev.trcValue (d : Dev) (c : Nat) : Word × Bool :=
  let (l, n, k) := d.trcNode c
  if nodeT0 n then (d.trc.cap.getD c 0, true)
  else match d.trcLoop l n k with
    | some w => (w, true)
    | none => (if n = 0x0D then d.reg .dmdOut l else 0, false)

/-- Source 1: the channel crosses the level (Table 9-7). -/
def trcCrosses (edge : Nat) (level prev now : Rat) : Bool :=
  let up := decide (prev < level ∧ level ≤ now)
  let down := decide (level < prev ∧ now ≤ level)
  if edge = 0 then up else if edge = 1 then down else up || down

/-- What a frame leaves for its record: the channels with their valid bits, and whether late work is included (R203). -/
structure TraceTake where
  vals : List (Word × Bool)
  late : Bool
  deriving DecidableEq, Repr

/-- The channels of the frame that ends (R202, R203). -/
def Dev.trcTake (d : Dev) : TraceTake where
  vals := (List.range d.trcNch).map d.trcValue
  late := (List.range d.trcNch).any fun c => let l := (d.trcNode c).1
    (d.lane l).loop.late && (d.lane l).loop.vals.isSome

/-- The trigger fires for the frame recorded (R204); a level that is no number is never crossed. -/
def Dev.trcFires (d : Dev) (y : TraceTake) (k : Nat) : Bool :=
  let x := d.trc
  let val := d.reg .trcTrigVal 0
  match d.trcSrc with
  | 0 => x.force
  | 1 =>
    let (w, ok) := y.vals.getD d.trcTrigCh (0, false)
    match ok && f32Finite val, x.prev with
    | true, some p => trcCrosses (d.fld .trcTrig 0 30 2) (f32 val) (f32 p) (f32 w)
    | _, _ => false
  | 2 => x.statUp
  | 3 =>
    let n := (d.bbx.nextSeq + 65536 - x.bbxMark) % 65536
    let mask := field val 16 16
    (d.bbx.ring.take n).any fun e => e.code.land mask = (field val 0 16).land mask
  | 4 => k % 2 ^ 32 = val.toNat
  | 5 => (d.mlsUnit d.trcTrigCh).seq ≠ x.mlsMark
  | _ => false

/-- TRACE_DONE (R205): the records after the trigger are complete. -/
def Dev.traceDone (d : Dev) : Dev :=
  if d.trc.st = 2 ∧ !d.trcRoll ∧ d.trc.left = 0 then
    (d.onTrc fun x => { x with st := 3, frame := none }).logEvent 0x0903 kDevice 0 (ev4 d.trc.count ++ ev4 3)
  else d

/-- The bytes of the record of frame `k` (Table 9-6). -/
def Dev.trcRecord (d : Dev) (y : TraceTake) (k : Nat) (trig grid : Bool) : List Byte :=
  let cs := y.vals
  let valid := (List.range cs.length).foldl (fun a c => a + b2n (cs.getD c (0, false)).2 * 2 ^ c) 0
  leBytes 4 k ++ leBytes 2 valid ++
    [BitVec.ofNat 8 (b2n trig + 2 * b2n (trig && !grid) + 4 * b2n y.late + 8 * b2n d.trc.first), 0] ++
    cs.flatMap fun v => wordBytes v.1

/-- At T0 of the following frame: trigger and record of the frame recorded (R203–R205). -/
def Dev.traceTick (d : Dev) (y : TraceTake) : Dev :=
  match d.trc.recording, d.trc.frame with
  | true, some k =>
    let depth := d.trcDepth
    let pre := d.fld .trcPre 0 0 18
    let trig := d.trcFires y k && (d.trc.st = 1 || d.trcRoll)
    let grid := decide (k % d.trcDec = 0)
    let was := d.trc.st
    let x0 := d.trc
    let v := y.vals.getD d.trcTrigCh (0, false)
    let write := trig || grid
    let d :=
      if trig then
        let d := d.onTrc fun x => { x with st := 2, trigIdx := x.next, trigSeq := k % 2 ^ 32,
                                           preShort := x.preShort || (was = 1 && !d.trcRoll && decide (x.count < pre)),
                                           left := if was = 1 then depth - 1 - pre else x.left }
        d.logEvent 0x0902 kDevice 0 (ev4 (k % 2 ^ 32) ++ ev4 d.trcSrc)
      else d
    let d := d.onTrc fun x => { x with force := false, statUp := false, prev := if v.2 then some v.1 else none }
    if !write then d
    else
      let b := d.trcRecord y k trig grid
      let d := d.onTrc fun x => { x with mem := memWrites x.mem (x.next * d.trcRlen) b, count := min depth (x.count + 1),
                                         next := (x.next + 1) % depth, first := false,
                                         left := if x0.st = 2 && !trig then x.left - 1 else x.left }
      d.traceDone
  | _, _ => d.onTrc fun x => { x with force := false, statUp := false }

/-- What the trace takes at T0 of frame `k`, after the snapshot. -/
def Dev.traceCapture (d : Dev) (k : Nat) : Dev :=
  if d.trc.recording then
    let cap := (List.range d.trcNch).map fun c => let (l, n, w) := d.trcNode c; d.trcAtT0 l n w
    d.onTrc fun x => { x with frame := some k, cap := cap }
  else d

/-- The mark of source 3 at a T0: the events logged so far. -/
def Dev.traceMark (d : Dev) : Dev :=
  let b := d.bbx.nextSeq
  d.onTrc fun x => { x with bbxMark := b }

/-- The record of the frame that ends, but for source 5, before the junctions of T0 act (R203, R204). -/
def Dev.traceEarly (d : Dev) (y : TraceTake) : Dev := (if d.trcSrc = 5 then d else d.traceTick y).traceMark

/-- Source 5 after the snapshot, whose records of missing marks carry the stamp T0 (R137, R204); then its mark. -/
def Dev.traceLate (d : Dev) (y : TraceTake) : Dev :=
  let d := if d.trcSrc = 5 then d.traceTick y else d
  let m := (d.mlsUnit d.trcTrigCh).seq
  d.onTrc fun x => { x with mlsMark := m }

/-- Source 2 at an output junction: `LANE_STAT` of `TRIG_LANE` against that of the junction before. -/
def Dev.traceStat (d : Dev) : Dev :=
  let w := d.reg .laneStat (d.fld .trcTrig 0 16 7)
  let mask := at_ 0 (d.fld .trcTrig 0 0 16)
  let rise := w &&& ~~~d.trc.stat &&& mask &&& 0xFFF8
  let state : Bool := field w 0 3 ≠ field d.trc.stat 0 3 && field mask 0 3 ≠ 0
  d.onTrc fun x => { x with stat := w, statUp := x.statUp || rise ≠ 0 || state }

/-- TRACE_ARM at its commit junction (R205). -/
def Dev.traceArm (d : Dev) (port : Nat) : Dev :=
  let w := d.reg .laneStat (d.fld .trcTrig 0 16 7)
  let d := d.onTrc fun x => { x with st := 1, count := 0, next := 0, trigIdx := 0, trigSeq := 0, preShort := false, left := 0,
                                     force := false, first := true, frame := none, prev := none, stat := w, statUp := false }
  d.logEvent 0x0901 kPort port (wordBytes (d.reg .trcCtrl 0))

/-- TRACE_FORCE with action 1: stop (R205). -/
def Dev.traceStop (d : Dev) : Dev :=
  (d.onTrc fun x => { x with st := 4, frame := none }).logEvent 0x0903 kDevice 0 (ev4 d.trc.count ++ ev4 4)

/-- Entry to DORMANT: the capture ends and the contents are lost (R206). -/
def Dev.traceLose (d : Dev) : Dev := d.onTrc fun _ => {}

/-- `TRC_START`: the index of the oldest record. -/
def Dev.trcStart (d : Dev) : Nat := (d.trc.next + d.trcDepth - d.trc.count) % d.trcDepth

end Sys2Proof.Machine
end

