-- ==== Sys2Proof/Machine/RegRead.lean ====
section
/-! DEFINITION. What each register word reads as: stored words, staged values, and the words that restate the state of a
unit (the register tables of spec/; R7, R275, R398–R402). -/
namespace Sys2Proof.Machine

/-- The unit that word `k` of register `r` belongs to is present on the variant (R2, R181, R208). -/
def Dev.regPresent (d : Dev) (r : RegId) (k : Nat) : Bool :=
  let b := r.info.base
  let u := k / r.info.subs
  if 0x100000 ≤ b then decide (u < d.laneCount)
  else if 0x21000 ≤ b ∧ b < 0x22000 then decide (u < d.laneCount)
  else if 0x20000 ≤ b ∧ b < 0x21000 then decide (u < d.groupCount)
  else if 0x40000 ≤ b ∧ b < 0x42000 then decide (u < d.pinCount)
  else if 0x30000 ≤ b ∧ b < 0x30200 then decide (u < d.clusterCount)
  else if r = .frmLateCnt ∨ r = .hpInStat then decide (k < d.laneCount)
  else true

/-- A staged write of one of the listed registers of unit `u` is held: `CFG_HELD`. -/
def Dev.unitHeld (d : Dev) (rs : List RegId) (u : Nat) : Bool := d.isHeld fun i k => rs.contains i && k / i.info.subs = u

/-- The mask of lanes `32w` to `32w+31` for which `f` holds. -/
def laneMask (f : Nat → Bool) (w : Nat) : Word := bits ((List.range 32).map fun i => (i, f (32 * w + i)))

/-- The word `k` of a 64-bit value. -/
def half (v k : Nat) : Word := BitVec.ofNat 32 (v / 2 ^ (32 * (k % 2)))

/-- The word of a published `LANE_STAT`: lane `n` at the last output junction is present and `f` holds of it. -/
def Dev.statMask (d : Dev) (f : Word → Bool) (w : Nat) : Word :=
  laneMask (fun n => decide (n < d.laneCount) && f (d.reg .laneStat n)) w

/-- The standstill window is in force on the velocity that the lane reports: a resolver's, not on its detour (R78, R79). -/
def Dev.stillShown (d : Dev) (n : Nat) : Bool :=
  let k := (d.lane n).trk
  k.still && k.tracking && !k.detour && (d.stepFb n).isNone

/-- `TRK_STAT` without its W1C bit (R89). -/
def Dev.trkStatRo (d : Dev) (n : Nat) : Word :=
  let k := (d.lane n).trk
  at_ 4 k.lockCause ||| bits
    [(6, k.referenced), (7, d.stillShown n), (8, decide (d.carrier (groupOf n) / 8 < mkRat k.om.natAbs (2 ^ 24))),
     (9, k.reacq ≠ .idle), (10, d.detAvail n), (11, k.detFail),
     (12, d.unitHeld [.trkCtrl, .trkZero, .detCtrl, .detScale] n)]

/-- `MAP_STAT` without its W1C bits (R101–R114). -/
def Dev.mapStatRo (d : Dev) (n : Nat) : Word :=
  let m := (d.lane n).map
  at_ 16 (d.fadeShown n) ||| at_ 6 m.source ||| at_ 4 m.failCause ||| at_ 0 m.stateCode |||
    bits [(9, m.singleBand), (8, decide (1 < d.poles n) && !(d.lane n).trk.referenced)]

/-- `PIN_STAT` without its W1C bits (R143). -/
def Dev.pinStatRo (d : Dev) (i : Nat) : Word :=
  let p := d.pin i
  bits [(14, d.unitHeld [.pinCtrl, .pinCpt, .serFmt] i), (13, p.alignPend), (12, d.pinMode i = 4 && p.a),
        (9, p.refNeg.isSome), (8, p.refPos.isSome), (5, p.still), (4, p.bound), (3, p.neg), (2, p.lost),
        (1, p.wireA || p.wireB || p.wireZ), (0, d.pinValid i)]

/-- `EMU_STAT` without its W1C bits (R161). -/
def Dev.emuStatRo (d : Dev) (o : Nat) : Word :=
  let x := d.emu o
  bits [(7, d.unitHeld [.emuCtrl, .emuRes] o), (6, x.hiz), (5, x.een), (2, x.noSrc), (1, x.stall), (0, x.ovr)]

/-- A COEF_SWAP of lane `n` is accepted and awaits its junction, or is held there (R197). -/
def Dev.swapPend (d : Dev) (n : Nat) (held : Bool) : Bool :=
  d.staged.any fun s => !s.inGroup && (s.held || !held) && match s.act with
    | .coefSwap m _ => m = n
    | _ => false

/-- Timed commands of lane `n` that are held (R230). -/
def Dev.timedCount (d : Dev) (n : Nat) : Nat :=
  (d.staged.filter fun s => match s.act with
    | .prf m _ _ (some _) => m = n
    | _ => false).length

/-- Timed VMASTER commands of the device that are held (R230). -/
def Dev.timedVm (d : Dev) : Nat :=
  (d.staged.filter fun s => match s.act with
    | .vm _ _ (some _) => true
    | _ => false).length

/-- `PRF_STAT` without its W1C bits (R232). -/
def Dev.prfStatRo (d : Dev) (n : Nat) : Word :=
  let p := (d.lane n).prf
  at_ 0 p.gen.mode ||| bits [(8, p.gen.mstLost), (7, p.gen.baseDef || p.gen.supDef), (6, !p.gen.supRest d.time.t0),
    (5, p.beyond || p.supBeyond), (4, p.inpos)]

/-- `PFE_STAT` without its W1C bits (R254). -/
def Dev.pfeStatRo (d : Dev) (c : Nat) : Word :=
  let y := d.ch c
  at_ 12 y.gain ||| bits
    [(10, d.unitHeld [.pfeCtrl, .pfeXpt, .pfeExc, .pfeTest, .pfeLeadR, .pfeDrift, .pfePair, .pfePairWin, .pfeCoef] c),
     (8, y.settle ≠ 0 || y.leadWait), (7, y.tempHeld), (6, y.resetStep), (5, y.rangeStep), (4, y.pairDis), (3, y.excFault),
     (2, y.overRange), (1, y.openWire), (0, y.cur.valid)]

/-- SS1 of lane `n` runs, by its container or an SI pair of its group (R306, R313). -/
def Dev.ss1Runs (d : Dev) (n : Nat) : Bool :=
  (d.safLane n).ss1T.isSome || (List.range 2).any fun i => (d.siPair i).ss1T.isSome && (d.siGroups i).contains (groupOf n)

/-- Word 0 of the lane safety view (R329). -/
def Dev.safViewWord (d : Dev) (n : Nat) : Word :=
  let x := d.safLane n
  at_ 28 ((d.connOf n).getD 15) ||| at_ 24 x.sls ||| bits
    [(15, x.armed.isSome), (14, x.xFail), (13, x.inv), (12, x.viol), (11, x.sdi && x.sdiPos), (10, d.fnActive n 2), (9, d.fnActive n 1),
     (8, d.fnActive n 0), (7, d.ss1Runs n), (6, d.stoReq n), (5, x.permit)]

/-- The version word of slot `s`. -/
def Dev.slotVersion (d : Dev) (s : Nat) : Word × Nat := d.hlt.slotVer.getD s (0, 0)

/-- `FW_STAT` (R377). -/
def Dev.fwStatWord (d : Dev) : Word :=
  let h := d.hlt
  let left := match h.probation with
    | some e => (e - d.now + unitsPerSec - 1) / unitsPerSec
    | none => 0
  let st (i : Nat) : Nat := (h.regions.getD i {}).st
  at_ 24 left ||| at_ 12 (st 2) ||| at_ 8 (st 1) ||| at_ 4 (st 0) ||| at_ 2 h.recSlot ||| at_ 0 h.runSlot

/-- The RO bits of a word that the state of a unit gives; none: they stand in `regs` (R7). -/
def Dev.roWord (d : Dev) (r : RegId) (k : Nat) : Option Word :=
  match r with
  | .laneCtrl => some (at_ 28 (d.lane k).reqResult)
  | .timeNow => some (half d.now k)
  | .timeStat =>
    let t := d.time
    some (bits [(6, t.slewing), (4, t.slewing), (3, t.holdover), (2, t.locked), (1, t.src = 1 && t.asCapable), (0, t.srcValid)])
  | .frmSeq => some (BitVec.ofNat 32 d.frmSeq)
  | .frmT0 => some (half d.time.t0 k)
  | .frmLateCnt => some (at_ 16 (d.lane k).lateRun)
  | .excStat =>
    let g := d.group k
    some ((d.reg .excStat k &&& 0xFFFF0000) ||| bits
      [(4, d.unitHeld [.excCtrl, .excFreq, .excAmp, .excIxs] k), (3, g.short), (2, g.isOpen), (1, g.gen = .ramping),
       (0, g.gen = .running)])
  | .acqStat =>
    let a := (d.lane k).acq
    some (at_ 4 (d.losCause k) ||| bitAt 3 a.coast ||| at_ 0 a.range)
  -- PHI is rounded down (DESIGN CHOICE, log 138)
  | .acqPhase => let a := (d.lane k).acq; some (at_ 16 a.quad ||| BitVec.ofNat 32 (unsigned 16 (a.phi / 65536)))
  | .acqAmp => let a := (d.lane k).acq; some (at_ 16 a.ratio ||| BitVec.ofNat 32 (min 65535 (a.mag / 256)))
  | .trkStat => some (d.trkStatRo k)
  | .trkErr => some (wordOfInt (d.lane k).trk.d)
  | .trkRaw => some (BitVec.ofNat 32 (d.lane k).trk.raw)
  | .detOfs => some (half (unsigned 64 ((d.lane (k / 2)).trk.detOfs.getD 0)) k)
  | .mapStat => some (d.mapStatRo k)
  | .mapResid => some (d.lane k).map.resid
  | .pinStat => some (d.pinStatRo k)
  | .mlsStat => let u := d.mlsUnit k; some (at_ 16 u.seq ||| bitAt 8 u.armed ||| at_ 0 u.fifo.length)
  | .mlsHead => match (d.mlsUnit (k / 8)).fifo.head? with
    | some x => some (wordAt x.bytes (4 * (k % 8)))
    | none => some 0
  | .emuStat => some (d.emuStatRo k)
  | .emuDev => some (wordOfInt (satInt 32 (d.emu k).dev))
  | .loopStat => some (d.loopStatRo k)
  | .loopCost => match d.reservation k with
    | some s => some (at_ 24 s.trmCost ||| at_ 16 s.posCost ||| at_ 0 s.baseCost)
    | none => some 0
  | .feCnt => some (BitVec.ofNat 32 (d.loop k).run.feCnt)
  | .admBudget => some (BitVec.ofNat 32 (budget d.outdl))
  | .admBase => some (BitVec.ofNat 32 (240 + ((d.reserved k none).map (·.baseCost)).foldl (· + ·) 0))
  | .admWorst => let (s, l) := worstSlot (d.reserved k none); some (at_ 28 s ||| at_ 0 l)
  | .coefStat =>
    let x := d.loop k
    some (bits [(4, d.swapPend k true), (3, d.swapPend k false), (2, x.stagedWr), (0, x.live = 1)])
  | .engOvf => some (bitAt 0 (d.clusters.getD k {}).stOk)
  | .trcStat => some (bitAt 4 d.trc.preShort ||| at_ 0 d.trc.st)
  | .trcGeom => some (at_ 24 d.trcRlen ||| at_ 0 d.trcDepth)
  | .trcStart => some (BitVec.ofNat 32 d.trcStart)
  | .trcCount => some (BitVec.ofNat 32 d.trc.count)
  | .trcTrigIdx => some (BitVec.ofNat 32 d.trc.trigIdx)
  | .trcTrigSeq => some (BitVec.ofNat 32 d.trc.trigSeq)
  | .prfQueue => some (at_ 16 (d.gen k).wps.length ||| at_ 0 (d.timedCount k))
  | .gearSrc => match (d.gen k).gear with
    | some g => some (at_ 8 g.kind ||| at_ 0 g.idx)
    | none => some 0
  | .gearNum => match (d.gen k).gear with
    | some g => some (wordOfInt g.num)
    | none => some 0
  | .gearDen => match (d.gen k).gear with
    | some g => some (BitVec.ofNat 32 g.den)
    | none => some 0
  | .prfStat => some (d.prfStatRo k)
  | .vmPos => some (half (unsigned 64 (d.vms.getD (k / 2) {}).p) k)
  | .vmVel => some (toF32 (d.vms.getD k {}).v)
  | .vmAcc => some (toF32 (d.vms.getD k {}).a)
  | .vmTgt => some (d.vms.getD k {}).vt
  | .vmAccLim => some (d.vms.getD k {}).al
  | .vmDecLim => some (d.vms.getD k {}).dl
  | .vmJerkLim => some (d.vms.getD k {}).jl
  | .vmStat => some (bitAt 8 (!(d.vms.getD k {}).plan.done d.time.t0) ||| at_ 0 (d.vmFollowers k))
  | .pfeStat => some (d.pfeStatRo k)
  | .pfeValue => some (d.ch k).cur.val
  | .pfeT => some (half (d.ch (k / 2)).cur.t k)
  | .pfeRaw => some (d.ch k).x
  | .pfeTin => some (d.ch k).tin
  | .pfeDieT => some d.hlt.dieT
  | .pfeCarry => some (toF32 (d.ch k).carry)
  | .hpCtrl => some (at_ 0 (d.fld .hpCtrl k 0 2))
  | .hpStat => some (at_ 2 (d.portGen k) ||| bits
      [(6, d.hlt.pause.isSome), (5, d.leads k), (4, (d.port k).bg.isSome), (0, k = 4 || (d.port k).link)])
  | .hpMac => some (if k / 2 = 4 then 0 else wordAt (macBytes (k / 2) ++ zeros 2) (4 * (k % 2)))
  | .hpTxTime => some (BitVec.ofNat 32 (d.txTime k))
  | .hpInStat => let l := d.lane k; some (bitAt 8 l.inLost ||| at_ 0 (min 255 l.inAge))
  | .safView => some (d.safViewWord k)
  | .wPos => some (half (unsigned 64 (d.safLane (k / 2)).pos) k)
  | .wVel => some (d.safLane k).vel
  | .wMag => let x := d.safLane k; some (at_ 16 x.mag ||| at_ 0 x.theta)
  | .xcmpDev => some (d.safLane k).xDev
  | .safStat => some (at_ 20 d.crit.soLatch.toNat ||| at_ 8 (groupBits d.soOn) ||| at_ 4 d.siDiscBits ||| at_ 0 d.siLevels |||
      bits [(7, d.saf.params.isSome), (6, d.crit.devLatch)])
  | .soFb => some (BitVec.ofNat 32 (groupBits d.soFb))
  | .paramCrc => some (match d.saf.params with | some p => BitVec.ofNat 32 p.crc | none => 0)
  | .devCause => some (BitVec.ofNat 32 (d.saf.causes.headD 0))
  | .connState => some (BitVec.ofNat 32 (d.conn k).st.code)
  | .connSeq => let x := d.conn k; some (at_ 16 x.seqOut ||| at_ 0 x.seqIn)
  | .pwrStat => some (at_ 0 d.pwr.st.code ||| bits
      [(12, d.pwr.detached), (11, d.pwr.pfailLow), (10, d.pwr.presentLow), (8, d.pwr.settling)])
  | .pwrCause => some (at_ 8 d.pwr.wake ||| at_ 0 d.pwr.lastCause)
  | .dbgStat => some (at_ 0 d.pwr.dbg.code ||| bits [(5, d.pwr.extest), (4, d.pwr.nonce.isSome)])
  | .hltStat => some (bits [(7, d.hlt.eolWarn), (5, d.hlt.probation.isSome), (2, d.bbx.commit.isSome), (1, d.bbx.running.isSome)])
  | .odoHours => some (BitVec.ofNat 32 d.hlt.odo.hours)
  | .odoTherm => some (toF32 d.hlt.odo.therm)
  | .odoCyc => some (toF32 d.hlt.odo.cyc)
  | .odoRodeg => some (wordOfInt d.hlt.odo.roDeg)
  | .odoMram => some (BitVec.ofNat 32 (d.hlt.odo.mram.getD k 0))
  | .odoExc => some (BitVec.ofNat 32 (floorRat (d.hlt.odo.exc.getD k 0)).toNat)
  | .odoEcc => some (BitVec.ofNat 32 (satNat 32 (d.hlt.odo.ecc.getD k 0)))
  | .bbxStat => some (BitVec.ofNat 32 d.bbx.nextSeq)
  | .bbxRec => some (match d.bbx.commit with | some c => at_ 28 c.kind ||| at_ 0 c.newest | none => 0)
  | .bbxT => some (match d.bbx.commit with | some c => half c.t k | none => 0)
  | .fwStat => some d.fwStatWord
  | .fwVer => some (d.slotVersion k).1
  | .fwSec => some (at_ 16 (d.slotVersion 1).2 ||| at_ 0 (d.slotVersion 0).2)
  | .devId => some (0x96004200 ||| at_ 0 d.variant)
  | .devSerial => some (Config.serial k)
  | .devFw => some d.fwVersion
  | .devGens => let m (g : Nat) : Nat := (Config.minorKnown d.fwVersion g).toNat
                some (0x07000000 ||| at_ 16 (m 3) ||| at_ 8 (m 2) ||| at_ 0 (m 1))
  | .devLanes => some (laneMask (fun n => decide (n < d.laneCount)) k)
  | .devRun => some (d.statMask (fun w => field w 0 3 = 3) k)
  | .devFault => some (d.statMask (fun w => field w 0 3 = 4) k)
  | .devBarrier => some (d.statMask (fun w => bit w 3) k)
  | _ => none

/-- Word `k` of register `r` as port `p` reads it at this instant: SW bits read as staged (R7), WO bits as zero. -/
def Dev.readReg (d : Dev) (p : Nat) (r : RegId) (k : Nat) : Word :=
  let i := r.info
  if !d.regPresent r k then 0
  else
    let w := d.stagedReg p r k
    let kept := (w &&& i.sw) ||| (d.reg r k &&& (i.rw ||| i.rc ||| i.w1c))
    match d.roWord r k with
    | some ro => kept ||| (ro &&& ~~~(i.sw ||| i.rw ||| i.rc ||| i.w1c ||| i.wo))
    | none =>
      if r = .frmOutdl ∧ bit w 31 then 0x80000000 ||| BitVec.ofNat 32 d.outdl
      else kept ||| (d.reg r k &&& ~~~(i.sw ||| i.rw ||| i.rc ||| i.w1c ||| i.wo))

/-- The word at address `a`, read live (R398). -/
def Dev.readLive (d : Dev) (p a : Nat) : Word :=
  match targetOf a with
  | .reg r k => d.readReg p r k
  | .trace o => wordAt (memReads d.trc.mem o 4) 0
  | .hole | .outside => 0

/-- A read by REG_RD clears the RC bits of the word; what an event of the same cycle added stays for the next read (R7, R280). -/
def Dev.clearRc (d : Dev) (a : Nat) : Dev :=
  match targetOf a with
  | .reg r k => if r.info.rc = 0 then d else
      d.setReg r k ((d.reg r k &&& ~~~r.info.rc) ||| (d.freshWord r k &&& r.info.rc))
  | _ => d

/-- What such a read gives: a count without the events of the same cycle, which the next read gives (R7). The largest values of
`HP_QMAX` are given with them. -/
def Dev.readRc (d : Dev) (p a : Nat) : Word :=
  match targetOf a with
  | .reg r k => if r = .hpQmax then d.readLive p a else d.readLive p a - (d.freshWord r k &&& r.info.rc)
  | _ => d.readLive p a

/-- The word at `a` belongs to a group, input, milestone unit or lane that the variant lacks, and not to a lane block: a command
that addresses it is answered RANGE (R2, R139). -/
def Dev.absentAt (d : Dev) (a : Nat) : Bool :=
  match targetOf a with
  | .reg r k => !d.regPresent r k && decide (a < 0x100000) && !(decide (0x30000 ≤ a) && decide (a < 0x30200))
  | _ => false

/-- Read the word at `a` for port `p`: the lowest word of a coherent group captures the group, its other words come from the
capture (R401). -/
def Dev.readWord (d : Dev) (p a : Nat) : Word × Dev :=
  match groupAt a with
  | some n =>
    let ws := (List.range n).map fun i => d.readLive p (a + 4 * i)
    (ws.headD 0, d.onPort p fun x => { x with capture := some (a, ws) })
  | none =>
    let live := (d.readRc p a, d.clearRc a)
    match (d.port p).capture with
    | some (b, ws) => if b < a ∧ a < b + 4 * ws.length then (ws.getD ((a - b) / 4) 0, d) else live
    | none => live

/-- Read `n` words from `a` on, in ascending order (R271). -/
def Dev.readWords (d : Dev) (p a : Nat) : Nat → List Word × Dev
  | 0 => ([], d)
  | n + 1 => let (w, d) := d.readWord p a
             let (ws, d) := d.readWords p (a + 4) n
             (w :: ws, d)

/-- The device as it stood at the last output junction, for the RO words that LANE_READ gives (R275). -/
def Dev.shadowed (d : Dev) : Dev :=
  match d.ro with
  | some s => { d with regs := s.regs, lanes := s.lanes, staged := s.staged, saf := s.saf }
  | none => d

/-- A word with no field that a host writes or clears. -/
def RegId.allRo (r : RegId) : Bool := let i := r.info; (i.rw ||| i.sw ||| i.rc ||| i.w1c ||| i.wo) = 0

/-- The word at lane-block offset `o` of lane `n` as LANE_READ gives it (R275). -/
def Dev.laneReadWord (d : Dev) (p n o : Nat) : Word :=
  match targetOf (0x100000 + 0x400 * n + o) with
  | .reg r k => if r.allRo then d.shadowed.readReg p r k else d.readReg p r k
  | _ => 0

end Sys2Proof.Machine
end

