-- ==== Sys2Proof/Machine/RegWrite.lean ====
section
/-! DEFINITION. Writes of register words: who may write, the checks of a write, staging, and what a write of a word does at
once (R7, R12, R45, R50, R67, R139, R160, R206, R251, R272, R278, R287, R377, R402). -/
namespace Sys2Proof.Machine

/-- Port `p` may write word `k` of register `r` (R278 and the writers that the owning chapters name). -/
def Dev.mayWrite (d : Dev) (p : Nat) (r : RegId) (k : Nat) : Bool :=
  let b := r.info.base
  let u := k / r.info.subs
  if 0x100000 ≤ b ∨ (0x21000 ≤ b ∧ b < 0x22000) then d.owns p u
  else if 0x20000 ≤ b ∧ b < 0x21000 then d.leads p || (lanesOfGroup u).all (d.owns p)
  else if r = .pinAssign ∨ r = .mlsAssign ∨ r = .emuLane ∨ r = .pfeLane then d.leads p
  else if 0x40000 ≤ b ∧ b < 0x41000 then d.ownsUnit p (d.fld .pinAssign u 0 7)
  else if 0x41000 ≤ b ∧ b < 0x42000 then d.ownsUnit p (d.fld .mlsAssign u 0 7)
  else if 0x50000 ≤ b ∧ b < 0x60000 then d.ownsUnit p (d.fld .emuLane u 0 7)
  else if 0x60000 ≤ b ∧ b < 0x60800 then d.ownsUnit p (d.fld .pfeLane u 0 7)
  else if 0x90000 ≤ b ∧ b < 0xA0000 then r ≠ .hltStat || d.leads p
  else d.leads p

/-- Port `p` may write the word at address `a`; a write to the block of an absent lane is discarded, whoever sends it (R2). -/
def Dev.mayWriteAt (d : Dev) (p a : Nat) : Bool :=
  if 0x100000 ≤ a ∧ a < 0x118000 ∧ d.laneCount ≤ (a - 0x100000) / 0x400 then true
  else match targetOf a with
  | .reg r k => d.mayWrite p r k
  | .hole =>
    if 0x100000 ≤ a ∧ a < 0x118000 then d.owns p ((a - 0x100000) / 0x400)
    else (0x90000 ≤ a && a < 0xA0000) || d.leads p
  | .trace _ => d.leads p
  | .outside => false

/-- The checks of one word of a write, in the order of R272; 0 when it passes. -/
def Dev.wordCheck (d : Dev) (p a : Nat) : Nat :=
  if targetOf a = .outside ∨ d.absentAt a then stRange
  else if 0xA0000 ≤ a ∧ a < 0xB0000 then stLocked
  else if (0x80000 ≤ a ∧ a < 0x90000) ∨ (0x100000 ≤ a ∧ a < 0x118000 ∧ 0x300 ≤ (a - 0x100000) % 0x400) then stSafetyHeld
  else if !d.mayWriteAt p a then stNotOwner
  else stOk

/-- The first status that is not OK. -/
def firstFail : List Nat → Nat
  | [] => stOk
  | s :: rest => if s = stOk then firstFail rest else s

/-- The register is a trace setting (R205, R206). -/
def RegId.traceSetting (r : RegId) : Bool :=
  r = .trcCtrl || r = .trcCh || r = .trcPre || r = .trcTrig || r = .trcTrigVal

/-- The register is a trace register: a write is answered BUSY while a trace records (R205, R208). -/
def RegId.traceReg (r : RegId) : Bool :=
  r.traceSetting || r = .trcStat || r = .trcGeom || r = .trcStart || r = .trcCount || r = .trcTrigIdx || r = .trcTrigSeq

/-- The checks that the owning chapters make of a value written at once: `TIME_SET` (R45), the lead port's own `EN` (R287), an
assigned lane that is absent (R2), trace registers while a trace records (R205). -/
def Dev.valueCheck (d : Dev) (a : Nat) (v : Word) : Nat :=
  match targetOf a with
  | .reg r k =>
    let lane := field v 0 7
    if r = .timeSet ∧ d.timeSetRefused then stState
    else if r = .hpCtrl ∧ k = d.leadPort ∧ !bit v 4 then stState
    else if (r = .pinAssign ∨ r = .mlsAssign ∨ r = .emuLane ∨ r = .pfeLane) ∧ lane ≠ 127 ∧ d.laneCount ≤ lane then stRange
    else if r.traceReg ∧ d.trc.recording then stBusy
    else stOk
  | _ => stOk

/-- A write of the RW, W1C and WO bits of a word takes effect now; a W1C bit that an event of this core cycle set stays set
(R7). -/
def Dev.writeNow (d : Dev) (r : RegId) (k : Nat) (v : Word) : Dev :=
  let i := r.info
  let old := d.reg r k
  let e := d.setReg r k ((old &&& ~~~i.rw &&& ~~~(v &&& i.w1c)) ||| (v &&& i.rw) ||| (d.freshWord r k &&& i.w1c))
  match r with
  | .timeSet =>
    if k % 2 = 0 then d.onTime fun t => { t with setLow := v }
    else d.armTimeSet (d.time.setLow.toNat + v.toNat * 2 ^ 32)
  | .mlsPop =>
    let d := if bit v 0 then d.mlsPop k else d
    if bit v 1 then d.mlsFlush k else d
  | .mlsAssign => e.onMls k fun u => { u with prevPos := none }
  | .emuLane => ((e.onEmu k fun x => { x with on := false }).emuRealign k).emuRefresh k
  | .hpCtrl => (if bit v 4 || k = 4 then e else e.linkLose k).asCheck
  | .timeCtrl => e.asCheck
  | _ => e

/-- Write one word of port `p`: an SW word is staged, another takes effect at once or, in an open group, with the group. -/
def Dev.writeOne (d : Dev) (p : Nat) (inGroup : Bool) (r : RegId) (k : Nat) (v : Word) : Dev :=
  if !d.regPresent r k then d
  else if r.info.sw ≠ 0 then d.stage p inGroup (.reg r k (v &&& r.info.sw))
  else if inGroup then d.stage p true (.write r k v)
  else d.writeNow r k v

/-- Write word `k` of register `r`: the lower words of a multi-word value are held for the port until its highest word is
written (R402). -/
def Dev.writeReg (d : Dev) (p : Nat) (inGroup : Bool) (r : RegId) (k : Nat) (v : Word) : Dev :=
  let n := r.valueWords
  if n = 1 then d.writeOne p inGroup r k v
  else if k % n + 1 < n then
    d.onPort p fun x => { x with lowHeld := x.lowHeld.filter (fun c => !(c.id = r && c.idx = k)) ++ [⟨r, k, v⟩] }
  else
    let base := k - (n - 1)
    let held := (d.port p).lowHeld
    let mine (c : RegCell) : Bool := c.id = r && base ≤ c.idx && c.idx < k
    let d := (held.filter mine).foldl (fun d c => d.writeOne p inGroup r c.idx c.val) d
    let d := d.onPort p fun x => { x with lowHeld := x.lowHeld.filter fun c => !mine c }
    d.writeOne p inGroup r k v

/-- Write the word at address `a`. -/
def Dev.writeAt (d : Dev) (p : Nat) (inGroup : Bool) (a : Nat) (v : Word) : Dev :=
  match targetOf a with
  | .reg r k => d.writeReg p inGroup r k v
  | _ => d

/-- The word at address `a` has an SW field. -/
def hasSw (a : Nat) : Bool :=
  match targetOf a with
  | .reg r _ => r.info.sw ≠ 0
  | _ => false

/-- Write words from address `a` on (R272): the first failing check, or the words written in ascending order. -/
def Dev.writeWords (d : Dev) (p : Nat) (inGroup : Bool) (a : Nat) (ws : List Word) : Nat × Dev :=
  let as := (List.range ws.length).map fun i => a + 4 * i
  let st := firstFail (as.map (d.wordCheck p))
  let st := if st ≠ stOk then st else firstFail ((as.zip ws).map fun x => d.valueCheck x.1 x.2)
  if st ≠ stOk then (st, d)
  else
    let trc := as.any fun b => match targetOf b with
      | .reg r _ => r.traceSetting
      | _ => false
    let e := (as.zip ws).foldl (fun d x => d.writeAt p inGroup x.1 x.2) d
    if trc && !e.trcCfgOk then (stRange, d)
    else (if as.any hasSw then stStaged else stOk, e)

end Sys2Proof.Machine
end

