-- ==== Sys2Proof/Machine/OpDevice.lean ====
section
/-! DEFINITION. The opcodes of groups 0x00 and 0x01: device, registers, lanes (R175, R178, R269–R276). A handler gives the
answer of step 11 of Table 12-4 and the device; `g` says that the request belongs to an open group. -/
namespace Sys2Proof.Machine
open Sys2Proof

/-- Bytes `o` to `o + n − 1` of a payload are zero (R404). -/
def zeroAt (b : List Byte) (o n : Nat) : Bool := (slice b o n).all (· = 0)

/-- IDENTIFY (R269). -/
def Dev.opIdentify (d : Dev) (r : Request) (_ : Bool) : Served :=
  if r.payload ≠ [] then d.answer stBadLength
  else
    let m (g : Nat) : Byte := Config.minorKnown d.fwVersion g
    let slot := if d.pwr.recovery then 0xFF else d.hlt.runSlot
    d.answer stOk <|
      leBytes 2 0x9600 ++ [BitVec.ofNat 8 d.variant, 0x42, 7, BitVec.ofNat 8 r.port, m 1, m 2, m 3, BitVec.ofNat 8 d.leadPort] ++
      (wordBytes d.fwVersion).reverse ++ [BitVec.ofNat 8 slot, BitVec.ofNat 8 (b2n d.crit.sealed)] ++
      leBytes 2 (d.fld .protStat 0 16 16) ++ wordBytes (Config.serial 0) ++ wordBytes (Config.serial 1) ++
      macBytes 0 ++ zeros 2 ++
      (List.range 48).map fun i => BitVec.ofNat 8 (d.owner (2 * i) + 16 * d.owner (2 * i + 1))

/-- PING (R270); a payload beyond its limit is answered RANGE (R264). -/
def Dev.opPing (d : Dev) (r : Request) (_ : Bool) : Served :=
  if r.payload.length > payloadLimit r.gen - 4 then d.answer stRange else d.answer stOk (zeros 2 ++ r.payload)

/-- The head of REG_RD and REG_WR is out of range (R271, R404). -/
def badHead (b : List Byte) (most : Nat) : Bool :=
  u32At b 0 % 4 ≠ 0 || u16At b 4 = 0 || decide (most < u16At b 4) || !zeroAt b 6 2

/-- REG_RD (R271). -/
def Dev.opRegRd (d : Dev) (r : Request) (_ : Bool) : Served :=
  let b := r.payload
  let n := u16At b 4
  if b.length ≠ 8 then d.answer stBadLength
  else if badHead b (readMax r.gen) then d.answer stRange
  else if (List.range n).any fun i => targetOf (u32At b 0 + 4 * i) = .outside || d.absentAt (u32At b 0 + 4 * i) then
    d.answer stRange
  else
    let (ws, d) := d.readWords r.port (u32At b 0) n
    d.answer stOk (leBytes 2 n ++ ws.flatMap wordBytes)

/-- The words of a payload from byte `o` on. -/
def wordsAt (b : List Byte) (o n : Nat) : List Word := (List.range n).map fun i => wordAt b (o + 4 * i)

/-- REG_WR (R272). -/
def Dev.opRegWr (d : Dev) (r : Request) (g : Bool) : Served :=
  let b := r.payload
  let n := u16At b 4
  if b.length < 8 then d.answer stBadLength
  else if badHead b (writeMax r.gen) then d.answer stRange
  else if b.length ≠ 8 + 4 * n then d.answer stBadLength
  else
    let (st, e) := d.writeWords r.port g (u32At b 0) (wordsAt b 8 n)
    if st = stOk ∨ st = stStaged then e.answer st (leBytes 2 n) else d.answer st

/-- The old value of REG_RMW: the staged value of an SW register, also where a read gives the value in force (R273). -/
def Dev.rmwOld (d : Dev) (p a : Nat) : Word :=
  match targetOf a with
  | .reg .frmOutdl k => d.stagedReg p .frmOutdl k
  | _ => d.readLive p a

/-- REG_RMW (R273). -/
def Dev.opRegRmw (d : Dev) (r : Request) (g : Bool) : Served :=
  let b := r.payload
  let a := u32At b 0
  if b.length ≠ 12 then d.answer stBadLength
  else if a % 4 ≠ 0 then d.answer stRange
  else
    let mask := wordAt b 4
    let old := d.rmwOld r.port a
    let ok : Word := match targetOf a with
      | .reg x _ => x.info.rw ||| x.info.sw
      | _ => 0
    let w1c : Word := match targetOf a with
      | .reg x _ => x.info.w1c
      | _ => 0
    let st := d.wordCheck r.port a
    if st ≠ stOk then d.answer st
    else if ok = 0 ∨ mask &&& ~~~ok ≠ 0 then d.answer stRange
    else
      let (st, e) := d.writeWords r.port g a [((old &&& ~~~mask) ||| (wordAt b 8 &&& mask)) &&& ~~~w1c]
      if st = stOk ∨ st = stStaged then e.answer st (zeros 2 ++ wordBytes old) else d.answer st

/-- The entries of LANE_STAGE: offset, two zero bytes, value. -/
def stageEntries (b : List Byte) (n : Nat) : List (Nat × Word) :=
  (List.range n).map fun i => (u16At b (4 + 8 * i), wordAt b (8 + 8 * i))

/-- An offset that LANE_STAGE accepts (R274). -/
def stageOffsetOk (o : Nat) : Bool := o % 4 = 0 && decide (4 ≤ o) && decide (o ≤ 0x27F) && hasSw (0x100000 + o)

/-- LANE_STAGE (R274). -/
def Dev.opLaneStage (d : Dev) (r : Request) (g : Bool) : Served :=
  let b := r.payload
  let n := u16At b 2
  if b = [] then d.answer stBadLength
  else if byteAt b 0 ≠ 1 then d.answer stBadGen
  else if b.length < 4 ∨ b.length ≠ 4 + 8 * n then d.answer stBadLength
  else if byteAt b 1 ≠ 0 ∨ n = 0 ∨ (if r.gen = 1 then 31 else 127) < n then d.answer stRange
  else if (List.range n).any (fun i => !zeroAt b (6 + 8 * i) 2) ∨ (stageEntries b n).any (fun e => !stageOffsetOk e.1) then
    d.answer stRange
  else ((stageEntries b n).foldl (fun d e => d.writeAt r.port g (0x100000 + 0x400 * r.lane + e.1) e.2) d).answer stStaged

/-- LANE_READ (R275). -/
def Dev.opLaneRead (d : Dev) (r : Request) (_ : Bool) : Served :=
  let b := r.payload
  let o := u16At b 0
  let n := u16At b 2
  if b.length ≠ 4 then d.answer stBadLength
  else if o % 4 ≠ 0 ∨ 0x400 ≤ o ∨ n = 0 ∨ (readMax r.gen - 1) < n ∨ 0x400 < o + 4 * n then d.answer stRange
  else
    let seq := match d.ro with
      | some s => s.seq
      | none => d.frmSeq
    d.answer stOk (leBytes 2 n ++ leBytes 4 seq ++ (List.range n).flatMap fun i => wordBytes (d.laneReadWord r.port r.lane (o + 4 * i)))

/-- The lanes that a lane selector names: one lane, or with 0xFFFF the lanes that the sender owns (R278). -/
def Dev.selected (d : Dev) (r : Request) : List Nat := if r.lane = 0xFFFF then d.ownedLanes r.port else [r.lane]

/-- LANE_PARK (R20, R276). -/
def Dev.opLanePark (d : Dev) (r : Request) (g : Bool) : Served :=
  if r.payload ≠ [] then d.answer stBadLength
  else (d.forEach (d.selected r) fun n d => d.stage r.port g (.park n)).answer stStaged

/-- LANE_COMMIT (R175, R178). -/
def Dev.opLaneCommit (d : Dev) (r : Request) (g : Bool) : Served :=
  let n := r.lane
  let s := d.stagedStruct r.port n
  if r.payload ≠ [] then d.answer stBadLength
  else if d.laneUp n then d.answer stState
  else if !s.ok then d.answer stRange
  else
    let (ok, k, load, b) := d.admission n s
    let data := admitReply (clusterOf n) k load b
    if ok then (d.stage r.port g (.laneCommit n s)).answer stStaged data
    else (d.logEvent 0x0424 kLane n (ev4 (clusterOf n) ++ ev4 k ++ ev4 load ++ ev4 b)).answer stAdmission data

/-- LANE_ADMIT (R175, R178). -/
def Dev.opLaneAdmit (d : Dev) (r : Request) (_ : Bool) : Served :=
  let n := r.lane
  let s := d.stagedStruct r.port n
  if r.payload ≠ [] then d.answer stBadLength
  else if !s.ok then d.answer stRange
  else
    let (ok, k, load, b) := d.admission n s
    d.answer (if ok then stOk else stAdmission) (admitReply (clusterOf n) k load b)

end Sys2Proof.Machine
end

