-- ==== Sys2Proof/Machine/OpMap.lean ====
section
/-! DEFINITION. The opcodes of group 0x03: angle-error maps (R105–R109). -/
namespace Sys2Proof.Machine
open Sys2Proof

/-- Start a background job for a request: its reply is given when it ends; a second job of the port is answered BUSY (R283). -/
def Dev.background (d : Dev) (r : Request) (op : Nat) (a : BgAct) : Served :=
  if (d.port r.port).bg.isSome then d.answer stBusy
  else (none, d.onPort r.port fun x => { x with bg := some ⟨{ op := op, arr := r.t, req := r }, a⟩ })

/-- The learning parameters that port `p` has staged for lane `n` allow a start (R106). -/
def Dev.learnParamsOk (d : Dev) (p n terms : Nat) : Bool :=
  let lo := f32 (d.stagedReg p .mapVmin n)
  let mid := f32 (d.stagedReg p .mapVsplit n)
  let hi := f32 (d.stagedReg p .mapVmax n)
  decide (0 < lo) && decide (lo < hi) && (mid = 0 || (decide (lo < mid) && decide (mid < hi))) && terms ≠ 0

/-- MAP_LEARN (R106). -/
def Dev.opMapLearn (d : Dev) (r : Request) (g : Bool) : Served :=
  let b := r.payload
  let (action, terms) := (byteAt b 0, byteAt b 1)
  let n := r.lane
  let st := (d.lane n).st
  if b.length ≠ 4 then d.answer stBadLength
  else if 3 < action ∨ 7 < terms ∨ !zeroAt b 2 2 then d.answer stRange
  else if (action = 1 ∨ action = 2) ∧ (d.lane n).map.learning then d.answer stBusy
  else if (action = 1 ∨ action = 2) ∧ (st = .off ∨ st = .fault) then d.answer stState
  else if (action = 1 ∨ action = 2) ∧ !d.learnParamsOk r.port n terms then d.answer stRange
  else (d.stage r.port g (.mapLearn n action terms)).answer stStaged

/-- MAP_STATUS (R107). -/
def Dev.opMapStatus (d : Dev) (r : Request) (_ : Bool) : Served :=
  let m := (d.lane r.lane).map
  if r.payload ≠ [] then d.answer stBadLength
  else d.answer stOk <|
    [BitVec.ofNat 8 m.stateCode, BitVec.ofNat 8 m.failCause] ++ wordBytes (d.reg .mapSeg r.lane) ++ leBytes 4 (satNat 32 m.discarded) ++ wordBytes m.resid ++
    leBytes 2 (d.fadeShown r.lane) ++ zeros 2 ++ leBytes 8 m.accepted ++ leBytes 8 m.rejected

/-- A payload of one control byte, alone or padded with three zeros. -/
def oneByte (b : List Byte) : Bool := b.length = 1 || b.length = 4

/-- MAP_SAVE (R108). -/
def Dev.opMapSave (d : Dev) (r : Request) (_ : Bool) : Served :=
  let b := r.payload
  if !oneByte b then d.answer stBadLength
  else if 1 < byteAt b 0 ∨ !zeroAt b 1 3 then d.answer stRange
  else d.background r 0x302 (.mapSave r.lane (byteAt b 0 = 1) (d.mapBlob r.lane))

/-- Check a blob and stage its load (R109). -/
def Dev.stageBlob (d : Dev) (port n source : Nat) (g : Bool) (blob : List Byte) : Resp × Dev :=
  match d.readBlob n blob with
  | .ok m => (⟨stStaged, []⟩, d.stage port g (.mapLoad n source m))
  | .error e => (⟨e, []⟩, d)

/-- MAP_LOAD (R109). -/
def Dev.opMapLoad (d : Dev) (r : Request) (g : Bool) : Served :=
  let b := r.payload
  if b = [] then d.answer stBadLength
  else if 1 < byteAt b 0 then d.answer stRange
  else if byteAt b 0 = 0 then
    if !oneByte b then d.answer stBadLength
    else if !zeroAt b 1 3 then d.answer stRange
    else d.background r 0x303 (.mapLoad r.lane)
  else if b.length ≠ 260 then d.answer stBadLength
  else if !zeroAt b 1 3 then d.answer stRange
  else
    let (a, e) := d.stageBlob r.port r.lane 2 g (b.drop 4)
    (some a, e)

end Sys2Proof.Machine
end

