-- ==== Sys2Proof/Machine/Pulse.lean ====
section
/-! DEFINITION. Pulse inputs: edges, counts, index checking, faults and validity, speed and acceleration, serial transfers,
PIN_ADJUST and configuration (R116–R134, R140). -/
namespace Sys2Proof.Machine

/-- The lanes on their detour through input `i` move their emulation outputs (R149). -/
def Dev.pinFollow (d : Dev) (i : Nat) : Dev :=
  d.forEach d.laneList fun n d =>
    let k := (d.lane n).trk
    if k.detour ∧ !k.detFail ∧ d.detSrc n = i then d.emuFollow n d.now false else d

/-- `CNT_LOST` sets: the input is invalid (R122). -/
def Dev.cntLost (d : Dev) (i : Nat) : Dev := (d.onPin i fun p => { p with lost := true }).pinValidity i

/-- One edge on a wire of a counting input: the plausibility limit of R120. -/
def Dev.edgeCheck (d : Dev) (i wire : Nat) (t : Time) (prev : Option Time) : Dev :=
  match prev with
  | none => d
  | some s =>
    if t < s + 20 * d.fld .pinEdge i 16 16 then
      let d := (d.setFlag .pinStat i 6).addCnt .pinErr i 16 16
      if ((d.pin i).fastLog.map fun l => decide (l + unitsPerSec ≤ t)).getD true then
        (d.onPin i fun p => { p with fastLog := some t }).logEvent 0x0603 kPulse i (ev4 wire ++ ev4 ((t - s) / 5))
      else d
    else d

/-- Move the count and the speed state by `x` counts (R140). -/
def PulseIn.shift (p : PulseIn) (x : Int) : PulseIn :=
  let e (q : PulseEdge) : PulseEdge := { q with count := q.count + x }
  { p with count := wrapInt 64 (p.count + x), edges := p.edges.map e, refEdge := p.refEdge.map e,
           lastEdge := p.lastEdge.map e, unused := p.unused.map e, transfers := p.transfers.map fun (t, c) => (t, c + x) }

/-- Count an edge: `neg` before `INV_DIR` (R116, R121); a count set at the very T0 of the stamp has absorbed it (R140). -/
def Dev.countEdge (d : Dev) (i : Nat) (t : Time) (neg : Bool) : Dev :=
  let neg := xor neg (d.regBit .pinCtrl i 9)
  let d := d.onPin i fun p =>
    let x : Int := if neg then -1 else 1
    let p := if p.setT = some t then p.shift (-x) else p
    let c := wrapInt 64 (p.count + x)
    { p with count := c, neg := neg, still := false, edges := ⟨t, c, neg⟩ :: p.edges, unused := ⟨t, c, neg⟩ :: p.unused }
  d.pinFollow i

/-- The place of the levels in the quadrature cycle: A leads B when counting up. -/
def quadPhase (a b : Bool) : Nat :=
  match a, b with
  | false, false => 0 | true, false => 1 | true, true => 2 | false, true => 3

/-- The count logic for one sample in which PA or PB changes (Table 6-1). -/
def Dev.countSample (d : Dev) (i : Nat) (t : Time) (a0 b0 a1 b1 : Bool) : Dev :=
  match d.pinMode i with
  | 1 =>
    match (quadPhase a1 b1 + 4 - quadPhase a0 b0) % 4 with
    | 1 => d.countEdge i t false
    | 3 => d.countEdge i t true
    | 2 => (d.logEvent 0x0602 kPulse i (ev8 (unsigned 64 (d.pin i).count))).cntLost i
    | _ => d
  | 2 => if a0 ≠ a1 ∧ (a1 ∨ d.regBit .pinCtrl i 10) then d.countEdge i t b1 else d
  | 3 =>
    match !a0 && a1, !b0 && b1 with
    | true, false => d.countEdge i t false
    | false, true => d.countEdge i t true
    | _, _ => d
  | _ => d

/-- `Z_MODE` = 2 in mode 1: PZ counts only with A and B high (R124). -/
def indexLevel (mode zMode : Nat) (a b z : Bool) : Bool := z && (!(zMode = 2 && mode = 1) || (a && b))

/-- A confirmed edge of mode 4 with its own stamp (R118, R120). -/
def Dev.switchEdge (d : Dev) (i : Nat) (x : Bounce) : Dev :=
  let d := d.onPin i fun p =>
    { p with bounce := p.bounce.filter (·.wire ≠ x.wire),
             a := if x.wire = 0 then x.level else p.a,
             b := if x.wire = 1 then x.level else p.b,
             z := if x.wire = 2 then x.level else p.z }
  d.mlsEdge i x.wire x.t x.level

/-- `MIN_EDGE` in units. -/
def Dev.minEdge (d : Dev) (i : Nat) : Nat := 20 * d.fld .pinEdge i 16 16

/-- SWITCH_DEBOUNCE: the new level of a wire has held for `MIN_EDGE` (R120). -/
def Dev.switchDebounce (d : Dev) (t : Time) (i wire : Nat) : Dev :=
  match (d.pin i).bounce.find? (·.wire = wire) with
  | some x => if d.pinMode i = 4 ∧ x.t + d.minEdge i ≤ t then d.switchEdge i x else d
  | none => d

/-- A level change in mode 4: it waits for its debounce; a level that reverts sooner is no edge (R120). -/
def Dev.switchLevel (d : Dev) (t : Time) (i wire : Nat) (level : Bool) : Dev :=
  let d := d.switchDebounce t i wire
  let p := d.pin i
  let cur := if wire = 0 then p.a else if wire = 1 then p.b else p.z
  if level = cur then d.onPin i fun p => { p with bounce := p.bounce.filter (·.wire ≠ wire) }
  else if p.bounce.any (·.wire = wire) then d
  else d.onPin i fun p => { p with bounce := ⟨wire, level, t⟩ :: p.bounce }

/-- A counting input judges the spacing of its edges, counts the new levels and notes an index event (R117, R118, R122, R124);
`p` is the input before the sample. -/
def Dev.countLevels (d : Dev) (t : Time) (i : Nat) (p : PulseIn) (a1 b1 z1 : Bool) : Dev :=
  let d := d.when (xor a1 p.a) fun d => d.edgeCheck i 0 t p.tA
  let d := d.when (xor b1 p.b) fun d => d.edgeCheck i 1 t p.tB
  let d := d.when (xor a1 p.a || xor b1 p.b) fun d => d.countSample i t p.a p.b a1 b1
  let zm := d.fld .pinCtrl i 7 2
  let m := d.pinMode i
  d.when (decide (zm ≠ 0) && indexLevel m zm a1 b1 z1 && !indexLevel m zm p.a p.b p.z) fun d =>
    d.onPin i fun q => { q with idxPend := some ⟨t, q.count, q.neg⟩ }

/-- The milestone units see the wires that changed (R137). -/
def Dev.mlsLevels (d : Dev) (t : Time) (i : Nat) (p : PulseIn) (a1 b1 z1 : Bool) : Dev :=
  let d := d.when (xor a1 p.a) fun d => d.mlsEdge i 0 t a1
  let d := d.when (xor b1 p.b) fun d => d.mlsEdge i 1 t b1
  d.when (xor z1 p.z) fun d => d.mlsEdge i 2 t z1

/-- What PB is on an input (R117): a receiver; the output of modes 5 and 6 idles high, and clocks in a transfer. -/
inductive PbPin where
  | receiver | high | clock
  deriving DecidableEq, Repr

/-- PB of input `i` (R117). -/
def Dev.pbPin (d : Dev) (i : Nat) : PbPin :=
  if !d.pinSerial i then .receiver else if (d.pin i).serStart.isSome then .clock else .high

/-- PULSE_EDGE: the levels that change in one 1.25 ns sample, whose stamp is a multiple of 5 units (R116–R120, R124). PB that is
an output takes no level from outside (R117). DESIGN CHOICE (log 132): an instant inside a sample takes the stamp of its begin.
DESIGN CHOICE (log 135): an edge stamped at or before T0 is queued before the tick of that T0. -/
def Dev.pulseEdge (d : Dev) (t : Time) (i : Nat) (a b z : Option Bool) : Dev :=
  let t := t / 5 * 5
  let b := if d.pbPin i = .receiver then b else none
  if d.pinMode i = 4 then
    let d := d.whenSome a fun l d => d.switchLevel t i 0 l
    let d := d.whenSome b fun l d => d.switchLevel t i 1 l
    d.whenSome z fun l d => d.switchLevel t i 2 l
  else
    let p := d.pin i
    let a1 := a.getD p.a
    let b1 := b.getD p.b
    let z1 := z.getD p.z
    let d := d.onPin i fun q =>
      { q with a := a1, b := b1, z := z1, tA := if xor a1 p.a then some t else q.tA, tB := if xor b1 p.b then some t else q.tB,
               tZ := if xor z1 p.z then some t else q.tZ }
    (d.when (d.pinCounts i) fun d => d.countLevels t i p a1 b1 z1).mlsLevels t i p a1 b1 z1

/-! ### Index (R124–R126, R140) -/

/-- The signed distance of a count from its reference, in counts (R126). -/
def indexDrift (c ref : Int) (cpt : Nat) : Int :=
  let r := (c - ref) % (cpt : Int)
  if (cpt : Int) ≤ 2 * r then r - cpt else r

/-- Record a drift for the log: an event where it differs from the last one logged (R126). -/
def Dev.driftEvent (d : Dev) (i code : Nat) (drift c : Int) : Dev :=
  if (d.pin i).driftLog = some drift then d
  else (d.onPin i fun p => { p with driftLog := some drift }).logEvent code kPulse i (evI drift ++ ev8 (unsigned 64 c))

/-- The check of an index in a direction that has a reference (R126). -/
def Dev.indexCheck (d : Dev) (i : Nat) (x : PulseEdge) (drift : Int) : Dev :=
  let d := d.setFld .pinZdrift i 0 16 (unsigned 16 (satInt 16 drift))
  if drift.natAbs ≤ d.fld .pinWin i 0 16 then
    let d := d.setFld .pinZdrift i 16 16 (max (d.fld .pinZdrift i 16 16) (satNat 16 drift.natAbs))
    d.driftEvent i 0x0605 drift x.count
  else ((d.setFlag .pinStat i 7).mlsSlip i x.t x.count drift).driftEvent i 0x0606 drift x.count

/-- A pending align action at an index in a direction with a reference (R140). -/
def Dev.indexAlign (d : Dev) (i : Nat) (drift : Int) : Dev :=
  if !(d.pin i).alignPend then d
  else
    let d := d.onPin i fun p => { p.shift (-drift) with alignPend := false, lost := false }
    let d := d.setReg .pinStat i (d.reg .pinStat i &&& ~~~bitAt 7 true)
    ((d.logEvent 0x0609 kPulse i (ev4 1 ++ ev8 (unsigned 64 (-drift)))).pinValidity i).pinFollow i

/-- INDEX_EVENT: the index that a sample has shown latches its count (R124–R126). -/
def Dev.indexEvent (d : Dev) (i : Nat) : Dev :=
  match (d.pin i).idxPend with
  | none => d
  | some x =>
    let d := d.onPin i fun p => { p with idxPend := none }
    match if x.neg then (d.pin i).refNeg else (d.pin i).refPos with
    | none =>
      let d := d.onPin i fun p => if x.neg then { p with refNeg := some x.count } else { p with refPos := some x.count }
      (d.logEvent 0x0604 kPulse i (ev4 (b2n x.neg) ++ ev8 (unsigned 64 x.count))).mlsIndex i x.t x.count 0
    | some r =>
      let drift := indexDrift x.count r (d.pinCpt i)
      ((d.mlsIndex i x.t x.count drift).indexCheck i x drift).indexAlign i drift

/-! ### Wire faults (R119, R122) -/

/-- The pair is in use (R119). -/
def Dev.pairUsed (d : Dev) (i pair : Nat) : Bool :=
  match pair with
  | 0 => 1 ≤ d.pinMode i && d.pinMode i ≤ 6
  | 1 => 1 ≤ d.pinMode i && d.pinMode i ≤ 4
  | 2 => d.fld .pinCtrl i 7 2 ≠ 0
  | _ => false

/-- The pair has a wire fault. -/
def PulseIn.wire (p : PulseIn) (pair : Nat) : Bool := if pair = 0 then p.wireA else if pair = 1 then p.wireB else p.wireZ

/-- WIRE_FAULT: both legs of a pair in use at one level for longer than `WIRE_T` (R119, Table 6-2). -/
def Dev.wireFault (d : Dev) (i pair : Nat) : Dev :=
  if !d.regBit .pinCtrl i 11 ∨ !d.pairUsed i pair ∨ (d.pin i).wire pair then d
  else
    let d := d.onPin i fun p =>
      { p with wireA := p.wireA || pair = 0, wireB := p.wireB || pair = 1, wireZ := p.wireZ || pair = 2 }
    (d.logEvent 0x0601 kPulse i (ev4 pair)).cntLost i

/-- WIRE_FAULT_CLEAR: the legs have been complementary for 1 ms without a break (R122). -/
def Dev.wireFaultClear (d : Dev) (i : Nat) : Dev :=
  (d.onPin i fun p => { p with wireA := false, wireB := false, wireZ := false }).pinValidity i

/-! ### Speed (R127, R128) -/

/-- Use one edge for the speed (R127, the first loop). -/
def PulseIn.useEdge (p : PulseIn) (e : PulseEdge) : PulseIn :=
  let p := if e.neg ≠ p.runNeg then { p with runNeg := e.neg, runLen := 0 } else p
  let p := { p with runLen := p.runLen + 1 }
  { p with refEdge := if p.runLen = 1 then some e else p.refEdge, lastEdge := some e }

/-- The midpoint of a span. -/
def Speed.mid (s : Speed) : Rat := mkRat (s.from_ + s.to_ : Nat) 2

/-- The acceleration from the two newest measured speeds (R128). -/
def accelOf (l : List Speed) : Rat :=
  match l with
  | a :: b :: _ => if a.mid = b.mid then 0 else rnd32 ((a.v - b.v) * 4000000000 / (a.mid - b.mid))
  | _ => 0

/-- The standstill bound in turns/s: one count since the last edge (R127). -/
def spdLimit (cpt : Nat) (since : Nat) : Option Rat := if since = 0 then none else some (mkRat 4000000000 (cpt * since))

/-- The speed of a counting input at `t` (R127, R128). -/
def Dev.pinSpeedAt (d : Dev) (i : Nat) (t : Time) : Dev :=
  let cpt := d.pinCpt i
  d.onPin i fun p =>
    let new := (p.unused.filter fun e => e.t ≤ t).reverse
    let used := !new.isEmpty
    let p := { new.foldl PulseIn.useEdge p with unused := p.unused.filter fun e => t < e.t }
    match p.lastEdge with
    | none => { p with vel := 0, acc := 0, bound := false, still := true }
    | some last =>
      let ref := p.refEdge.getD last
      if used ∧ 2 ≤ p.runLen ∧ ref.t < last.t then
        let v := rnd32 (((last.count - ref.count : Int) : Rat) * 4000000000 / (cpt * (last.t - ref.t) : Nat))
        let sp := (⟨v, ref.t, last.t⟩ : Speed) :: p.speeds.take 1
        { p with vMeas := v, vel := v, refEdge := some last, bound := false, still := false, speeds := sp, acc := accelOf sp }
      else if used then { p with vMeas := 0, vel := 0, acc := 0, bound := true, still := false }
      else if last.t + 400000 * d.fld .pinWin i 16 16 ≤ t then
        { p with vel := 0, acc := 0, bound := false, still := true, runLen := 0, speeds := [] }
      else
        let m := absRat p.vMeas
        let v := match spdLimit cpt (t - last.t) with
          | some b => if b < m then b else m
          | none => m
        { p with vel := rnd32 (if p.vMeas < 0 then -v else v), acc := 0, bound := true }

/-- Count edges older than 1 ms are no longer needed, but the newest of them (R136). -/
def pruneEdges (t : Time) : List PulseEdge → List PulseEdge
  | [] => []
  | e :: rest => if e.t + 4000000 < t then [e] else e :: pruneEdges t rest

/-- The capture of input `i` at T0 (R38, R121, R127, R128): position, speed and the published readings. -/
def Dev.pinCapture (d : Dev) (i : Nat) (t0 : Time) : Dev :=
  let d := if d.pinCounts i then d.pinSpeedAt i t0 else d
  let pos := d.pinPosAt i t0
  let d := d.onPin i fun p => { p with pos := pos, capVel := p.vel, edges := pruneEdges t0 p.edges }
  let p := d.pin i
  let d := d.setReg64 .pinCount i (unsigned 64 p.count)
  let d := match p.edges with
    | e :: _ => d.setReg64 .pinEdgeT i e.t
    | [] => d
  d.setReg .pinSpeed i (toF32 p.vel)

/-- PULSE_STILL: no edge for `STILL_TO` (R127). -/
def Dev.pulseStill (d : Dev) (t : Time) (i : Nat) : Dev :=
  match (d.pin i).lastEdge with
  | some e =>
    if d.pinCounts i ∧ e.t + 400000 * d.fld .pinWin i 16 16 ≤ t ∧ (d.pin i).unused = [] then
      d.pinSpeedAt i t
    else d
  | none => d

/-! ### Serial sensors (R129–R134) -/

/-- The serial clock period in units (R131). -/
def Dev.serClk (d : Dev) (i : Nat) : Nat := 40 * d.fld .serTim i 0 8
/-- The length of a transfer in units (R132). -/
def Dev.serLength (d : Dev) (i : Nat) : Nat :=
  let n := d.fld .serFmt i 0 6
  if d.pinMode i = 6 then (n + 12) * d.serClk i + 10000 else (n + 1) * d.serClk i + 20 * d.fld .serLim i 8 8

/-- SER_TRANSFER_START: the transfer of the frame starts at T0 + `SER_TRIG` (R132). -/
def Dev.serStart (d : Dev) (i : Nat) : Dev :=
  if !d.pinSerial i ∨ d.time.k.isNone ∨ (d.pin i).serFrame = d.time.k then d
  else
    let t := d.time.t0 + 20 * d.fld .serTim i 14 18
    (d.at t).onPin i fun p => { p with serStart := some t, serFrame := d.time.k }

/-- Gray code to binary over `n` bits (R129). -/
def grayToBin (n v : Nat) : Nat :=
  ((List.range n).foldl (fun (acc : Nat × Bool) k =>
    let b := xor acc.2 (v.testBit (n - 1 - k))
    (2 * acc.1 + b2n b, b)) (0, false)).1

/-- The received word of a transfer. -/
def Dev.serWord (d : Dev) (i : Nat) (x : SerialFrame) : Nat :=
  let n := d.fld .serFmt i 0 6
  let w := x.data % 2 ^ n
  if d.pinMode i = 5 ∧ d.regBit .serFmt i 31 then grayToBin n w else w

/-- Why a transfer is bad before its position is looked at (R129, R130): cause of event 0x0607. -/
def Dev.serBad (d : Dev) (i : Nat) (x : SerialFrame) : Option Nat :=
  let n := d.fld .serFmt i 0 6
  if d.pinMode i = 6 then
    if !x.started then some 3
    else if 10000 < x.lineDly then some 5
    else if x.crc ≠ crc6 (n + 2) ((x.data % 2 ^ n) * 4 + 2 * b2n x.nE + b2n x.nW) then some 1
    else if !x.nE then some 2 else none
  else
    let e := d.fld .serFmt i 24 6
    if e ≠ 63 ∧ (d.serWord i x).testBit e = d.regBit .serFmt i 30 then some 2 else none

/-- The advance of the count by a transfer; none: a jump (R133). -/
def Dev.serAdvance (d : Dev) (i u : Nat) : Option Int :=
  let st := d.fld .serFmt i 12 6
  let w := st + d.fld .serFmt i 18 6
  let inv (x : Int) : Int := if d.regBit .pinCtrl i 9 then -x else x
  match (d.pin i).uPrev with
  | none => some (inv (if w = st then (u : Int) else signed w u) - (d.pin i).count)
  | some p =>
    let diff := signed w ((u + 2 ^ w - p) % 2 ^ w)
    let lim := d.fld .serLim i 16 16
    if lim ≠ 0 ∧ lim * 2 ^ st < diff.natAbs * 2 ^ 16 then none else some (inv diff)

/-- A bad transfer (R134, Table 6-2). -/
def Dev.serBadEnd (d : Dev) (i cause : Nat) : Dev :=
  let d := ((d.setFlag .pinStat i 10).addCnt .pinErr i 0 16).logEvent 0x0607 kPulse i (ev4 cause)
  let d := d.onPin i fun p => { p with badRun := p.badRun + 1, goodRun := 0 }
  if (d.pin i).badRun = 2 ∧ !(d.pin i).serInvalid then
    ((d.onPin i fun p => { p with serInvalid := true }).logEvent 0x0608 kPulse i (ev4 (d.fld .pinErr i 0 16))).pinValidity i
  else d

/-- A good transfer sampled at `ts` that moves the count by `diff` (R128, R133, R134). -/
def Dev.serGoodEnd (d : Dev) (i u : Nat) (ts : Time) (diff : Int) : Dev :=
  let cpt := d.pinCpt i
  let d := d.onPin i fun p =>
    let c := p.count + diff
    let p := { p with count := wrapInt 64 c, neg := if diff = 0 then p.neg else decide (diff < 0), uPrev := some u,
                      badRun := 0, goodRun := p.goodRun + 1, serInvalid := p.serInvalid && p.goodRun = 0,
                      transfers := (ts, c) :: p.transfers.take 7 }
    match p.transfers with
    | (t1, c1) :: (t0, c0) :: _ =>
      if t0 < t1 then
        let v := rnd32 (((c1 - c0 : Int) : Rat) * 4000000000 / (cpt * (t1 - t0) : Nat))
        let sp := (⟨v, t0, t1⟩ : Speed) :: p.speeds.take 1
        { p with vel := v, vMeas := v, speeds := sp, acc := accelOf sp, bound := false, still := false }
      else p
    | _ => p
  (d.pinValidity i).pinFollow i

/-- SER_TRANSFER_END (R129–R134). -/
def Dev.serEnd (d : Dev) (i : Nat) (x : SerialFrame) : Dev :=
  match (d.pin i).serStart with
  | none => d
  | some s =>
    if !d.pinSerial i then d.onPin i fun p => { p with serStart := none }
    else
      let d := d.onPin i fun p => { p with serStart := none }
      let bad := d.serBad i x
      let d := if d.pinMode i = 6 ∧ (bad = none ∨ bad = some 2) ∧ !x.nW then d.setFlag .pinStat i 11 else d
      match bad with
      | some c => d.serBadEnd i c
      | none =>
        let u := (d.serWord i x / 2 ^ d.fld .serFmt i 6 6) % 2 ^ (d.fld .serFmt i 12 6 + d.fld .serFmt i 18 6)
        match d.serAdvance i u with
        | none => d.serBadEnd i 4
        | some diff => d.serGoodEnd i u (s + 100 * d.fld .serLim i 0 8) diff

/-! ### Commit junction (R123, R131, R132, R140, R143) -/

/-- PIN_ADJUST at its commit junction (R140). -/
def Dev.pinAdjustCommit (d : Dev) (i action : Nat) (v : Int) : Dev :=
  let done (d : Dev) (x : Int) : Dev :=
    ((d.logEvent 0x0609 kPulse i (ev4 action ++ ev8 (unsigned 64 x))).pinValidity i).pinFollow i
  match action with
  | 0 => done (d.onPin i fun p => { p.shift v with lost := false }) v
  | 1 => d.onPin i fun p => { p with alignPend := true }
  | 2 =>
    let x := v - (d.pin i).count
    done (d.onPin i fun p => { p.shift x with lost := false, setT := some d.time.t0, refPos := none, refNeg := none, idxPend := none }) x
  | 3 => d.onPin i fun p => { p with refPos := none, refNeg := none }
  | _ => d

/-- What a change of the configuration key restarts (R123). -/
def Dev.pinRestart (d : Dev) (i : Nat) : Dev :=
  (d.onPin i fun p =>
    { p with count := 0, refPos := none, refNeg := none, lost := false, edges := [], unused := [], idxPend := none,
             setT := none, bounce := [], runNeg := false, runLen := 0, refEdge := none, lastEdge := none, vMeas := 0, speeds := [],
             vel := 0, acc := 0, bound := false, still := false, uPrev := none, transfers := [], badRun := 0, goodRun := 0,
             serInvalid := false, serStart := none }).pinValidity i

/-- The fields whose change restarts the count and is held for a detour (R123). -/
def Dev.pinCfgKey (d : Dev) (i : Nat) : Nat × Nat × Bool × Nat × Word :=
  (d.pinMode i, d.fld .pinCpt i 0 24, d.regBit .pinCtrl i 9, d.fld .pinCtrl i 7 2, d.reg .serFmt i)

/-- The bits of a word that R123 holds. -/
def pinHold (r : RegId) : Word :=
  match r with
  | .pinCtrl => 0x38F
  | .pinCpt => 0xFFFFFF
  | .serFmt => 0xFFFFFFFF
  | _ => 0

/-- A lane in TRACK or RUN has its detour on input `i` (R123). -/
def Dev.pinBusy (d : Dev) (i : Nat) : Bool := d.laneList.any fun n => d.laneUp n && d.detEn n && d.detSrc n = i

/-- The serial timing fits the frame (R132). -/
def Dev.serFits (d : Dev) (i : Nat) : Bool :=
  !d.pinSerial i ||
    (20 * d.fld .serTim i 14 18 + d.serLength i < d.period - 320 &&
     d.serLength i + 4000 * d.fld .serTim i 8 6 ≤ d.period)

/-- The staged values of input `i` are allowed (R116, R131, R132, R143). -/
def Dev.pinCfgOk (d : Dev) (i : Nat) : Bool :=
  let n := d.fld .serFmt i 0 6
  let lsb := d.fld .serFmt i 6 6
  let st := d.fld .serFmt i 12 6
  let mt := d.fld .serFmt i 18 6
  d.pinMode i ≤ 6 && d.fld .pinCtrl i 7 2 ≠ 3 && 4 ≤ d.fld .pinEdge i 16 16 &&
    4 ≤ d.fld .pinEdge i 0 11 && d.fld .pinEdge i 0 11 ≤ 2000 && 1 ≤ d.fld .pinWin i 16 16 &&
    lsb + st + mt ≤ n && 8 ≤ st && st ≤ 32 && mt ≤ 24 && 1 ≤ n && n ≤ 40 &&
    1 ≤ d.fld .serTim i 8 6 && 10 ≤ d.fld .serTim i 0 8 && d.serFits i

end Sys2Proof.Machine
end

