-- ==== Sys2Proof/Machine/OpPulse.lean ====
section
/-! DEFINITION. The opcodes of groups 0x06 and 0x07: pulse inputs, milestones, emulation and step outputs (R139–R142, R160). -/
namespace Sys2Proof.Machine
open Sys2Proof

/-- PIN_ADJUST (R140). -/
def Dev.opPinAdjust (d : Dev) (r : Request) (g : Bool) : Served :=
  let b := r.payload
  let (i, action) := (byteAt b 0, byteAt b 1)
  let mode := d.pinMode i
  d.forUnit r (hasPin i d) (d.fld .pinAssign i 0 7) <|
  if b.length ≠ 12 then d.answer stBadLength
  else if 3 < action ∨ !zeroAt b 2 2 then d.answer stRange
  else if mode = 0 ∨ mode = 4 ∨ (d.pinSerial i ∧ (action = 1 ∨ action = 3)) then d.answer stState
  else (d.stage r.port g (.pinAdjust i action (signed 64 (u64At b 4)))).answer stStaged

/-- MLS_READ (R141). -/
def Dev.opMlsRead (d : Dev) (r : Request) (_ : Bool) : Served :=
  let b := r.payload
  let (j, most, pop) := (byteAt b 0, byteAt b 1, byteAt b 2)
  if b = [] then d.answer stBadLength
  else if !hasPin j d then d.answer stRange
  else if pop = 1 ∧ !d.ownsUnit r.port (d.fld .mlsAssign j 0 7) then d.answer stNotOwner
  else if b.length ≠ 3 then d.answer stBadLength
  else if most = 0 ∨ (if r.gen = 1 then 7 else 16) < most ∨ 1 < pop then d.answer stRange
  else
    let rs := (d.mlsUnit j).fifo.take most
    let e := if pop = 1 then d.onMls j fun u => { u with fifo := u.fifo.drop most } else d
    e.answer stOk ([BitVec.ofNat 8 rs.length, BitVec.ofNat 8 (e.mlsUnit j).fifo.length] ++ rs.flatMap MlsRec.bytes)

/-- MLS_ARM (R142). -/
def Dev.opMlsArm (d : Dev) (r : Request) (g : Bool) : Served :=
  let b := r.payload
  let j := byteAt b 0
  d.forUnit r (hasPin j d) (d.fld .mlsAssign j 0 7) <|
  if b.length ≠ 2 then d.answer stBadLength
  else if 1 < byteAt b 1 then d.answer stRange
  else (d.stage r.port g (.mlsArm j (byteAt b 1 = 1))).answer stStaged

/-- EMU_ALIGN (R160). -/
def Dev.opEmuAlign (d : Dev) (r : Request) (g : Bool) : Served :=
  let b := r.payload
  let o := byteAt b 0
  d.forUnit r (decide (o < 24)) (d.emuLane o) <|
  if b.length ≠ 4 then d.answer stBadLength
  else if 1 < byteAt b 1 ∨ !zeroAt b 2 2 then d.answer stRange
  else (d.stage r.port g (.emuAlign o (byteAt b 1))).answer stStaged

end Sys2Proof.Machine
end

