-- ==== Sys2Proof/Machine/OpCoef.lean ====
section
/-! DEFINITION. The opcodes of groups 0x04 and 0x09: coefficients and trace (R194–R197, R205, R206). -/
namespace Sys2Proof.Machine
open Sys2Proof

/-! ### Coefficients -/

/-- A section that R194 allows. -/
def SectionCoef.ok (c : SectionCoef) : Bool :=
  c.bsh ≤ 6 && decide ((c.ma2.natAbs : Int) < 2 ^ 30) && decide ((c.ma1.natAbs : Int) < 2 ^ 30 + c.ma2)

/-- Gains that R194 allows: all finite, integrator gains and kerbs not negative, torque kerbs in order. -/
def gainsOk (g : List Word) : Bool :=
  let v (i : Nat) : Rat := f32 (g.getD i 0)
  g.all f32Finite && [1, 4, 7, 2, 5, 8, 11, 14].all (fun i => decide (0 ≤ v i)) &&
    decide (-4 ≤ v 13) && decide (v 13 ≤ v 12) && decide (v 12 ≤ 4)

/-- A bank content that R194 allows. -/
def Bank.ok (b : Bank) : Bool := b.secs.all SectionCoef.ok && gainsOk b.gains

/-- A section item: five signed mantissas and `BSH` (R195). -/
def sectionItem (b : List Byte) (o : Nat) : SectionCoef :=
  let m (i : Nat) : Int := signed 32 (u32At b (o + 4 * i))
  ⟨m 0, m 1, m 2, m 3, m 4, byteAt b (o + 20)⟩

/-- The bytes of a section item. -/
def SectionCoef.bytes (c : SectionCoef) : List Byte :=
  [c.mb0, c.mb1, c.mb2, c.ma1, c.ma2].flatMap (fun m => leBytes 4 (unsigned 32 m)) ++ [BitVec.ofNat 8 c.bsh] ++ zeros 3

/-- `xs` with `ys` in place of its elements from index `i` on. -/
def splice {α : Type} (xs ys : List α) (i : Nat) : List α := xs.take i ++ ys ++ xs.drop (i + ys.length)

/-- The last bank content with items of a COEF_STAGE packet written (R195). -/
def Bank.write (k : Bank) (set first count : Nat) (b : List Byte) : Bank :=
  if set = 0 then { k with secs := splice k.secs ((List.range count).map fun i => sectionItem b (4 + 24 * i)) first }
  else { k with gains := splice k.gains (wordsAt b 4 count) first }

/-- Size of a set, and of its items. -/
def coefSet (set : Nat) : Nat × Nat := if set = 0 then (32, 24) else (15, 4)

/-- A swap of lane `n` is pending as port `p` sees it (R197). -/
def Dev.swapAwaits (d : Dev) (p n : Nat) : Bool :=
  d.staged.any fun s => (!s.inGroup || s.port = p) && match s.act with
    | .coefSwap m _ => m = n
    | _ => false

/-- COEF_STAGE (R195). -/
def Dev.opCoefStage (d : Dev) (r : Request) (_ : Bool) : Served :=
  let b := r.payload
  let (set, first, count, ctl) := (byteAt b 0, byteAt b 1, byteAt b 2, byteAt b 3)
  let (size, item) := coefSet set
  let x := d.loop r.lane
  if b.length < 4 then d.answer stBadLength
  else if 1 < set ∨ count = 0 ∨ 1 < ctl ∨ (set = 0 ∧ (List.range count).any fun i => !zeroAt b (4 + 24 * i + 21) 3) then d.answer stRange
  else if b.length ≠ 4 + count * item then d.answer stBadLength
  else
    let from_ := if ctl = 1 then x.live else 1 - x.live
    let bank := (x.banks.getD from_ {}).write set first count b
    if size < first + count ∨ !bank.ok then d.answer stRange
    else if d.swapAwaits r.port r.lane then d.answer stBusy
    else
      let new := if ctl = 1 then bankWords r.lane (1 - x.live) else coefWords r.lane (1 - x.live) set first count
      ((d.onLoop r.lane fun x => { x with banks := x.banks.set (1 - x.live) bank, stagedWr := true }).rewritten new).answer stOk

/-- COEF_READ (R196). -/
def Dev.opCoefRead (d : Dev) (r : Request) (_ : Bool) : Served :=
  let b := r.payload
  let (which, set, first, count) := (byteAt b 0, byteAt b 1, byteAt b 2, byteAt b 3)
  let (size, item) := coefSet set
  let x := d.loop r.lane
  if b.length ≠ 4 then d.answer stBadLength
  else if 1 < which ∨ 1 < set ∨ count = 0 ∨ size < first + count ∨ payloadLimit r.gen < 4 + count * item then d.answer stRange
  else
    let k := x.banks.getD (if which = 0 then x.live else 1 - x.live) {}
    d.answer stOk <| zeros 2 ++
      if set = 0 then ((k.secs.drop first).take count).flatMap SectionCoef.bytes
      else ((k.gains.drop first).take count).flatMap wordBytes

/-- COEF_SWAP (R197): with 0xFFFF every owned lane whose staged bank has been written since its last swap. -/
def Dev.opCoefSwap (d : Dev) (r : Request) (g : Bool) : Served :=
  let b := r.payload
  let ns := if r.lane = 0xFFFF then (d.ownedLanes r.port).filter fun n => (d.loop n).stagedWr else [r.lane]
  if b.length ≠ 4 then d.answer stBadLength
  else if 1 < u32At b 0 then d.answer stRange
  else if ns.any (d.swapAwaits r.port) then d.answer stBusy
  else (d.forEach ns fun n d => d.stage r.port g (.coefSwap n (byteAt b 0 = 1))).answer stStaged

/-! ### Trace -/

/-- TRACE_ARM (R205). -/
def Dev.opTraceArm (d : Dev) (r : Request) (g : Bool) : Served :=
  if r.payload ≠ [] then d.answer stBadLength else (d.stage r.port g .traceArm).answer stStaged

/-- TRACE_FORCE (R205). -/
def Dev.opTraceForce (d : Dev) (r : Request) (_ : Bool) : Served :=
  if r.payload.length ≠ 1 then d.answer stBadLength
  else match byteAt r.payload 0 with
    | 0 => (d.onTrc fun x => { x with force := true }).answer stOk
    | 1 => d.traceStop.answer stOk
    | _ => d.answer stRange

/-- TRACE_READ (R206). -/
def Dev.opTraceRead (d : Dev) (r : Request) (_ : Bool) : Served :=
  let b := r.payload
  let (o, n) := (u32At b 0, u16At b 4)
  if b.length ≠ 6 then d.answer stBadLength
  else if o % 4 ≠ 0 ∨ n % 4 ≠ 0 ∨ n < 4 ∨ (if r.gen = 1 then 240 else 1000) < n ∨ 1048576 < o + n then d.answer stRange
  else d.answer stOk (memReads d.trc.mem o n)

end Sys2Proof.Machine
end

