-- ==== Sys2Proof/Machine/OpProfile.lean ====
section
/-! DEFINITION. The opcodes of group 0x05: profile commands (R213, R216–R231, Table 10-4). -/
namespace Sys2Proof.Machine
open Sys2Proof

/-- The binary32 word at offset `o` is finite. -/
def finiteAt (b : List Byte) (o : Nat) : Bool := f32Finite (wordAt b o)

/-- The frame of a timed command with `AT_SEQ`: none where it lies too far back or its cutoff has passed (R230). -/
def Dev.timedFrame (d : Dev) (atSeq : Nat) : Option Nat :=
  let delta := (atSeq + 2 ^ 32 - d.frmSeq) % 2 ^ 32
  let k := (d.time.k.getD 0) + delta
  if 2 ^ 31 ≤ delta ∨ !arrivesBy d.now (d.tickAt k - d.cutoff) then none else some k

/-- Stage profile command `c` for each lane of `ns`; `all` where the request names every lane; `k` is the frame of a timed one. -/
def Dev.putPrf (d : Dev) (port : Nat) (g all : Bool) (ns : List Nat) (c : PrfCmd) (k : Option Nat) : Served :=
  (d.forEach ns fun n d => d.stage port g (.prf n c all k)).answer stStaged

/-- Stage a profile command for lanes `ns`, timed or not (R229, R230). -/
def Dev.stagePrf (d : Dev) (r : Request) (g : Bool) (ns : List Nat) (flags : Nat) (c : PrfCmd) : Served :=
  if 1 < flags then d.answer stRange
  else if flags = 0 then d.putPrf r.port g (r.lane = 0xFFFF) ns c none
  else match d.timedFrame (u32At r.payload 4) with
    | none => d.answer stRange
    | some k => if ns.any fun n => 4 ≤ d.timedCount n then d.answer stBusy else d.putPrf r.port g (r.lane = 0xFFFF) ns c (some k)

/-- A move speed is absent, or a limit that R213 allows in place of V: 0 or at most 1,000 turns/s (R216). -/
def speedOk (w : Word) : Bool := (f32Finite w && f32 w = 0) || velOk w

/-- MOVE (R216). -/
def Dev.opMove (d : Dev) (r : Request) (g : Bool) : Served :=
  let b := r.payload
  let kind := byteAt b 0
  if b.length ≠ 24 then d.answer stBadLength
  else if 2 < kind ∨ !zeroAt b 2 2 ∨ !zeroAt b 20 4 ∨ (kind = 2 ∧ !zeroAt b 12 4) then d.answer stRange
  else if (kind = 2 ∧ !finiteAt b 8) ∨ !speedOk (wordAt b 16) then d.answer stRange
  else
    let c := if kind = 2 then PrfCmd.move 2 0 (f32 (wordAt b 8)) 0 else .move kind (signed 64 (u64At b 8)) 0 (f32 (wordAt b 16))
    d.stagePrf r g [r.lane] (byteAt b 1) c

/-- The limits of a LIMITS payload are allowed (R213). -/
def limitsOk (set : Nat) (v a dd j : Word) : Bool :=
  (if set = 2 then v = 0 && a = 0 else velOk v && accOk a) && accOk dd && jerkOk j

/-- LIMITS (R218): untimed, its words are staged like register writes. -/
def Dev.opLimits (d : Dev) (r : Request) (g : Bool) : Served :=
  let b := r.payload
  let (set, flags) := (byteAt b 0, byteAt b 1)
  let (v, a, dd, j) := (wordAt b 8, wordAt b 12, wordAt b 16, wordAt b 20)
  if b.length ≠ 24 then d.answer stBadLength
  else if 2 < set ∨ !zeroAt b 2 2 ∨ !limitsOk set v a dd j then d.answer stRange
  else if flags = 0 then
    ((limitsWords r.lane set v a dd j).foldl (fun d w => d.stage r.port g (.reg w.1 w.2.1 w.2.2)) d).answer stStaged
  else d.stagePrf r g [r.lane] flags (.limits set v a dd j)

/-- A gear source that GEAR may name (R224). -/
def Dev.gearIndexOk (d : Dev) (n kind idx : Nat) : Bool :=
  match kind with
  | 0 => true
  | 1 => decide (idx < 8)
  | 2 => hasLane idx d && idx ≠ n
  | 3 => hasPin idx d
  | _ => false

/-- GEAR (R224, R225). -/
def Dev.opGear (d : Dev) (r : Request) (g : Bool) : Served :=
  let b := r.payload
  let (kind, idx, align) := (byteAt b 0, byteAt b 1, byteAt b 2)
  if b.length ≠ 32 then d.answer stBadLength
  else if !d.gearIndexOk r.lane kind idx ∨ 2 < align ∨ u32At b 12 = 0 then d.answer stRange
  else d.stagePrf r g [r.lane] (byteAt b 3)
    (.gear kind idx align (signed 32 (u32At b 8)) (u32At b 12) (signed 64 (u64At b 16)) (signed 64 (u64At b 24)))

/-- TRIM (R227). -/
def Dev.opTrim (d : Dev) (r : Request) (g : Bool) : Served :=
  let b := r.payload
  if b.length ≠ 16 then d.answer stBadLength
  else if 2 < byteAt b 0 ∨ !zeroAt b 2 2 then d.answer stRange
  else d.stagePrf r g [r.lane] (byteAt b 1) (.trim (byteAt b 0) (signed 64 (u64At b 8)))

/-- STOP (R220): with 0xFFFF for every lane in RUN that the sender owns. -/
def Dev.opStop (d : Dev) (r : Request) (g : Bool) : Served :=
  let b := r.payload
  if b.length ≠ 16 then d.answer stBadLength
  else if 2 < byteAt b 0 ∨ !zeroAt b 2 2 ∨ !zeroAt b 12 4 then d.answer stRange
  else d.stagePrf r g (d.selected r) (byteAt b 1) (.stop (byteAt b 0) (u32At b 8))

/-- The waypoint queue of lane `n` with the appends and flushes that await their junction (R229, R231). -/
def Dev.wpFill (d : Dev) (p n : Nat) : Nat :=
  d.staged.foldl (fun c s => match s.act with
    | .prf m (.wpAppend ..) _ _ => if m = n ∧ (s.inGroup → s.port = p) then c + 1 else c
    | .prf m .wpFlush _ _ => if m = n ∧ (s.inGroup → s.port = p) then 0 else c
    | _ => c) (d.gen n).wps.length

/-- WAYPOINT (R221). -/
def Dev.opWaypoint (d : Dev) (r : Request) (g : Bool) : Served :=
  let b := r.payload
  let n := r.lane
  if b.length ≠ 16 then d.answer stBadLength
  else if 1 < byteAt b 0 ∨ 1 < byteAt b 1 ∨ !zeroAt b 2 2 ∨ !finiteAt b 4 then d.answer stRange
  else if byteAt b 0 = 0 ∧ 16 ≤ d.wpFill r.port n then d.answer stBusy
  else
    let c : PrfCmd := if byteAt b 0 = 1 then .wpFlush else .wpAppend (byteAt b 1 = 1) (f32 (wordAt b 4)) (signed 64 (u64At b 8))
    let e := d.stage r.port g (.prf n c false none)
    e.answer stStaged (leBytes 2 (e.wpFill r.port n))

/-- The action of a VMASTER payload; none where a value is out of range (R213, R223). -/
def vmAction (b : List Byte) : Option VmCmd :=
  match byteAt b 1 with
  | 0 => if finiteAt b 8 && decide (absRat (f32 (wordAt b 8)) ≤ 1000) then some (.vel (wordAt b 8)) else none
  | 1 => if accOk (wordAt b 8) && accOk (wordAt b 12) && jerkOk (wordAt b 16) then
      some (.lim (wordAt b 8) (wordAt b 12) (wordAt b 16)) else none
  | 2 => some (.pos (signed 64 (u64At b 8)))
  | _ => none

/-- Master `m` moves, or a velocity change of it awaits its junction (R223). -/
def Dev.vmBusy (d : Dev) (m : Nat) : Bool :=
  !(d.vms.getD m {}).atRest d.now || d.staged.any fun s => match s.act with
    | .vm i (.vel _) _ => i = m
    | _ => false

/-- VMASTER (R223): from the lead port with lane selector 0xFFFF. -/
def Dev.opVmaster (d : Dev) (r : Request) (g : Bool) : Served :=
  let b := r.payload
  let (m, flags) := (byteAt b 0, byteAt b 2)
  if b.length ≠ 20 then d.answer stBadLength
  else if 7 < m ∨ 1 < flags ∨ byteAt b 3 ≠ 0 then d.answer stRange
  else match vmAction b with
    | none => d.answer stRange
    | some c =>
      let isPos : Bool := match c with
        | .pos _ => true
        | _ => false
      if flags = 0 then
        if isPos && d.vmBusy m then d.answer stState else (d.stage r.port g (.vm m c none)).answer stStaged
      else match d.timedFrame (u32At b 4) with
        | none => d.answer stRange
        | some k => if 4 ≤ d.timedVm then d.answer stBusy else (d.stage r.port g (.vm m c (some k))).answer stStaged

end Sys2Proof.Machine
end

