-- ==== Sys2Proof/Machine/Power.lean ====
section
/-! DEFINITION. Images and their verification, boot and recovery, power states, presence and power fail, debug states
(spec/15_protection_debug_and_power.md; R369, R371, R387, R388, R407). -/
namespace Sys2Proof.Machine
open Sys2Proof

/-! ### Images (R331, R369, R371) -/

/-- The 32 bytes of a SHA-256 digest. -/
def digest (b : List Byte) : List Byte := leBytes 32 (Config.sha256 b).toNat

/-- The body length of an image (Table 16-8). -/
def imgLen (m : List Host.Cell) : Nat := u32At (memReads m 4 4) 0
/-- The version field of a protection image, or the security version of a firmware image. -/
def imgVersion (m : List Host.Cell) : Nat := u16At (memReads m 12 2) 0
/-- The firmware version of an image, major in the high byte. -/
def imgFirmware (m : List Host.Cell) : Word := BitVec.ofNat 32 (beNat (memReads m 8 4))
/-- The bytes of the whole image. -/
def imgBytes (m : List Host.Cell) : List Byte := memReads m 0 (128 + imgLen m)
/-- The signature of an image verifies under a key. -/
def imgSigned (m : List Host.Cell) (key : List Byte) : Bool :=
  Config.ecdsaVerifies key (memReads m 0 (64 + imgLen m)) (memReads m (64 + imgLen m) 64)
/-- The root public key that a protection image carries: the last 64 bytes of its body. -/
def imgRoot (m : List Host.Cell) : List Byte := memReads m (imgLen m) 64
/-- Word `i` of the protection words of an image, of protection-block offset 4 + 4i. -/
def imgWord (m : List Host.Cell) (i : Nat) : Word := wordAt (memReads m (64 + 4 * i) 4) 0

/-- The body length of a protection image: 127 words and the key. -/
def protBody : Nat := 572

/-- The size of a region: slots A and B, the staged protection image. -/
def regionSize (target : Nat) : Nat := if target = 2 then 4096 else 1048576

/-- Region `i`: slots A and B, the staged protection image. -/
def Dev.region (d : Dev) (i : Nat) : Region := d.hlt.regions.getD i {}
/-- Change region `i`. -/
def Dev.onRegion (d : Dev) (i : Nat) (f : Region → Region) : Dev :=
  d.onHlt fun h => { h with regions := h.regions.modify i f }

/-- The hash of the firmware key in force, `PROT_FWKEY`. -/
def Dev.fwKeyHash (d : Dev) : BitVec 256 :=
  BitVec.ofNat 256 ((List.range 8).foldl (fun a i => a + (d.reg .protFwkey i).toNat * 2 ^ (32 * i)) 0)

/-- The security version of slot `s`. -/
def Region.security (r : Region) : Nat := if r.factory then Config.factorySecurity else imgVersion r.mem
/-- Its firmware version. -/
def Region.firmware (r : Region) : Word := if r.factory then Config.factoryVersion else imgFirmware r.mem

/-- The result of checking slot `s` (R371): 0 verified, 1 signature, 2 security version, 3 format or kind, 4 length. -/
def Dev.slotCheck (d : Dev) (s : Nat) : Nat :=
  let r := d.region s
  let low := decide (r.security < d.fld .protFwMin 0 0 16)
  if r.factory then
    if d.fwKeyHash ≠ Config.sha256 Config.factoryKey then 1 else if low then 2 else 0
  else if memRead r.mem 0 ≠ 1 ∨ memRead r.mem 1 ≠ 0 then 3
  else if regionSize s < 128 + imgLen r.mem then 4
  else if !imgSigned r.mem (Config.keyOfHash d.fwKeyHash) then 1
  else if low then 2
  else 0

/-- The signature of a protection image verifies under Table 15-1: with the key it carries, which in a SEALED device has
the fused hash. -/
def Dev.protSigned (d : Dev) (m : List Host.Cell) : Bool :=
  imgSigned m (imgRoot m) && (!d.crit.sealed || digest (imgRoot m) = d.pwr.rootHash)

/-- The format of a protection image (R369, R376). -/
def protFormat (m : List Host.Cell) : Bool := memRead m 0 = 1 && memRead m 1 = 1 && imgLen m = protBody

/-- The result of checking the staged protection image at FW_VERIFY (R371). -/
def Dev.protCheck (d : Dev) : Nat :=
  let m := (d.region 2).mem
  if memRead m 0 ≠ 1 ∨ memRead m 1 ≠ 1 then 3
  else if 4096 < 128 + imgLen m then 4
  else if !protFormat m then 3
  else if !d.protSigned m then 1
  else if imgVersion m < d.fld .protStat 0 16 16 then 5
  else 0

/-! ### The protection image at boot (R333, R334) -/

/-- The content rules of R334: the lead port, port modes, lane owners. -/
def Dev.protContent (d : Dev) (m : List Host.Cell) : Bool :=
  let lanes := if d.variant = 0 then 96 else 48
  decide (field (imgWord m 0) 0 3 ≤ 3) &&
  (List.range 4).all (fun p => let x := field (imgWord m 1) (2 * p) 2; x = 1 || x = 2) &&
  (List.range lanes).all fun n => let x := field (imgWord m (31 + n / 8)) (4 * (n % 8)) 4; x ≤ 4 || x = 15

/-- The outcome of the staged image at boot (Table 15-7): 1 installed, 2 signature, 3 version, 4 content. -/
def Dev.stagedOutcome (d : Dev) (m : List Host.Cell) : Nat :=
  if !protFormat m ∨ !d.protSigned m then 2
  else if d.pwr.image ≠ [] ∧ imgVersion m < imgVersion d.pwr.image then 3
  else if !d.protContent m then 4
  else 1

/-- The bits of a protection register that its table defines. -/
def protMask : RegId → Word
  | .protLead => 0x7 | .protPortmode => 0xFF | .protDbg => 0x7 | .protEtype => 0xFFFF | .protFwMin => 0xFFFF
  | _ => 0xFFFFFFFF

/-- Copy word `i` of the image in force into the protection block (R333). -/
def Dev.loadProtWord (d : Dev) (m : List Host.Cell) (i : Nat) : Dev :=
  match targetOf (0xA0004 + 4 * i) with
  | .reg r k =>
    let v := if r = .protOwner ∧ d.variant ≠ 0 ∧ 6 ≤ k then 0xFFFFFFFF else imgWord m i &&& protMask r
    d.setReg r k v
  | _ => d

/-- Copy the words of the image in force into the protection block (R333). -/
def Dev.loadProt (d : Dev) (m : List Host.Cell) : Dev := (List.range 127).foldl (fun d i => d.loadProtWord m i) d

/-- The boot ROM chooses the protection image: the staged one where it passes, else the one in force (R334). -/
def Dev.chooseImage (d : Dev) : Dev :=
  let r := d.region 2
  if r.st = 0 then d
  else
    let out := d.stagedOutcome r.mem
    let d := d.logEvent 0x0E0B kDevice 0 (ev4 out ++ ev4 (imgVersion r.mem))
    if out = 1 then ((d.onPwr fun x => { x with image := r.mem }).onRegion 2 fun _ => {}).mramWrite 4 else d

/-- The protection block as the boot ROM writes it: from the image in force where it verifies, else the defaults (R333). -/
def Dev.writeProt (d : Dev) : Dev :=
  let m := d.pwr.image
  let ok := m ≠ [] && protFormat m && d.protSigned m
  let d := d.onPwr fun x => { x with imageOk := ok }
  let d := if ok then d.loadProt m else
    let h := (Config.sha256 Config.factoryKey).toNat
    (List.range 8).foldl (fun d i => d.setReg .protFwkey i (BitVec.ofNat 32 (h / 2 ^ (32 * i)))) d
  d.setReg .protStat 0 (at_ 16 (if ok then imgVersion m else 0) ||| bits [(0, true), (1, ok), (2, d.crit.sealed)])

/-! ### Boot (R335–R337) -/

/-- The firmware slot: the recorded one, else the other (R336); each slot that fails is logged. -/
def Dev.chooseSlot (d : Dev) : Option Nat × Dev :=
  let a := d.hlt.recSlot
  let b := 1 - a
  let (ca, cb) := (d.slotCheck a, d.slotCheck b)
  let bad (d : Dev) (s c : Nat) : Dev := d.logEvent 0x0E09 kDevice 0 (ev4 s ++ ev4 c)
  if ca = 0 then (some a, d)
  else if cb = 0 then (some b, (bad d a ca).onPwr fun x => { x with fallback := true })
  else (none, bad (bad d a ca) b cb)

/-- Load the odometers from the newer valid copy; with none they restart from zero (R358). -/
def Dev.loadOdo (d : Dev) : Dev :=
  match d.hlt.odoCopies.filterMap id with
  | o :: _ => d.onHlt fun h => { h with odo := o }
  | [] => ((d.onHlt fun h => { h with odo := {} }).setFlag .hltStat 0 8).logEvent 0x0C07 kDevice 0 (ev4 0)

/-- BOOT (R335, R336): the boot ROM's steps up to the start of the firmware. -/
def Dev.bootRom (d : Dev) : Dev :=
  let d := d.onPwr fun x => { x with booting := true, recovery := false, fallback := false }
  let d := d.onBbx fun b => { b with ring := [], nextSeq := match b.commit with
    | some c => (c.newest + 1) % 65536
    | none => 0 }
  let d := (d.chooseImage.writeProt).loadOdo
  let d := d.onHlt fun h => { h with hourFrom := d.now, dieAt := d.now }
  let (slot, d) := d.chooseSlot
  let d := d.onHlt fun h => { h with slotVer := [0, 1].map fun i => ((d.region i).firmware, (d.region i).security) }
  let slot := if d.crit.sealed && !d.pwr.imageOk then none else slot
  let d := d.onHlt fun h => { h with runSlot := slot.getD 3 }
  let d := d.onPwr fun x => { x with recovery := slot.isNone }
  let d := if d.hlt.probMark && slot.isSome then
      (d.onHlt fun h => { h with probMark := false }).logEvent 0x0D06 kDevice 0 (ev4 8)
    else d
  d.setReg .protBoot 0 (at_ 4 d.pwr.rstCause ||| at_ 0 (slot.getD 3) ||| bits [(3, d.pwr.recovery), (2, d.pwr.fallback)])

/-- What survives the loss of SRAM: MRAM, fuses, pin levels; `cause` is `RST_CAUSE` (R335, R358, R366, R388). -/
def Dev.coldStart (d : Dev) (cause : Nat) : Dev :=
  { variant := d.variant, freeCtr := d.freeCtr,
    crit := { sealed := d.pwr.sealFuse },
    lanes := d.lanes.map fun l => { map := { copyA := l.map.copyA, copyB := l.map.copyB, lastB := l.map.lastB } },
    pins := d.pins.map fun p => { a := p.a, b := p.b, z := p.z },
    bbx := { commit := d.bbx.commit },
    hlt := { odoCopies := d.hlt.odoCopies, days := d.hlt.days, dayCount := d.hlt.dayCount, regions := d.hlt.regions,
             recSlot := d.hlt.recSlot, probMark := d.hlt.probMark },
    pwr := { presentLow := d.pwr.presentLow, pfailLow := d.pwr.pfailLow, sealFuse := d.pwr.sealFuse,
             rootHash := d.pwr.rootHash, image := d.pwr.image, rstCause := cause },
    saf := { levels := d.saf.levels,
             copies := if d.saf.commitBy.isSome then [d.saf.copies.headD none, none] else d.saf.copies } }

/-- RESET_N low, or the supply monitor (R387, R388): every output is in its reset condition; `DTIME` starts from zero at the
release. -/
def Dev.resetN (d : Dev) : Dev := d.coldStart 1

/-- BOOT (R335). -/
def Dev.boot (d : Dev) : Dev := if d.pwr.booted || d.pwr.booting || d.pwr.st = .dormant then d else d.bootRom

/-- The safety parameter set in force after boot: the newer valid copy (R325). -/
def Dev.loadParams (d : Dev) : Dev :=
  let d := match d.saf.copies.filterMap id with
    | p :: _ => d.applyParams p
    | [] => d
  d.forEach (List.range 16) fun c d => d.onConn c fun x => { x with st := d.connRest c }

/-- The port modes: `PROT_PORTMODE`, or 1000BASE-X in recovery; maintenance SPI (R256, R336). -/
def Dev.portModes (d : Dev) : Dev :=
  let d := d.forEach (List.range 4) fun p d =>
    d.setFld .hpCtrl p 0 2 (if d.pwr.recovery then 2 else d.fld .protPortmode 0 (2 * p) 2)
  d.setFld .hpCtrl 4 0 2 3

/-- BOOT_COMPLETE (R335, R407): PARKED, ports up, the safety set loaded; active pin levels count as assertions. -/
def Dev.bootComplete (d : Dev) (x : BootSeen) : Dev :=
  if !d.pwr.booting then d
  else
    let old := if d.pwr.rstCause = 2 then 3 else 0xFF
    let d := d.onPwr fun y => { y with booting := false, booted := true, st := .parked, presentLow := x.present, pfailLow := x.pfail,
                                       lastCause := 5, detached := !x.present }
    let d := d.portModes.loadParams.logEvent 0x0E01 kDevice 0 (ev4 old ++ ev4 2 ++ ev4 5)
    let d := d.when (!x.present) fun d => d.logEvent 0x0E03 kDevice 0 (ev4 1)
    d.when x.pfail fun d => d.logEvent 0x0E04 kDevice 0 (ev4 0)

/-- RECOVERY_RESTART (R336): 10 ms after the reply to a FW_VERIFY that passed. -/
def Dev.recoveryRestart (d : Dev) : Dev :=
  match d.pwr.restartAt with
  | some t => if t ≤ d.now then ({ d.coldStart 3 with now := d.now, time := { frac := d.time.frac } } : Dev).bootRom else d
  | none => d

/-! ### Power states (R338–R343) -/

/-- The failed condition of a POWER_STATE request for `target` (Table 15-4, R341, R342, R345); 0 when it holds. -/
def Dev.powerFails (d : Dev) (target : Nat) : Nat :=
  let up := target = 0 || target = 1
  if up && !d.pwr.presentLow then 1
  else if up && d.pwr.pfailLow then 2
  else if d.pwr.extest then 3
  else if target = 3 ∧ d.pwr.dbg = .openDbg then 4
  else 0

/-- What follows from the lane's state where it is not in RUN: loop states are discarded, learner, tracking and outputs take
the state in (R18, R100, R159, R170, R405). -/
def Dev.settleLane (d : Dev) (n : Nat) : Dev :=
  let d := if (d.lane n).st = .run then d else d.loopLeave n
  ((d.mapLaneState n).retrack n).emuRefreshLane n

/-- A lane that an event has taken to FAULT takes the consequences at once. -/
def Dev.settleFault (d : Dev) (n : Nat) : Dev := if (d.lane n).st = .fault then d.settleLane n else d

/-- The device enters PARKED at a frame boundary (R24, R51, R159, R250, R339). -/
def Dev.enterParked (d : Dev) (cause : Nat) : Dev :=
  if d.pwr.st = .parked then d.onPwr fun x => { x with parkPend := none }
  else
    let old := d.pwr.st.code
    let d := d.onPwr fun x => { x with st := .parked, parkPend := none, lastCause := cause, settling := false }
    let d := d.forEach d.laneList fun n d => if d.laneUp n then d.onLane n fun l => { l with st := .layby } else d
    let d := (d.excPark.pfeStop.emuPark).onTime fun t => { t with syncOutEnd := none }
    let d := d.deviceReaction 5
    let d := d.logEvent 0x0E01 kDevice 0 (ev4 old ++ ev4 2 ++ ev4 cause)
    d.forEach d.laneList fun n d => d.settleLane n

/-- The device enters ACTIVE or ECONOMY at a commit junction (R338, R339). -/
def Dev.enterPowered (d : Dev) (eco : Bool) : Dev :=
  let old := d.pwr.st
  let new : PowerState := if eco then .economy else .active
  if old = new then d
  else
    let d := (d.onPwr fun x => { x with st := new }).logEvent 0x0E01 kDevice 0 (ev4 old.code ++ ev4 new.code ++ ev4 d.pwr.lastCause)
    if old ≠ .parked then d
    else
      let d := (d.onPwr fun x => { x with settling := true }).parkedCauseEnds
      (d.pfeStart.emuUnpark).forEach d.laneList fun n d => d.retrack n

/-- ANALOG_SETTLED (R339). -/
def Dev.analogSettled (d : Dev) : Dev := d.onPwr fun x => { x with settling := false }

/-- The way to DORMANT from PARKED: the black-box commit first (R338). -/
def Dev.beginDormant (d : Dev) : Dev := (d.onPwr fun x => { x with dormantPend := true }).bbxTrigger 3

/-- DORMANT (R338, R340): only `DTIME`, wake detection and MRAM retention remain, and E, K and H of the outputs (R159). -/
def Dev.dormant (d : Dev) : Dev :=
  let d := if d.pwr.dbg = .observe then d.logEvent 0x0E07 kDevice 0 (ev4 1) else d
  let e := d.coldStart 2
  { e with now := d.now, time := { frac := d.time.frac },
           regs := [RegId.pwrWake].foldl (fun f r => f.set r 0 (d.reg r 0))
             (([0, 1] : List Nat).foldl (fun f k => f.set .pwrWakeT k (d.reg .pwrWakeT k)) []),
           emus := d.emus.map EmuOut.kept, pwr := { e.pwr with st := .dormant } }

/-- A wake starts the boot; the first source is recorded (R343). `DTIME` continues, but for RESET_N (R335). -/
def Dev.wakeUp (d : Dev) (source : Nat) : Dev :=
  let e := if source = 0 then d.resetN else { d.coldStart 2 with now := d.now, time := { frac := d.time.frac }, emus := d.emus }
  let at_ := e.now
  (e.onPwr fun x => { x with st := .parked, wake := source, wakeAt := some at_ }).bootRom.logEvent 0x0E02 kDevice 0 (ev4 source)

/-- DORMANT_ENTRY (R338): after the black-box commit. A wake source that was kept boots at once (R343). -/
def Dev.dormantEntry (d : Dev) : Dev :=
  if d.pwr.dormantPend && d.bbx.running.isNone then
    match d.pwr.wakeKept with
    | some s => d.dormant.wakeUp s
    | none => d.dormant
  else d

/-- A wake source is enabled (R343): `port` names the link. -/
def Dev.wakeEnabled (d : Dev) (source port : Nat) : Bool :=
  match source with
  | 0 | 1 => true
  | 2 => decide (port < 4) && d.regBit .pwrWake 0 port
  | 3 => d.regBit .pwrWake 0 8 && decide (d.reg64 .pwrWakeT 0 ≤ d.now)
  | _ => false

/-- A wake source acted in the core cycle of the present instant. -/
def Dev.wakeNow (d : Dev) : Bool := (d.pwr.wakeAt.map fun t => decide (t / 20 = d.now / 20)).getD false

/-- WAKE (R343): in DORMANT it starts the boot; during the entry to DORMANT it is kept once the black-box commit has started
(R342). The first source is recorded, and of sources in one core cycle the lowest code. -/
def Dev.wake (d : Dev) (source port : Nat) : Dev :=
  if !d.wakeEnabled source port then d
  else if d.pwr.st = .dormant then d.wakeUp source
  else if d.pwr.dormantPend ∧ source ≠ 0 ∧ d.bbx.waiting.isNone then
    let now := d.now
    match d.pwr.wakeKept with
    | some s => if d.wakeNow ∧ source < s then d.onPwr fun x => { x with wakeKept := some source } else d
    | none => d.onPwr fun x => { x with wakeKept := some source, wakeAt := some now }
  else if d.pwr.booting ∧ source ≠ 0 ∧ d.wakeNow ∧ source < d.pwr.wake then d.onPwr fun x => { x with wake := source }
  else d

/-- Ask for PARKED at the next frame boundary (R24); a device in PARKED drops there a request to leave it (R338). -/
def Dev.askParked (d : Dev) (cause : Nat) : Dev := d.onPwr fun x => { x with parkPend := some (x.parkPend.getD cause) }

/-- PRESENT_N rises (R341). -/
def Dev.presentRise (d : Dev) : Dev :=
  let d := (d.onPwr fun x => { x with presentLow := false, detached := true }).logEvent 0x0E03 kDevice 0 (ev4 1)
  (d.askParked 3).bbxTrigger 2

/-- PFAIL_N falls (R342). -/
def Dev.pfailFall (d : Dev) : Dev :=
  let d := (d.onPwr fun x => { x with pfailLow := true }).logEvent 0x0E04 kDevice 0 (ev4 0)
  (d.askParked 4).bbxTrigger 1

/-- PFAIL_N rises (R342): the device stays PARKED. -/
def Dev.pfailRise (d : Dev) : Dev := (d.onPwr fun x => { x with pfailLow := false }).logEvent 0x0E04 kDevice 0 (ev4 1)

/-! ### Debug states (R344–R349) -/

/-- Change the debug state and log it (R349). -/
def Dev.setDebug (d : Dev) (st : DebugState) (kind idx key : Nat) : Dev :=
  let old := d.pwr.dbg
  (d.onPwr fun x => { x with dbg := st }).logEvent 0x0E05 kind idx (ev4 old.code ++ ev4 st.code ++ ev4 key)

/-- A refused response: it spends the nonce (R346). -/
def Dev.refuseDebug (d : Dev) (kind idx cause : Nat) : Dev :=
  ((d.onPwr fun x => { x with nonce := none }).addCnt .dbgAuthFail 0 0 16).logEvent 0x0E06 kind idx (ev4 cause)

/-- The debug port's request for a state is refused (R344, R347). -/
def Dev.refuseEntry (d : Dev) (cause : Nat) : Dev := d.logEvent 0x0E06 kDebug 0 (ev4 cause)

/-- Draw a nonce for a requested state: valid for 60 s and one response (R346). -/
def Dev.drawNonce (d : Dev) (target : Nat) : List Byte × Dev :=
  let v := leBytes 32 (Config.nonce d.freeCtr).toNat
  (v, ({ d with freeCtr := d.freeCtr + 1 }).onPwr fun x => { x with nonce := some ⟨v, target, d.now + 60 * unitsPerSec⟩ })

/-- The hash in `PROT_DBGKEY` entry `n`. -/
def Dev.dbgKeyHash (d : Dev) (n : Nat) : BitVec 256 :=
  BitVec.ofNat 256 ((List.range 8).foldl (fun a i => a + (d.reg .protDbgkey (8 * n + i)).toNat * 2 ^ (32 * i)) 0)

/-- The policy allows a state by challenge (R344, R346). -/
def Dev.dbgAllowed (d : Dev) (target : Nat) : Bool :=
  d.pwr.dbg ≠ .openDbg && (if target = 2 then !d.crit.sealed || d.regBit .protDbg 0 2 else d.fld .protDbg 0 0 2 ≠ 0)

/-- The cause for which a response is refused (Table 15-7); 0 when it is accepted. -/
def Dev.dbgRefusal (d : Dev) (key : Nat) (sig : List Byte) : Nat :=
  match d.pwr.nonce with
  | none => 2
  | some n =>
    let msg := n.value ++ wordBytes (Config.serial 0) ++ wordBytes (Config.serial 1) ++ [BitVec.ofNat 8 n.target, BitVec.ofNat 8 key]
    if d.dbgKeyHash key = 0 ∨ !Config.ecdsaVerifies (Config.keyOfHash (d.dbgKeyHash key)) msg sig then 1
    else if n.expires ≤ d.now then 2
    else if !d.dbgAllowed n.target then 3
    else if n.target = 2 ∧ d.pwr.st ≠ .parked then 4
    else 0

/-- A response to the outstanding nonce: accepted or refused (R346). -/
def Dev.dbgRespond (d : Dev) (kind idx key : Nat) (sig : List Byte) : Bool × Dev :=
  match d.dbgRefusal key sig, d.pwr.nonce with
  | 0, some n =>
    (true, (d.onPwr fun x => { x with nonce := none }).setDebug (if n.target = 2 then .openDbg else .observe) kind idx key)
  | c, _ => (false, d.refuseDebug kind idx c)

/-- DEBUG_PORT_REQUEST (R344, R346, R347). -/
def Dev.debugPortRequest (d : Dev) (target : Nat) (response : Option (Nat × List Byte)) : Dev :=
  match target, response with
  | 1, none => match d.fld .protDbg 0 0 2 with
    | 2 => if d.pwr.dbg = .closed then d.setDebug .observe kDebug 0 0xFF else d
    | 1 => (d.drawNonce 1).2
    | _ => d.refuseEntry 3
  | 2, none =>
    if d.crit.sealed then d.refuseEntry 3
    else if d.pwr.st ≠ .parked then d.refuseEntry 4
    else if d.pwr.dbg = .openDbg then d
    else d.setDebug .openDbg kDebug 0 0xFF
  | _, some (key, sig) => (d.dbgRespond kDebug 0 key sig).2
  | _, _ => d

/-- DEBUG_PORT_RELEASE (R344): OBSERVE ends. -/
def Dev.debugPortRelease (d : Dev) : Dev := if d.pwr.dbg = .observe then d.setDebug .closed kDebug 0 0xFF else d

/-- EXTEST_LOAD (R345). -/
def Dev.extestLoad (d : Dev) : Dev :=
  if d.pwr.st = .parked ∧ d.crit.barrierUp = 0 then d.onPwr fun x => { x with extest := true }
  else
    let up := (d.laneList.filter d.barrierUp).length
    (d.setFlag .dbgStat 0 6).logEvent 0x0E08 kDebug 0 (ev4 d.pwr.st.code ++ ev4 up)

/-- EXTEST_LEAVE (R345). -/
def Dev.extestLeave (d : Dev) : Dev := d.onPwr fun x => { x with extest := false }

/-- NONCE_EXPIRY (R346). -/
def Dev.nonceExpiry (d : Dev) : Dev :=
  match d.pwr.nonce with
  | some n => if n.expires ≤ d.now then d.onPwr fun x => { x with nonce := none } else d
  | none => d

/-- CORE_HALT (R348): in OPEN the management plane stalls. -/
def Dev.coreHalt (d : Dev) : Dev := if d.pwr.dbg = .openDbg then d.onPwr fun x => { x with halted := true } else d

/-- CORE_RESUME (R365): a pending black-box commit starts. -/
def Dev.coreResume (d : Dev) : Dev := (d.onPwr fun x => { x with halted := false }).runWaitingCommit

end Sys2Proof.Machine
end

