-- ==== Sys2Proof/Machine/Health.lean ====
section
/-! DEFINITION. Memory errors, odometers, prediction, black-box commits, firmware regions, the switch pause and probation
(spec/16_health_black_box_and_update.md). -/
namespace Sys2Proof.Machine
open Sys2Proof

/-! ### Groups of requests that are given up (R268) -/

/-- The open group of port `p` ends with no effect: its staged actions and reservations are released, held lower words are as
before the group. -/
def Dev.releaseGroup (d : Dev) (p : Nat) : Dev :=
  match (d.port p).group with
  | none => d
  | some g =>
    { d with staged := d.staged.filter fun s => !(s.inGroup && s.port = p) }.onPort p fun x =>
      { x with group := none, lowHeld := g.low }

/-- The open group of port `p` is abandoned: 1 gap, 2 firmware pause. -/
def Dev.abandonGroup (d : Dev) (p cause : Nat) : Dev :=
  match (d.port p).group with
  | none => d
  | some g => (d.releaseGroup p).logEvent 0x0015 kPort p (ev4 g.count ++ ev4 cause)

/-! ### The pause (R373–R375) -/

/-- A pause of the management plane begins: open groups are abandoned (R268, R373). -/
def Dev.beginPause (d : Dev) (x : Pause) : Dev :=
  let d := d.forEach (List.range 5) fun p d => d.abandonGroup p 2
  d.onHlt fun h => { h with pause := some x }

/-- A rollback for a cause (R374): flag, counter, the slot left is FAILED, event, fault trigger. -/
def Dev.rollbackMark (d : Dev) (cause bad : Nat) : Dev :=
  let d := (d.setFlag .hltStat 0 4).addCnt .fwCnt 0 16 16
  let d := (d.onRegion bad fun r => { r with st := 4 }).onHlt fun h => { h with probation := none, probMark := false }
  (d.logEvent 0x0D06 kDevice 0 (ev4 cause)).bbxTrigger 5

/-- Probation fails (R374): a pause returns to the old slot; the commit that the rollback triggers waits for its end (R365). -/
def Dev.probationFails (d : Dev) (cause : Nat) : Dev :=
  if d.hlt.probation.isNone ∨ d.hlt.pause.isSome then d
  else
    let run := d.hlt.runSlot
    let x : Pause := { start := d.now, old := run, new := d.hlt.oldSlot, why := 1, cause := cause, reloading := true }
    (d.beginPause x).rollbackMark cause run

/-- A management restart for a cause (R375): a pause that reloads the running slot. -/
def Dev.mgmtRestart (d : Dev) (cause : Nat) : Dev :=
  if d.hlt.pause.isSome ∨ d.pwr.recovery then d
  else
    let run := d.hlt.runSlot
    (d.addCnt .fwCnt 0 0 16).beginPause { start := d.now, old := run, new := run, why := 2, cause := cause, reloading := true }

/-- A missed heartbeat or an uncorrectable word in the working set: a rollback in probation, else a restart (R375). -/
def Dev.mgmtFails (d : Dev) (cause : Nat) : Dev :=
  if d.hlt.probation.isSome then d.probationFails cause else d.mgmtRestart cause

/-- FW_SWITCH at its commit junction (R372, R373); `port` sent it. -/
def Dev.switchCommit (d : Dev) (port slot : Nat) : Dev :=
  if d.hlt.pause.isSome then d
  else
    let run := d.hlt.runSlot
    (d.logEvent 0x0D03 kPort port (ev4 run ++ ev4 slot)).beginPause { start := d.now, old := run, new := slot, why := 0 }

/-- The length of a pause so far, in microseconds. -/
def Dev.pauseUs (d : Dev) (x : Pause) : Nat := (d.now - x.start) / unitsPerUs

/-- The last instant for the ready report: 13 ms after the pause began (Table 16-9). -/
def readyBy (x : Pause) : Time := x.start + 13 * 1000 * unitsPerUs

/-- FW_READY (R373): the new firmware runs, probation starts, queued work resumes. -/
def Dev.fwReady (d : Dev) : Dev :=
  match d.hlt.pause with
  | some x =>
    if x.why ≠ 0 ∨ x.reloading ∨ readyBy x < d.now then d
    else
      let d := d.onHlt fun h => { h with pause := none, runSlot := x.new, oldSlot := x.old, probMark := true,
                                         probation := some (d.now + 60 * unitsPerSec) }
      (d.logEvent 0x0D04 kDevice 0 (wordBytes d.fwVersion ++ ev4 (d.pauseUs x))).runWaitingCommit
  | none => d

/-- FW_READY_TIMEOUT (R373): no ready report in time; the old working set is reloaded, rollback cause 1. -/
def Dev.fwReadyTimeout (d : Dev) : Dev :=
  match d.hlt.pause with
  | some x =>
    if x.why ≠ 0 ∨ x.reloading ∨ d.now < readyBy x then d
    else (d.rollbackMark 1 x.new).onHlt fun h => { h with pause := some { x with reloading := true } }
  | none => d

/-- FIRMWARE_RELOADED (R373): the reload after a rollback or restart completes and the pause ends. -/
def Dev.fwReloaded (d : Dev) : Dev :=
  match d.hlt.pause with
  | some x =>
    if !x.reloading then d
    else
      let d := d.onHlt fun h => { h with pause := none, runSlot := if x.why = 0 then x.old else x.new }
      let d := if x.why = 2 then d.logEvent 0x0D07 kDevice 0 (ev4 x.cause ++ ev4 (d.pauseUs x)) else d
      d.runWaitingCommit
  | none => d

/-- The active-slot record is written, or is to be tried again (R374). -/
def Dev.writeRecord (d : Dev) (ok : Bool) : Dev :=
  d.onHlt fun h => if ok then { h with recSlot := h.runSlot, recRetry := false, probMark := false } else { h with recRetry := true }

/-- PROBATION_PASS (R374). -/
def Dev.probationPass (d : Dev) (ok : Bool) : Dev :=
  match d.hlt.probation with
  | some e =>
    if e ≤ d.now ∧ d.hlt.pause.isNone then
      ((d.onHlt fun h => { h with probation := none }).writeRecord ok).logEvent 0x0D05 kDevice 0 (ev4 d.hlt.runSlot)
    else d
  | none => d

/-- SLOT_RECORD_RETRY (R374). -/
def Dev.recordRetry (d : Dev) (ok : Bool) : Dev := if d.hlt.recRetry && d.mgmtUp then d.writeRecord ok else d

/-! ### Memory errors (R355–R357) -/

/-- One or two bit errors: corrected and counted (R355). In MRAM the corrected word is written back. -/
def Dev.eccCorrect (d : Dev) (m owner : Nat) : Dev :=
  let d := d.addCnt .hltCorr m 0 32
  let d := d.onHlt fun h => { h with corrHour := h.corrHour.modify m (· + 1),
                                     odo := { h.odo with ecc := h.odo.ecc.modify m (· + 1) } }
  if m = 9 then d.mramWrite owner else d

/-- An offset of lane memory is a configuration or coefficient word, which the host must rewrite (R356): below 0x400 a lane-block
word with staged fields; bank b at 0x400 + 0x400 × b, sections first. -/
def hostWord (lane off : Nat) : Bool :=
  if off < 0x400 then hasSw (0x100000 + 0x400 * lane + off) else decide ((off - 0x400) % 0x400 < 828)

/-- An uncorrectable word of lane memory (R356): fault 0x40; a state word is rewritten with zero. -/
def Dev.badLaneWord (d : Dev) (lane off : Nat) : Dev :=
  let d := (d.laneFault lane 0x40 off).logEvent 0x0C40 kLane lane (ev4 off)
  let d := if hostWord lane off then d.onHlt fun h =>
        { h with badWords := if h.badWords.contains (lane, off) then h.badWords else h.badWords ++ [(lane, off)] }
      else d.onLoop lane fun x => { x with run := {} }
  d.settleFault lane

/-- An uncorrectable word of the tables of cluster `c` (R356). -/
def Dev.badTables (d : Dev) (c : Nat) (addr : Word) : Dev :=
  let ups := (lanesOfCluster c).filter d.laneUp
  let d := d.forEach ups fun n d => (d.laneFault n 0x41 c).settleFault n
  let d := d.onHlt fun h => { h with rebuilding := if h.rebuilding.contains c then h.rebuilding else h.rebuilding ++ [c] }
  (d.logEvent 0x0C41 kCluster c (wordBytes addr)).bbxTrigger 5

/-- An uncorrectable MRAM word of region `r` (R356): the copy or region is invalid. -/
def Dev.badMram (d : Dev) (r : Nat) (addr : Word) : Dev :=
  let a := addr.toNat
  let second := decide (a / 1024 % 2 = 1)
  let d := d.logEvent 0x0C04 kDevice 0 (ev4 r ++ wordBytes addr)
  match r with
  | 0 | 1 => d.onRegion r fun _ => {}
  | 2 => d.onMap (a / 512) fun m => if a / 256 % 2 = 0 then { m with copyA := none } else { m with copyB := none }
  | 4 => if a < 4096 then d.onPwr fun x => { x with image := [] } else d.onRegion 2 fun _ => {}
  | 5 => d.onBbx fun b => { b with commit := none }
  | 6 => d.onHlt fun h => { h with odoCopies := h.odoCopies.set (if second then 1 else 0) none }
  | 7 => d.onSaf fun s => { s with copies := s.copies.set (if second then 1 else 0) none }
  | _ => d

/-- A word of a packet buffer or record queue of port `p` (R294, R356): the packet, or the part, is dropped. -/
def Dev.badBuffer (d : Dev) (p : Nat) : Dev :=
  let x := d.port p
  if !x.rx.isEmpty then (d.onPort p fun x => { x with rx := x.rx.tail }).addCnt .hpRxCrc p 0 16
  else if !x.inParts.isEmpty then (d.onPort p fun x => { x with inParts := x.inParts.tail }).addCnt .hpInBad p 16 16
  else d

/-- An uncorrectable word of memory `m` (Table 16-1). -/
def Dev.eccBad (d : Dev) (m : Nat) (addr : Word) (owner : Nat) : Dev :=
  let d := (d.addCnt .hltUncorr m 0 16).setReg .hltLastAddr m addr
  let a := addr.toNat
  let note (d : Dev) : Dev := d.logEvent 0x0C02 kDevice 0 (ev4 m ++ wordBytes addr)
  if m < 4 then (if hasLane owner d && clusterOf owner = m then d.badLaneWord owner a else note d)
  else match m with
    | 4 => note (d.onTrc fun x => { x with mem := memWrites x.mem (a / 8 * 8) (zeros 8) })
    | 5 => note (d.onBbx fun b => { b with ring := b.ring.map fun e => if e.seq % 4096 = a / 32 % 4096 then { e with bad := true } else e })
    | 6 => d.mgmtFails 6
    | 7 => d.badBuffer owner
    | 8 => if hasCluster owner d then d.badTables owner addr else note d
    | _ => d.badMram owner addr

/-- SCRUB_STEP (R355–R357). -/
def Dev.scrubStep (d : Dev) (m : Nat) (addr : Word) (errs owner late : Nat) : Dev :=
  let d := if errs = 0 then d else if errs ≤ 2 then d.eccCorrect m owner else d.eccBad m addr owner
  if late ≤ 100 then d
  else ((d.setFlag .hltStat 0 0).logEvent 0x0C05 kDevice 0 (ev4 m ++ ev4 late)).probationFails 4

/-- ECC_HOURLY_CHECK (R355). -/
def Dev.eccHourly (d : Dev) : Dev :=
  let d := d.forEach (List.range 10) fun m d =>
    let c := d.hlt.corrHour.getD m 0
    if 100 < c then (d.setFlag .hltStat 0 6).logEvent 0x0C01 kDevice 0 (ev4 m ++ ev4 c) else d
  d.onHlt fun h => { h with corrHour := List.replicate 10 0 }

/-- TABLE_REBUILD_COMPLETE (R356): the tables of cluster `c` are rebuilt from the reservations. -/
def Dev.rebuildDone (d : Dev) (c : Nat) : Dev := d.onHlt fun h => { h with rebuilding := h.rebuilding.filter (· ≠ c) }

/-! ### Odometers and prediction (R358–R360) -/

/-- The Arrhenius factor of a junction temperature in degrees Celsius (Table 16-2). -/
def arrhenius (c : Rat) : Rat :=
  let t := c + mkRat 27315 100
  if t ≤ 0 then 0 else expRat (mkRat 81235 10 * (1 / mkRat 35815 100 - 1 / t))

/-- The cycle counter takes a die temperature in (R358): a turn of 5 K ends a half cycle. -/
def Health.thermalCycle (h : Health) (x : Rat) : Health :=
  match h.turning with
  | none => { h with turning := some (x, x, 0) }
  | some (p, e, dir) =>
    if dir = 0 then
      { h with turning := some (if 5 ≤ x - p then (p, x, 1) else if 5 ≤ p - x then (p, x, -1) else (p, x, 0)) }
    else
      let up := (x - e) * dir
      if 0 ≤ up then { h with turning := some (p, x, dir) }
      else if -5 < up then h
      else
        let r := absRat (e - p)
        let add := if 10 ≤ r then (r / 40) * (r / 40) / 2 else 0
        { h with turning := some (e, x, -dir), odo := { h.odo with cyc := h.odo.cyc + add } }

/-- DIE_TEMP_UPDATE (R245, R358): the reading, and every second the thermal odometers. -/
def Dev.dieTemp (d : Dev) (v : Word) : Dev :=
  let x := f32 v
  d.onHlt fun h =>
    let h := { h with dieT := v }
    if d.now < h.dieAt + unitsPerSec then h
    else
      let dt := mkRat (d.now - h.dieAt : Nat) unitsPerHour
      { h with dieAt := d.now, odo := { h.odo with therm := h.odo.therm + dt * arrhenius x } }.thermalCycle x

/-- ODOMETER_UPDATE (R358): every clock hour, the ring oscillator measured. -/
def Dev.odometerUpdate (d : Dev) (roPpm : Int) : Dev :=
  (d.onHlt fun h => { h with odo := { h.odo with roDeg := roPpm } }).saveOdo

/-- The four fractions of life consumed (Table 16-3). -/
def Odometers.fractions (o : Odometers) : List Rat :=
  [o.therm / 390000, o.cyc / 30000, mkRat o.roDeg 20000, mkRat (o.mram.foldl max 0 : Nat) 1000000000]

/-- The least-squares slope of daily values, newest first, per day. -/
def slope (ys : List Rat) : Rat :=
  let n := ys.length
  let xs : List Rat := (List.range n).map fun (i : Nat) => -(i : Rat)
  let mx := meanRat xs
  let my := meanRat ys
  let sxx := sumRat (xs.map fun x => (x - mx) * (x - mx))
  if sxx = 0 then 0 else sumRat ((xs.zip ys).map fun p => (p.1 - mx) * (p.2 - my)) / sxx

/-- Remaining life of a mechanism in days; none where its slope does not rise (R359). -/
def remaining (f r : Rat) : Option Rat := if 1 ≤ f then some 0 else if r ≤ 0 then none else some ((1 - f) / r)

/-- The mechanism with the smallest remaining life. -/
def soonest : List (Nat × Option Rat) → Option (Nat × Rat)
  | [] => none
  | (i, some x) :: rest => match soonest rest with
    | some (j, y) => if y < x then some (j, y) else some (i, x)
    | none => some (i, x)
  | (_, none) :: rest => soonest rest

/-- The confidence class of a history of `n` days (R359). -/
def eolClass (n : Nat) : Nat := if n < 7 then 0 else if n < 30 then 1 else if n < 90 then 2 else 3

/-- EOL_PREDICT (R359, R360): once a day. -/
def Dev.eolPredict (d : Dev) : Dev :=
  let f := d.hlt.odo.fractions
  let days := (f :: d.hlt.days).take 90
  let cls := eolClass days.length
  let lives := (List.range 4).map fun i => (i, remaining (f.getD i 0) (slope (days.map fun x => x.getD i 0)))
  let (mech, months) := match soonest lives with
    | some (i, x) => let m := (floorRat (x * 100 / 3044)).toNat; (i, if 65534 < m then 0xFFFF else m)
    | none => (0, 0xFFFF)
  let months := if cls = 0 then 0xFFFF else months
  let d := d.onHlt fun h => { h with days := days, dayCount := days.length }
  let d := d.setReg .eolStat 0 (at_ 20 cls ||| at_ 16 mech ||| at_ 0 months)
  let d := d.forEach (List.range 4) fun i d =>
    d.setReg .eolFrac i (BitVec.ofNat 32 (satNat 16 (floorRat (f.getD i 0 * 32768)).toNat))
  if months ≤ 24 ∧ 1 ≤ cls ∧ !d.hlt.eolWarn then
    (d.onHlt fun h => { h with eolWarn := true }).logEvent 0x0C06 kDevice 0 (ev4 months ++ ev4 mech ++ ev4 cls)
  else if 27 < months then d.onHlt fun h => { h with eolWarn := false }
  else d

/-! ### Black-box commits (R363, R364) -/

/-- The commit in progress ends (R364): a failed one leaves no valid record. A commit that waits then starts. -/
def Dev.commitEnd (d : Dev) (ok : Bool) : Dev :=
  match d.bbx.running with
  | none => d
  | some r =>
    let d := d.onBbx fun b => { b with running := none, commit := if ok then some r else none }
    let d := if ok then d.addCnt .bbxCommits 0 0 32 else d
    let d := d.logEvent 0x0C11 kDevice 0 (ev4 r.kind ++ ev4 (b2n (!ok)) ++ ev4 r.merged)
    let d := if ok then d else d.probationFails 5
    d.runWaitingCommit

/-! ### Firmware regions (R370, R371) -/

/-- FW_LOAD ends: the chunk stands in the region, or its write failed (R370). -/
def Dev.fwLoadEnd (d : Dev) (target off : Nat) (data : List Byte) (ok : Bool) : Resp × Dev :=
  let d := d.mramWrite (if target = 2 then 4 else target)
  if ok then (⟨stOk, []⟩, d.onRegion target fun r => { r with mem := memWrites r.mem off data }) else (⟨stNvmFail, []⟩, d)

/-- FW_VERIFY ends (R371): result, state of the region, digest; in recovery a verified slot is booted 10 ms later (R336). The
firmware version is a little-endian word with the major version in its high byte (R4; DEDUCED, log 151). -/
def Dev.fwVerifyEnd (d : Dev) (port target : Nat) : Resp × Dev :=
  let r := d.region target
  let res := if target = 2 then d.protCheck else d.slotCheck target
  let (fw, sec) := if target = 2 then (0, imgVersion r.mem) else (r.firmware, r.security)
  let hash := if res = 0 then (Config.sha256 (memReads r.mem 0 (64 + imgLen r.mem))).toNat else 0
  let d := d.onRegion target fun r => { r with st := if res = 0 then 3 else 4, digest := hash }
  let d := if target = 2 then d else d.onHlt fun h => { h with slotVer := h.slotVer.set target (fw, sec) }
  let d := d.logEvent 0x0D01 kPort port (ev4 target ++ ev4 res ++ wordBytes fw)
  let d := if d.pwr.recovery ∧ res = 0 ∧ target ≠ 2 then
      (d.onHlt fun h => { h with recSlot := target }).onPwr fun x => { x with restartAt := some (d.now + 10 * 1000 * unitsPerUs) }
    else d
  (⟨stOk, [BitVec.ofNat 8 target, BitVec.ofNat 8 res] ++ wordBytes fw ++ leBytes 2 sec ++ zeros 2⟩, d)

end Sys2Proof.Machine
end

