-- ==== Sys2Proof/Machine/OpHealth.lean ====
section
/-! DEFINITION. The opcodes of groups 0x08, 0x0C, 0x0D and 0x0E: process channels, black box, firmware, power, debug and
protection (R251–R253, R332, R338, R341, R346, R347, R350, R367, R368, R370–R372). -/
namespace Sys2Proof.Machine
open Sys2Proof

/-! ### Process channels -/

/-- CH_CONFIG (R252): the images of the channel's words, staged like register writes. -/
def Dev.opChConfig (d : Dev) (r : Request) (g : Bool) : Served :=
  let b := r.payload
  let (c, ctl) := (byteAt b 0, byteAt b 1)
  d.forUnit r (decide (c < 8)) (d.fld .pfeLane c 0 7) <|
  if b.length ≠ 36 ∧ b.length ≠ 132 then d.answer stBadLength
  else if 1 < ctl ∨ !zeroAt b 2 2 then d.answer stRange
  else if (ctl = 1) ≠ (b.length = 132) then d.answer stBadLength
  else
    let base := 0x60000 + 0x100 * c
    let d := (List.range 8).foldl (fun d i => d.writeAt r.port g (base + 4 * i) (wordAt b (4 + 4 * i))) d
    let d := if ctl = 1 then (List.range 24).foldl (fun d i => d.writeAt r.port g (base + 0x80 + 4 * i) (wordAt b (36 + 4 * i))) d else d
    d.answer stStaged

/-- One entry of a CH_READ reply (R253). -/
def Dev.chEntry (d : Dev) (p c : Nat) : List Byte :=
  let y := d.ch c
  wordBytes y.cur.val ++ wordBytes (d.readReg p .pfeStat c) ++ leBytes 8 y.cur.t ++ wordBytes y.x ++ wordBytes y.tin ++ leBytes 4 y.count

/-- CH_READ (R253). -/
def Dev.opChRead (d : Dev) (r : Request) (_ : Bool) : Served :=
  let c := byteAt r.payload 0
  let cs := if c = 0xFF then List.range 8 else [c]
  if r.payload.length ≠ 1 then d.answer stBadLength
  else if 7 < c ∧ c ≠ 0xFF then d.answer stRange
  else d.answer stOk ([0, BitVec.ofNat 8 cs.length] ++ cs.flatMap (d.chEntry r.port))

/-! ### Black box -/

/-- The 32 bytes of an event record (Table 16-4). -/
def Event.bytes (e : Event) : List Byte :=
  let b := leBytes 8 e.t ++ leBytes 2 e.code ++ leBytes 2 (e.kind % 16 * 4096 + e.idx % 4096) ++ padTo 16 e.data ++ leBytes 2 e.seq
  b ++ leBytes 2 (if e.bad then 65535 - crc16 b else crc16 b)

/-- Bytes 0 to 123 of a commit record (Table 16-7); the firmware version is a little-endian word (R4; DEDUCED, log 151). -/
def CommitRec.head (c : CommitRec) : List Byte :=
  [1, BitVec.ofNat 8 c.kind, BitVec.ofNat 8 (satNat 8 c.merged), BitVec.ofNat 8 (b2n c.late)] ++ leBytes 8 c.t ++ leBytes 4 c.frmSeq ++
    wordBytes c.fwVer ++ [BitVec.ofNat 8 c.slot, BitVec.ofNat 8 c.power] ++ leBytes 2 c.newest ++ leBytes 4 c.hours ++
    wordBytes c.dieT ++ zeros 92

/-- The 1,024 event records of a commit. -/
def CommitRec.eventBytes (c : CommitRec) : List Byte := padTo 32768 (c.events.flatMap Event.bytes)
/-- The lane snapshots of a commit. -/
def CommitRec.snapBytes (c : CommitRec) : List Byte := padTo 6144 (c.snaps.flatMap fun s => s.flatMap wordBytes)

/-- The header with its CRC, and the snapshots: area 2 (R367). -/
def CommitRec.area2 (c : CommitRec) : List Byte :=
  c.head ++ leBytes 4 (crc32 (c.head ++ c.eventBytes ++ c.snapBytes)) ++ c.snapBytes

/-- Up to `n` records from sequence `s` on of a list held oldest first, whose next number is `next` (R367). -/
def readEvents (es : List Event) (next s n : Nat) : List Byte :=
  let newest := (next + 65535) % 65536
  let oldest := (next + 65536 - es.length) % 65536
  let ahead := (s + 65536 - newest) % 65536
  let back := (next + 65536 - s) % 65536
  let answer (flags : Nat) (us : List Event) : List Byte :=
    [BitVec.ofNat 8 us.length, BitVec.ofNat 8 flags] ++ leBytes 2 oldest ++ leBytes 2 newest ++ us.flatMap Event.bytes
  if es = [] then answer 2 []
  else if 1 ≤ ahead ∧ ahead ≤ 32767 then answer 0 []
  else if es.length < back ∨ back = 0 then answer 1 (es.take n)
  else answer 0 ((es.drop (es.length - back)).take n)

/-- BBX_READ (R367). -/
def Dev.opBbxRead (d : Dev) (r : Request) (_ : Bool) : Served :=
  let b := r.payload
  let (area, n, s) := (byteAt b 0, byteAt b 1, u16At b 2)
  if b.length ≠ 4 then d.answer stBadLength
  else if 2 < area ∨ n = 0 ∨ 31 < n ∨ (area = 2 ∧ 195 < s) then d.answer stRange
  else if area = 0 then d.answer stOk (readEvents d.bbx.ring.reverse d.bbx.nextSeq s n)
  else match d.bbx.commit with
    | none => d.answer stState
    | some c =>
      if area = 1 then d.answer stOk (readEvents c.events ((c.newest + 1) % 65536) s n)
      else
        let us := slice c.area2 (32 * s) (32 * n)
        d.answer stOk ([BitVec.ofNat 8 (us.length / 32), 0] ++ zeros 4 ++ us)

/-- BBX_COMMIT (R368): a background job that ends with its commit. -/
def Dev.opBbxCommit (d : Dev) (r : Request) (_ : Bool) : Served :=
  if r.payload ≠ [] then d.answer stBadLength
  else if d.bbx.running.isSome ∨ (d.port r.port).bg.isSome then d.answer stBusy
  else (d.bbxTrigger 4).background r 0xC02 .bbxCommit

/-! ### Firmware -/

/-- The target may not be written now: the running slot, either slot in probation (R370). -/
def Dev.fwLocked (d : Dev) (target : Nat) : Bool :=
  target ≠ 2 && (target = d.hlt.runSlot || d.hlt.probation.isSome)

/-- FW_LOAD (R370). -/
def Dev.opFwLoad (d : Dev) (r : Request) (_ : Bool) : Served :=
  let b := r.payload
  let (target, ctl, off) := (byteAt b 0, byteAt b 1, u32At b 4)
  let data := b.drop 8
  if b.length < 8 then d.answer stBadLength
  else if 2 < target ∨ 1 < ctl ∨ !zeroAt b 2 2 ∨ off % 8 ≠ 0 ∨ data.length % 8 ≠ 0 ∨ data = [] ∨ regionSize target < off + data.length then
    d.answer stRange
  else if d.fwLocked target ∨ (ctl = 0 ∧ (d.region target).st ≠ 1) then d.answer stState
  else if (d.port r.port).bg.isSome then d.answer stBusy
  else
    let d := if ctl = 1 then d.onRegion target fun x => { x with st := 1, factory := false, digest := 0 } else d
    d.background r 0xD00 (.fwLoad target off data)

/-- FW_VERIFY (R371). -/
def Dev.opFwVerify (d : Dev) (r : Request) (_ : Bool) : Served :=
  let b := r.payload
  if b.length ≠ 4 then d.answer stBadLength
  else if 2 < byteAt b 0 ∨ !zeroAt b 1 3 then d.answer stRange
  else d.background r 0xD01 (.fwVerify (byteAt b 0))

/-- A port runs a background job, or a commit is in progress (R372). -/
def Dev.jobsRun (d : Dev) : Bool := d.bbx.running.isSome || (List.range 5).any fun p => (d.port p).bg.isSome

/-- FW_SWITCH (R372). -/
def Dev.opFwSwitch (d : Dev) (r : Request) (g : Bool) : Served :=
  let b := r.payload
  let s := byteAt b 0
  if b.length ≠ 4 then d.answer stBadLength
  else if 1 < s ∨ !zeroAt b 1 3 then d.answer stRange
  else if (d.region s).st ≠ 3 ∨ s = d.hlt.runSlot ∨ d.hlt.probation.isSome ∨ d.pwr.dbg = .openDbg ∨ d.pwr.recovery ∨ d.pwr.pfailLow then
    d.answer stState
  else if d.jobsRun then d.answer stBusy
  else (d.stage r.port g (.fwSwitch s)).answer stStaged

/-! ### Power, debug, protection -/

/-- POWER_STATE (R338). An accepted ACTIVE or ECONOMY clears `DETACHED` (R341); in a group, at the group's end. -/
def Dev.opPowerState (d : Dev) (r : Request) (g : Bool) : Served :=
  let b := r.payload
  let t := byteAt b 0
  if b.length ≠ 4 then d.answer stBadLength
  else if 3 < t ∨ !zeroAt b 1 3 then d.answer stRange
  else if d.powerFails t ≠ 0 then d.answer stState
  else ((d.when (t < 2 && !g) fun d => d.onPwr fun x => { x with detached := false }).stage r.port g (.power t)).answer stStaged

/-- DETACH (R341): PARKED within one frame, the black box committed, then the answer. -/
def Dev.opDetach (d : Dev) (r : Request) (_ : Bool) : Served :=
  if r.payload ≠ [] then d.answer stBadLength
  else if (d.port r.port).bg.isSome then d.answer stBusy
  else ((d.askParked 2).bbxTrigger 2).background r 0xE01 .detach

/-- PROT_STATUS (R350). -/
def Dev.opProtStatus (d : Dev) (r : Request) (_ : Bool) : Served :=
  let s := d.region 2
  if r.payload ≠ [] then d.answer stBadLength
  else d.answer stOk <|
    leBytes 2 (d.fld .protStat 0 16 16) ++ leBytes 2 (if s.st = 0 then 0 else imgVersion s.mem) ++
    [BitVec.ofNat 8 (b2n d.crit.sealed), BitVec.ofNat 8 d.pwr.dbg.code] ++ (if d.pwr.imageOk then digest (imgBytes d.pwr.image) else zeros 32)

/-- SEAL (R332). Whether the fuses verify is a free value (DESIGN CHOICE, log 118). -/
def Dev.opSeal (d : Dev) (r : Request) (_ : Bool) : Served :=
  let h := digest (imgRoot d.pwr.image)
  if r.payload.length ≠ 32 then d.answer stBadLength
  else if d.crit.sealed ∨ d.pwr.st ≠ .parked ∨ !d.pwr.imageOk then d.answer stState
  else if r.payload ≠ h then d.answer stRange
  else
    let (w, e) := d.free
    if w = 0 then e.answer stNvmFail
    else ((e.onPwr fun x => { x with sealFuse := true, rootHash := h }).logEvent 0x0E0A kPort r.port (h.take 4)).answer stOk

/-- DBG_CHALLENGE (R346). -/
def Dev.opDbgChallenge (d : Dev) (r : Request) (_ : Bool) : Served :=
  let t := byteAt r.payload 0
  if r.payload.length ≠ 1 then d.answer stBadLength
  else if t ≠ 1 ∧ t ≠ 2 then d.answer stRange
  else let (v, e) := d.drawNonce t; e.answer stOk v

/-- DBG_RESPONSE (R346). -/
def Dev.opDbgResponse (d : Dev) (r : Request) (_ : Bool) : Served :=
  let b := r.payload
  if b.length ≠ 68 then d.answer stBadLength
  else if 3 < byteAt b 0 ∨ !zeroAt b 1 3 then d.answer stRange
  else let (ok, e) := d.dbgRespond kPort r.port (byteAt b 0) (b.drop 4); e.answer (if ok then stOk else stRange)

/-- DBG_CLOSE (R344, R346). -/
def Dev.opDbgClose (d : Dev) (r : Request) (_ : Bool) : Served :=
  if r.payload ≠ [] then d.answer stBadLength
  else match d.pwr.dbg with
    | .openDbg => d.answer stState
    | .observe => (d.setDebug .closed kPort r.port 0xFF).answer stOk
    | .closed => d.answer stOk

/-- DBG_OPEN_FREE (R347). -/
def Dev.opDbgOpenFree (d : Dev) (r : Request) (_ : Bool) : Served :=
  if r.payload ≠ [] then d.answer stBadLength
  else if d.crit.sealed ∨ d.pwr.st ≠ .parked then d.answer stState
  else (if d.pwr.dbg = .openDbg then d else d.setDebug .openDbg kPort r.port 0xFF).answer stOk

end Sys2Proof.Machine
end

