-- ==== Sys2Proof/Machine/Proto.lean ====
section
/-! DEFINITION. The command protocol around the opcodes: frames, the checks of Table 12-4, the service of requests and groups,
replies, background jobs, links and the maintenance SPI (spec/12_command_protocol.md, R256–R268, R277–R285). -/
namespace Sys2Proof.Machine
open Sys2Proof

/-! ### Arrival (R257–R263) -/

/-- The payload of a frame of an address field, six bytes as a number. -/
def macAt (b : List Byte) (o : Nat) : Nat := beNat (slice b o 6)

/-- The requests that the receive queue of port `p` holds (R282). -/
def queueMax (p : Nat) : Nat := if p = 4 then 4 else 16

/-- Log a drop of events 0x0011 to 0x0013, slot 0 to 2, at most once a second with the count since the last record (R263). -/
def Dev.logDrop (d : Dev) (p slot code : Nat) (head : List Byte) : Dev :=
  let (last, n) := (d.port p).dropLog.getD slot (none, 0)
  let quiet : Bool := match last with
    | some t => decide (t + unitsPerSec ≤ d.now)
    | none => true
  let now := d.now
  let put (v : Option Time × Nat) (d : Dev) : Dev := d.onPort p fun x => { x with dropLog := x.dropLog.set slot v }
  if quiet then (put (some now, 0) d).logEvent code kPort p (head ++ ev4 (n + 1)) else put (last, n + 1) d

/-- The request in a packet that arrives on port `p` now (Table 12-3). -/
def packetRequest (p : Nat) (t : Time) (b : List Byte) : Request :=
  { t := t, port := p, gen := byteAt b 0 / 16, minor := byteAt b 0 % 16, flags := b.getD 1 0, tag := BitVec.ofNat 16 (u16At b 4),
    lane := u16At b 8, payload := slice b 12 (u16At b 6) }

/-- Put a reply into the transmit queue of its port (R264, R284). -/
def Dev.pushReply (d : Dev) (q : QReq) (a : Resp) : Dev :=
  d.onPort q.req.port fun x => { x with tx := x.tx ++ [{ bytes := replyBytes q.op q.req a, dst := q.src, vlan := q.vlan, arr := q.arr }] }

/-- The whole milliseconds that a pause may still last, at most 25 (R285). -/
def Dev.pauseLeft (d : Dev) : Nat :=
  match d.hlt.pause with
  | some x => 25 - (d.now - x.start) / (1000 * unitsPerUs)
  | none => 0

/-- The maintenance port holds four replies, the one of its background job included (R261). -/
def Dev.repliesFull (d : Dev) (p : Nat) : Bool := p = 4 && decide (4 ≤ (d.port 4).tx.length + b2n (d.port 4).bg.isSome)

/-- A packet arrives on port `p`: steps 1 to 5 of Table 12-4. `pad`: bytes after the packet are padding. A request that would
be answered BUSY while the port holds four replies is dropped as with a full queue (DESIGN CHOICE, log 134). -/
def Dev.arrival (d : Dev) (p : Nat) (b : List Byte) (pad : Bool) (src : Nat) (vlan : Option Nat) : Dev :=
  let n := 16 + u16At b 6
  let body := b.take (n - 4)
  if b.length < 16 ∨ b.length < n ∨ (!pad && b.length ≠ n) ∨ crc32 body ≠ u32At b (n - 4) then
    (d.addCnt .hpRxCrc p 16 16).logDrop p 0 0x0011 []
  else
    let r := packetRequest p d.now b
    if r.gen = 0 ∨ 3 < r.gen ∨ r.flags &&& 0xF3 ≠ 0 ∨ !zeroAt b 10 2 then d.addCnt .hpRxCrc p 0 16
    else if d.portGen p < r.gen then (d.addCnt .hpRxGen p 16 16).logDrop p 1 0x0012 (ev4 r.gen)
    else
      let q : QReq := { op := u16At b 2, arr := d.now, src := src, vlan := vlan, req := r }
      if d.hlt.pause.isSome then
        if !r.flags.getLsbD 3 && d.repliesFull p then d.addCnt .hpRxGen p 0 16
        else
          let d := d.addCnt .hpTxBusy p 16 16
          if r.flags.getLsbD 3 then d else d.pushReply q ⟨stBusy, leBytes 2 d.pauseLeft⟩
      else if queueMax p ≤ (d.port p).rx.length then (d.addCnt .hpRxGen p 0 16).logDrop p 2 0x0013 []
      else
        let d := d.onPort p fun x => { x with rx := x.rx ++ [q] }
        d.maxFld .hpQmax p 16 16 (d.port p).rx.length

/-- The port may take link-level traffic: enabled, alive; its link may be down. -/
def Dev.portOn (d : Dev) (p : Nat) : Bool := d.alive && decide (p < 4) && d.regBit .hpCtrl p 4

/-- A link-status frame of a Worost link (R258). -/
def Dev.linkStatus (d : Dev) (p : Nat) (status : Byte) : Dev :=
  if !d.portOn p ∨ !d.worost p then d
  else
    let t := d.now
    let d := d.onPort p fun x => { x with sync := true, statusT := t, ready := if status.getLsbD 0 then x.ready + 1 else 0 }
    if 3 ≤ (d.port p).ready then d.linkSet p true else d

/-- A frame of a Worost link: the kind byte and the contents (R257). -/
def Dev.worostFrame (d : Dev) (p : Nat) (f : List Byte) (damaged : Bool) : Dev :=
  let bad (d : Dev) : Dev := if d.portUp p then d.addCnt .hpRxCrc p 0 16 else d
  match f, damaged with
  | [3, s], false => d.linkStatus p s
  | 1 :: b, false => if d.portUp p then d.arrival p b false 0 none else d
  | 2 :: b, false => d.partReceive p b
  | _, _ => bad d

/-- A frame of 1000BASE-X: destination, source, an optional 802.1Q tag, EtherType, data, without its FCS (R259, R260). -/
def Dev.macFrame (d : Dev) (p : Nat) (f : List Byte) (damaged : Bool) : Dev :=
  let tagged := u16At f 12 = 0x0081
  let ty := if tagged then beNat (slice f 16 2) else beNat (slice f 12 2)
  let data := if tagged then f.drop 18 else f.drop 14
  let vlan := if tagged then some (beNat (slice f 14 2)) else none
  if !d.portUp p then d
  else if damaged ∨ 1518 < f.length ∨ f.length < (if tagged then 20 else 16) then d.addCnt .hpRxCrc p 0 16
  else if ty = 0x8808 ∨ ty = 0x88F7 then d
  else if f.take 6 ≠ macBytes p ∨ ty ≠ d.fld .protEtype 0 0 16 then d.addCnt .hpPosted p 0 16
  else match data with
    | 1 :: 0 :: b => d.arrival p b true (macAt f 6) vlan
    | 2 :: 0 :: b => d.partReceive p (b.take (partLen 16 (byteAt b 2) (byteAt b 3)))
    | _ => d.addCnt .hpPosted p 0 16

/-- PACKET_RECEIVE: one frame as its port delivers it. -/
def Dev.frameIn (d : Dev) (p : Nat) (f : List Byte) (damaged : Bool) : Dev :=
  if p = 4 then
    if !d.portUp 4 then d else if damaged then d.addCnt .hpRxCrc 4 0 16 else d.arrival 4 f false 0 none
  else if d.worost p then d.worostFrame p f damaged
  else d.macFrame p f damaged

/-! ### The opcodes and steps 6 to 10 (R263, R266, R278) -/

/-- How an opcode uses the lane selector (R263). -/
inductive LaneUse where
  /-- Ignored. -/
  | ignored
  /-- One lane. -/
  | one
  /-- One lane, or 0xFFFF for the lanes owned by the sender. -/
  | oneOrAll
  /-- 0xFFFF only. -/
  | allOnly
  deriving DecidableEq, Repr

/-- Who may send an opcode (R278). -/
inductive Right where
  /-- Any port; a right that the payload decides is checked by the opcode. -/
  | any
  /-- The owner port of the lane selected. -/
  | owner
  /-- The lead port. -/
  | lead
  deriving DecidableEq, Repr

/-- One opcode: the generation that defines it (Table 12-6), its lane selector, its right, its handler. -/
structure OpInfo where
  gen   : Nat
  sel   : LaneUse
  right : Right
  run   : Dev → Request → Bool → Served

/-- The opcodes of groups 0x00 to 0x04. -/
def opsLow : List (Nat × OpInfo) := [
  (0x0001, ⟨1, .ignored, .any, Dev.opIdentify⟩), (0x0002, ⟨1, .ignored, .any, Dev.opPing⟩),
  (0x0010, ⟨1, .ignored, .any, Dev.opRegRd⟩), (0x0011, ⟨1, .ignored, .any, Dev.opRegWr⟩),
  (0x0012, ⟨1, .ignored, .any, Dev.opRegRmw⟩),
  (0x0100, ⟨1, .one, .owner, Dev.opLaneStage⟩), (0x0101, ⟨1, .one, .owner, Dev.opLaneCommit⟩),
  (0x0102, ⟨1, .one, .any, Dev.opLaneRead⟩), (0x0103, ⟨1, .oneOrAll, .owner, Dev.opLanePark⟩),
  (0x0104, ⟨1, .one, .any, Dev.opLaneAdmit⟩),
  (0x0300, ⟨2, .one, .owner, Dev.opMapLearn⟩), (0x0301, ⟨2, .one, .any, Dev.opMapStatus⟩),
  (0x0302, ⟨2, .one, .owner, Dev.opMapSave⟩), (0x0303, ⟨2, .one, .owner, Dev.opMapLoad⟩),
  (0x0400, ⟨1, .one, .owner, Dev.opCoefStage⟩), (0x0401, ⟨1, .oneOrAll, .owner, Dev.opCoefSwap⟩),
  (0x0402, ⟨1, .one, .any, Dev.opCoefRead⟩)]

/-- The opcodes of groups 0x05 to 0x09. -/
def opsMid : List (Nat × OpInfo) := [
  (0x0500, ⟨1, .one, .owner, Dev.opMove⟩), (0x0501, ⟨1, .one, .owner, Dev.opLimits⟩),
  (0x0502, ⟨2, .one, .owner, Dev.opGear⟩), (0x0503, ⟨1, .one, .owner, Dev.opTrim⟩),
  (0x0504, ⟨1, .oneOrAll, .owner, Dev.opStop⟩), (0x0505, ⟨2, .one, .owner, Dev.opWaypoint⟩),
  (0x0506, ⟨2, .allOnly, .lead, Dev.opVmaster⟩),
  (0x0600, ⟨1, .ignored, .any, Dev.opPinAdjust⟩), (0x0601, ⟨1, .ignored, .any, Dev.opMlsRead⟩),
  (0x0602, ⟨1, .ignored, .any, Dev.opMlsArm⟩), (0x0700, ⟨1, .ignored, .any, Dev.opEmuAlign⟩),
  (0x0800, ⟨1, .ignored, .any, Dev.opChConfig⟩), (0x0801, ⟨1, .ignored, .any, Dev.opChRead⟩),
  (0x0900, ⟨1, .ignored, .lead, Dev.opTraceArm⟩), (0x0901, ⟨1, .ignored, .any, Dev.opTraceRead⟩),
  (0x0902, ⟨1, .ignored, .lead, Dev.opTraceForce⟩)]

/-- The opcodes of groups 0x0C to 0x0E. -/
def opsHigh : List (Nat × OpInfo) := [
  (0x0C01, ⟨2, .ignored, .any, Dev.opBbxRead⟩), (0x0C02, ⟨2, .ignored, .lead, Dev.opBbxCommit⟩),
  (0x0D00, ⟨2, .ignored, .lead, Dev.opFwLoad⟩), (0x0D01, ⟨2, .ignored, .lead, Dev.opFwVerify⟩),
  (0x0D02, ⟨3, .ignored, .lead, Dev.opFwSwitch⟩),
  (0x0E00, ⟨2, .ignored, .lead, Dev.opPowerState⟩), (0x0E01, ⟨2, .ignored, .lead, Dev.opDetach⟩),
  (0x0E02, ⟨2, .ignored, .any, Dev.opProtStatus⟩), (0x0E10, ⟨2, .ignored, .lead, Dev.opSeal⟩),
  (0x0E20, ⟨2, .ignored, .lead, Dev.opDbgChallenge⟩), (0x0E21, ⟨2, .ignored, .lead, Dev.opDbgResponse⟩),
  (0x0E22, ⟨2, .ignored, .lead, Dev.opDbgClose⟩), (0x0E23, ⟨2, .ignored, .lead, Dev.opDbgOpenFree⟩)]

/-- What is known of an opcode (step 7). -/
def opInfo (op : Nat) : Option OpInfo := (opsLow ++ opsMid ++ opsHigh).lookup op

/-- The opcodes of group 0x0B, which only an Evfo container carries (R266, R320). -/
def safetyOp (op : Nat) : Bool := decide (0x0B00 ≤ op) && decide (op ≤ 0x0B03)

/-- The opcodes that recovery serves (R336). -/
def recoveryOp (op : Nat) : Bool := [0x0001, 0x0002, 0x0010, 0x0D00, 0x0D01].contains op

/-- The lane selector is one that the opcode allows and that the variant has (step 9, R2). -/
def Dev.laneOk (d : Dev) (u : LaneUse) (lane : Nat) : Bool :=
  match u with
  | .ignored => true
  | .one => decide (lane < d.laneCount)
  | .oneOrAll => decide (lane < d.laneCount) || decide (lane = 0xFFFF)
  | .allOnly => decide (lane = 0xFFFF)

/-- The port of the request has the right that the opcode asks for (step 10, R278); in recovery any port may write (R336). -/
def Dev.rightOk (d : Dev) (i : OpInfo) (r : Request) : Bool :=
  d.pwr.recovery || match i.right with
    | .any => true
    | .owner => decide (r.lane = 0xFFFF) || d.owns r.port r.lane
    | .lead => d.leads r.port

/-- Steps 6 to 11 of Table 12-4: the first failing check answers; then the opcode is served. -/
def Dev.runOp (d : Dev) (op : Nat) (r : Request) (g : Bool) : Served :=
  if payloadLimit r.gen < r.payload.length then d.answer stBadLength
  else if safetyOp op then d.answer stSafetyHeld
  else match opInfo op with
    | none => d.answer stBadOpcode
    | some i =>
      if r.gen < i.gen then d.answer stBadGen
      else if d.pwr.recovery && !recoveryOp op then d.answer stState
      else if !d.laneOk i.sel r.lane then d.answer stRange
      else if !d.rightOk i r then d.answer stNotOwner
      else i.run d r g

/-! ### Service (R264, R265, R268, R277, R281, R282) -/

/-- The opcode only reads: it is not logged (R281). -/
def readsOnly (op : Nat) (payload : List Byte) : Bool :=
  [0x0001, 0x0002, 0x0010, 0x0102, 0x0104, 0x0301, 0x0402, 0x0801, 0x0901, 0x0C01, 0x0E02].contains op ||
    (op = 0x0601 && byteAt payload 2 ≠ 1)

/-- The first address of a register write, which its log record carries (R281). -/
def logAddr (op : Nat) (payload : List Byte) : Nat := if op = 0x11 ∨ op = 0x12 then u32At payload 0 else 0

/-- The request is posted (R265). -/
def QReq.posted (q : QReq) : Bool := q.req.flags.getLsbD 3

/-- A posted request that failed a check is counted (R265). -/
def Dev.countPosted (d : Dev) (q : QReq) (failed : Bool) : Dev :=
  d.when (q.posted && failed) fun d => d.addCnt .hpPosted q.req.port 16 16

/-- The reply leaves for the transmit queue, but for a posted request (R265). -/
def Dev.replyUnlessPosted (d : Dev) (q : QReq) (a : Resp) : Dev := if q.posted then d else d.pushReply q a

/-- Answer a request: nothing for a posted one, whose failure is counted (R264, R265). -/
def Dev.reply (d : Dev) (q : QReq) (a : Resp) : Dev := (d.countPosted q !a.accepted).replyUnlessPosted q a

/-- The service time of a request that is no background job (R282, R374). -/
def Dev.latency (d : Dev) (q : QReq) : Dev :=
  let p := q.req.port
  let us := (d.now - q.arr) / unitsPerUs
  let d := d.maxFld .hpQmax p 0 16 (satNat 16 us)
  match d.hlt.probation with
  | some e => if 6500 * unitsPerUs < d.now - q.arr ∧ e ≤ q.arr + 60 * unitsPerSec then d.probationFails 3 else d
  | none => d

/-- Event 0x0423 for a structure that was admitted. -/
def Dev.logAdmittedAct (d : Dev) (a : Act) : Dev :=
  match a with
  | .laneCommit n s => let (_, k, load, _) := d.admission n s; d.logEvent 0x0423 kLane n (ev4 (clusterOf n) ++ ev4 k ++ ev4 load)
  | _ => d

/-- Event 0x0423 for the structures that were admitted. -/
def Dev.logAdmitted (d : Dev) (as : List Act) : Dev := as.foldl Dev.logAdmittedAct d

/-- A refusal of a write: counted and logged (R263, R281). -/
def Dev.noteRefusal (d : Dev) (q : QReq) (st : Nat) : Dev :=
  let p := q.req.port
  let d := if st = stNotOwner then d.addCnt .hpTxBusy p 0 16 else d
  if st = stNotOwner ∨ st = stLocked then d.logWrite p 0x0014 q.op q.req.lane q.req.tag.toNat (logAddr q.op q.req.payload) st else d

/-- Log an accepted request that writes, stages or acts (R281). -/
def Dev.noteAccepted (d : Dev) (q : QReq) : Dev :=
  if readsOnly q.op q.req.payload then d
  else d.logWrite q.req.port 0x0010 q.op q.req.lane q.req.tag.toNat (logAddr q.op q.req.payload)

/-- Serve a request that is in no group. -/
def Dev.serveSingle (d : Dev) (q : QReq) : Dev :=
  let (a, e) := d.runOp q.op q.req false
  match a with
  | none =>
    -- a background job keeps where its answer goes (R283)
    (e.onPort q.req.port fun x => { x with bg := x.bg.map fun j => { j with q := q } }).noteAccepted q
  | some a =>
    let e := if a.accepted then
        let e := e.noteAccepted q
        if q.op = 0x101 ∧ a.status = stStaged then e.logAdmitted ((e.staged.getLast?.map (·.act)).toList) else e
      else e.noteRefusal q a.status
    (e.reply q a).latency q

/-- What the end of a group makes of one of its actions: writes without staging act, `DETACHED` clears (R268, R341). -/
def Dev.groupAct (d : Dev) (a : Act) : Dev :=
  match a with
  | .write r k v => d.writeNow r k v
  | .power t => d.when (t < 2) fun d => d.onPwr fun x => { x with detached := false }
  | _ => d

/-- The action stays staged after the end of its group. -/
def Act.stays : Act → Bool
  | .write _ _ _ => false
  | _ => true

/-- The open group of port `p` is accepted now: all its requests count as accepted at this instant (R268). -/
def Dev.acceptGroup (d : Dev) (p : Nat) (g : OpenGroup) : Dev :=
  let mine (s : Staged) : Bool := s.inGroup && s.port = p
  let ms : List Staged := d.staged.filter mine
  let now := d.now
  let kept : List Staged := (ms.filter fun s => s.act.stays).map fun s => { s with inGroup := false, acc := now }
  let d : Dev := { d with staged := (d.staged.filter fun s => !mine s) ++ kept }
  let d := d.onPort p fun x => { x with group := none }
  let d := ms.foldl (fun d s => d.groupAct s.act) d
  let d := g.writes.foldl (fun d w => d.logWrite p 0x0010 w.1 w.2.1 w.2.2.1 w.2.2.2) d
  d.logAdmitted (ms.map (·.act))

/-- The failure of a group's request: a status of its own, or BAD_OPCODE where it would not be answered STAGED (R268). -/
def memberFailure (a : Option Resp) : Option Nat :=
  match a with
  | some a => if a.status = stStaged then none else some (if a.status = stOk then stBadOpcode else a.status)
  | none => some stBadOpcode

/-- Serve a request of the group of its port (R268). A posted request counts in `POSTED_ERR` for its own failure, wherever it
stands in the group (R265). -/
def Dev.serveMember (d : Dev) (q : QReq) : Dev :=
  let p := q.req.port
  let now := d.now
  let g := ((d.port p).group).getD { count := 0, last := now, low := (d.port p).lowHeld }
  let d := d.onPort p fun x => { x with group := some g }
  if 32 ≤ g.count then (((d.releaseGroup p).countPosted q true).replyUnlessPosted q ⟨stRange, [32, 0]⟩).latency q
  else
    let (a, e) := d.runOp q.op q.req true
    let bad := memberFailure a
    -- a request that its checks refuse leaves what the refusal logs
    let refused : Bool := a.any fun x => !x.accepted
    let d := if refused || (g.failed.isNone && bad.isNone) then e else d
    let d := match bad with
      | some st => (d.noteRefusal q st).countPosted q true
      | none => d
    let failed := match g.failed with
      | some f => some f
      | none => bad.map fun st => (st, g.count)
    let g := { g with count := g.count + 1, failed := failed, last := now,
                      writes := g.writes ++ [(q.op, q.req.lane, q.req.tag.toNat, logAddr q.op q.req.payload)] }
    let d := d.onPort p fun x => { x with group := some g }
    if q.req.flags.getLsbD 2 then d
    else match failed with
      | some (st, i) => ((d.releaseGroup p).replyUnlessPosted q ⟨st, [BitVec.ofNat 8 i, 0]⟩).latency q
      | none => ((d.acceptGroup p g).replyUnlessPosted q ⟨stStaged, [BitVec.ofNat 8 g.count, 0]⟩).latency q

/-- The group of port `p` has waited for more than 10 ms: the cycle of the expiry is on time (R40, R268). -/
def Dev.groupLate (d : Dev) (p : Nat) : Bool :=
  match (d.port p).group with
  | some g => !arrivesBy d.now (g.last + 10 * 1000 * unitsPerUs)
  | none => false

/-- Serve one request now: the interpreter completes its checks at this instant (R277). -/
def Dev.serve (d : Dev) (q : QReq) : Dev :=
  let p := q.req.port
  let d := d.addCnt .hpRxOk p 0 32
  let d := if d.groupLate p then d.abandonGroup p 1 else d
  if (d.port p).group.isSome || q.req.flags.getLsbD 2 then d.serveMember q else d.serveSingle q

/-- GROUP_TIMEOUT (R268). -/
def Dev.groupTimeout (d : Dev) (p : Nat) : Dev := if d.groupLate p then d.abandonGroup p 1 else d

/-- The interpreter can take the next request of port `p`: the maintenance port holds four replies, the one of its background
job included (R261). -/
def Dev.canServe (d : Dev) (p : Nat) : Bool := !(d.port p).rx.isEmpty && !d.repliesFull p

/-- PACKET_SERVE: the next request in the cyclic order H0, H1, H2, H3, maintenance (R282). -/
def Dev.packetServe (d : Dev) : Dev :=
  if !d.mgmtUp then d
  else match ((List.range 5).map fun i => (d.serveNext + i) % 5).find? d.canServe with
    | none => d
    | some p => match (d.port p).rx with
      | [] => d
      | q :: rest =>
        let now := d.now
        let d := { d with serveNext := (p + 1) % 5 }.onPort p fun x => { x with rx := rest }
        d.serve { q with req := { q.req with t := now } }

/-- A request served in one step, as its opcode's row says: the interpreter serves it at its instant. -/
def Dev.serveNow (d : Dev) (op : Nat) (r : Request) : Dev :=
  let d := d.at r.t
  if d.mgmtUp then d.serve { op := op, arr := r.t, req := r } else d

/-! ### Replies on the line (R261, R284) -/

/-- The port's next record transmission; none where the port sends no record (R284, R297). -/
def Dev.nextRecord (d : Dev) (p : Nat) : Option Time :=
  let ofs := 20 * d.fld .frmTxofs 0 0 18
  match (d.port p).block with
  | some (k, _, sent) => some (if k < d.time.k.getD 0 then d.time.t0 + ofs + sent else d.tickAt d.nextTick + ofs)
  | none => if (d.outShares p).isEmpty then none else some (d.tickAt d.nextTick + ofs)

/-- A frame that is no cyclic record may start now on port `p` (R284). -/
def Dev.lineFree (d : Dev) (p : Nat) : Bool :=
  match d.nextRecord p with
  | some t => decide (d.now + 20 * (if d.worost p then 1680 else 1740) ≤ t)
  | none => true

/-- The frame that carries a reply (R257, R260). -/
def Dev.replyFrame (d : Dev) (p : Nat) (x : Reply) : List Byte :=
  if d.worost p then 1 :: x.bytes else d.ethFrame p (beBytes 6 x.dst) x.vlan ([1, 0] ++ x.bytes)

/-- Send a frame on port `p` now. -/
def Dev.send (d : Dev) (p : Nat) (f : List Byte) : Dev :=
  let now := d.now
  d.onPort p fun x => { x with sent := (now, f) :: x.sent }

/-- REPLY_TRANSMIT (R284): the oldest reply of a host port leaves. -/
def Dev.replyTransmit (d : Dev) (p : Nat) : Dev :=
  match (d.port p).tx with
  | x :: rest =>
    if p < 4 ∧ d.portUp p ∧ d.lineFree p then
      ((d.onPort p fun y => { y with tx := rest }).send p (d.replyFrame p x)).addCnt .hpTxReply p 0 32
    else d
  | [] => d

/-- The status byte of the SPI (R261). -/
def Dev.spiStatusByte (d : Dev) : Byte :=
  BitVec.ofNat 8 (b2n (!(d.port 4).tx.isEmpty) + 2 * b2n (decide (4 ≤ (d.port 4).rx.length)) + 4 * b2n d.hlt.pause.isSome)

/-- The level of SPI_IRQ_N: low while a reply waits (R261). -/
def Dev.spiIrqN (d : Dev) : Bool := (d.port 4).tx.isEmpty

/-- SPI command 0x03: only the status byte is exchanged. -/
def Dev.spiStatus (d : Dev) : Dev := if d.portUp 4 then d.send 4 [d.spiStatusByte] else d

/-- SPI command 0x01: the packet follows. -/
def Dev.spiWrite (d : Dev) (b : List Byte) : Dev :=
  if d.portUp 4 then (d.send 4 [d.spiStatusByte]).arrival 4 b false 0 none else d

/-- SPI command 0x02: the length, then the oldest reply, of which the host clocks out `n` bytes; it is removed only when all of
it has been clocked out. -/
def Dev.spiRead (d : Dev) (n : Nat) : Dev :=
  if !d.portUp 4 then d
  else match (d.port 4).tx with
    | [] => d.send 4 (d.spiStatusByte :: zeros 2)
    | x :: rest =>
      let d' := d.send 4 (d.spiStatusByte :: leBytes 2 x.bytes.length ++ x.bytes.take n)
      if x.bytes.length ≤ n then (d'.onPort 4 fun y => { y with tx := rest }).addCnt .hpTxReply 4 0 32 else d'

/-! ### Background jobs (R283) -/

/-- What the end of a background job answers; none while it still runs. -/
def Dev.jobEnd (d : Dev) (j : BgJob) (ok : Bool) : Option Resp × Dev :=
  let p := j.q.req.port
  match j.act with
  | .mapSave n ret blob =>
    if ok then (some ⟨stOk, if ret then blob else []⟩, d.mapStore n blob)
    else (some ⟨stNvmFail, []⟩, (d.mramWrite 2).logEvent 0x0307 kLane n (ev4 (b2n (!(d.lane n).map.lastB)) ++ ev4 stNvmFail))
  | .mapLoad n => match (d.lane n).map.stored with
    | some blob => let (a, e) := d.stageBlob p n 1 false blob; (some a, e)
    | none => (some ⟨stRange, []⟩, d)
  | .fwLoad target off data => let (a, e) := d.fwLoadEnd target off data ok; (some a, e)
  | .fwVerify target => let (a, e) := d.fwVerifyEnd p target; (some a, e)
  | .bbxCommit => (none, d)
  | .detach =>
    if d.pwr.st = .parked ∧ d.bbx.running.isNone ∧ d.bbx.waiting.isNone then
      (some ⟨stOk, []⟩, d.onPwr fun x => { x with detached := true })
    else (none, d)

/-- The answer of a background job (R283). -/
def Dev.jobReply (d : Dev) (j : BgJob) (a : Resp) : Dev :=
  (d.onPort j.q.req.port fun x => { x with bg := none }).reply j.q a

/-- BACKGROUND_JOB_COMPLETE (R283). -/
def Dev.jobComplete (d : Dev) (p : Nat) (ok : Bool) : Dev :=
  match (d.port p).bg with
  | some j => if !d.mgmtUp then d else
    let (a, e) := d.jobEnd j ok
    e.whenSome a fun a e => e.jobReply j a
  | none => d

/-- BBX_COMMIT_COMPLETE: the commit ends, and with it the requests that asked for it (R364, R368). -/
def Dev.bbxComplete (d : Dev) (ok : Bool) : Dev :=
  if d.bbx.running.isNone then d
  else
    let d := d.commitEnd ok
    d.forEach (List.range 5) fun p d => match (d.port p).bg with
      | some j => if j.act = .bbxCommit then d.jobReply j ⟨if ok then stOk else stNvmFail, []⟩ else d
      | none => d

/-! ### Links (R258, R259) -/

/-- LINK_STATUS_SEND (R258): every 100 µs, ready while the receiver is synchronised. -/
def Dev.linkStatusSend (d : Dev) (p : Nat) : Dev :=
  let now := d.now
  if d.portOn p ∧ d.worost p ∧ d.lineFree p then
    (d.onPort p fun x => { x with statusSent := now }).send p [3, BitVec.ofNat 8 (b2n (d.port p).sync)]
  else d

/-- LINK_STATUS_TIMEOUT (R258): 1 ms without a link-status frame. -/
def Dev.linkStatusTimeout (d : Dev) (p : Nat) : Dev :=
  if d.portOn p ∧ d.worost p ∧ (d.port p).statusT + 1000 * unitsPerUs ≤ d.now then
    (d.onPort p fun x => { x with ready := 0 }).linkSet p false
  else d

/-- LINK_SYNC_LOSS (R258). -/
def Dev.linkSyncLoss (d : Dev) (p : Nat) : Dev := if d.portOn p then d.linkLose p else d

/-- LINK_UP of 1000BASE-X (R259): Clause 37 has completed, or with `AN_OFF` the receiver is synchronised. -/
def Dev.linkUp (d : Dev) (p : Nat) (autoneg : Bool) : Dev :=
  if d.portOn p ∧ !d.worost p ∧ (autoneg ∨ d.regBit .hpCtrl p 8) then (d.onPort p fun x => { x with sync := true }).linkSet p true else d

end Sys2Proof.Machine
end

