-- ==== Sys2Proof/Machine/Commit.lean ====
section
/-! DEFINITION. The commit junction: what staged actions fall due, the frame set, the configuration of every unit, lane state
requests, power-state requests (R10–R12, R17–R20, R36, R296, R338, R403). -/
namespace Sys2Proof.Machine
open Sys2Proof

/-! ### The blocks of the staged registers -/

/-- The register blocks that a commit junction checks as one. -/
inductive Block where
  | frame | maps | plain | exc | acq | trk | trkCmd | map | loop | prf | pin | mls | emu | pfe | pfeCmd | lane
  deriving DecidableEq, Repr

/-- The block of a staged register. -/
def RegId.block (r : RegId) : Block :=
  match r with
  | .frmPeriod | .frmOutdl | .frmCutoff | .frmTxofs | .frmEpoch => .frame
  | .hpOmap | .hpImap | .hpCmap => .maps
  | .excCtrl | .excFreq | .excAmp | .excIxs => .exc
  | .acqCtrl | .acqPhaseSet | .acqLevels | .acqRatio => .acq
  | .trkCtrl | .trkAid | .trkZero | .trkStill | .trkPosSet | .detCtrl | .detScale => .trk
  | .trkCmd => .trkCmd
  | .mapCtrl | .mapVmin | .mapVsplit | .mapVmax | .mapAmax | .mapLrn | .mapTol => .map
  | .loopCtrl | .loopDiv | .trmCtrl | .trmSet | .lbDmd | .feLim | .feN => .loop
  | .prfCtrl | .velLim | .accLim | .decLim | .jerkLim | .supVel | .supAcc | .supDec | .supJerk | .qsDec | .qsJerk
  | .inposWin => .prf
  | .pinCtrl | .pinCpt | .pinEdge | .pinWin | .serFmt | .serTim | .serLim => .pin
  | .mlsCtrl | .mlsDly | .mlsWinStart | .mlsWinLen => .mls
  | .emuCtrl | .emuRes | .emuZPos | .emuStep | .emuLim | .emuPhCyc | .emuStall | .emuStallScale => .emu
  | .pfeCtrl | .pfeXpt | .pfeExc | .pfeTest | .pfeLeadR | .pfeDrift | .pfePair | .pfePairWin | .pfeCoef => .pfe
  | .pfeCmd => .pfeCmd
  | .laneCtrl => .lane
  | _ => .plain

/-- Block and unit of a staged register word. -/
def Staged.blockUnit (s : Staged) : Option (Block × Nat) := s.regOf.map fun w => (w.1.block, w.2.1 / w.1.info.subs)

/-- The staged words of a block. -/
def blockWords (es : List Staged) (b : Block) : List Staged := es.filter fun s => (s.blockUnit.map (·.1)) = some b

/-- The units of a block that staged words name, in rising order. -/
def blockUnits (es : List Staged) (b : Block) (count : Nat) : List Nat :=
  (List.range count).filter fun u => es.any fun s => s.blockUnit = some (b, u)

/-- The staged words of one unit. -/
def unitWords (es : List Staged) (b : Block) (u : Nat) : List Staged := es.filter fun s => s.blockUnit = some (b, u)

/-- The last value staged for a word. -/
def lastWord (es : List Staged) (r : RegId) (k : Nat) : Option Word :=
  es.foldl (fun w s => match s.regOf with
    | some (i, l, v) => if i = r ∧ l = k then some v else w
    | none => w) none

/-! ### What falls due (R12, R230) -/

/-- The frame to which a timed command is held. -/
def Act.frame : Act → Option Nat
  | .prf _ _ _ k => k
  | .vm _ _ k => k
  | _ => none

/-- The commit junction of the running frame takes the action. -/
def Dev.takes (d : Dev) (s : Staged) : Bool :=
  s.due d.time.t0 d.cutoff && match s.act.frame with
    | some k => decide (k ≤ d.time.k.getD 0)
    | none => true

/-- A timed LIMITS stands for its register words. -/
def Staged.expand (s : Staged) : List Staged :=
  match s.act with
  | .prf n (.limits set v a d j) _ _ => (limitsWords n set v a d j).map fun w => { s with act := .reg w.1 w.2.1 w.2.2 }
  | _ => [s]

/-- The actions that the commit junction takes, oldest first. -/
def Dev.dueActs (d : Dev) : List Staged := (d.staged.filter d.takes).flatMap Staged.expand

/-- What the commit junction leaves staged. -/
def Dev.dropDue (d : Dev) : Dev := { d with staged := d.staged.filter fun s => !d.takes s }

/-! ### The frame set (R36, R289) -/

/-- The frame parameters lie in the limits of Table 2-3. -/
def Dev.frameInRange (d : Dev) : Bool :=
  let p := d.fld .frmPeriod 0 0 18
  let f := d.fld .frmPeriod 0 24 5
  let o := d.outdl
  let c := d.fld .frmCutoff 0 0 16
  decide (6000 ≤ p) && decide (p ≤ 200000) && decide (f ≤ 19) && (decide (p < 200000) || decide (f = 0)) &&
    decide (1000 ≤ o) && decide (o + 250 ≤ p) && decide (200 ≤ c) && decide (c < p)

/-- The words that no lane in TRACK or RUN allows to change. -/
def frameFixed (d : Dev) : List Word :=
  [d.reg .frmPeriod 0, d.reg .frmOutdl 0, d.reg .frmEpoch 0, d.reg .frmEpoch 1]

/-- `CFG_RESULT` of a set: `d` before, `e` as it would stand; the lowest code that applies. -/
def frameResult (d e : Dev) : Nat :=
  if !e.frameInRange then 1
  else if d.anyUp ∧ frameFixed d ≠ frameFixed e then 2
  else if (d.period ≠ e.period ∨ d.outdl ≠ e.outdl) ∧ !e.allFit e.outdl then 3
  else if e.txOver then 4
  else if e.mapsBad then 5
  else 0

/-- A staged word put in place without a check. -/
def Dev.putWord (d : Dev) (s : Staged) : Dev :=
  match s.regOf with
  | some (i, k, v) => d.setReg i k v
  | none => d

/-- The staged words put in place without a check. -/
def Dev.putWords (d : Dev) (es : List Staged) : Dev := es.foldl Dev.putWord d

/-- The frame registers and record maps are checked and applied as one set. -/
def Dev.commitFrame (d : Dev) (es : List Staged) : Dev :=
  let fs := blockWords es .frame
  let ms := blockWords es .maps
  if fs.isEmpty && ms.isEmpty then d
  else
    let e := d.putWords (fs ++ ms)
    let code := frameResult d e
    let x := (if code = 0 then e else d).setReg .frmStat 0 (at_ 0 code)
    let x := if code = 0 ∧ !fs.isEmpty then
        (x.logEvent 0x0A07 kDevice 0 (ev4 (x.fld .frmPeriod 0 0 18) ++ ev4 (x.fld .frmPeriod 0 24 5) ++ ev4 x.outdl)).onTime fun t =>
          { t with resched := t.resched || decide (d.period ≠ e.period) || decide (d.reg64 .frmEpoch 0 ≠ e.reg64 .frmEpoch 0) }
      else x
    x.forEach (blockUnits es .maps 4) fun p x =>
      let x := if code = 0 then x.onPort p fun y => { y with inSeq := [none, none] } else x.setFlag .hpMapErr p 0
      x.logEvent 0x0019 kPort p (ev4 code ++ ev4 (x.txTime p))

/-! ### Configuration of the units -/

/-- No bit of a word is held. -/
def noHold (_ : RegId) (_ : Nat) (_ : Word) : Word := 0

/-- Acquisition of lane `n` (R67). -/
def Dev.commitAcq (d : Dev) (n : Nat) (es : List Staged) : Dev :=
  let e := d.commitRegs es noHold (fun e => e.acqCfgOk n) (fun e => e.setFlag .acqStat n 12)
  Dev.acqCfgApply d e n

/-- The bits of the tracking words that a lane in TRACK or RUN holds, one of them on its detour alone (R77, R88). -/
def Dev.trkHold (d : Dev) (n : Nat) (r : RegId) (_ : Nat) (v : Word) : Word :=
  match r with
  | .trkCtrl => if d.laneUp n then 0x10F else 0
  | .trkZero => if d.laneUp n then 0xFFFFFF else 0
  | .detCtrl => if d.laneUp n && (d.lane n).trk.detour && !bit v 0 then 1 else 0
  | _ => 0

/-- A lane on its detour judges its secondary afresh, which `DET_SRC` may have changed (R88). -/
def Dev.rejudgeDetour (d : Dev) (n : Nat) : Dev :=
  if !(d.lane n).trk.detour then d
  else if d.secondaryValid n then (if (d.lane n).trk.detFail then d.detourBack n else d)
  else d.detourFail n

/-- Tracking of lane `n` (R77, R88, R89, R103). -/
def Dev.commitTrk (d : Dev) (n : Nat) (es : List Staged) : Dev :=
  let e := d.commitRegs es (d.trkHold n) (fun e => e.trkCfgOk n) (fun e => e.setFlag .trkStat n 13)
  let (a, b) := (d.trkCfgKey n, e.trkCfgKey n)
  let e := if a = b then e else
    (e.onTrk n fun k => { k with referenced := false }).onMap n fun m => { m with mechFade := none }
  (if (a.1, a.2.1) = (b.1, b.2.1) then e else e.mapPolesChanged n).rejudgeDetour n

/-- Loop settings of lane `n` (R169, R175, R180): a lay-by demand is judged where it is written, apart from the other words. -/
def Dev.commitLoop (d : Dev) (n : Nat) (es : List Staged) : Dev :=
  let isLb (s : Staged) : Bool := (s.regOf.map (·.1)) = some .lbDmd
  let err (e : Dev) : Dev := e.setFlag .loopStat n 11
  let d := d.commitRegs (es.filter isLb) noHold (fun e => e.lbDmdOk n) err
  d.commitRegs (es.filter fun s => !isLb s) (fun i _ _ => structHold i) (fun e => e.loopCfgOk n) err

/-- Pulse input `i` (R123, R143). -/
def Dev.commitPin (d : Dev) (i : Nat) (es : List Staged) : Dev :=
  let e := d.commitRegs es (fun r _ _ => if d.pinBusy i then pinHold r else 0) (fun e => e.pinCfgOk i)
    (fun e => e.setFlag .pinStat i 15)
  if d.pinCfgKey i = e.pinCfgKey i then e else e.pinRestart i

/-- The bits of the words of output `o` that a lane in RUN holds (R160). -/
def Dev.emuHold (d : Dev) (o : Nat) (r : RegId) : Word :=
  if d.emuCfgHeld o then (match r with
    | .emuCtrl => 0x73
    | .emuRes => 0xFFFFFFFF
    | _ => 0) else 0

/-- Emulation or step output `o` (R160, R161). -/
def Dev.commitEmu (d : Dev) (o : Nat) (es : List Staged) : Dev :=
  let e := d.commitRegs es (fun r _ _ => d.emuHold o r) (fun e => e.emuCfgOk o) (fun e => e.setFlag .emuStat o 8)
  ((if d.emuCfgKey o = e.emuCfgKey o then e else (e.onEmu o fun x => { x with on := false }).emuRealign o).emuRefresh o).emuBacklog o

/-- The commands of `TRK_CMD` (R76, R87). -/
def Dev.commitTrkCmd (d : Dev) (n : Nat) (es : List Staged) : Dev :=
  let v := (lastWord es .trkCmd n).getD 0
  (d.when (bit v 0) fun d => d.posArm n).when (bit v 1) fun d => d.detReturn n

/-- The commands of `PFE_CMD` (R239). -/
def Dev.commitPfeCmd (d : Dev) (c : Nat) (es : List Staged) : Dev :=
  let v := (lastWord es .pfeCmd c).getD 0
  d.pfeCmdCommit c (bit v 0) (bit v 1)

/-- The register words of the commit, block by block. -/
def Dev.commitWords (d : Dev) (es : List Staged) : Dev :=
  let run (b : Block) (count : Nat) (f : Dev → Nat → List Staged → Dev) (d : Dev) : Dev :=
    d.forEach (blockUnits es b count) fun u d => f d u (unitWords es b u)
  let d := d.putWords (blockWords es .plain)
  let d := run .exc 12 Dev.excCommit d
  let d := run .acq 96 Dev.commitAcq d
  let d := run .trk 96 Dev.commitTrk d
  let d := run .map 96 (fun d n es => d.commitRegs es noHold (fun e => e.mapCfgOk n) id) d
  let d := run .loop 96 Dev.commitLoop d
  let d := run .prf 96 (fun d n es => d.commitRegs es noHold (fun e => e.prfCfgOk n) (fun e => e.setFlag .prfStat n 11)) d
  let d := run .pin 32 Dev.commitPin d
  let d := run .mls 32 (fun d j es => d.commitRegs es noHold (fun e => e.mlsCfgOk j) (fun e => e.setFlag .mlsStat j 10)) d
  let d := run .emu 24 Dev.commitEmu d
  let d := run .pfe 8 Dev.pfeCommit d
  let d := run .pfeCmd 8 Dev.commitPfeCmd d
  run .trkCmd 96 Dev.commitTrkCmd d

/-! ### Words rewritten by the host (R356) -/

/-- The lane-block word that a staged write covers. -/
def Staged.laneWord (s : Staged) : Option (Nat × Nat) :=
  match s.regOf with
  | some (i, k, _) =>
    let a := i.addr k
    if 0x100000 ≤ a then some ((a - 0x100000) / 0x400, a % 0x400) else none
  | none => none

/-- The writes of the commit that took effect rewrite their words. -/
def Dev.noteRewritten (d : Dev) (es : List Staged) : Dev :=
  d.rewritten <| es.filterMap fun s => match s.regOf with
    | some (i, k, v) => if i = .trkCmd ∨ i = .laneCtrl ∨ d.reg i k = v then s.laneWord else none
    | none => none

/-! ### Structures, swaps and the other actions -/

/-- An admitted structure takes effect; its words count as rewritten. -/
def Dev.commitStruct (d : Dev) (n : Nat) (s : LoopStruct) : Dev :=
  (d.structCommit n s).rewritten [(n, 0x100), (n, 0x104), (n, 0x108)]

/-- A swap takes effect, unless the tables of its cluster are being rebuilt (R197); a learning segment that runs is discarded
(Table 5-2). -/
def Dev.commitSwap (d : Dev) (s : Staged) (n : Nat) (back : Bool) : Dev :=
  if d.hlt.rebuilding.contains (clusterOf n) then { d with staged := { s with held := true } :: d.staged }
  else
    let x := d.loop n
    let old := if x.stagedWr || back then bankWords n x.live else []
    ((d.coefSwapCommit n back).rewritten old).segmentFail n

/-- A staged action that is neither a register word nor a request for a lane or power state, nor a profile command. -/
def Dev.commitAct (d : Dev) (s : Staged) : Dev :=
  match s.act with
  | .coefSwap n back => d.commitSwap s n back
  | .mapLearn n action terms => d.mapLearnCommit n action terms
  | .mapLoad n source m => d.mapLoadCommit n source m
  | .pinAdjust i action v => d.pinAdjustCommit i action v
  | .mlsArm j on => d.mlsArmCommit j on
  | .emuAlign o action => d.emuAlign o action
  | .traceArm => d.traceArm s.port
  | .fwSwitch slot => d.switchCommit s.port slot
  | .laneCommit _ _ | .reg _ _ _ | .park _ | .prf _ _ _ _ | .vm _ _ _ | .inRecord _ | .write _ _ _ | .power _ => d

/-! ### Power states (R24, R338) -/

/-- One power-state request at its commit junction. -/
def Dev.commitPower (d : Dev) (s : Staged) : Dev :=
  match s.act with
  | .power t =>
    let drop (c : Nat) : Dev := d.logEvent 0x0E0C kPort s.port (ev4 t ++ ev4 c)
    let c := d.powerFails t
    if c ≠ 0 then drop c
    else match t with
      | 2 => d.enterParked 1
      | 3 => (d.enterParked 1).beginDormant
      | t => d.enterPowered (t = 1)
  | _ => d

/-- The power request of a staged action. -/
def Staged.powerTarget (s : Staged) : Option Nat :=
  match s.act with
  | .power t => some t
  | _ => none

/-- One power request of the commit; a request to leave PARKED is dropped where the commit parks the device. -/
def Dev.commitPowerOf (d : Dev) (parked : Bool) (s : Staged) : Dev :=
  d.whenSome s.powerTarget fun t d =>
    if parked && t < 2 && d.powerFails t = 0 then d.logEvent 0x0E0C kPort s.port (ev4 t ++ ev4 5) else d.commitPower s

/-- The power states of the commit: PARKED from any source acts first and drops the requests to leave it. -/
def Dev.commitPowers (d : Dev) (es : List Staged) : Dev :=
  let parked := d.pwr.parkPend.isSome || es.any fun s => match s.powerTarget with
    | some t => decide (2 ≤ t) && d.powerFails t = 0
    | none => false
  let d := d.whenSome d.pwr.parkPend fun c d => d.enterParked c
  es.foldl (fun d s => d.commitPowerOf parked s) d

/-! ### Lane states (R17–R20, R403) -/

/-- The cause of a lane fault has ended (Table 1-13). -/
def Dev.causeEnded (d : Dev) (n : Nat) (c : Cause) : Bool :=
  let l := d.lane n
  let selfTest : Bool := match (d.clusters.getD (clusterOf n) {}).passStart with
    | some t => decide (c.t < t)
    | none => false
  let los (k : Nat) : Bool := !(d.groupRunning n && l.acq.causes.contains k) || d.trackStopped n
  match c.code with
  | 0x01 => los 1
  | 0x02 => los 2
  | 0x09 => los 3
  | 0x03 => los 4
  | 0x04 => !(d.group (groupOf n)).short
  | 0x10 => l.trk.lockCause = 0 || d.trackStopped n
  | 0x11 => !(d.emu c.arg).stall
  | 0x15 => !l.trk.detFail
  | 0x31 | 0x32 => selfTest
  | 0x40 => !d.hlt.badWords.contains (n, c.arg)
  | 0x41 => !d.hlt.rebuilding.contains (clusterOf n)
  | _ => true

/-- The reasons against a request of lane `n` for state `v`: codes of `REQ_RESULT` (Tables 1-6 and 1-8, R339). -/
def Dev.requestFails (d : Dev) (n v : Nat) : List Nat :=
  let l := d.lane n
  let step := (d.stepFb n).isSome
  let fail (c : Bool) (code : Nat) : List Nat := if c then [code] else []
  if v = l.st.code ∧ l.st ≠ .fault then []
  else match l.st, v with
    | .off, 1 => fail (d.loop n).struct_.isNone 6
    | .layby, 0 => []
    | .layby, 2 =>
      fail (d.pwr.dbg = .openDbg) 4 ++ fail (d.pwr.settling || d.pwr.st ≠ .active && d.pwr.st ≠ .economy) 5 ++ fail (!step && !d.groupRunning n) 8
    | .track, 1 => []
    | .track, 3 =>
      fail (!d.barrierUp n) 2 ++ fail (!step && (d.los n || d.lockLost n) && !l.trk.detour) 3 ++ fail (d.pwr.dbg = .openDbg) 4
    | .run, 1 | .run, 2 => []
    | .fault, 1 => fail (!l.causes.all (d.causeEnded n)) 7
    | _, _ => [1]

/-- The lane states by code. -/
def laneStateOf (v : Nat) : LaneState :=
  match v with
  | 0 => .off
  | 1 => .layby
  | 2 => .track
  | _ => .run

/-- What lane `n` does on its change from `old` to its present state, before tracking and outputs follow (R60, R85, R101,
R110, R155, R170). -/
def Dev.entered (d : Dev) (n : Nat) (old : LaneState) : Dev :=
  let st := (d.lane n).st
  let d := d.when (st = .layby && old = .off) fun d => d.mapAutoload n
  let d := d.when (st = .track) fun d =>
    let e := d.now + 8000 * unitsPerUs
    ((d.enterTrack n).mapEnterTrack n).onAcq n fun a => { a with fastEnd := some e }
  let d := d.when (st = .run) fun d => (d.loopEnter n).emuEnterRun n
  d.when (old = .fault) fun d => d.onLane n fun l => { l with causes := [] }

/-- Lane `n` takes a state at a frame boundary. -/
def Dev.setLane (d : Dev) (n : Nat) (st : LaneState) : Dev :=
  let old := (d.lane n).st
  if old = st then d else ((d.onLane n fun l => { l with st := st }).entered n old).settleLane n

/-- A state request of lane `n` at its commit junction. -/
def Dev.requestState (d : Dev) (n v : Nat) : Dev :=
  match (d.requestFails n v).foldl (fun m c => match m with | some x => some (min x c) | none => some c) (none : Option Nat) with
  | some c => d.onLane n fun l => { l with reqResult := c }
  | none => (d.onLane n fun l => { l with reqResult := 0 }).setLane n (laneStateOf v)

/-- LANE_PARK of lane `n` (R20). -/
def Dev.parkLane (d : Dev) (n : Nat) : Dev :=
  match (d.lane n).st with
  | .off | .layby => d.onLane n fun l => { l with reqResult := 0 }
  | _ => d.requestState n 1

/-- The lane requests of the commit: LANE_PARK wins over `REQ_STATE`. -/
def Dev.commitRequests (d : Dev) (es : List Staged) : Dev :=
  d.forEach d.laneList fun n d =>
    let v := lastWord es .laneCtrl n
    let d := d.whenSome v fun w d => d.setReg .laneCtrl n (w &&& 7)
    if es.any fun s => s.act = .park n then d.parkLane n
    else d.whenSome v fun w d => d.requestState n (field w 0 3)

/-- Barrier consequences at a frame boundary: a lane in RUN with its barrier down moves to TRACK (R11, R21). -/
def Dev.barrierConsequences (d : Dev) : Dev :=
  d.forEach d.laneList fun n d => if (d.lane n).st = .run ∧ !d.barrierUp n then d.setLane n .track else d

/-! ### Ages and the profile commands (R231, R296) -/

/-- The profile commands of lane `n` that fall due, each with its mark of STOP for all lanes. -/
def prfDue (es : List Staged) (n : Nat) : List (PrfCmd × Bool) :=
  es.filterMap fun s => match s.act with
    | .prf m c all _ => if m = n then some (c, all) else none
    | _ => none

/-- An action on a virtual master. -/
def Dev.commitMaster (d : Dev) (t : Time) (s : Staged) : Dev :=
  match s.act with
  | .vm m c _ => d.vmCommit t m c
  | _ => d

/-- The actions on the virtual masters that fall due. -/
def Dev.commitMasters (d : Dev) (es : List Staged) : Dev :=
  let t := d.time.t0
  es.foldl (fun d s => d.commitMaster t s) d

/-- `MISS_ACT` 3: the LAYBY request of a lane in TRACK or RUN whose records are lost, after every other request of the commit
(R231, R296). -/
def Dev.missRequest (d : Dev) (n : Nat) : Dev := if d.laneUp n then d.requestState n 1 else d

/-- The ages of the inbound records; answers `MISS_ACT` of each lane whose records are lost at this commit. -/
def Dev.commitAges (d : Dev) (es : List Staged) : List (Nat × Nat) × Dev :=
  d.laneList.foldl (fun (a : List (Nat × Nat) × Dev) n =>
    let e := a.2.inboundAge n (es.any fun s => s.act = .inRecord n)
    let m := missAct a.2 e n
    (if m = 0 then a.1 else a.1 ++ [(n, m)], e)) ([], d)

/-- The structure of a LANE_COMMIT that falls due stays reserved while the junction acts (R176). -/
def Dev.reserveOf (d : Dev) (s : Staged) : Dev :=
  match s.act with
  | .laneCommit n st => d.onLoop n fun x => { x with resv := some st }
  | _ => d

/-- The structure of a staged LANE_COMMIT. -/
def Dev.commitStructOf (d : Dev) (s : Staged) : Dev :=
  match s.act with
  | .laneCommit n st => d.commitStruct n st
  | _ => d

/-- The configuration part of the commit junction: frame set, structures, register words, the other actions, maps. -/
def Dev.commitConfig (d : Dev) (es : List Staged) : Dev :=
  let d := (es.foldl Dev.reserveOf d).commitFrame es
  let d := es.foldl Dev.commitStructOf d
  let d := d.commitWords es
  let d := es.foldl (fun d s => d.commitAct s) d
  let d := d.noteRewritten es
  d.forEach d.laneList fun n d => d.mapCommit n

/-- The state part: power, lane requests, the economy of the generators, tracking, ages. -/
def Dev.commitStates (d : Dev) (es : List Staged) : List (Nat × Nat) × Dev :=
  let d := (d.commitPowers es).commitRequests es
  let d := d.forEach (List.range d.groupCount) fun g d => d.excEconomy g
  let d := d.forEach d.laneList fun n d => d.retrack n
  d.commitAges es

/-- The commit junction at T0 (R11, R12): answers the actions taken and the stops of `MISS_ACT`. -/
def Dev.commit (d : Dev) : List Staged × List (Nat × Nat) × Dev :=
  let es := d.dueActs
  let d := d.dropDue.commitConfig es
  let (ms, d) := d.commitStates es
  (es, ms, d)

end Sys2Proof.Machine
end

