-- ==== Sys2Proof/Machine/Frame.lean ====
section
/-! DEFINITION. The course of a frame: tick, snapshot, profile and loop computation, output junction, late work (R10, R11,
R14–R16, R38–R43, R85, R163, R169, R188, R191, R192, R203, R228). -/
namespace Sys2Proof.Machine
open Sys2Proof

/-! ### Snapshot (R38, R79, R85) -/

/-- The detour offset is recomputed at a snapshot (R85). -/
def Dev.detourOffset (d : Dev) (n : Nat) : Dev :=
  let k := (d.lane n).trk
  if k.detour ∨ d.los n ∨ d.lockLost n ∨ (d.lane n).acq.coast ∨ !d.secondaryValid n then d
  else
    let t0 := d.time.t0
    let ofs := wrapInt 64 ((d.motionAt n t0).pos - d.scaledSecondary n t0)
    d.onTrk n fun k => { k with detOfs := some ofs, detFresh := true }

/-- Position, velocity and acceleration of lane `n` at T0, and the words that show them. -/
def Dev.snapLane (d : Dev) (n : Nat) : Dev :=
  let t0 := d.time.t0
  let d := d.detourOffset n
  let m := d.motionAt n t0
  let k := (d.lane n).trk
  let still := d.stillShown n
  let d := d.onTrk n fun k => { k with snapPos := m.pos, snapVel := m.vel, snapAcc := m.acc }
  let d := (d.setReg64 .snapPos n (unsigned 64 m.pos)).setReg .snapVel n (if still then 0 else toF32 m.vel)
  let d := (d.setReg .snapAcc n (toF32 m.acc)).setReg64 .snapT0 n t0
  d.setReg .snapFlags n (bits [(2, k.posHeld), (1, k.tracking && !k.detour && (d.lane n).acq.coast),
    (0, k.detour)])

/-- Output `o` at T0: the count emitted, the backlog, the stall check (R158, R161). -/
def Dev.snapEmu (d : Dev) (o : Nat) : Dev :=
  let x := d.emu o
  let d := ((d.emuPins o).setReg64 .emuCount o (unsigned 64 x.e)).setReg .emuBklg o (wordOfInt (satInt 32 (x.x - x.e)))
  ((d.stallSnapshot o).stallDetect o).settleFault (d.emuLane o)

/-- The snapshot of T0, every source in its order. -/
def Dev.snapshot (d : Dev) : Dev :=
  let t0 := d.time.t0
  let d := d.forEach (List.range d.pinCount) fun i d => d.pinCapture i t0
  let d := d.forEach (List.range d.pinCount) fun j d => d.mlsSnapshot j t0
  let d := d.forEach (List.range 8) fun c d => d.pfeCapture c t0
  let d := d.forEach d.laneList fun n d => d.snapLane n
  let d := d.forEach (List.range 24) fun o d => d.snapEmu o
  d.forEach d.laneList fun n d => (d.xcmp n).trimSource n

/-! ### Profile and loops (R163, R188, R191, R192, R210) -/

/-- The commanded acceleration of this frame applies from T0 of the next frame plus `AID_DLY` on (R73). -/
def Dev.aidPush (d : Dev) (n : Nat) : Dev :=
  let l := d.lane n
  if l.st ≠ .run ∧ l.trk.aidQueue = [] then d
  else
    let at_ := d.time.t0 + d.period + 4000 * d.fld .trkAid n 16 16
    d.onTrk n fun k => { k with aidQueue := ((at_, l.prf.ap) :: k.aidQueue).take 128 }

/-- A STOP of `MISS_ACT` on lane `n`: its variant. -/
def missStop (ms : List (Nat × Nat)) (n : Nat) : Option Nat :=
  match ms.lookup n with
  | some 1 => some 0
  | some 2 => some 1
  | _ => none

/-- The profile generator of lane `n` in this frame: the commands of the commit, the LAYBY request of `MISS_ACT` 3 after them
(R231), then the evaluation. Answers the generator at the start of the frame (R42). -/
def Dev.profileFrame (d : Dev) (es : List Staged) (ms : List (Nat × Nat)) (n : Nat) : Profile × Dev :=
  let t0 := d.time.t0
  let run := (d.lane n).st = .run
  let ss1 := (d.safLane n).ss1Stop
  let d := d.prfCommands n t0 (prfDue es n) (if run && ss1 then some 1 else none) (if run then missStop ms n else none)
  let d := d.when ss1 fun d => d.onSafLane n fun x => { x with ss1Stop := false }
  let d := d.when (ms.lookup n = some 3) fun d => (d.missRequest n).snapLane n
  let saved := d.gen n
  let d := if (d.lane n).st = .run then d.prfEvaluate n t0 else d.prfFollow n (d.motionAt n t0)
  (saved, d.aidPush n)

/-- A fault of the loop engine: code, event, diagnostic count; the rest of the lane's work is skipped (R188, R191, R192). -/
def Dev.engineFault (d : Dev) (n code ev : Nat) (data : List Byte) : Dev :=
  (((d.laneFault n code).logEvent ev kLane n data).addCnt .safCnt n 0 16).settleFault n

/-- A retry that passed (R191): counted, logged at most once per second. -/
def Dev.retryPassed (d : Dev) (n stage : Nat) : Dev :=
  let d := (d.addCnt .coefCnt n 0 16).addCnt .engRetry (clusterOf n) 0 32
  let quiet : Bool := match (d.loop n).retryLog with
    | some t => decide (t + unitsPerSec ≤ d.now)
    | none => true
  let now := d.now
  if quiet then (d.onLoop n fun x => { x with retryLog := some now }).logEvent 0x0430 kLane n (ev4 stage ++ ev4 d.frmSeq) else d

/-- The lane that a disturbance meets. -/
def disturbLane : Disturb → Nat
  | .retry n _ => n
  | .resFail n _ => n
  | .signature n _ _ => n
  | .late x => disturbLane x

/-- A disturbance of the engine in the segment of a lane in RUN; a fault leaves no work. One that only late work shows waits with
the work (R192; DESIGN CHOICE, log 153). -/
def Dev.disturb (d : Dev) (x : Disturb) : Dev :=
  let n := disturbLane x
  if (d.lane n).st ≠ .run ∨ !hasLane n d then d
  else
    let c := clusterOf n
    match x with
    | .retry _ stage => d.retryPassed n stage
    | .resFail _ stage =>
      let d := (d.addCnt .engRetry c 0 32).addCnt .engFail c 16 16
      d.engineFault n 0x31 0x0431 (ev4 stage ++ ev4 d.frmSeq)
    | .signature _ want got =>
      (d.addCnt .engFail c 0 16).engineFault n 0x32 0x0432 (wordBytes want ++ wordBytes got)
    | .late y => d.onLane n fun l => { l with work := l.work.map fun w => { w with found := w.found ++ [y] } }

/-- The cascade of lane `n` in RUN: its work, or the overflow of a stage exponent (R188). -/
def Dev.loopFrame (d : Dev) (n : Nat) (saved : Profile) : Dev :=
  if (d.lane n).st ≠ .run then d
  else match d.laneCompute n saved with
    | .ok w => d.onLane n fun l => { l with work := some w }
    | .error stage => (d.addCnt .engOvf (clusterOf n) 16 16).engineFault n 0x33 0x0433 (ev4 stage)

/-- The computation of the frame: virtual masters, profiles, loops, then what disturbed the engine. -/
def Dev.compute (d : Dev) (es : List Staged) (ms : List (Nat × Nat)) (ds : List Disturb) : Dev :=
  let d := (d.commitMasters es).vmEvaluate d.time.t0
  let d := d.forEach d.laneList fun n d => let (saved, d) := d.profileFrame es ms n; d.loopFrame n saved
  ds.foldl Dev.disturb d

/-! ### The tick (R11, R34, R42) -/

/-- What the end of the old frame leaves: discarded work, the values of its loops. -/
def Dev.closeFrame (d : Dev) : Dev :=
  d.forEach d.laneList fun n d => (d.discardWork n).onLoop n fun x => { x with vals := none, late := false }

/-- FRAME_TICK (R11): the boundary of the next frame, where a step of `DTIME` acts (R33); then fault consequences, commit
junction, snapshot, computation. -/
def Dev.frameTick (d : Dev) (ds : List Disturb) : Dev :=
  let x := d.trcTake
  let d := ((d.traceEarly x).closeFrame.issueTick.applyStep.takeSource).barrierConsequences
  let (es, ms, d) := d.commit
  let d := (d.snapshot.traceLate x).compute es ms ds
  d.traceCapture (d.time.k.getD 0)

/-! ### The output junction (R42, R43, R169, R228, R297) -/

/-- Lane `n` is late for this frame (R42, R43). -/
def Dev.laneLate (d : Dev) (n : Nat) : Dev :=
  let d := (d.onLane n fun l => { l with frameLate := true, lateRun := l.lateRun + 1 }).addCnt .frmLateCnt n 0 16
  let d := d.addCnt .frmLateAll 0 0 32
  if (d.lane n).lateRun < 3 then d else d.engineFault n 0x0A 0x0A01 (ev4 n ++ ev4 d.frmSeq)

/-- The work of lane `n` completes in time: states, readings, and the checks that act on them (R163, R173, R174). -/
def Dev.laneOnTime (d : Dev) (n : Nat) : Dev :=
  let w := (d.lane n).work
  let d := d.onLane n fun l => { l with frameLate := false, lateRun := 0 }
  let d := (d.completeWork n false).whenSome w fun w d => d.onLoop n fun x => { x with kerb := w.kerb }
  (d.followingError n).settleFault n

/-- Lay-by values of lane `n` (R169): `POS_DEM` follows the lane position, but in OFF. -/
def Dev.layBy (d : Dev) (n : Nat) : Dev :=
  let d := (d.setReg .dmdOut n (d.reg .lbDmd n)).setReg .dmdFf n 0
  let d := d.when ((d.lane n).st ≠ .off) fun d => d.setReg64 .posDem n (unsigned 64 (d.lane n).trk.snapPos)
  (d.onTrk n fun k => { k with demVel := 0, demAcc := 0 }).onPrf n fun p =>
    if (d.lane n).st = .run then p else { p with inpos := false, inCnt := 0 }

/-- The computed outputs of lane `n` (R163, R154, R228). -/
def Dev.liveOutputs (d : Dev) (n : Nat) (w : LaneWork) : Dev :=
  let d := ((d.setReg .dmdOut n w.dmd).setReg .dmdFf n w.dff).setReg64 .posDem n (unsigned 64 w.posDem)
  let d := d.onTrk n fun k => { k with demVel := f32 w.vals.vp, demAcc := f32 w.vals.ap }
  (d.stepsOn n true).forEach (d.emusOf n) fun o d => d.stepTarget o w.posDem

/-- The outputs of lane `n` at the junction; `w` is the work that completed in time. -/
def Dev.laneOutputs (d : Dev) (n : Nat) (w : Option LaneWork) (late : Bool) : Dev :=
  let run := (d.lane n).st = .run
  let d := match run && !late, w with
    | true, some w => d.inPosition n d.time.t0 w.posDem (d.lane n).trk.snapPos
    | _, _ => d
  if !run || !d.barrierUp n then (d.layBy n).stepsOn n false
  else match late, w with
    | false, some w => d.liveOutputs n w
    | _, _ => d

/-- `LANE_STAT` as it is published (Table 1-7). -/
def Dev.laneStatWord (d : Dev) (n : Nat) : Word :=
  let l := d.lane n
  let step := (d.stepFb n).isSome
  at_ 24 (d.frmSeq % 256) ||| at_ 16 l.faultCode ||| at_ 0 l.st.code ||| bits
    [(15, l.prf.inpos), (14, l.prf.beyond || l.prf.supBeyond), (13, (d.emusOf n).any fun o => (d.emu o).stall),
     (12, (List.range d.pinCount).any fun i => d.fld .pinAssign i 0 7 = n && d.regBit .pinStat i 7),
     (11, (List.range d.pinCount).any fun j => d.mlsLane j = some n && (d.mlsUnit j).pending),
     (10, d.mapActive n d.time.t0), (9, l.trk.detour), (8, l.trk.detour && (d.pin (d.detSrc n)).bound),
     (7, !step && d.los n), (6, !step && d.lockLost n), (5, l.loop.kerb), (4, l.frameLate), (3, !d.barrierUp n)]

/-- The 64-byte snapshot of lane `n` for a black-box commit (Table 16-7). -/
def Dev.bbxSnap (d : Dev) (n : Nat) : List Word :=
  let w (r : RegId) (k : Nat) : Word := d.readReg 0 r k
  [w .laneStat n, w .snapPos (2 * n), w .snapPos (2 * n + 1), w .snapVel n, w .posDem (2 * n), w .posDem (2 * n + 1), w .dmdOut n,
   w .dmdFf n, w .wVel n, w .trkErr n, w .acqStat n, w .loopStat n, w .prfStat n, w .safView n, w .trkStat n, w .hpInStat n]

/-- Publish the status words, records, containers and the views of the junction. -/
def Dev.publish (d : Dev) : Dev :=
  let d := d.forEach d.laneList fun n d =>
    let p := d.permit n
    (d.onSafLane n fun x => { x with permit := p }).setReg .laneStat n (d.laneStatWord n)
  let d := d.traceStat.forEach (List.range 4) fun p d => d.buildBlock p
  let snaps := d.laneList.map d.bbxSnap
  let d := d.onBbx fun b => { b with snaps := snaps }
  { d with ro := some { seq := d.frmSeq, regs := d.regs, lanes := d.lanes, staged := d.staged, saf := d.saf } }

/-- OUTPUT_JUNCTION (R10, R42): at T0 + `FRM_OUTDL`, once per frame. -/
def Dev.outputJunction (d : Dev) (late : List Nat) : Dev :=
  if !d.time.outDue then d
  else
    let d := (d.at (d.time.t0 + 20 * d.outdl)).onTime fun t => { t with outDue := false }
    let isLate (n : Nat) : Bool := late.contains n && (d.lane n).work.isSome
    let ws := d.laneList.map fun n => (n, isLate n, (d.lane n).work)
    let d := ws.foldl (fun d (n, l, _) => ((if l then d.laneLate n else d.laneOnTime n).trimFault n).settleFault n) d
    let d := ws.foldl (fun d (n, l, w) => d.laneOutputs n w l) d
    d.publish

/-- LATE_WORK_COMPLETE (R42): the states of a late lane are kept, its outputs not used. A fault of the engine found in the late
work ends it; the outputs committed stay until the next output junction (R192). -/
def Dev.lateComplete (d : Dev) (n : Nat) : Dev :=
  match d.time.outDue, (d.lane n).work with
  | false, some w =>
    let d := (w.found.filter fun x => disturbLane x = n).foldl Dev.disturb d
    ((d.completeWork n true).followingError n).settleFault n
  | _, _ => d

/-- TIMED_COMMAND_DUE (R230): the timed commands of a lane, or of the device, whose frame has come and that no commit junction
has taken. -/
def Dev.timedDue (d : Dev) (lane : Nat) : Dev :=
  let k := d.time.k.getD 0
  let mine (s : Staged) : Bool := !s.inGroup && match s.act with
    | .prf n _ _ (some j) => n = lane && decide (j ≤ k)
    | .vm _ _ (some j) => lane = 96 && decide (j ≤ k)
    | _ => false
  let es := (d.staged.filter mine).flatMap Staged.expand
  if es = [] then d
  else
    let d := { d with staged := d.staged.filter fun s => !mine s }
    let d := (d.commitWords es).commitMasters es
    if lane = 96 then d else d.prfCommands lane d.time.t0 (prfDue es lane) none none

end Sys2Proof.Machine
end

