-- ==== Sys2Proof/Machine/EvData.lean ====
section
/-! DEFINITION. The meanings of the events of time, excitation, acquisition, tracking, map learning, pulse inputs and
emulation outputs (spec/02 to spec/07). -/
namespace Sys2Proof.Machine
open Sys2Proof

/-- An event of lane `n` that may take it to FAULT (R18). -/
def onLaneEvent (s : State) (t : Time) (n : Nat) (f : Dev → Dev) : Host.Outcome State Fault Refusal :=
  onEvent (hasLane n) s t fun d => (f d).settleFault n

/-- An event of pulse input `i`, which may take the lanes on their detour through it to FAULT (R88). -/
def onPinEvent (s : State) (t : Time) (i : Nat) (f : Dev → Dev) : Host.Outcome State Fault Refusal :=
  onEvent (hasPin i) s t fun d =>
    (f d).forEach (d.laneList.filter fun n => (d.lane n).trk.detour && decide (d.detSrc n = i)) fun n d => d.settleFault n

/-- Supervision that the management plane makes (R9): it waits while the plane pauses. -/
def onMgmt (present : Dev → Bool) (s : State) (t : Time) (f : Dev → Dev) : Host.Outcome State Fault Refusal :=
  onEvent present s t fun d => d.when d.mgmtUp f

/-- Meaning of SYNC_MESSAGE (R30, R32). -/
def execSyncMessage (t : Time) (port domain : Nat) (rx gm : Time) (interval : Nat) (twoStep followUp : Bool) (s : State) :=
  onEvent always s t fun d => d.syncMessage port domain rx gm interval twoStep followUp
/-- Meaning of ANNOUNCE_MESSAGE (R30). -/
def execAnnounceMessage (t : Time) (port domain : Nat) (gmId : Quad) (s : State) :=
  onEvent always s t fun d => d.announce port domain gmId
/-- Meaning of PDELAY_REQ_RECEIVE (R30). -/
def execPdelayReqReceive (t : Time) (port : Nat) (s : State) := onEvent always s t fun d => d.pdelayAnswer port
/-- Meaning of PDELAY_REQ_SEND (R30). -/
def execPdelayReqSend (t : Time) (s : State) := onEvent always s t Dev.pdelaySend
/-- Meaning of PDELAY_RESPONSE (R30). -/
def execPdelayResponse (t : Time) (port : Nat) (t2 t3 t4 : Time) (s : State) :=
  onEvent always s t fun d => d.pdelayResponse port t2 t3 t4
/-- Meaning of SYNC_TIMEOUT (R32). -/
def execSyncTimeout (t : Time) (s : State) := onEvent always s t Dev.syncTimeout
/-- Meaning of SYNC_IN_EDGE (R31). -/
def execSyncInEdge (t : Time) (width : Nat) (s : State) := onEvent always s t fun d => d.syncInEdge t width
/-- Meaning of SYNC_IN_MISSING (R31). -/
def execSyncInMissing (t : Time) (s : State) := onEvent always s t Dev.syncInMissing
/-- Meaning of SYNC_OUT_PULSE (R44). -/
def execSyncOutPulse (s : State) := onDev s Dev.syncOutPulse
/-- Meaning of SYNC_OUT_PULSE_END (R44). -/
def execSyncOutPulseEnd (s : State) := onDev s Dev.syncOutPulseEnd

/-- Meaning of RAMP_COMPLETE (R48). -/
def execRampComplete (t : Time) (group : Nat) (s : State) := onEvent (hasGroup group) s t fun d => d.rampComplete group
/-- Meaning of EXC_HALF_PERIOD (R63). -/
def execExcHalfPeriod (t : Time) (group peak : Nat) (s : State) :=
  onEvent (hasGroup group) s t fun d => (d.excHalfPeriod group peak).forEach (lanesOfGroup group) fun n d => d.settleFault n

/-- Meaning of DEMOD_SAMPLE (R54, R70, R97): acquisition and tracker, then the learner. -/
def execDemodSample (t : Time) (lane : Nat) (x : Demod) (s : State) :=
  onLaneEvent s (t + 11600) lane fun d => (d.demodSample t lane x).mapSample lane t x.s x.c
/-- Meaning of CARRIER_PERIOD (R59, R63). -/
def execCarrierPeriod (t : Time) (lane : Nat) (x : Period) (s : State) :=
  onEvent (hasLane lane) s t fun d => d.carrierPeriodEnd lane x
/-- Meaning of PHASE_FAST_END (R60). -/
def execPhaseFastEnd (t : Time) (lane : Nat) (s : State) := onEvent (hasLane lane) s t fun d => d.phaseFastEnd lane
/-- Meaning of LOS_CONFIRM (R63). -/
def execLosConfirm (t : Time) (lane : Nat) (s : State) := onLaneEvent s t lane fun d => d.losConfirm lane
/-- Meaning of LOS_CLEAR (R65). -/
def execLosClear (t : Time) (lane : Nat) (s : State) := onEvent (hasLane lane) s t fun d => d.losClear lane
/-- Meaning of MODULATOR_RESET (R63). -/
def execModulatorReset (t : Time) (lane winding : Nat) (s : State) :=
  onLaneEvent s t lane fun d => d.modulatorReset t lane winding
/-- Meaning of MODULATOR_RESET_END (R63). -/
def execModulatorResetEnd (t : Time) (lane winding : Nat) (s : State) :=
  onEvent (hasLane lane) s t fun d => d.modulatorResetEnd lane winding
/-- Meaning of RANGE_NARROW_COUNT (R56). -/
def execRangeNarrowCount (t : Time) (lane : Nat) (s : State) := onEvent (hasLane lane) s t fun d => d.rangeNarrow lane
/-- Meaning of RANGE_CHANGE (R57). -/
def execRangeChange (t : Time) (lane : Nat) (s : State) := onEvent (hasLane lane) s t fun d => d.rangeChange lane
/-- Meaning of RATIO_EVAL (R63). -/
def execRatioEval (t : Time) (lane : Nat) (s : State) := onEvent (hasLane lane) s t fun d => d.ratioEval lane

/-- Meaning of LOCK_LOSS (R81). -/
def execLockLoss (t : Time) (lane : Nat) (s : State) := onLaneEvent s t lane fun d => d.lockLoss lane
/-- Meaning of OVERSPEED (R80). -/
def execOverspeed (t : Time) (lane : Nat) (s : State) := onLaneEvent s t lane fun d => d.overspeed lane
/-- Meaning of REACQ_FAST_END (R82). -/
def execReacqFastEnd (t : Time) (lane : Nat) (s : State) := onEvent (hasLane lane) s t fun d => d.reacqFastEnd lane
/-- Meaning of LOCK_REGAINED (R82). -/
def execLockRegained (t : Time) (lane : Nat) (s : State) := onEvent (hasLane lane) s t fun d => d.lockRegained lane

/-- Meaning of SEGMENT_END (R97). -/
def execSegmentEnd (t : Time) (lane : Nat) (s : State) := onEvent (hasLane lane) s t fun d => d.segmentEnd lane
/-- Meaning of MAP_EVALUATE (R99). -/
def execMapEvaluate (t : Time) (lane : Nat) (s : State) := onMgmt (hasLane lane) s t fun d => d.mapEvaluate lane
/-- Meaning of MAP_DRIFT_CHECK (R104). -/
def execMapDriftCheck (t : Time) (lane : Nat) (s : State) := onMgmt (hasLane lane) s t fun d => d.mapDriftCheck lane
/-- Meaning of FADE_COMPLETE (R101). -/
def execFadeComplete (t : Time) (lane : Nat) (s : State) := onEvent (hasLane lane) s t fun d => d.fadeComplete lane

/-- Meaning of PULSE_EDGE (R118). -/
def execPulseEdge (t : Time) (input : Nat) (a b z : Option Bool) (s : State) :=
  onPinEvent s t input fun d => d.pulseEdge t input a b z
/-- Meaning of INDEX_EVENT (R126). -/
def execIndexEvent (t : Time) (input : Nat) (s : State) := onPinEvent s t input fun d => d.indexEvent input
/-- Meaning of SWITCH_DEBOUNCE (R120). -/
def execSwitchDebounce (t : Time) (input wire : Nat) (s : State) :=
  onPinEvent s t input fun d => d.switchDebounce t input wire
/-- Meaning of WIRE_FAULT (R119). -/
def execWireFault (t : Time) (input pair : Nat) (s : State) := onPinEvent s t input fun d => d.wireFault input pair
/-- Meaning of WIRE_FAULT_CLEAR (R122). -/
def execWireFaultClear (t : Time) (input : Nat) (s : State) := onPinEvent s t input fun d => d.wireFaultClear input
/-- Meaning of PULSE_STILL (R127). -/
def execPulseStill (t : Time) (input : Nat) (s : State) := onPinEvent s t input fun d => d.pulseStill t input
/-- Meaning of SER_TRANSFER_START (R132). -/
def execSerTransferStart (input : Nat) (s : State) :=
  onUnit (hasPin input) s fun d => d.when d.alive fun d => d.serStart input
/-- Meaning of SER_TRANSFER_END (R133). -/
def execSerTransferEnd (t : Time) (input : Nat) (x : SerialFrame) (s : State) :=
  onPinEvent s t input fun d => d.serEnd input x

/-- Output `o` is present: 24 on both variants (Table 0-1). -/
def hasEmu (o : Nat) (_ : Dev) : Bool := decide (o < 24)

/-- Meaning of EMU_EDGE_EMIT (R149). -/
def execEmuEdgeEmit (t : Time) (out : Nat) (s : State) := onEvent (hasEmu out) s t fun d => d.emuEdgeEmit t out
/-- Meaning of STEP_EMIT (R154). -/
def execStepEmit (out : Nat) (s : State) := onUnit (hasEmu out) s fun d => d.when d.alive fun d => d.stepEmit out
/-- Meaning of STALL_DETECT (R158). -/
def execStallDetect (t : Time) (out : Nat) (s : State) := onEvent (hasEmu out) s t fun d => (d.stallDetect out).settleFault (d.emuLane out)

end Sys2Proof.Machine
end

