-- ==== Sys2Proof/Machine/EvFrame.lean ====
section
/-! DEFINITION. The meanings of the events of the frame, the loops, trace, profile and process channels (spec/01, spec/02,
spec/08 to spec/11). -/
namespace Sys2Proof.Machine
open Sys2Proof

/-- Meaning of FRAME_TICK (R11, R35). -/
def execFrameTick (disturb : List Disturb) (s : State) := onDev s fun d => d.when d.alive fun d => d.frameTick disturb
/-- Meaning of OUTPUT_JUNCTION (R10, R42). -/
def execOutputJunction (late : List Nat) (s : State) := onDev s fun d => d.when d.alive fun d => d.outputJunction late
/-- Meaning of LATE_WORK_COMPLETE (R42). -/
def execLateWorkComplete (t : Time) (lane : Nat) (s : State) := onLaneEvent s t lane fun d => d.lateComplete lane
/-- Meaning of TIMED_COMMAND_DUE (R230); lane 96 stands for the device. -/
def execTimedCommandDue (t : Time) (lane : Nat) (s : State) :=
  onEvent (fun d => hasLane lane d || lane = 96) s t fun d => d.timedDue lane
/-- Meaning of FOLLOWING_ERROR (R174). -/
def execFollowingError (t : Time) (lane : Nat) (s : State) := onLaneEvent s t lane fun d => d.followingError lane
/-- Meaning of TRIM_SOURCE_FAULT (R173). -/
def execTrimSourceFault (t : Time) (lane : Nat) (s : State) := onLaneEvent s t lane fun d => d.trimFault lane
/-- Meaning of MASTER_TIMEOUT (R226). -/
def execMasterTimeout (t : Time) (lane : Nat) (s : State) := onEvent (hasLane lane) s t fun d => d.masterTimeout lane

/-- A self-test of cluster `c` ends (R193): `started` its start, `failing` the test that failed; probation fails with it
(R374). -/
def Dev.selfTest (d : Dev) (c : Nat) (started : Time) (failing : Option Nat) : Dev :=
  let put (f : Cluster → Cluster) : Dev := { d with clusters := d.clusters.modify c f }
  match failing with
  | none => put fun x => { x with stOk := true, passStart := some started }
  | some k => ((put fun x => { x with stOk := false }).logEvent 0x0435 kCluster c (ev4 k)).probationFails 7

/-- Meaning of CLUSTER_SELF_TEST (R193). -/
def execClusterSelfTest (t : Time) (cluster : Nat) (started : Time) (failing : Option Nat) (s : State) :=
  onEvent (hasCluster cluster) s t fun d => d.selfTest cluster started failing

/-- Meaning of TRACE_DONE (R205). -/
def execTraceDone (t : Time) (s : State) := onEvent always s t Dev.traceDone

/-- Process channel `c` is present (Table 0-1). -/
def hasPfe (c : Nat) (_ : Dev) : Bool := decide (c < 8)

/-- Meaning of PFE_CONVERSION_END (R242). -/
def execPfeConversionEnd (t : Time) (channel : Nat) (x : Conversion) (s : State) :=
  onEvent (hasPfe channel) s t fun d => d.pfeConversion channel x
/-- Meaning of PFE_VALUE_AVAILABLE (R242). -/
def execPfeValueAvailable (t : Time) (channel : Nat) (s : State) :=
  onEvent (hasPfe channel) s t fun d => d.pfeAvailable channel t
/-- Meaning of DIE_TEMP_UPDATE (R245, R358). -/
def execDieTempUpdate (t : Time) (value : Word) (s : State) := onEvent always s t fun d => d.dieTemp value

end Sys2Proof.Machine
end

