-- ==== Sys2Proof/Machine/EvSafety.lean ====
section
/-! DEFINITION. The meanings of the events of cyclic records and of the safety monitor (spec/13, spec/14). -/
namespace Sys2Proof.Machine
open Sys2Proof

/-- Host port `p` is present: H0 to H3. -/
def hasHost (p : Nat) (_ : Dev) : Bool := decide (p < 4)
/-- Connection `c` is present (R315). -/
def hasConn (c : Nat) (_ : Dev) : Bool := decide (c < 16)
/-- SI pair `i` is present (R313). -/
def hasPair (i : Nat) (_ : Dev) : Bool := decide (i < 2)

/-- An event whose instant the state itself holds: it acts on the running device and moves the clock to that instant. -/
def onExpiry (present : Dev → Bool) (s : State) (f : Dev → Dev) : Host.Outcome State Fault Refusal :=
  onUnit present s fun d => d.when d.alive f

/-- Meaning of INBOUND_PART_RECEIVE (R294). -/
def execInboundPartReceive (t : Time) (port : Nat) (bytes : List Byte) (s : State) :=
  onEvent (hasHost port) s t fun d => d.partReceive port bytes
/-- Meaning of INBOUND_PART_ACCEPT (R294, R295). -/
def execInboundPartAccept (port : Nat) (s : State) := onExpiry (hasHost port) s fun d => d.partAccept port
/-- Meaning of INBOUND_MISS (R296). -/
def execInboundMiss (t : Time) (lane : Nat) (s : State) := onEvent (hasLane lane) s t fun d => d.inboundMiss lane
/-- Meaning of RECORD_TRANSMIT (R297). -/
def execRecordTransmit (port : Nat) (s : State) := onExpiry (hasHost port) s fun d => d.recordTransmit port

/-- Meaning of WATCH_SAMPLE (R301–R303, R307). -/
def execWatchSample (t : Time) (lane : Nat) (sin cos : Int) (s : State) :=
  onEvent (hasLane lane) s t fun d => d.watchSample lane sin cos
/-- Meaning of SAFETY_VIOLATION (R307, R308). -/
def execSafetyViolation (t : Time) (lane fn : Nat) (s : State) := onEvent (hasLane lane) s t fun d => d.safetyViolation lane fn
/-- Meaning of XCMP_FAIL (R304). -/
def execXcmpFail (t : Time) (lane : Nat) (s : State) := onEvent (hasLane lane) s t fun d => d.xcmpFail lane
/-- Meaning of SAFETY_SELF_TEST (R305). -/
def execSafetySelfTest (t : Time) (kind group : Nat) (pass : Bool) (s : State) :=
  onEvent (hasGroup group) s t fun d => d.safetySelfTest kind group pass
/-- Meaning of SO_TEST_PULSE (R312). -/
def execSoTestPulse (t : Time) (group : Nat) (s : State) := onEvent (hasGroup group) s t fun d => d.soPulse group
/-- Meaning of SO_TEST_PULSE_END (R312). -/
def execSoTestPulseEnd (t : Time) (group : Nat) (sofbLow : Bool) (s : State) :=
  onEvent (hasGroup group) s t fun d => d.soPulseEnd group sofbLow
/-- Meaning of SO_READBACK_FAULT (R312). -/
def execSoReadbackFault (t : Time) (group kind : Nat) (s : State) := onEvent (hasGroup group) s t fun d => d.soReadback group kind
/-- Meaning of SI_LEVEL_CHANGE (R313). -/
def execSiLevelChange (t : Time) (channel : Nat) (level : Bool) (s : State) :=
  onEvent (fun _ => decide (channel < 4)) s t fun d => d.siLevel channel level
/-- Meaning of SI_DEMAND (R313). -/
def execSiDemand (t : Time) (pair : Nat) (s : State) := onEvent (hasPair pair) s t fun d => d.siDemand pair
/-- Meaning of SI_DISCREPANCY (R313). -/
def execSiDiscrepancy (t : Time) (pair : Nat) (s : State) := onEvent (hasPair pair) s t fun d => d.siDiscrepancy pair
/-- Meaning of CONNECTION_WATCHDOG (R317). -/
def execConnectionWatchdog (conn : Nat) (s : State) := onExpiry (hasConn conn) s fun d => d.connWatchdog conn
/-- Meaning of SS1_EXPIRY (R306, R313). -/
def execSs1Expiry (lane : Nat) (s : State) := onExpiry (hasLane lane) s fun d => d.ss1Expiry lane
/-- Meaning of ARMING_EXPIRY (R321). -/
def execArmingExpiry (lane : Nat) (s : State) := onExpiry (hasLane lane) s fun d => d.armingExpiry lane

/-- Meaning of SAFE_RESET_ACK (R320, R321). -/
def execSafeResetAck (t : Time) (conn : Nat) (tag : Byte) (mask : Byte) (s : State) :=
  onEvent (hasConn conn) s t fun d => d.connExec conn 0 tag.toNat [mask]
/-- Meaning of SAFE_PARAM_WR (R326). -/
def execSafeParamWr (t : Time) (conn : Nat) (tag : Byte) (target index : Byte) (value : Word) (s : State) :=
  onEvent (hasConn conn) s t fun d => d.connExec conn 1 tag.toNat ([target, index] ++ wordBytes value)
/-- Meaning of SAFE_PARAM_COMMIT (R325, R326). -/
def execSafeParamCommit (t : Time) (conn : Nat) (tag : Byte) (crc : Word) (s : State) :=
  onEvent (hasConn conn) s t fun d => d.connExec conn 2 tag.toNat (wordBytes crc)
/-- Meaning of SAFE_PARAM_RD (R320). -/
def execSafeParamRd (t : Time) (conn : Nat) (tag : Byte) (target index which : Byte) (s : State) :=
  onEvent (hasConn conn) s t fun d => d.connExec conn 3 tag.toNat [target, index, which]
/-- Meaning of SAFE_PARAM_COMMIT_COMPLETE (R326). -/
def execSafeParamCommitComplete (t : Time) (ok : Bool) (s : State) := onEvent always s t fun d => d.paramCommitEnd ok
/-- Meaning of SAFE_RST_EDGE (R321): the second step of the deliberate reset. -/
def execSafeRstEdge (t : Time) (width : Nat) (s : State) := onEvent always s t fun d => d.safeRst width
/-- Meaning of SAFE_RST_HELD (R321). -/
def execSafeRstHeld (t : Time) (s : State) := onEvent always s t Dev.safeRstHeld

end Sys2Proof.Machine
end

