-- ==== Sys2Proof/Machine/EvPower.lean ====
section
/-! DEFINITION. The meanings of the events of boot, power, pins, debug, memory protection and update (spec/15, spec/16,
spec/17). -/
namespace Sys2Proof.Machine
open Sys2Proof

/-- A pin or supply event that the device sees in every power state. -/
def onPinLevel (s : State) (t : Time) (f : Dev → Dev) : Host.Outcome State Fault Refusal := onDev s fun d => f (d.at t)

/-- Meaning of BOOT (R335, R336). -/
def execBoot (t : Time) (s : State) := onPinLevel s t Dev.boot
/-- Meaning of BOOT_COMPLETE (R335, R407). -/
def execBootComplete (t : Time) (x : BootSeen) (s : State) := onPinLevel s t fun d => d.bootComplete x
/-- Meaning of RECOVERY_RESTART (R336). -/
def execRecoveryRestart (t : Time) (s : State) := onEvent always s t Dev.recoveryRestart
/-- Meaning of RESET_N_ASSERT (R388). -/
def execResetNAssert (t : Time) (s : State) := onPinLevel s t Dev.resetN
/-- Meaning of SUPPLY_MONITOR_RESET (R387). -/
def execSupplyMonitorReset (t : Time) (s : State) := onPinLevel s t Dev.resetN
/-- Meaning of ANALOG_SETTLED (R339). -/
def execAnalogSettled (t : Time) (s : State) := onEvent always s t Dev.analogSettled
/-- Meaning of PRESENT_N_RISE (R341). -/
def execPresentNRise (t : Time) (s : State) :=
  onPinLevel s t fun d => if d.alive then d.presentRise else d.onPwr fun x => { x with presentLow := false }
/-- Meaning of PRESENT_N_FALL (R341). -/
def execPresentNFall (t : Time) (s : State) := onPinLevel s t fun d => d.onPwr fun x => { x with presentLow := true }
/-- Meaning of PFAIL_N_FALL (R342). -/
def execPfailNFall (t : Time) (s : State) :=
  onPinLevel s t fun d => if d.alive then d.pfailFall else d.onPwr fun x => { x with pfailLow := true }
/-- Meaning of PFAIL_N_RISE (R342). -/
def execPfailNRise (t : Time) (s : State) :=
  onPinLevel s t fun d => if d.alive then d.pfailRise else d.onPwr fun x => { x with pfailLow := false }
/-- Meaning of DORMANT_ENTRY (R338). -/
def execDormantEntry (t : Time) (s : State) := onEvent always s t Dev.dormantEntry
/-- Meaning of WAKE (R343). -/
def execWake (t : Time) (source port : Nat) (s : State) := onPinLevel s t fun d => d.wake source port
/-- Meaning of DEBUG_PORT_REQUEST (R344, R346, R347). -/
def execDebugPortRequest (t : Time) (target : Nat) (response : Option (Nat × List Byte)) (s : State) :=
  onEvent always s t fun d => d.debugPortRequest target response
/-- Meaning of DEBUG_PORT_RELEASE (R344). -/
def execDebugPortRelease (t : Time) (s : State) := onEvent always s t Dev.debugPortRelease
/-- Meaning of EXTEST_LOAD (R345). -/
def execExtestLoad (t : Time) (s : State) := onEvent always s t Dev.extestLoad
/-- Meaning of EXTEST_LEAVE (R345). -/
def execExtestLeave (t : Time) (s : State) := onEvent always s t Dev.extestLeave
/-- Meaning of NONCE_EXPIRY (R346). -/
def execNonceExpiry (t : Time) (s : State) := onEvent always s t Dev.nonceExpiry
/-- Meaning of CORE_HALT (R348). -/
def execCoreHalt (t : Time) (s : State) := onEvent always s t Dev.coreHalt
/-- Meaning of CORE_RESUME (R348, R365). -/
def execCoreResume (t : Time) (s : State) := onEvent always s t Dev.coreResume

/-- Meaning of TABLE_REBUILD_COMPLETE (R356). -/
def execTableRebuildComplete (t : Time) (cluster : Nat) (s : State) :=
  onEvent (hasCluster cluster) s t fun d => d.rebuildDone cluster
/-- Meaning of SCRUB_STEP (R355–R357); the memory is one of Table 16-6. -/
def execScrubStep (t : Time) (m : Nat) (addr : Word) (errs owner late : Nat) (s : State) :=
  onEvent (fun _ => decide (m < 10)) s t fun d => d.scrubStep m addr errs owner late
/-- Meaning of ECC_HOURLY_CHECK (R355). -/
def execEccHourlyCheck (t : Time) (s : State) := onMgmt always s t Dev.eccHourly
/-- Meaning of ODOMETER_UPDATE (R358). -/
def execOdometerUpdate (t : Time) (roPpm : Int) (s : State) := onMgmt always s t fun d => d.odometerUpdate roPpm
/-- Meaning of EOL_PREDICT (R359, R360). -/
def execEolPredict (t : Time) (s : State) := onMgmt always s t Dev.eolPredict
/-- Meaning of BBX_DEFERRED_COMMIT (R363, R365). -/
def execBbxDeferredCommit (t : Time) (s : State) := onEvent always s t Dev.runWaitingCommit
/-- Meaning of BBX_COMMIT_COMPLETE (R364, R368). -/
def execBbxCommitComplete (t : Time) (ok : Bool) (s : State) := onEvent always s t fun d => d.bbxComplete ok
/-- Meaning of FW_READY (R373). -/
def execFwReady (t : Time) (s : State) := onEvent always s t Dev.fwReady
/-- Meaning of FW_READY_TIMEOUT (R373, R374). -/
def execFwReadyTimeout (t : Time) (s : State) := onEvent always s t Dev.fwReadyTimeout
/-- Meaning of FIRMWARE_RELOADED (R373). -/
def execFirmwareReloaded (t : Time) (s : State) := onEvent always s t Dev.fwReloaded
/-- Meaning of HEARTBEAT_MISSED (R374, R375). -/
def execHeartbeatMissed (t : Time) (s : State) := onEvent always s t fun d => d.mgmtFails 2
/-- Meaning of PROBATION_PASS (R374). -/
def execProbationPass (t : Time) (ok : Bool) (s : State) := onMgmt always s t fun d => d.probationPass ok
/-- Meaning of SLOT_RECORD_RETRY (R374). -/
def execSlotRecordRetry (t : Time) (ok : Bool) (s : State) := onMgmt always s t fun d => d.recordRetry ok

end Sys2Proof.Machine
end

