-- ==== Sys2Proof/Machine/EvProto.lean ====
section
/-! DEFINITION. The meanings of the opcodes of command packets, of the register fields that the table gives a row of their own,
and of the events of the command protocol (spec/12). An opcode's row is a request that the interpreter serves at its instant. -/
namespace Sys2Proof.Machine
open Sys2Proof

/-- Port `p` is present: H0 to H3 and the maintenance port. -/
def hasPort (p : Nat) (_ : Dev) : Bool := decide (p < 5)

/-- A request of opcode `op` is served now (R263, R277). -/
def onRequest (s : State) (op : Nat) (r : Request) : Host.Outcome State Fault Refusal :=
  onUnit (hasPort r.port) s fun d => d.serveNow op r

/-- Meaning of MAP_LEARN (R106). -/
def execMapLearn (r : Request) (s : State) := onRequest s 0x0300 r
/-- Meaning of MAP_STATUS (R107). -/
def execMapStatus (r : Request) (s : State) := onRequest s 0x0301 r
/-- Meaning of MAP_SAVE (R108). -/
def execMapSave (r : Request) (s : State) := onRequest s 0x0302 r
/-- Meaning of MAP_LOAD (R109). -/
def execMapLoad (r : Request) (s : State) := onRequest s 0x0303 r
/-- Meaning of PIN_ADJUST (R140). -/
def execPinAdjust (r : Request) (s : State) := onRequest s 0x0600 r
/-- Meaning of MLS_READ (R141). -/
def execMlsRead (r : Request) (s : State) := onRequest s 0x0601 r
/-- Meaning of MLS_ARM (R142). -/
def execMlsArm (r : Request) (s : State) := onRequest s 0x0602 r
/-- Meaning of EMU_ALIGN (R160). -/
def execEmuAlign (r : Request) (s : State) := onRequest s 0x0700 r
/-- Meaning of LANE_STAGE (R274). -/
def execLaneStage (r : Request) (s : State) := onRequest s 0x0100 r
/-- Meaning of LANE_COMMIT (R175). -/
def execLaneCommit (r : Request) (s : State) := onRequest s 0x0101 r
/-- Meaning of LANE_ADMIT (R175). -/
def execLaneAdmit (r : Request) (s : State) := onRequest s 0x0104 r
/-- Meaning of LANE_PARK (R20). -/
def execLanePark (r : Request) (s : State) := onRequest s 0x0103 r
/-- Meaning of LANE_READ (R275). -/
def execLaneRead (r : Request) (s : State) := onRequest s 0x0102 r
/-- Meaning of COEF_STAGE (R195). -/
def execCoefStage (r : Request) (s : State) := onRequest s 0x0400 r
/-- Meaning of COEF_READ (R196). -/
def execCoefRead (r : Request) (s : State) := onRequest s 0x0402 r
/-- Meaning of COEF_SWAP (R197). -/
def execCoefSwap (r : Request) (s : State) := onRequest s 0x0401 r
/-- Meaning of TRACE_ARM (R205). -/
def execTraceArm (r : Request) (s : State) := onRequest s 0x0900 r
/-- Meaning of TRACE_FORCE (R205). -/
def execTraceForce (r : Request) (s : State) := onRequest s 0x0902 r
/-- Meaning of TRACE_READ (R206). -/
def execTraceRead (r : Request) (s : State) := onRequest s 0x0901 r
/-- Meaning of MOVE (R216). -/
def execMove (r : Request) (s : State) := onRequest s 0x0500 r
/-- Meaning of LIMITS (R218). -/
def execLimits (r : Request) (s : State) := onRequest s 0x0501 r
/-- Meaning of GEAR (R224). -/
def execGear (r : Request) (s : State) := onRequest s 0x0502 r
/-- Meaning of TRIM (R227). -/
def execTrim (r : Request) (s : State) := onRequest s 0x0503 r
/-- Meaning of STOP (R220). -/
def execStop (r : Request) (s : State) := onRequest s 0x0504 r
/-- Meaning of WAYPOINT (R221). -/
def execWaypoint (r : Request) (s : State) := onRequest s 0x0505 r
/-- Meaning of VMASTER (R223). -/
def execVmaster (r : Request) (s : State) := onRequest s 0x0506 r
/-- Meaning of CH_CONFIG (R252). -/
def execChConfig (r : Request) (s : State) := onRequest s 0x0800 r
/-- Meaning of CH_READ (R253). -/
def execChRead (r : Request) (s : State) := onRequest s 0x0801 r
/-- Meaning of IDENTIFY (R269). -/
def execIdentify (r : Request) (s : State) := onRequest s 0x0001 r
/-- Meaning of PING (R270). -/
def execPing (r : Request) (s : State) := onRequest s 0x0002 r
/-- Meaning of REG_RD (R271). -/
def execRegRd (r : Request) (s : State) := onRequest s 0x0010 r
/-- Meaning of REG_WR (R272). -/
def execRegWr (r : Request) (s : State) := onRequest s 0x0011 r
/-- Meaning of REG_RMW (R273). -/
def execRegRmw (r : Request) (s : State) := onRequest s 0x0012 r
/-- Meaning of POWER_STATE (R338). -/
def execPowerState (r : Request) (s : State) := onRequest s 0x0E00 r
/-- Meaning of DETACH (R341). -/
def execDetach (r : Request) (s : State) := onRequest s 0x0E01 r
/-- Meaning of DBG_CHALLENGE (R346). -/
def execDbgChallenge (r : Request) (s : State) := onRequest s 0x0E20 r
/-- Meaning of DBG_RESPONSE (R346). -/
def execDbgResponse (r : Request) (s : State) := onRequest s 0x0E21 r
/-- Meaning of DBG_CLOSE (R344). -/
def execDbgClose (r : Request) (s : State) := onRequest s 0x0E22 r
/-- Meaning of DBG_OPEN_FREE (R347). -/
def execDbgOpenFree (r : Request) (s : State) := onRequest s 0x0E23 r
/-- Meaning of SEAL (R332). -/
def execSeal (r : Request) (s : State) := onRequest s 0x0E10 r
/-- Meaning of PROT_STATUS (R350). -/
def execProtStatus (r : Request) (s : State) := onRequest s 0x0E02 r
/-- Meaning of BBX_READ (R367). -/
def execBbxRead (r : Request) (s : State) := onRequest s 0x0C01 r
/-- Meaning of BBX_COMMIT (R368). -/
def execBbxCommit (r : Request) (s : State) := onRequest s 0x0C02 r
/-- Meaning of FW_LOAD (R370). -/
def execFwLoad (r : Request) (s : State) := onRequest s 0x0D00 r
/-- Meaning of FW_VERIFY (R371). -/
def execFwVerify (r : Request) (s : State) := onRequest s 0x0D01 r
/-- Meaning of FW_SWITCH (R372). -/
def execFwSwitch (r : Request) (s : State) := onRequest s 0x0D02 r

/-! ### Register fields with a row of their own -/

/-- A write of whole words by a REG_WR packet. -/
def onRegWr (s : State) (w : RegWrite) (r : RegId) (u : Nat) (vs : List Word) : Host.Outcome State Fault Refusal :=
  onUnit (fun d => hasPort w.port d && decide (u < r.info.units)) s fun d => d.serveNow 0x0011
    { t := w.t, port := w.port, gen := w.gen, tag := w.tag,
      payload := leBytes 4 (r.addr (u * r.info.subs)) ++ leBytes 2 vs.length ++ zeros 2 ++ vs.flatMap wordBytes }

/-- A write of the bits of a mask by a REG_RMW packet. -/
def onRegRmw (s : State) (w : RegWrite) (r : RegId) (u : Nat) (mask v : Word) : Host.Outcome State Fault Refusal :=
  onUnit (fun d => hasPort w.port d && decide (u < r.info.units)) s fun d => d.serveNow 0x0012
    { t := w.t, port := w.port, gen := w.gen, tag := w.tag,
      payload := leBytes 4 (r.addr (u * r.info.subs)) ++ wordBytes mask ++ wordBytes v }

/-- Meaning of TIME_SET (R45): both words, the high one last. -/
def execTimeSet (w : RegWrite) (value : Quad) (s : State) :=
  onRegWr s w .timeSet 0 [BitVec.ofNat 32 value.toNat, BitVec.ofNat 32 (value.toNat / 2 ^ 32)]
/-- Meaning of GENERATOR_RUN (R48). -/
def execGeneratorRun (w : RegWrite) (group : Nat) (s : State) := onRegRmw s w .excCtrl group 1 1
/-- Meaning of GENERATOR_STOP (R49). -/
def execGeneratorStop (w : RegWrite) (group : Nat) (s : State) := onRegRmw s w .excCtrl group 1 0
/-- Meaning of POS_ARM (R76). -/
def execPosArm (w : RegWrite) (lane : Nat) (s : State) := onRegRmw s w .trkCmd lane 1 1
/-- Meaning of DET_RETURN (R87). -/
def execDetReturn (w : RegWrite) (lane : Nat) (s : State) := onRegRmw s w .trkCmd lane 2 2
/-- Meaning of REQ_STATE (R20). -/
def execReqState (w : RegWrite) (lane : Nat) (value : BitVec 3) (s : State) :=
  onRegRmw s w .laneCtrl lane 7 (BitVec.ofNat 32 value.toNat)
/-- Meaning of MLS_POP (R138). -/
def execMlsPop (w : RegWrite) (unit : Nat) (s : State) := onRegWr s w .mlsPop unit [1]
/-- Meaning of MLS_FLUSH (R143). -/
def execMlsFlush (w : RegWrite) (unit : Nat) (s : State) := onRegWr s w .mlsPop unit [2]
/-- Meaning of PFE_TARE (R239). -/
def execPfeTare (w : RegWrite) (channel : Nat) (s : State) := onRegRmw s w .pfeCmd channel 1 1
/-- Meaning of PFE_FORCE_RST (R239). -/
def execPfeForceRst (w : RegWrite) (channel : Nat) (s : State) := onRegRmw s w .pfeCmd channel 2 2

/-! ### Events of the command protocol -/

/-- Meaning of PACKET_RECEIVE (R257–R263). -/
def execPacketReceive (t : Time) (port : Nat) (frame : List Byte) (damaged : Bool) (s : State) :=
  onEvent (hasPort port) s t fun d => d.frameIn port frame damaged
/-- Meaning of PACKET_SERVE (R263, R277, R282). -/
def execPacketServe (t : Time) (s : State) := onEvent always s t Dev.packetServe
/-- Meaning of REPLY_TRANSMIT (R284). -/
def execReplyTransmit (t : Time) (port : Nat) (s : State) := onEvent (hasPort port) s t fun d => d.replyTransmit port
/-- Meaning of BACKGROUND_JOB_COMPLETE (R283). -/
def execBackgroundJobComplete (t : Time) (port : Nat) (ok : Bool) (s : State) :=
  onEvent (hasPort port) s t fun d => d.jobComplete port ok
/-- Meaning of GROUP_TIMEOUT (R268). -/
def execGroupTimeout (t : Time) (port : Nat) (s : State) := onEvent (hasPort port) s t fun d => d.groupTimeout port
/-- Meaning of WRITE_LOG_SUMMARY (R281). -/
def execWriteLogSummary (t : Time) (port : Nat) (s : State) := onEvent (hasPort port) s t fun d => d.writeLogSummary port
/-- Meaning of LINK_STATUS_FRAME (R258). -/
def execLinkStatusFrame (t : Time) (port : Nat) (status : Byte) (s : State) :=
  onEvent (hasHost port) s t fun d => d.linkStatus port status
/-- Meaning of LINK_STATUS_SEND (R258). -/
def execLinkStatusSend (t : Time) (port : Nat) (s : State) := onEvent (hasHost port) s t fun d => d.linkStatusSend port
/-- Meaning of LINK_STATUS_TIMEOUT (R258). -/
def execLinkStatusTimeout (t : Time) (port : Nat) (s : State) := onEvent (hasHost port) s t fun d => d.linkStatusTimeout port
/-- Meaning of LINK_SYNC_LOSS (R258). -/
def execLinkSyncLoss (t : Time) (port : Nat) (s : State) := onEvent (hasHost port) s t fun d => d.linkSyncLoss port
/-- Meaning of LINK_UP (R259). -/
def execLinkUp (t : Time) (port : Nat) (autoneg : Bool) (s : State) := onEvent (hasHost port) s t fun d => d.linkUp port autoneg
/-- Meaning of SPI_WRITE (R261). -/
def execSpiWrite (t : Time) (packet : List Byte) (s : State) := onEvent always s t fun d => d.spiWrite packet
/-- Meaning of SPI_READ (R261). -/
def execSpiRead (t : Time) (clocked : Nat) (s : State) := onEvent always s t fun d => d.spiRead clocked
/-- Meaning of SPI_STATUS (R261). -/
def execSpiStatus (t : Time) (s : State) := onEvent always s t Dev.spiStatus

end Sys2Proof.Machine
end

