-- ==== Sys2Proof/Machine/Dispatch.lean ====
section
/-! DEFINITION. The dispatch of a command to its meaning: one arm per constructor, in the order of spec/opcode_table.json. -/
namespace Sys2Proof.Machine
open Sys2Proof

/-- The effect of a command on everything but the queue. -/
def exec (i : Instr) (s : State) : Host.Outcome State Fault Refusal :=
  match i with
  | .frameTick disturb => Sys2Proof.Machine.execFrameTick disturb s
  | .outputJunction late => Sys2Proof.Machine.execOutputJunction late s
  | .lateWorkComplete t lane => Sys2Proof.Machine.execLateWorkComplete t lane s
  | .syncMessage t port domain rx gm interval twoStep followUp => Sys2Proof.Machine.execSyncMessage t port domain rx gm interval twoStep followUp s
  | .announceMessage t port domain gmId => Sys2Proof.Machine.execAnnounceMessage t port domain gmId s
  | .pdelayReqReceive t port => Sys2Proof.Machine.execPdelayReqReceive t port s
  | .pdelayReqSend t => Sys2Proof.Machine.execPdelayReqSend t s
  | .pdelayResponse t port t2 t3 t4 => Sys2Proof.Machine.execPdelayResponse t port t2 t3 t4 s
  | .syncTimeout t => Sys2Proof.Machine.execSyncTimeout t s
  | .syncInEdge t width => Sys2Proof.Machine.execSyncInEdge t width s
  | .syncInMissing t => Sys2Proof.Machine.execSyncInMissing t s
  | .syncOutPulse => Sys2Proof.Machine.execSyncOutPulse s
  | .syncOutPulseEnd => Sys2Proof.Machine.execSyncOutPulseEnd s
  | .timeSet w value => Sys2Proof.Machine.execTimeSet w value s
  | .generatorRun w group => Sys2Proof.Machine.execGeneratorRun w group s
  | .generatorStop w group => Sys2Proof.Machine.execGeneratorStop w group s
  | .rampComplete t group => Sys2Proof.Machine.execRampComplete t group s
  | .excHalfPeriod t group peak => Sys2Proof.Machine.execExcHalfPeriod t group peak s
  | .demodSample t lane x => Sys2Proof.Machine.execDemodSample t lane x s
  | .carrierPeriod t lane x => Sys2Proof.Machine.execCarrierPeriod t lane x s
  | .phaseFastEnd t lane => Sys2Proof.Machine.execPhaseFastEnd t lane s
  | .losConfirm t lane => Sys2Proof.Machine.execLosConfirm t lane s
  | .losClear t lane => Sys2Proof.Machine.execLosClear t lane s
  | .modulatorReset t lane winding => Sys2Proof.Machine.execModulatorReset t lane winding s
  | .modulatorResetEnd t lane winding => Sys2Proof.Machine.execModulatorResetEnd t lane winding s
  | .rangeNarrowCount t lane => Sys2Proof.Machine.execRangeNarrowCount t lane s
  | .rangeChange t lane => Sys2Proof.Machine.execRangeChange t lane s
  | .ratioEval t lane => Sys2Proof.Machine.execRatioEval t lane s
  | .lockLoss t lane => Sys2Proof.Machine.execLockLoss t lane s
  | .overspeed t lane => Sys2Proof.Machine.execOverspeed t lane s
  | .reacqFastEnd t lane => Sys2Proof.Machine.execReacqFastEnd t lane s
  | .lockRegained t lane => Sys2Proof.Machine.execLockRegained t lane s
  | .posArm w lane => Sys2Proof.Machine.execPosArm w lane s
  | .detReturn w lane => Sys2Proof.Machine.execDetReturn w lane s
  | .segmentEnd t lane => Sys2Proof.Machine.execSegmentEnd t lane s
  | .mapEvaluate t lane => Sys2Proof.Machine.execMapEvaluate t lane s
  | .mapDriftCheck t lane => Sys2Proof.Machine.execMapDriftCheck t lane s
  | .fadeComplete t lane => Sys2Proof.Machine.execFadeComplete t lane s
  | .mapLearn r => Sys2Proof.Machine.execMapLearn r s
  | .mapStatus r => Sys2Proof.Machine.execMapStatus r s
  | .mapSave r => Sys2Proof.Machine.execMapSave r s
  | .mapLoad r => Sys2Proof.Machine.execMapLoad r s
  | .pulseEdge t input a b z => Sys2Proof.Machine.execPulseEdge t input a b z s
  | .indexEvent t input => Sys2Proof.Machine.execIndexEvent t input s
  | .switchDebounce t input wire => Sys2Proof.Machine.execSwitchDebounce t input wire s
  | .wireFault t input pair => Sys2Proof.Machine.execWireFault t input pair s
  | .wireFaultClear t input => Sys2Proof.Machine.execWireFaultClear t input s
  | .pulseStill t input => Sys2Proof.Machine.execPulseStill t input s
  | .serTransferStart input => Sys2Proof.Machine.execSerTransferStart input s
  | .serTransferEnd t input x => Sys2Proof.Machine.execSerTransferEnd t input x s
  | .pinAdjust r => Sys2Proof.Machine.execPinAdjust r s
  | .mlsRead r => Sys2Proof.Machine.execMlsRead r s
  | .mlsArm r => Sys2Proof.Machine.execMlsArm r s
  | .mlsPop w unit => Sys2Proof.Machine.execMlsPop w unit s
  | .mlsFlush w unit => Sys2Proof.Machine.execMlsFlush w unit s
  | .emuEdgeEmit t out => Sys2Proof.Machine.execEmuEdgeEmit t out s
  | .stepEmit out => Sys2Proof.Machine.execStepEmit out s
  | .stallDetect t out => Sys2Proof.Machine.execStallDetect t out s
  | .emuAlign r => Sys2Proof.Machine.execEmuAlign r s
  | .followingError t lane => Sys2Proof.Machine.execFollowingError t lane s
  | .trimSourceFault t lane => Sys2Proof.Machine.execTrimSourceFault t lane s
  | .clusterSelfTest t cluster started failing => Sys2Proof.Machine.execClusterSelfTest t cluster started failing s
  | .laneStage r => Sys2Proof.Machine.execLaneStage r s
  | .laneCommit r => Sys2Proof.Machine.execLaneCommit r s
  | .laneAdmit r => Sys2Proof.Machine.execLaneAdmit r s
  | .lanePark r => Sys2Proof.Machine.execLanePark r s
  | .reqState w lane value => Sys2Proof.Machine.execReqState w lane value s
  | .laneRead r => Sys2Proof.Machine.execLaneRead r s
  | .coefStage r => Sys2Proof.Machine.execCoefStage r s
  | .coefRead r => Sys2Proof.Machine.execCoefRead r s
  | .coefSwap r => Sys2Proof.Machine.execCoefSwap r s
  | .traceArm r => Sys2Proof.Machine.execTraceArm r s
  | .traceForce r => Sys2Proof.Machine.execTraceForce r s
  | .traceRead r => Sys2Proof.Machine.execTraceRead r s
  | .traceDone t => Sys2Proof.Machine.execTraceDone t s
  | .move r => Sys2Proof.Machine.execMove r s
  | .limits r => Sys2Proof.Machine.execLimits r s
  | .gear r => Sys2Proof.Machine.execGear r s
  | .trim r => Sys2Proof.Machine.execTrim r s
  | .stop r => Sys2Proof.Machine.execStop r s
  | .waypoint r => Sys2Proof.Machine.execWaypoint r s
  | .vmaster r => Sys2Proof.Machine.execVmaster r s
  | .timedCommandDue t lane => Sys2Proof.Machine.execTimedCommandDue t lane s
  | .masterTimeout t lane => Sys2Proof.Machine.execMasterTimeout t lane s
  | .pfeConversionEnd t channel x => Sys2Proof.Machine.execPfeConversionEnd t channel x s
  | .pfeValueAvailable t channel => Sys2Proof.Machine.execPfeValueAvailable t channel s
  | .dieTempUpdate t value => Sys2Proof.Machine.execDieTempUpdate t value s
  | .pfeTare w channel => Sys2Proof.Machine.execPfeTare w channel s
  | .pfeForceRst w channel => Sys2Proof.Machine.execPfeForceRst w channel s
  | .chConfig r => Sys2Proof.Machine.execChConfig r s
  | .chRead r => Sys2Proof.Machine.execChRead r s
  | .packetReceive t port frame damaged => Sys2Proof.Machine.execPacketReceive t port frame damaged s
  | .packetServe t => Sys2Proof.Machine.execPacketServe t s
  | .identify r => Sys2Proof.Machine.execIdentify r s
  | .ping r => Sys2Proof.Machine.execPing r s
  | .regRd r => Sys2Proof.Machine.execRegRd r s
  | .regWr r => Sys2Proof.Machine.execRegWr r s
  | .regRmw r => Sys2Proof.Machine.execRegRmw r s
  | .replyTransmit t port => Sys2Proof.Machine.execReplyTransmit t port s
  | .backgroundJobComplete t port ok => Sys2Proof.Machine.execBackgroundJobComplete t port ok s
  | .groupTimeout t port => Sys2Proof.Machine.execGroupTimeout t port s
  | .writeLogSummary t port => Sys2Proof.Machine.execWriteLogSummary t port s
  | .linkStatusFrame t port status => Sys2Proof.Machine.execLinkStatusFrame t port status s
  | .linkStatusSend t port => Sys2Proof.Machine.execLinkStatusSend t port s
  | .linkStatusTimeout t port => Sys2Proof.Machine.execLinkStatusTimeout t port s
  | .linkSyncLoss t port => Sys2Proof.Machine.execLinkSyncLoss t port s
  | .linkUp t port autoneg => Sys2Proof.Machine.execLinkUp t port autoneg s
  | .spiWrite t packet => Sys2Proof.Machine.execSpiWrite t packet s
  | .spiRead t clocked => Sys2Proof.Machine.execSpiRead t clocked s
  | .spiStatus t => Sys2Proof.Machine.execSpiStatus t s
  | .inboundPartReceive t port bytes => Sys2Proof.Machine.execInboundPartReceive t port bytes s
  | .inboundPartAccept port => Sys2Proof.Machine.execInboundPartAccept port s
  | .inboundMiss t lane => Sys2Proof.Machine.execInboundMiss t lane s
  | .recordTransmit port => Sys2Proof.Machine.execRecordTransmit port s
  | .watchSample t lane sv c => Sys2Proof.Machine.execWatchSample t lane sv c s
  | .safetyViolation t lane fn => Sys2Proof.Machine.execSafetyViolation t lane fn s
  | .xcmpFail t lane => Sys2Proof.Machine.execXcmpFail t lane s
  | .safetySelfTest t kind group pass => Sys2Proof.Machine.execSafetySelfTest t kind group pass s
  | .soTestPulse t group => Sys2Proof.Machine.execSoTestPulse t group s
  | .soReadbackFault t group kind => Sys2Proof.Machine.execSoReadbackFault t group kind s
  | .siDemand t pair => Sys2Proof.Machine.execSiDemand t pair s
  | .siDiscrepancy t pair => Sys2Proof.Machine.execSiDiscrepancy t pair s
  | .connectionWatchdog conn => Sys2Proof.Machine.execConnectionWatchdog conn s
  | .ss1Expiry lane => Sys2Proof.Machine.execSs1Expiry lane s
  | .safeResetAck t conn tag mask => Sys2Proof.Machine.execSafeResetAck t conn tag mask s
  | .safeParamWr t conn tag target index value => Sys2Proof.Machine.execSafeParamWr t conn tag target index value s
  | .safeParamCommit t conn tag crc => Sys2Proof.Machine.execSafeParamCommit t conn tag crc s
  | .safeParamRd t conn tag target index which => Sys2Proof.Machine.execSafeParamRd t conn tag target index which s
  | .safeRstEdge t width => Sys2Proof.Machine.execSafeRstEdge t width s
  | .safeRstHeld t => Sys2Proof.Machine.execSafeRstHeld t s
  | .armingExpiry lane => Sys2Proof.Machine.execArmingExpiry lane s
  | .boot t => Sys2Proof.Machine.execBoot t s
  | .bootComplete t x => Sys2Proof.Machine.execBootComplete t x s
  | .recoveryRestart t => Sys2Proof.Machine.execRecoveryRestart t s
  | .resetNAssert t => Sys2Proof.Machine.execResetNAssert t s
  | .supplyMonitorReset t => Sys2Proof.Machine.execSupplyMonitorReset t s
  | .powerState r => Sys2Proof.Machine.execPowerState r s
  | .analogSettled t => Sys2Proof.Machine.execAnalogSettled t s
  | .detach r => Sys2Proof.Machine.execDetach r s
  | .presentNRise t => Sys2Proof.Machine.execPresentNRise t s
  | .presentNFall t => Sys2Proof.Machine.execPresentNFall t s
  | .pfailNFall t => Sys2Proof.Machine.execPfailNFall t s
  | .pfailNRise t => Sys2Proof.Machine.execPfailNRise t s
  | .dormantEntry t => Sys2Proof.Machine.execDormantEntry t s
  | .wake t source port => Sys2Proof.Machine.execWake t source port s
  | .debugPortRequest t target response => Sys2Proof.Machine.execDebugPortRequest t target response s
  | .debugPortRelease t => Sys2Proof.Machine.execDebugPortRelease t s
  | .extestLoad t => Sys2Proof.Machine.execExtestLoad t s
  | .dbgChallenge r => Sys2Proof.Machine.execDbgChallenge r s
  | .dbgResponse r => Sys2Proof.Machine.execDbgResponse r s
  | .dbgClose r => Sys2Proof.Machine.execDbgClose r s
  | .dbgOpenFree r => Sys2Proof.Machine.execDbgOpenFree r s
  | .nonceExpiry t => Sys2Proof.Machine.execNonceExpiry t s
  | .seal r => Sys2Proof.Machine.execSeal r s
  | .protStatus r => Sys2Proof.Machine.execProtStatus r s
  | .tableRebuildComplete t cluster => Sys2Proof.Machine.execTableRebuildComplete t cluster s
  | .scrubStep t m addr errs owner late => Sys2Proof.Machine.execScrubStep t m addr errs owner late s
  | .eccHourlyCheck t => Sys2Proof.Machine.execEccHourlyCheck t s
  | .odometerUpdate t roPpm => Sys2Proof.Machine.execOdometerUpdate t roPpm s
  | .eolPredict t => Sys2Proof.Machine.execEolPredict t s
  | .bbxDeferredCommit t => Sys2Proof.Machine.execBbxDeferredCommit t s
  | .bbxCommitComplete t ok => Sys2Proof.Machine.execBbxCommitComplete t ok s
  | .bbxRead r => Sys2Proof.Machine.execBbxRead r s
  | .bbxCommit r => Sys2Proof.Machine.execBbxCommit r s
  | .fwLoad r => Sys2Proof.Machine.execFwLoad r s
  | .fwVerify r => Sys2Proof.Machine.execFwVerify r s
  | .fwSwitch r => Sys2Proof.Machine.execFwSwitch r s
  | .fwReady t => Sys2Proof.Machine.execFwReady t s
  | .fwReadyTimeout t => Sys2Proof.Machine.execFwReadyTimeout t s
  | .heartbeatMissed t => Sys2Proof.Machine.execHeartbeatMissed t s
  | .probationPass t ok => Sys2Proof.Machine.execProbationPass t ok s
  | .slotRecordRetry t ok => Sys2Proof.Machine.execSlotRecordRetry t ok s
  | .soTestPulseEnd t group sofbLow => Sys2Proof.Machine.execSoTestPulseEnd t group sofbLow s
  | .siLevelChange t channel level => Sys2Proof.Machine.execSiLevelChange t channel level s
  | .safeParamCommitComplete t ok => Sys2Proof.Machine.execSafeParamCommitComplete t ok s
  | .firmwareReloaded t => Sys2Proof.Machine.execFirmwareReloaded t s
  | .extestLeave t => Sys2Proof.Machine.execExtestLeave t s
  | .coreHalt t => Sys2Proof.Machine.execCoreHalt t s
  | .coreResume t => Sys2Proof.Machine.execCoreResume t s

end Sys2Proof.Machine
end

