-- ==== Sys2Proof/Safety.lean ====
section
/-! DEFINITION. What the claims call safe: the outcome of a step, the barrier, and the safety outputs. -/
namespace Sys2Proof.Machine

/-- The outcome is a next state that satisfies `P`. -/
def Next (o : Host.Outcome State Fault Refusal) (P : State → Prop) : Prop :=
  match o with
  | .next s => P s
  | _ => False

/-- If the outcome is a next state, it satisfies `P`. -/
def NextOr (o : Host.Outcome State Fault Refusal) (P : State → Prop) : Prop :=
  match o with
  | .next s => P s
  | _ => True

/-! ### Sizes -/

/-- The sizes of the safety monitor's tables. -/
def Saf.shape (s : Saf) : List Nat :=
  [s.lanes.length, s.conns.length, s.pairs.length, s.levels.length, s.levelT.length, s.chainBad.length, s.chainCause.length,
   s.chainPass.length, s.readback.length, s.pulse.length]

/-- The variant and the sizes of the device's tables. -/
def Dev.shape (d : Dev) : List Nat :=
  [d.variant, d.lanes.length, d.groups.length, d.ports.length, d.pins.length, d.mls.length, d.emus.length, d.clusters.length,
   d.vms.length, d.pfe.length] ++ d.saf.shape

/-- Every table has the size the spec gives it (R1, R3): 96 lanes, 12 groups, five ports and so on; the variant is one of the
two. -/
def Dev.Sized (d : Dev) : Prop :=
  d.variant ≤ 1 ∧ d.lanes.length = 96 ∧ d.groups.length = 12 ∧ d.ports.length = 5 ∧ d.pins.length = 32 ∧ d.mls.length = 32 ∧
  d.emus.length = 24 ∧ d.clusters.length = 4 ∧ d.vms.length = 8 ∧ d.pfe.length = 8 ∧ d.saf.lanes.length = 96 ∧
  d.saf.conns.length = 16 ∧ d.saf.pairs.length = 2 ∧ d.saf.levels.length = 4 ∧ d.saf.levelT.length = 4 ∧
  d.saf.chainBad.length = 12 ∧ d.saf.chainCause.length = 12 ∧ d.saf.chainPass.length = 12 ∧ d.saf.readback.length = 12 ∧
  d.saf.pulse.length = 12

/-- Every byte memory is in its canonical form: the trace memory, the regions of firmware and of the staged protection image,
the protection image in force. -/
def Dev.Canonical (d : Dev) : Prop :=
  memWf d.trc.mem = true ∧ (∀ r ∈ d.hlt.regions, memWf r.mem = true) ∧ memWf d.pwr.image = true

/-! ### Commands that run -/

/-- The command runs from `s`: `exec` answers a next state in which the queue stands and the device satisfies `P`. -/
def Runs (c : Instr) (s : State) (P : Dev → Prop) : Prop :=
  ∃ d, Machine.exec c s = .next { s with dev := d } ∧ P d

/-- The request passes steps 6 to 10 of Table 12-4 outside a group: `g` is the generation that defines its opcode, `u` how the
opcode uses the lane selector, `w` the right that it asks for. The management plane works, the device is neither in recovery nor
in probation, and the request has no flag. -/
def Admits (d : Dev) (r : Request) (g : Nat) (u : LaneUse) (w : Right) : Prop :=
  r.port < d.ports.length ∧ d.ports.length = 5 ∧ d.mgmtUp = true ∧ (d.port r.port).group = none ∧ r.flags = 0 ∧
  d.hlt.probation = none ∧ d.pwr.recovery = false ∧ g ≤ r.gen ∧ r.payload.length ≤ payloadLimit r.gen ∧
  d.laneOk u r.lane = true ∧
  (match w with
    | .any => True
    | .owner => r.lane = 0xFFFF ∨ d.owns r.port r.lane = true
    | .lead => d.leads r.port = true)

/-- The request is served from `s`: its reply, with status and data `a`, joins the transmit queue of its port, and the device
satisfies `P`. -/
def Answers (c : Instr) (op : Nat) (r : Request) (s : State) (a : Resp) (P : Dev → Prop) : Prop :=
  Runs c s fun d => (d.port r.port).tx = (s.dev.port r.port).tx ++ [{ bytes := replyBytes op r a, dst := 0, arr := r.t }] ∧ P d

/-- The actions that the port stages, accepted at instant `t`, follow those staged before. -/
def Staging (s : State) (port : Nat) (t : Time) (as : List Act) (d : Dev) : Prop :=
  d.staged = s.dev.staged ++ as.map fun a => { port := port, acc := instant s.dev.now t, inGroup := false, act := a }

/-- The request becomes a background job of its port: it has no reply yet. -/
def StartsJob (c : Instr) (op : Nat) (r : Request) (s : State) (a : BgAct) (P : Dev → Prop) : Prop :=
  Runs c s fun d => (d.port r.port).tx = (s.dev.port r.port).tx ∧
    (∃ q, (d.port r.port).bg = some ⟨q, a⟩ ∧ q.op = op ∧ q.req = r) ∧ P d

/-- The device as a handler finds it: at the instant of the request, which the port has counted in `RX_OK`. -/
def Dev.counted (d : Dev) (r : Request) : Dev := (d.at r.t).addCnt .hpRxOk r.port 0 32

/-- The request that a write of a register field stands for, so far as steps 6 to 10 of Table 12-4 go. -/
def fieldRequest (w : RegWrite) : Request := { t := w.t, port := w.port, gen := w.gen, tag := w.tag }

/-! ### Frames -/

/-- What a command may change. A numbered unit is named by its number; of a lane, `lane` is all but its acquisition, tracker,
map, loops and profile; of the safety monitor, `saf` is all but its lanes and connections; `raise` lets a barrier come up or an
SO latch clear. -/
structure May where
  reg     : RegId → Nat → Bool := fun _ _ => false
  lane    : Nat → Bool := fun _ => false
  acq     : Nat → Bool := fun _ => false
  trk     : Nat → Bool := fun _ => false
  map     : Nat → Bool := fun _ => false
  loop    : Nat → Bool := fun _ => false
  prf     : Nat → Bool := fun _ => false
  group   : Nat → Bool := fun _ => false
  port    : Nat → Bool := fun _ => false
  pin     : Nat → Bool := fun _ => false
  mls     : Nat → Bool := fun _ => false
  emu     : Nat → Bool := fun _ => false
  cluster : Nat → Bool := fun _ => false
  vm      : Nat → Bool := fun _ => false
  pfe     : Nat → Bool := fun _ => false
  safLane : Nat → Bool := fun _ => false
  conn    : Nat → Bool := fun _ => false
  saf     : Bool := false
  crit    : Bool := false
  raise   : Bool := false
  time    : Bool := false
  bbx     : Bool := false
  hlt     : Bool := false
  pwr     : Bool := false
  trc     : Bool := false
  staged  : Bool := false
  ro      : Bool := false
  serve   : Bool := false

/-- What either allows. -/
def May.or (a b : May) : May where
  reg i k := a.reg i k || b.reg i k
  lane n := a.lane n || b.lane n
  acq n := a.acq n || b.acq n
  trk n := a.trk n || b.trk n
  map n := a.map n || b.map n
  loop n := a.loop n || b.loop n
  prf n := a.prf n || b.prf n
  group n := a.group n || b.group n
  port n := a.port n || b.port n
  pin n := a.pin n || b.pin n
  mls n := a.mls n || b.mls n
  emu n := a.emu n || b.emu n
  cluster n := a.cluster n || b.cluster n
  vm n := a.vm n || b.vm n
  pfe n := a.pfe n || b.pfe n
  safLane n := a.safLane n || b.safLane n
  conn n := a.conn n || b.conn n
  saf := a.saf || b.saf
  crit := a.crit || b.crit
  raise := a.raise || b.raise
  time := a.time || b.time
  bbx := a.bbx || b.bbx
  hlt := a.hlt || b.hlt
  pwr := a.pwr || b.pwr
  trc := a.trc || b.trc
  staged := a.staged || b.staged
  ro := a.ro || b.ro
  serve := a.serve || b.serve

/-- A lane without the parts that `May` names on their own. -/
def Lane.own (l : Lane) : Lane := { l with acq := {}, trk := {}, map := {}, loop := {}, prf := {} }

/-- The safety monitor without its lanes and connections. -/
def Saf.own (s : Saf) : Saf := { s with lanes := [], conns := [] }

/-- Nothing comes up: every barrier that is up afterwards was up before, every SO latch set before is still set, and the SEALED
fuse reads as before (R21, R308, R331). -/
structure Crit.Tight (c e : Crit) : Prop where
  barrier : ∀ n, e.barrierUp.getLsbD n = true → c.barrierUp.getLsbD n = true
  latch   : ∀ g, c.soLatch.getLsbD g = true → e.soLatch.getLsbD g = true
  fuse    : e.sealed = c.sealed

/-- Everything but what `m` allows, `DTIME`, the count of free values and the notes of what the present cycle set (R7) is in `e` as
it was in `d`; every table keeps its size. -/
structure Within (m : May) (d e : Dev) : Prop where
  variant : e.variant = d.variant
  shape   : e.shape = d.shape
  reg     : ∀ i k, m.reg i k = false → e.reg i k = d.reg i k
  lane    : ∀ n, m.lane n = false → (e.lane n).own = (d.lane n).own
  acq     : ∀ n, m.acq n = false → (e.lane n).acq = (d.lane n).acq
  trk     : ∀ n, m.trk n = false → (e.lane n).trk = (d.lane n).trk
  map     : ∀ n, m.map n = false → (e.lane n).map = (d.lane n).map
  loop    : ∀ n, m.loop n = false → (e.lane n).loop = (d.lane n).loop
  prf     : ∀ n, m.prf n = false → (e.lane n).prf = (d.lane n).prf
  group   : ∀ g, m.group g = false → e.group g = d.group g
  port    : ∀ p, m.port p = false → e.port p = d.port p
  pin     : ∀ i, m.pin i = false → e.pin i = d.pin i
  mls     : ∀ j, m.mls j = false → e.mlsUnit j = d.mlsUnit j
  emu     : ∀ o, m.emu o = false → e.emu o = d.emu o
  cluster : ∀ c, m.cluster c = false → e.clusters.getD c {} = d.clusters.getD c {}
  vm      : ∀ v, m.vm v = false → e.vms.getD v {} = d.vms.getD v {}
  pfe     : ∀ c, m.pfe c = false → e.ch c = d.ch c
  safLane : ∀ n, m.safLane n = false → e.safLane n = d.safLane n
  conn    : ∀ c, m.conn c = false → e.conn c = d.conn c
  saf     : m.saf = false → e.saf.own = d.saf.own
  crit    : m.crit = false → e.crit = d.crit
  tight   : m.raise = false → d.crit.Tight e.crit
  time    : m.time = false → e.time = d.time
  bbx     : m.bbx = false → e.bbx = d.bbx
  hlt     : m.hlt = false → e.hlt = d.hlt
  pwr     : m.pwr = false → e.pwr = d.pwr
  trc     : m.trc = false → e.trc = d.trc
  staged  : m.staged = false → e.staged = d.staged
  ro      : m.ro = false → e.ro = d.ro
  serve   : m.serve = false → e.serveNext = d.serveNext

/-- Words `k` of the registers of a list. -/
def words (k : Nat) (l : List RegId) : RegId → Nat → Bool := fun i j => decide (j = k) && l.contains i

/-- Every unit of its kind. -/
def every : Nat → Bool := fun _ => true

/-- The ring of the black box and what the ring shows of itself: an event may be logged. -/
def logs : May := { bbx := true, reg := words 0 [.bbxStat] }

/-- The outputs assigned to the lanes of `p`, with their status and counters. -/
def outputsOf (d : Dev) (p : Nat → Bool) : May where
  emu o := p (d.emuLane o)
  reg i o := (i = .emuStat || i = .emuCnt) && p (d.emuLane o)

/-- The lanes of `p` with their lock counter, their outputs and the log: what feedback, a lane fault or a change of state touches
of a lane. -/
def laneWork (d : Dev) (p : Nat → Bool) : May :=
  (logs.or (outputsOf d p)).or
    { lane := p, acq := p, trk := p, map := p, loop := p, prf := p, reg := fun i k => i = .trkCnt && p k }

/-- A reaction of the safety monitor on the lanes of `p`: barriers come down, latches are set (R308). -/
def reaction (d : Dev) (p : Nat → Bool) : May :=
  (logs.or (outputsOf d p)).or { crit := true, hlt := true, saf := true, safLane := p }

/-- A word of `n` words from address `a` on belongs to the value of which register `i` has word `k`. -/
def hit (a n : Nat) (i : RegId) (k : Nat) : Bool :=
  (List.range n).any fun j => match targetOf (a + 4 * j) with
    | .reg x y => x = i && y / x.valueWords = k / x.valueWords
    | _ => false

/-- What the service of a request of port `p` changes besides the effect of its opcode: the ports, the counters, the latency
and the log; a late answer in probation also ends the open groups and what they staged (R268, R281, R285, R374). -/
def serving (p : Nat) : May :=
  logs.or { hlt := true, staged := true, port := every,
            reg := fun i k => words 0 [.fwCnt, .hltStat] i k || words p [.hpRxOk, .hpPosted, .hpQmax, .hpTxBusy] i k }

/-- What a write of the register words that `h` names changes, where they have no SW field: the words, and what a write of
`TIME_SET`, `TIME_CTRL`, `MLS_POP`, `MLS_ASSIGN`, `EMU_LANE` and `HP_CTRL` does at once (R7, R30, R45, R138, R139, R160, R287): an
output whose lane is written may move as it reconciles, and with it the outputs of that lane (R156, R157). -/
def writing (h : RegId → Nat → Bool) : May :=
  let lane : Bool := (List.range 24).any (h .emuLane)
  { reg i k := (h i k && i.info.sw = 0) || ((i = .emuStat || i = .emuCnt) && lane) || (i = .hpStat && h .hpCtrl k)
    time := h .timeSet 0 || h .timeSet 1 || h .timeCtrl 0 || (List.range 5).any (h .hpCtrl)
    mls j := h .mlsPop j || h .mlsAssign j
    emu _ := lane }

/-- Where the command runs from `s`, the queue of waiting commands stands and nothing changes but what `m` allows. -/
def Keeps (c : Instr) (s : State) (m : May) : Prop :=
  NextOr (Machine.exec c s) fun t => t.pending = s.pending ∧ Within m s.dev t.dev

end Sys2Proof.Machine
end

