-- ==== Sys2Proof/WellFormed.lean ====
section
/-! DEFINITION. Well-formed commands: operands that name a unit of the GK9600-A96 and fields that fit their places in a packet
(Tables 0-1 and 12-3). A smaller variant refuses the units that it lacks when the command runs. -/
namespace Sys2Proof

/-- The header fields that steps 1 to 4 of Table 12-4 leave possible, and a payload that a length field can name. -/
def Request.wf (r : Request) : Bool :=
  decide (r.port < 5) && decide (1 ≤ r.gen) && decide (r.gen ≤ 3) && decide (r.minor < 16) && decide (r.flags &&& 0xF3 = 0) &&
    decide (r.lane < 65536) && decide (r.payload.length < 65536)

/-- A register write comes on a port, in a generation. -/
def RegWrite.wf (w : RegWrite) : Bool := decide (w.port < 5) && decide (1 ≤ w.gen) && decide (w.gen ≤ 3)

/-- A disturbance names a lane and a stage of the loop engine, 0xFF for binary32. -/
def Disturb.wf : Disturb → Bool
  | .retry lane stage => decide (lane < 96) && decide (stage < 256)
  | .resFail lane stage => decide (lane < 96) && decide (stage < 256)
  | .signature lane _ _ => decide (lane < 96)
  | .late x => x.wf

/-- A command is well formed. -/
def Instr.wf : Instr → Bool
  | .frameTick disturb => disturb.all Disturb.wf
  | .outputJunction late => late.all fun n => decide (n < 96)
  | .lateWorkComplete _ lane => decide (lane < 96)
  | .syncMessage _ port domain _ _ _ _ _ => decide (port < 4) && decide (domain < 256)
  | .announceMessage _ port domain _ => decide (port < 4) && decide (domain < 256)
  | .pdelayReqReceive _ port => decide (port < 4)
  | .pdelayReqSend _ => true
  | .pdelayResponse _ port _ _ _ => decide (port < 4)
  | .syncTimeout _ => true
  | .syncInEdge _ _ => true
  | .syncInMissing _ => true
  | .syncOutPulse => true
  | .syncOutPulseEnd => true
  | .timeSet w _ => w.wf
  | .generatorRun w group => w.wf && decide (group < 12)
  | .generatorStop w group => w.wf && decide (group < 12)
  | .rampComplete _ group => decide (group < 12)
  | .excHalfPeriod _ group _ => decide (group < 12)
  | .demodSample _ lane _ => decide (lane < 96)
  | .carrierPeriod _ lane _ => decide (lane < 96)
  | .phaseFastEnd _ lane => decide (lane < 96)
  | .losConfirm _ lane => decide (lane < 96)
  | .losClear _ lane => decide (lane < 96)
  | .modulatorReset _ lane winding => decide (lane < 96) && decide (winding < 2)
  | .modulatorResetEnd _ lane winding => decide (lane < 96) && decide (winding < 2)
  | .rangeNarrowCount _ lane => decide (lane < 96)
  | .rangeChange _ lane => decide (lane < 96)
  | .ratioEval _ lane => decide (lane < 96)
  | .lockLoss _ lane => decide (lane < 96)
  | .overspeed _ lane => decide (lane < 96)
  | .reacqFastEnd _ lane => decide (lane < 96)
  | .lockRegained _ lane => decide (lane < 96)
  | .posArm w lane => w.wf && decide (lane < 96)
  | .detReturn w lane => w.wf && decide (lane < 96)
  | .segmentEnd _ lane => decide (lane < 96)
  | .mapEvaluate _ lane => decide (lane < 96)
  | .mapDriftCheck _ lane => decide (lane < 96)
  | .fadeComplete _ lane => decide (lane < 96)
  | .mapLearn r => r.wf
  | .mapStatus r => r.wf
  | .mapSave r => r.wf
  | .mapLoad r => r.wf
  | .pulseEdge _ input _ _ _ => decide (input < 32)
  | .indexEvent _ input => decide (input < 32)
  | .switchDebounce _ input wire => decide (input < 32) && decide (wire < 3)
  | .wireFault _ input pair => decide (input < 32) && decide (pair < 3)
  | .wireFaultClear _ input => decide (input < 32)
  | .pulseStill _ input => decide (input < 32)
  | .serTransferStart input => decide (input < 32)
  | .serTransferEnd _ input x => decide (input < 32) && decide (x.data < 2 ^ 64) && decide (x.crc < 64)
  | .pinAdjust r => r.wf
  | .mlsRead r => r.wf
  | .mlsArm r => r.wf
  | .mlsPop w unit => w.wf && decide (unit < 32)
  | .mlsFlush w unit => w.wf && decide (unit < 32)
  | .emuEdgeEmit _ out => decide (out < 24)
  | .stepEmit out => decide (out < 24)
  | .stallDetect _ out => decide (out < 24)
  | .emuAlign r => r.wf
  | .followingError _ lane => decide (lane < 96)
  | .trimSourceFault _ lane => decide (lane < 96)
  | .clusterSelfTest _ cluster _ failing => decide (cluster < 4) && (failing.all fun k => decide (k < 256))
  | .laneStage r => r.wf
  | .laneCommit r => r.wf
  | .laneAdmit r => r.wf
  | .lanePark r => r.wf
  | .reqState w lane _ => w.wf && decide (lane < 96)
  | .laneRead r => r.wf
  | .coefStage r => r.wf
  | .coefRead r => r.wf
  | .coefSwap r => r.wf
  | .traceArm r => r.wf
  | .traceForce r => r.wf
  | .traceRead r => r.wf
  | .traceDone _ => true
  | .move r => r.wf
  | .limits r => r.wf
  | .gear r => r.wf
  | .trim r => r.wf
  | .stop r => r.wf
  | .waypoint r => r.wf
  | .vmaster r => r.wf
  | .timedCommandDue _ lane => decide (lane < 97)
  | .masterTimeout _ lane => decide (lane < 96)
  | .pfeConversionEnd _ channel _ => decide (channel < 8)
  | .pfeValueAvailable _ channel => decide (channel < 8)
  | .dieTempUpdate _ _ => true
  | .pfeTare w channel => w.wf && decide (channel < 8)
  | .pfeForceRst w channel => w.wf && decide (channel < 8)
  | .chConfig r => r.wf
  | .chRead r => r.wf
  | .packetReceive _ port _ _ => decide (port < 5)
  | .packetServe _ => true
  | .identify r => r.wf
  | .ping r => r.wf
  | .regRd r => r.wf
  | .regWr r => r.wf
  | .regRmw r => r.wf
  | .replyTransmit _ port => decide (port < 5)
  | .backgroundJobComplete _ port _ => decide (port < 5)
  | .groupTimeout _ port => decide (port < 5)
  | .writeLogSummary _ port => decide (port < 5)
  | .linkStatusFrame _ port _ => decide (port < 4)
  | .linkStatusSend _ port => decide (port < 4)
  | .linkStatusTimeout _ port => decide (port < 4)
  | .linkSyncLoss _ port => decide (port < 4)
  | .linkUp _ port _ => decide (port < 4)
  | .spiWrite _ _ => true
  | .spiRead _ _ => true
  | .spiStatus _ => true
  | .inboundPartReceive _ port _ => decide (port < 4)
  | .inboundPartAccept port => decide (port < 4)
  | .inboundMiss _ lane => decide (lane < 96)
  | .recordTransmit port => decide (port < 4)
  | .watchSample _ lane _ _ => decide (lane < 96)
  | .safetyViolation _ lane fn => decide (lane < 96) && decide (1 ≤ fn) && decide (fn ≤ 3)
  | .xcmpFail _ lane => decide (lane < 96)
  | .safetySelfTest _ kind group _ => decide (1 ≤ kind) && decide (kind ≤ 4) && decide (group < 12)
  | .soTestPulse _ group => decide (group < 12)
  | .soReadbackFault _ group kind => decide (group < 12) && decide (kind ≤ 2)
  | .siDemand _ pair => decide (pair < 2)
  | .siDiscrepancy _ pair => decide (pair < 2)
  | .connectionWatchdog conn => decide (conn < 16)
  | .ss1Expiry lane => decide (lane < 96)
  | .safeResetAck _ conn _ _ => decide (conn < 16)
  | .safeParamWr _ conn _ _ _ _ => decide (conn < 16)
  | .safeParamCommit _ conn _ _ => decide (conn < 16)
  | .safeParamRd _ conn _ _ _ _ => decide (conn < 16)
  | .safeRstEdge _ _ => true
  | .safeRstHeld _ => true
  | .armingExpiry lane => decide (lane < 96)
  | .boot _ => true
  | .bootComplete _ _ => true
  | .recoveryRestart _ => true
  | .resetNAssert _ => true
  | .supplyMonitorReset _ => true
  | .powerState r => r.wf
  | .analogSettled _ => true
  | .detach r => r.wf
  | .presentNRise _ => true
  | .presentNFall _ => true
  | .pfailNFall _ => true
  | .pfailNRise _ => true
  | .dormantEntry _ => true
  | .wake _ source port => decide (source < 4) && (decide (source ≠ 2) || decide (port < 4))
  | .debugPortRequest _ target _ => decide (1 ≤ target) && decide (target ≤ 2)
  | .debugPortRelease _ => true
  | .extestLoad _ => true
  | .dbgChallenge r => r.wf
  | .dbgResponse r => r.wf
  | .dbgClose r => r.wf
  | .dbgOpenFree r => r.wf
  | .nonceExpiry _ => true
  | .seal r => r.wf
  | .protStatus r => r.wf
  | .tableRebuildComplete _ cluster => decide (cluster < 4)
  | .scrubStep _ m _ _ _ _ => decide (m < 10)
  | .eccHourlyCheck _ => true
  | .odometerUpdate _ _ => true
  | .eolPredict _ => true
  | .bbxDeferredCommit _ => true
  | .bbxCommitComplete _ _ => true
  | .bbxRead r => r.wf
  | .bbxCommit r => r.wf
  | .fwLoad r => r.wf
  | .fwVerify r => r.wf
  | .fwSwitch r => r.wf
  | .fwReady _ => true
  | .fwReadyTimeout _ => true
  | .heartbeatMissed _ => true
  | .probationPass _ _ => true
  | .slotRecordRetry _ _ => true
  | .soTestPulseEnd _ group _ => decide (group < 12)
  | .siLevelChange _ channel _ => decide (channel < 4)
  | .safeParamCommitComplete _ _ => true
  | .firmwareReloaded _ => true
  | .extestLeave _ => true
  | .coreHalt _ => true
  | .coreResume _ => true

end Sys2Proof
end

