-- ==== Sys2Proof/Certificates/Slice0/Obligations.lean ====
section
/-! DEFINITION. The obligations: what the provers are asked to prove of the model. -/
open Sys2Proof Sys2Proof.Machine

/-- A step runs the command at the front of the queue, on the state whose queue is the rest. -/
def Obligations.StepRunsTheFrontCommand : Prop :=
  ∀ (c : Instr) (rest : List Instr) (s : State), s.pending = c :: rest → Machine.step s = Machine.exec c { s with pending := rest }

/-- On an empty queue a step is one core-clock cycle (log entry 1): `DTIME` and its fraction advance by 20 units scaled by the
rate, with no unit lost or repeated, as a count of 64 bits. `DTIME` starts from zero at reset and continues through DORMANT
(R27). -/
def Obligations.TimeAdvancesByTheCycle : Prop :=
  ∀ (s : State),
  (s.pending = [] → Next (Machine.step s) fun t =>
    (∃ n, n * 1000000000 + t.dev.time.frac = s.dev.now * 1000000000 + s.dev.time.frac +
      20 * (1000000000 + signed 32 (s.dev.reg .timeRate 0).toNat).toNat ∧ t.dev.now = n % 2 ^ 64) ∧
    t.dev.time.frac < 1000000000 ∧
    t = { s with dev := { s.dev with now := t.dev.now, time := { s.dev.time with frac := t.dev.time.frac } } }) ∧
  State.reset.dev.now = 0 ∧ (∀ t, Runs (.resetNAssert t) s fun d => d.now = 0) ∧
  (∀ p, s.dev.readReg p .timeNow 0 = BitVec.ofNat 32 s.dev.now ∧
    s.dev.readReg p .timeNow 1 = BitVec.ofNat 32 (s.dev.now / 2 ^ 32)) ∧
  (∀ t, s.dev.pwr.wakeKept ≠ some 0 →
    Runs (.dormantEntry t) s fun d => d.now = instant s.dev.now t ∧ d.time.frac = s.dev.time.frac) ∧
  (∀ t source port, source ≠ 0 →
    Runs (.wake t source port) s fun d => d.now = instant s.dev.now t ∧ d.time.frac = s.dev.time.frac)

/-- Tick k lies at `FRM_EPOCH` + k × P with P = 20 × `PERIOD` + `FRAC`, whatever else the device holds; `FRM_SEQ` reads k mod
2^32, and its low byte is `SEQ` of `LANE_STAT` as an output junction shows it (R35). -/
def Obligations.TicksLieOnTheSchedule : Prop :=
  ∀ (d e : Dev) (k : Nat),
  d.tickAt k = d.reg64 .frmEpoch 0 + k * (20 * d.fld .frmPeriod 0 0 18 + d.fld .frmPeriod 0 24 5) ∧
  (∀ p, d.time.k = some k → d.readReg p .frmSeq 0 = BitVec.ofNat 32 k) ∧
  (∀ n, (d.lane n).faultCode < 256 → d.time.k = some k → (d.laneStatWord n).extractLsb' 24 8 = BitVec.ofNat 8 k) ∧
  (e.reg64 .frmEpoch 0 = d.reg64 .frmEpoch 0 → e.reg .frmPeriod 0 = d.reg .frmPeriod 0 → e.tickAt k = d.tickAt k)

/-- SO of a group is on only when the device is SEALED, the debug state is not OPEN, a safety parameter set is in force, no
device cause is latched and the latch of the group is clear. Every latch is set at reset, so every SO is off until the
deliberate reset, whose second step alone clears a latch (R311). -/
def Obligations.SafeOutputsNeedEveryCondition : Prop :=
  (∀ (d : Dev) (g : Nat), d.soOn g = true → d.crit.sealed = true ∧ d.pwr.dbg ≠ .openDbg ∧ d.saf.params.isSome = true ∧
    d.crit.devLatch = false ∧ d.crit.soLatch.getLsbD g = false) ∧
  (∀ g < 12, State.reset.dev.crit.soLatch.getLsbD g = true) ∧
  (∀ (s : State) (t : Time), Runs (.resetNAssert t) s fun d => ∀ g < 12, d.crit.soLatch.getLsbD g = true ∧ d.soOn g = false) ∧
  (∀ (s : State) (c : Instr), (∀ t w, c ≠ .safeRstEdge t w) → NextOr (Machine.exec c s) fun t =>
    ∀ g, s.dev.crit.soLatch.getLsbD g = true → t.dev.soOn g = false)

/-- PING is accepted from any port, with up to 252 bytes in generation 1 and 1,020 in generations 2 and 3, and is answered OK
with two zero bytes and the payload (R270); a longer payload is answered RANGE (R264). -/
def Obligations.PingEchoesItsPayload : Prop :=
  ∀ (s : State) (r : Request), r.port < 5 → Admits s.dev r 1 .ignored .any → 1 ≤ r.gen → r.gen ≤ 3 →
  (r.payload.length ≤ (if r.gen = 1 then 252 else 1020) →
    Answers (.ping r) 0x0002 r s ⟨0x0000, [0, 0] ++ r.payload⟩ fun d => d.staged = s.dev.staged ∧ d.lanes = s.dev.lanes) ∧
  ((if r.gen = 1 then 252 else 1020) < r.payload.length →
    Answers (.ping r) 0x0002 r s ⟨0x0031, []⟩ fun d => d.staged = s.dev.staged ∧ d.lanes = s.dev.lanes)

/-- A REG_WR or REG_RMW that names a word of the safety block, or of a lane's safety view, is answered SAFETY_HELD and writes
nothing, where every lower word passes its checks; connection c lies at 0x100 + 0x10 × c of the block (R329). -/
def Obligations.SafetyRegistersAreReadOnly : Prop :=
  (∀ (s : State) (r : Request) (a n j : Nat) (ws : List Word), Admits s.dev r 1 .ignored .any → a % 4 = 0 → j < n →
    1 ≤ n → n ≤ writeMax r.gen → a + 4 * n ≤ 2 ^ 32 → ws.length = n → targetOf (a + 4 * j) ≠ .outside →
    ((0x80000 ≤ a + 4 * j ∧ a + 4 * j < 0x90000) ∨
      (0x100000 ≤ a + 4 * j ∧ a + 4 * j < 0x118000 ∧ 0x300 ≤ (a + 4 * j - 0x100000) % 0x400)) →
    (∀ i < j, s.dev.wordCheck r.port (a + 4 * i) = stOk) →
    (r.payload = leBytes 4 a ++ leBytes 2 n ++ [0, 0] ++ ws.flatMap wordBytes →
      Answers (.regWr r) 0x0011 r s ⟨0x0040, []⟩ fun d => d.staged = s.dev.staged ∧
        ∀ i x k, targetOf (a + 4 * i) = .reg x k → x ∉ [.hpRxOk, .hpQmax, .bbxStat, .hltStat, .fwCnt, .hpTxBusy, .hpPosted] →
          d.reg x k = s.dev.reg x k) ∧
    (∀ mask v, j = 0 → r.payload = leBytes 4 a ++ wordBytes mask ++ wordBytes v →
      Answers (.regRmw r) 0x0012 r s ⟨0x0040, []⟩ fun d => d.staged = s.dev.staged ∧
        ∀ x k, targetOf a = .reg x k → d.reg x k = s.dev.reg x k)) ∧
  (∀ c < 16, targetOf (0x80000 + 0x100 + 0x10 * c) = .reg .connState c)

/-- Right after reset every barrier is down and every lane is OFF, every SO latch is set, `DTIME` is zero, no frame has ticked,
nothing is staged or waits, the device has not booted, the trace memory is blank and every table has its size (R22, R27, R311,
R335; the sizes are Table 0-1's). Clauses rest on the model's choices of log entries 6 and 111. -/
def Obligations.ResetState : Prop :=
  let d := State.reset.dev
  State.reset.pending = [] ∧ (∀ n, d.barrierUp n = false) ∧ d.crit.soLatch = 0xFFF ∧ d.now = 0 ∧ d.time.k = none ∧ d.staged = [] ∧
  d.pwr.booted = false ∧ (∀ n < 96, (d.lane n).st = .off) ∧ d.saf.params = none ∧ d.trc.mem = [] ∧ d.Canonical ∧ d.Sized

/-- Every step keeps every table at its size: 96 lanes, 12 groups, five ports and so on (R1, R3); and every byte memory in its
canonical form, in which equal contents are equal data. Clauses rest on the model's choices of log entry 111. -/
def Obligations.StepKeepsSizesAndMemories : Prop :=
  ∀ (s : State), NextOr (Machine.step s) fun t => (s.dev.Sized → t.dev.Sized) ∧ (s.dev.Canonical → t.dev.Canonical)

/-- Every barrier is down after reset. A safety reaction lowers the barriers of its lane, its group or the device. Only the
deliberate two-step reset lifts one: no command but SAFE_RST_EDGE raises a barrier, and it raises only those of lanes that a
SAFE_RESET_ACK armed (R22). -/
def Obligations.OnlyTheDeliberateResetLiftsBarriers : Prop :=
  (∀ n, State.reset.dev.barrierUp n = false) ∧
  (∀ (s : State) (t : Time), Runs (.resetNAssert t) s fun d => ∀ n, d.barrierUp n = false) ∧
  (∀ (d : Dev) (n : Nat), (d.laneReaction n).barrierUp n = false) ∧
  (∀ (d : Dev) (gs : List Nat), ∀ g ∈ gs, ∀ n ∈ lanesOfGroup g, (d.groupReaction gs).barrierUp n = false) ∧
  (∀ (d : Dev) (cause : Nat), cause ∉ d.saf.causes → ∀ n < d.laneCount, (d.deviceReaction cause).barrierUp n = false) ∧
  (∀ (s : State) (c : Instr), (∀ t w, c ≠ .safeRstEdge t w) → NextOr (Machine.exec c s) fun t =>
    ∀ n, t.dev.barrierUp n = true → s.dev.barrierUp n = true) ∧
  (∀ (s : State) (t : Time) (width : Nat), NextOr (Machine.exec (.safeRstEdge t width) s) fun u =>
    ∀ n, u.dev.barrierUp n = true → s.dev.barrierUp n = true ∨
      (50000 * unitsPerUs ≤ width ∧ width ≤ 500000 * unitsPerUs ∧ ∃ e, (s.dev.safLane n).armed = some e ∧ instant s.dev.now t < e))

/-- Every command that names units of the GK9600-A96 runs there: its meaning ends in a next state, from every state. Clauses
rest on the model's choices of log entry 8. -/
def Obligations.WellFormedCommandsRun : Prop :=
  ∀ (c : Instr) (s : State), c.wf = true → s.dev.variant = 0 → ∃ d, Machine.exec c s = .next { s with dev := d }

/-- A packet says its request whole: the packet built from a well-formed request is as long as its length field says, passes its
CRC and gives back every field; and arriving on the maintenance port it joins the receive queue as that request (R262, R263,
R282; Table 12-3). Clauses rest on the model's choices of log entry 2. -/
def Obligations.PacketsRoundTrip : Prop :=
  ∀ (r : Request) (op : Nat), r.wf = true → op < 2 ^ 16 →
  let f := packet r.gen r.minor r.flags.toNat op r.tag.toNat r.lane r.payload
  f.length = 16 + r.payload.length ∧ u16At f 2 = op ∧ u16At f 6 = r.payload.length ∧
  crc32 (f.take (f.length - 4)) = u32At f (f.length - 4) ∧ packetRequest r.port r.t f = r ∧
  (∀ (s : State) (t : Time), s.dev.portUp 4 = true → s.dev.hlt.pause = none → (s.dev.port 4).rx.length < 4 → 4 < s.dev.ports.length →
    r.gen ≤ s.dev.portGen 4 →
    Runs (.packetReceive t 4 f false) s fun d => (d.port 4).rx = (s.dev.port 4).rx ++
      [{ op := op, arr := instant s.dev.now t, src := 0, vlan := none, req := { r with port := 4, t := instant s.dev.now t } }])

/-- The messages of 802.1AS, the edges of SYNC_IN and SYNC_OUT (R30–R32, R44): an exchange starts once per second, and an
expected edge that is missing counts once. Clauses rest on the model's choices of log entries 2, 10, 11, 13, 14, 129, 130, 131,
132 and 133. -/
def Obligations.TimeSourceEvents : Prop :=
  ∀ (s : State) (t : Time), s.dev.alive = true →
  (∀ port domain rx gm interval, s.dev.asActive port = true → domain = s.dev.fld .timeCtrl 0 16 7 →
    31250000 ≤ interval → interval ≤ 4000000000 →
    Runs (.syncMessage t port domain rx gm interval false false) s fun d =>
      d.reg .timeOffset 0 = wordOfInt (satInt 32 (s.dev.syncError rx gm)) ∧ d.time.lastSync = instant s.dev.now t ∧
      d.time.syncInterval = interval ∧ d.time.srcValid = true ∧ d.time.holdover = false) ∧
  (∀ port domain rx gm interval, s.dev.asActive port = true → domain = s.dev.fld .timeCtrl 0 16 7 →
    31250000 ≤ interval → interval ≤ 4000000000 →
    Runs (.syncMessage t port domain rx gm interval true false) s fun d =>
      d.time.syncPend = some rx ∧ d.time.syncInterval = interval ∧ d.reg .timeOffset 0 = s.dev.reg .timeOffset 0) ∧
  (∀ port domain rx gm interval two r, s.dev.asActive port = true → domain = s.dev.fld .timeCtrl 0 16 7 →
    s.dev.time.syncPend = some r →
    Runs (.syncMessage t port domain rx gm interval two true) s fun d =>
      d.reg .timeOffset 0 = wordOfInt (satInt 32 (s.dev.syncError r gm)) ∧ d.time.lastSync = instant s.dev.now t ∧
      d.time.srcValid = true) ∧
  (∀ port domain (gm : Quad), s.dev.asActive port = true → domain = s.dev.fld .timeCtrl 0 16 7 →
    Runs (.announceMessage t port domain gm) s fun d => d.reg64 .timeGmId 0 = gm.toNat ∧
      (s.dev.reg64 .timeGmId 0 ≠ 0 → s.dev.reg64 .timeGmId 0 ≠ gm.toNat → d.regBit .timeStat 0 7 = true)) ∧
  (∀ port, s.dev.asActive port = true →
    Runs (.pdelayReqReceive t port) s fun d => d.time.pdelayAnswered = s.dev.time.pdelayAnswered + 1 ∧
      (port < s.dev.ports.length → (d.port port).sent.length = (s.dev.port port).sent.length + 1)) ∧
  (s.dev.asActive (s.dev.fld .timeCtrl 0 4 2) = true →
    Runs (.pdelayReqSend t) s fun d =>
      if ∀ t1, s.dev.time.pdelayLast = some t1 → t1 + unitsPerSec ≤ instant s.dev.now t then
        d.time.pdelayT1 = some (instant s.dev.now t) ∧ d.time.pdelayLast = some (instant s.dev.now t)
      else d.time = s.dev.time) ∧
  (∀ port t1 t2 t3 t4, s.dev.asActive port = true → s.dev.time.pdelayT1 = some t1 →
    Runs (.pdelayResponse t port t2 t3 t4) s fun d => d.time.pdelayT1 = none ∧ d.time.pdelayPrev = some (t3, t4) ∧
      d.time.pdelay = (d.time.nrr * (((t4 : Int) - t1 : Int) : Rat) - (((t3 : Int) - t2 : Int) : Rat)) / 2 ∧
      d.reg .timePdelay 0 = wordOfInt (roundEven d.time.pdelay)) ∧
  (s.dev.time.src = 1 → s.dev.time.srcValid = true → s.dev.time.holdover = false →
    s.dev.time.lastSync + 3 * s.dev.time.syncInterval ≤ instant s.dev.now t →
    Runs (.syncTimeout t) s fun d => d.time.holdover = true ∧ d.time.srcValid = false ∧ d.time.locked = false ∧
      d.fld .timeCnt 0 0 16 = satNat 16 (s.dev.fld .timeCnt 0 0 16 + 1)) ∧
  (∀ width, 400 ≤ width → 2 ≤ s.dev.time.src → s.dev.time.locked = false → s.dev.time.setPend = none →
    Runs (.syncInEdge t width) s fun d => d.reg .timeOffset 0 =
      wordOfInt (satInt 32 (((t / 5 * 5 : Nat) : Int) - s.dev.syncRef (t / 5 * 5))) ∧
      d.time.missed = 0 ∧ d.time.srcValid = true) ∧
  (2 ≤ s.dev.time.src → s.dev.time.locked = true →
    Runs (.syncInMissing t) s fun d =>
      if s.dev.time.edgeRef = some (s.dev.syncRef (instant s.dev.now t)) then d.time = s.dev.time
      else if s.dev.time.missed < 3 then d.time.missed = s.dev.time.missed + 1 ∧ d.time.locked = true
      else d.time.holdover = true ∧ d.time.locked = false ∧ d.time.srcValid = false) ∧
  (s.dev.pwr.st = .active ∨ s.dev.pwr.st = .economy → s.dev.time.syncOutEnd = none → ∀ r at_, s.dev.syncOutNext = some (r, at_) →
    Runs .syncOutPulse s fun d =>
      (if s.dev.fld .timeSyncout 0 0 2 = 3 then d.time.syncOutSec else d.time.syncOutRef) = some r ∧ d.now = instant s.dev.now at_ ∧
      d.time.syncOutEnd =
        some (d.now + min (20 * max 1 (s.dev.fld .timeSyncout 0 16 16)) (s.dev.syncOutInterval / 2))) ∧
  (∀ e, s.dev.time.syncOutEnd = some e →
    Runs .syncOutPulseEnd s fun d => d.time = { s.dev.time with syncOutEnd := none } ∧ d.now = instant s.dev.now e)

/-- FRAME_TICK issues the next index of the schedule at its instant (R11, R34, R35): where no correction of the time waits, the
tick has the index and instant of the schedule. Clauses rest on the model's choices of log entries 2, 12 and 16. -/
def Obligations.FrameTickIssuesTheNextTick : Prop :=
  ∀ (s : State) (ds : List Disturb), s.dev.alive = true → s.dev.time.setPend = none → s.dev.time.stepPend = none →
    Runs (.frameTick ds) s fun d => d.time.k = some s.dev.nextTick ∧ d.time.t0 = s.dev.tickAt s.dev.nextTick % 2 ^ 64 ∧
      d.time.outDue = true

/-- OUTPUT_JUNCTION comes once per frame at T0 + `FRM_OUTDL` and publishes a view that holds for every read until the next (R10,
R42). Clauses rest on the model's choices of log entries 2 and 144. -/
def Obligations.OutputJunctionPublishes : Prop :=
  ∀ (s : State) (late : List Nat), s.dev.alive = true → s.dev.time.outDue = true →
    Runs (.outputJunction late) s fun d => d.time.outDue = false ∧ d.time.k = s.dev.time.k ∧ d.time.t0 = s.dev.time.t0 ∧
      ∃ v, d.ro = some v ∧ v.seq = s.dev.frmSeq ∧ v.regs = d.regs ∧ v.lanes = d.lanes ∧ v.staged = d.staged ∧ v.saf = d.saf

/-- The supervision of the frame: late work, timed commands, following error, trim source, gear source, self-test, end of a
capture (R42, R173, R174, R192, R193, R205, R226, R230). Clauses rest on the model's choices of log entries 2, 3, 126, 152 and
153. -/
def Obligations.FrameEventsAct : Prop :=
  ∀ (s : State) (t : Time), s.dev.alive = true → s.dev.Sized →
  (∀ n w, hasLane n s.dev = true → (s.dev.lane n).work = some w → s.dev.time.outDue = false →
    Runs (.lateWorkComplete t n) s fun d => (d.lane n).work = none ∧ (w.found = [] → d.reg .velDem n = w.vals.velDem)) ∧
  (∀ n w stage, hasLane n s.dev = true → (s.dev.lane n).work = some w → w.found = [.resFail n stage] →
    (s.dev.lane n).st = .run → s.dev.time.outDue = false →
    Runs (.lateWorkComplete t n) s fun d => (d.lane n).st = .fault ∧ (d.lane n).faultCode = 0x31 ∧
      d.reg .dmdOut n = s.dev.reg .dmdOut n) ∧
  (∀ n, hasLane n s.dev = true →
    Runs (.timedCommandDue t n) s fun d =>
      ∀ x ∈ d.staged, x.inGroup = false → ∀ v u j, x.act = .prf n v u (some j) → s.dev.time.k.getD 0 < j) ∧
  (∀ n, hasLane n s.dev = true → (s.dev.lane n).st = .run → s.dev.regBit .loopStat n 10 = true →
    s.dev.fld .feN n 0 8 ≤ (s.dev.loop n).run.feCnt →
    Runs (.followingError t n) s fun d => (d.lane n).st = .fault ∧ (d.lane n).faultCode = 0x20) ∧
  (∀ n, hasLane n s.dev = true → (s.dev.lane n).st = .run → s.dev.regBit .trmCtrl n 9 = true → (s.dev.loop n).trmHold = true →
    s.dev.fld .trmCtrl n 16 8 ≤ (s.dev.loop n).trmBad →
    Runs (.trimSourceFault t n) s fun d => (d.lane n).st = .fault ∧ (d.lane n).faultCode = 0x21) ∧
  (∀ n x, hasLane n s.dev = true → (s.dev.gen n).gear = some x → s.dev.fld .prfCtrl n 16 16 < x.lost →
    Runs (.masterTimeout t n) s fun d => (d.gen n).kind = .quickStop ∧ (d.gen n).gear = none ∧ (d.gen n).wps = []) ∧
  (∀ c started, hasCluster c s.dev = true →
    Runs (.clusterSelfTest t c started none) s fun d =>
      (d.clusters.getD c {}).stOk = true ∧ (d.clusters.getD c {}).passStart = some started) ∧
  (∀ c started k, hasCluster c s.dev = true →
    Runs (.clusterSelfTest t c started (some k)) s fun d => (d.clusters.getD c {}).stOk = false) ∧
  (s.dev.trc.st = 2 → s.dev.trcRoll = false → s.dev.trc.left = 0 →
    Runs (.traceDone t) s fun d => d.trc = { s.dev.trc with st := 3, frame := none })

/-- RAMP_COMPLETE sets RUNNING after 16 carrier periods; EXC_HALF_PERIOD shows the peak and decides short and open (R48, R63,
R65). Clauses rest on the model's choices of log entries 2, 45 and 142. -/
def Obligations.ExcitationEventsAct : Prop :=
  ∀ (s : State) (t : Time) (g : Nat), s.dev.alive = true → s.dev.Sized → hasGroup g s.dev = true →
  ((s.dev.group g).gen = .ramping →
    16 * s.dev.carrierPeriod g < ((instant s.dev.now t + 1 - (s.dev.group g).rampT : Nat) : Rat) →
    Runs (.rampComplete t g) s fun d => (d.group g).gen = .running ∧ (d.group g).short = false) ∧
  (∀ peak, (s.dev.group g).gen = .running → peak < 65536 →
    Runs (.excHalfPeriod t g peak) s fun d =>
      d.fld .excStat g 16 16 = peak ∧
      (s.dev.fld .excIxs g 16 16 < peak → (d.group g).gen = .shorted ∧ (d.group g).short = true) ∧
      (peak ≤ s.dev.fld .excIxs g 16 16 → (d.group g).gen = .running ∧
        ((d.group g).isOpen = true ↔ 0 < s.dev.fld .excIxs g 0 16 ∧ peak < s.dev.fld .excIxs g 0 16)))

/-- The samples and carrier periods of an acquisition that works (R54, R58–R63, R70): a good sample updates the tracker, a
suspect one coasts for two carrier periods or, in LOS, holds; a period gives the magnitude and counts towards the ratio. Clauses
rest on the model's choices of log entries 2, 38, 39, 40, 138 and 140. -/
def Obligations.AcquisitionSamplesAct : Prop :=
  ∀ (s : State) (t : Time) (n : Nat), s.dev.alive = true → s.dev.Sized → hasLane n s.dev = true → s.dev.acqOn n = true →
  (s.dev.lane n).trk.tracking = true →
  (∀ x, s.dev.suspect n x = false ∨ s.dev.coastOver n t = true →
    Runs (.demodSample t n x) s fun d => (d.lane n).trk.ts = t ∧ (d.lane n).acq.coast = false) ∧
  (∀ x, s.dev.suspect n x = true → s.dev.coastOver n t = false → s.dev.los n = false →
    Runs (.demodSample t n x) s fun d => (d.lane n).acq.coast = true ∧ (d.lane n).trk.ac = 0 ∧ (d.lane n).trk.ts = t) ∧
  (∀ x, s.dev.suspect n x = true → s.dev.coastOver n t = false → s.dev.los n = true →
    Runs (.demodSample t n x) s fun d => (d.lane n).trk.om = 0 ∧ (d.lane n).trk.ac = 0 ∧
      (d.lane n).trk.th = (s.dev.lane n).trk.th) ∧
  (∀ x, s.dev.groupRunning n = true →
    Runs (.carrierPeriod t n x) s fun d => (d.lane n).acq.mag = isqrt ((x.iS * x.iS + x.iC * x.iC).toNat) ∧
      (d.lane n).acq.ratioCnt = (s.dev.lane n).acq.ratioCnt + 1)

/-- The decisions of an acquisition (R56, R57, R60, R63, R65): LOS is confirmed and cleared, a modulator reset is counted, the
range narrows and changes, the ratio is evaluated. Clauses rest on the model's choices of log entries 2, 3, 39, 42 and 139. -/
def Obligations.AcquisitionDecisionsAct : Prop :=
  ∀ (s : State) (t : Time) (n : Nat), s.dev.alive = true → s.dev.Sized → hasLane n s.dev = true →
  let a := (s.dev.lane n).acq
  (∀ e, a.fastEnd = some e → e ≤ instant s.dev.now t →
    Runs (.phaseFastEnd t n) s fun d => (d.lane n).acq = { a with fastEnd := none }) ∧
  (s.dev.acqOn n = true → s.dev.groupRunning n = true → a.magLow = true → (s.dev.group (groupOf n)).isOpen = false →
    1 ∉ a.causes →
    Runs (.losConfirm t n) s fun d => 1 ∈ (d.lane n).acq.causes ∧ (a.causes = [] → d.losCause n = 1)) ∧
  (∀ w dc, s.dev.acqOn n = true → s.dev.groupRunning n = true → a.dcOpen = some (w, dc) → 2 ∉ a.causes →
    Runs (.losConfirm t n) s fun d => 2 ∈ (d.lane n).acq.causes ∧
      (a.causes = [] → a.magLow = false → d.losCause n = 2)) ∧
  (s.dev.groupRunning n = true → a.causes ≠ [] → 16 ≤ a.passCnt →
    Runs (.losClear t n) s fun d => (d.lane n).acq.causes = [] ∧ d.los n = false) ∧
  (∀ w, w < 2 → s.dev.acqOn n = true →
    Runs (.modulatorReset t n w) s fun d =>
      (if w = 0 then (d.lane n).acq.inResetS = true else (d.lane n).acq.inResetC = true) ∧
      (2 ≤ (a.resets.filter fun r => decide (t < r + 100000 * unitsPerUs)).length → s.dev.groupRunning n = true →
        3 ∈ (d.lane n).acq.causes)) ∧
  (∀ w, Runs (.modulatorResetEnd t n w) s fun d =>
    if w = 0 then (d.lane n).acq = { a with inResetS := false } else (d.lane n).acq = { a with inResetC := false }) ∧
  (16 ≤ a.narrowCnt → a.rangePend = none → a.range < 3 → a.coast = false → s.dev.fld .acqCtrl n 2 3 = 0 →
    Runs (.rangeNarrowCount t n) s fun d => (d.lane n).acq = { a with rangePend := some (a.range + 1), narrowCnt := 0 }) ∧
  (∀ r, a.rangePend = some r → a.coast = false →
    Runs (.rangeChange t n) s fun d => (d.lane n).acq = { a with range := r, rangePend := none, narrowCnt := 0 } ∧
      d.fld .acqCnt n 0 16 = satNat 16 (s.dev.fld .acqCnt n 0 16 + 1)) ∧
  (64 ≤ a.ratioCnt → s.dev.fld .excAmp (groupOf n) 0 12 ≠ 0 →
    Runs (.ratioEval t n) s fun d => (d.lane n).acq.ratioCnt = 0 ∧ (d.lane n).acq.ratioSum = 0 ∧
      (d.lane n).acq.ratio = satNat 16 (roundEven (mkRat (a.ratioSum * 9) (a.ratioCnt * 10 * 2 ^ 24) /
        mkRat (s.dev.fld .excAmp (groupOf n) 0 12 * 8) 40000 * 4096)).toNat)

/-- The lock of a tracker (R80–R82): lost by angle error or overspeed, of which overspeed takes precedence; the fast bandwidth
ends, and the lock is regained after 256 good updates. Clauses rest on the model's choices of log entries 2, 48 and 136. -/
def Obligations.LockEventsAct : Prop :=
  ∀ (s : State) (t : Time) (n : Nat), s.dev.alive = true → s.dev.Sized → hasLane n s.dev = true →
  let k := (s.dev.lane n).trk
  (4 ≤ k.errCnt → k.lockCause = 0 → k.tracking = true → s.dev.stepFb n = none →
    Runs (.lockLoss t n) s fun d => (d.lane n).trk.lockCause = (if 4 ≤ k.spdCnt ∧ k.spdSeen = false then 2 else 1) ∧
      ((s.dev.lane n).st = .run → k.detour = false → s.dev.detAvail n = false →
        (d.lane n).st = .fault ∧ (d.lane n).faultCode = 0x10)) ∧
  (4 ≤ k.spdCnt → k.spdSeen = false → k.lockCause ≠ 0 →
    k.tracking = true → Runs (.overspeed t n) s fun d => (d.lane n).trk.spdSeen = true ∧ (d.lane n).trk.lockCause = k.lockCause) ∧
  (4 ≤ k.spdCnt → k.spdSeen = false → k.lockCause = 0 → k.tracking = true → s.dev.stepFb n = none →
    Runs (.overspeed t n) s fun d => (d.lane n).trk.lockCause = 2 ∧
      ((s.dev.lane n).st = .run → k.detour = false → s.dev.detAvail n = false →
        (d.lane n).st = .fault ∧ (d.lane n).faultCode = 0x10)) ∧
  (∀ e, k.fastEnd = some e → e ≤ instant s.dev.now t →
    Runs (.reacqFastEnd t n) s fun d => (d.lane n).trk = { k with fastEnd := none }) ∧
  (k.lockCause ≠ 0 → 256 ≤ k.goodCnt → s.dev.los n = false →
    Runs (.lockRegained t n) s fun d => (d.lane n).trk.lockCause = 0 ∧ (d.lane n).trk.reacq = .idle)

/-- The learner's events (R97, R99, R101, R104): a segment is discarded or counted, an evaluation closes the run's sums, the
drift monitor closes its 64 segments, a fade ends. Clauses rest on the model's choices of log entries 2, 56 and 57. -/
def Obligations.LearnerEventsAct : Prop :=
  ∀ (s : State) (t : Time) (n : Nat), s.dev.alive = true → s.dev.Sized → hasLane n s.dev = true →
  let m := (s.dev.lane n).map
  (m.segBad = true → Runs (.segmentEnd t n) s fun d => (d.lane n).map.seg = [] ∧ (d.lane n).map.segBad = false ∧
    (d.lane n).map.sums = m.sums) ∧
  (s.dev.mgmtUp = true → m.segBad = false → m.segDone = true → m.learning = false →
    ¬((if m.sigmas.length ≥ 32 then 4 * medianRat m.sigmas else 1800 / arcsecTurn) <
      (estimate (s.dev.poles n) m.segMech m.seg.reverse).2) →
    Runs (.segmentEnd t n) s fun d => (d.lane n).map.seg = [] ∧ (d.lane n).map.segDone = false ∧
      (d.lane n).map.driftCnt = m.driftCnt + 1) ∧
  (s.dev.mgmtUp = true → m.st = .evaluating →
    Runs (.mapEvaluate t n) s fun d => (d.lane n).map.evals = m.evals + 1 ∧ (d.lane n).map.sums = List.replicate 4 {} ∧
      (d.lane n).map.live = m.live ∧
      (m.mode = 2 → (d.lane n).map.st = .waiting) ∧
      (m.mode ≠ 2 → (d.lane n).map.st = if (d.lane n).map.accepted = 0 then .failed else .done)) ∧
  (s.dev.mgmtUp = true → 64 ≤ m.driftCnt → m.learning = false →
    Runs (.mapDriftCheck t n) s fun d => (d.lane n).map.driftCnt = 0 ∧ (d.lane n).map.sums = List.replicate 4 {} ∧
      (d.lane n).map.live = m.live ∧
      (((s.dev.fld .mapTol n 16 16 : Nat) : Rat) < f32 (d.lane n).map.resid → d.regBit .mapStat n 10 = true)) ∧
  (∀ f, m.fade = some f → f.start + f.dur ≤ instant s.dev.now t →
    Runs (.fadeComplete t n) s fun d => (d.lane n).map.fade = none ∧ (d.lane n).map.live = m.live)

/-- The edges of a pulse input (R116–R118, R120, R124, R140): a counting input counts up or down, but for an edge that a count
set at its stamp has absorbed; a switch input debounces. Clauses rest on the model's choices of log entries 2, 63, 67, 132 and
135. -/
def Obligations.PulseEdgesAct : Prop :=
  ∀ (s : State) (t : Time) (i : Nat), s.dev.alive = true → s.dev.Sized → hasPin i s.dev = true →
  let p := s.dev.pin i
  (s.dev.pinMode i = 2 → s.dev.regBit .pinCtrl i 9 = false → p.a = false → p.b = false → p.setT ≠ some (t / 5 * 5) →
    Runs (.pulseEdge t i (some true) none none) s fun d => (d.pin i).count = wrapInt 64 (p.count + 1) ∧ (d.pin i).a = true) ∧
  (s.dev.pinMode i = 2 → s.dev.regBit .pinCtrl i 9 = false → p.a = false → p.b = false → p.setT = some (t / 5 * 5) →
    Runs (.pulseEdge t i (some true) none none) s fun d => (d.pin i).count = wrapInt 64 p.count ∧ (d.pin i).a = true) ∧
  (s.dev.pinMode i = 2 → s.dev.regBit .pinCtrl i 9 = false → p.a = false → p.b = true → p.setT ≠ some (t / 5 * 5) →
    Runs (.pulseEdge t i (some true) none none) s fun d => (d.pin i).count = wrapInt 64 (p.count - 1) ∧ (d.pin i).a = true) ∧
  (s.dev.pinMode i = 1 → s.dev.regBit .pinCtrl i 9 = false → p.a = false → p.b = false →
    Runs (.pulseEdge t i (some true) (some true) none) s fun d => (d.pin i).lost = true ∧ (d.pin i).count = p.count) ∧
  (∀ w x, s.dev.pinMode i = 4 → w < 3 → p.bounce.find? (·.wire = w) = some x → x.t + s.dev.minEdge i ≤ t →
    Runs (.switchDebounce t i w) s fun d => (if w = 0 then (d.pin i).a else if w = 1 then (d.pin i).b else (d.pin i).z) = x.level ∧
      (d.pin i).bounce.any (·.wire = w) = false)

/-- The index, the wire faults, the standstill and the serial transfers of a pulse input (R119, R122, R126, R127, R132–R134).
Clauses rest on the model's choices of log entries 2, 3, 64 and 68. -/
def Obligations.PulseChecksAct : Prop :=
  ∀ (s : State) (t : Time) (i : Nat), s.dev.alive = true → s.dev.Sized → hasPin i s.dev = true →
  let p := s.dev.pin i
  (∀ x, p.idxPend = some x → x.neg = false → p.refPos = none →
    Runs (.indexEvent t i) s fun d => (d.pin i).idxPend = none ∧ (d.pin i).refPos = some x.count ∧ (d.pin i).count = p.count) ∧
  (∀ x r, p.idxPend = some x → x.neg = false → p.refPos = some r →
    s.dev.fld .pinWin i 0 16 < (indexDrift x.count r (s.dev.pinCpt i)).natAbs → p.alignPend = false →
    Runs (.indexEvent t i) s fun d => d.regBit .pinStat i 7 = true ∧ (d.pin i).count = p.count) ∧
  (∀ pair, s.dev.regBit .pinCtrl i 11 = true → s.dev.pairUsed i pair = true → p.wire pair = false →
    Runs (.wireFault t i pair) s fun d => (d.pin i).wire pair = true ∧ (d.pin i).lost = true) ∧
  (Runs (.wireFaultClear t i) s fun d =>
    (d.pin i).wireA = false ∧ (d.pin i).wireB = false ∧ (d.pin i).wireZ = false ∧ (d.pin i).lost = p.lost) ∧
  (∀ e, p.lastEdge = some e → s.dev.pinCounts i = true → e.t + 400000 * s.dev.fld .pinWin i 16 16 ≤ t →
    p.unused = [] →
    Runs (.pulseStill t i) s fun d => (d.pin i).vel = 0 ∧ (d.pin i).still = true ∧ (d.pin i).count = p.count) ∧
  (s.dev.pinSerial i = true → s.dev.time.k.isSome = true → p.serFrame ≠ s.dev.time.k →
    Runs (.serTransferStart i) s fun d =>
      (d.pin i).serStart = some (s.dev.time.t0 + 20 * s.dev.fld .serTim i 14 18) ∧ (d.pin i).serFrame = s.dev.time.k) ∧
  (∀ x c, s.dev.pinSerial i = true → p.serStart.isSome = true → s.dev.serBad i x = some c →
    Runs (.serTransferEnd t i x) s fun d => (d.pin i).serStart = none ∧ (d.pin i).badRun = p.badRun + 1 ∧
      (d.pin i).count = p.count ∧ d.regBit .pinStat i 10 = true) ∧
  (∀ x t0 diff, s.dev.pinSerial i = true → p.serStart = some t0 → s.dev.serBad i x = none →
    let u := (s.dev.serWord i x / 2 ^ s.dev.fld .serFmt i 6 6) % 2 ^ (s.dev.fld .serFmt i 12 6 + s.dev.fld .serFmt i 18 6)
    s.dev.serAdvance i u = some diff →
    Runs (.serTransferEnd t i x) s fun d => (d.pin i).serStart = none ∧ (d.pin i).count = wrapInt 64 (p.count + diff) ∧
      (d.pin i).uPrev = some u ∧ (d.pin i).badRun = 0 ∧ (d.pin i).goodRun = p.goodRun + 1 ∧
      (d.pin i).serInvalid = (p.serInvalid && decide (p.goodRun = 0)) ∧
      (d.pin i).transfers.head? = some (t0 + 100 * s.dev.fld .serLim i 0 8, p.count + diff))

/-- The outputs (R147, R149, R154, R158): an edge or a step leaves, the count emitted moves by one, also for a step of the
backlog that no schedule holds; a stall is counted. Clauses rest on the model's choices of log entries 2, 54, 144 and 145. -/
def Obligations.OutputEventsAct : Prop :=
  ∀ (s : State) (o : Nat), s.dev.alive = true → s.dev.Sized → o < 24 →
  let x := s.dev.emu o
  (∀ t sched exact dir rest, s.dev.emuSrc o = 1 → x.een = true → x.queue = (sched, exact, dir) :: rest →
    Runs (.emuEdgeEmit t o) s fun d => (d.emu o).e = wrapInt 64 (x.e + dir) ∧ (d.emu o).queue = rest ∧
      (d.emu o).lastDir = dir ∧ (∀ l, x.lastT = some l → ∃ u, (d.emu o).lastT = some u ∧ l + s.dev.emuSpacing o ≤ u)) ∧
  (∀ sched exact dir rest, s.dev.emuSrc o = 2 → s.dev.emuLive o = true → x.een = true → x.queue = (sched, exact, dir) :: rest →
    Runs (.stepEmit o) s fun d => (d.emu o).e = wrapInt 64 (x.e + dir) ∧ (d.emu o).queue = rest ∧ (d.emu o).lastDir = dir ∧
      (∀ l, x.lastT = some l → ∃ u, (d.emu o).lastT = some u ∧ l + s.dev.emuSpacing o ≤ u)) ∧
  (s.dev.emuSrc o = 2 → s.dev.emuLive o = true → x.een = true → x.queue = [] → x.x ≠ x.e →
    Runs (.stepEmit o) s fun d => (d.emu o).e = wrapInt 64 (if x.e < x.x then x.e + 1 else x.e - 1)) ∧
  (∀ t, s.dev.fld .emuStall o 16 8 ≠ 0 → s.dev.fld .emuStall o 16 8 ≤ x.stallRun → x.stall = false →
    Runs (.stallDetect t o) s fun d => (d.emu o).stall = true ∧
      (s.dev.regBit .emuCtrl o 12 = true → (s.dev.lane (s.dev.emuLane o)).st = .run → s.dev.emuLane o < 96 →
        (d.lane (s.dev.emuLane o)).st = .fault ∧ (d.lane (s.dev.emuLane o)).faultCode = 0x11))

/-- The process channels (R239, R240, R242, R245): a powered channel ends a conversion at its sample boundary, a value becomes
available 20 µs after its conversion, the die temperature is shown. Clauses rest on the model's choices of log entries 2, 83,
147 and 150. -/
def Obligations.ProcessChannelEventsAct : Prop :=
  ∀ (s : State) (t : Time), s.dev.alive = true → s.dev.Sized →
  (∀ c x, c < 8 → s.dev.pfePowered = true → s.dev.pfeType c ≠ 0 → s.dev.pfeType c ≠ 7 → (s.dev.ch c).conv = 2 →
    ((s.dev.at t).pfeEndsAt c).isSome = true →
    Runs (.pfeConversionEnd t c x) s fun d => (d.ch c).vLead = x.v ∧ (d.ch c).leadWait = false ∧
      (d.ch c).cur = (s.dev.ch c).cur) ∧
  (∀ c x v, c < 8 → s.dev.pfePowered = true → s.dev.pfeType c = 7 → s.dev.fld .pfeCtrl c 4 4 ≠ 0 → (s.dev.ch c).conv = 0 →
    x.v = v → ((s.dev.at t).pfeEndsAt c).isSome = true →
    Runs (.pfeConversionEnd t c x) s fun d => (d.ch c).vs = (v :: (s.dev.ch c).vs).take 2 ∧
      (d.ch c).tarePend = false ∧ (d.ch c).count = ((s.dev.ch c).count + 1) % 2 ^ 32) ∧
  (∀ c x, c < 8 → (s.dev.at t).pfeEndsAt c = none → Runs (.pfeConversionEnd t c x) s fun d => d = s.dev.at t) ∧
  (∀ c a v, c < 8 → (s.dev.ch c).pend = some (a, v) → a ≤ t →
    Runs (.pfeValueAvailable t c) s fun d => d.ch c = { s.dev.ch c with avail := v, pend := none }) ∧
  (∀ v, Runs (.dieTempUpdate t v) s fun d => d.hlt.dieT = v ∧
    (instant s.dev.now t < s.dev.hlt.dieAt + unitsPerSec → d.hlt = { s.dev.hlt with dieT := v }))

/-- Packets, replies and groups (R263, R264, R268, R281–R284). Clauses rest on the model's choices of log entries 2, 26, 128 and
134. -/
def Obligations.PacketEventsAct : Prop :=
  ∀ (s : State) (t : Time), s.dev.alive = true → s.dev.Sized →
  (∀ f, s.dev.portUp 4 = true → Runs (.packetReceive t 4 f true) s fun d => (d.port 4).rx = (s.dev.port 4).rx ∧
    d.fld .hpRxCrc 4 0 16 = satNat 16 (s.dev.fld .hpRxCrc 4 0 16 + 1)) ∧
  (∀ f, s.dev.portUp 4 = true → s.dev.hlt.pause = none → f.length = 16 + u16At f 6 →
    crc32 (f.take (f.length - 4)) = u32At f (f.length - 4) → byteAt f 0 / 16 = 1 → f.getD 1 0 &&& 0xF3 = 0 →
    zeroAt f 10 2 = true → (s.dev.port 4).rx.length < 4 →
    Runs (.packetReceive t 4 f false) s fun d => (d.port 4).rx = (s.dev.port 4).rx ++
      [{ op := u16At f 2, arr := instant s.dev.now t, src := 0, vlan := none, req := packetRequest 4 (instant s.dev.now t) f }]) ∧
  (∀ q rest, s.dev.mgmtUp = true → (s.dev.port 0).rx = q :: rest → s.dev.serveNext = 0 →
    Runs (.packetServe t) s fun d => d = (({ s.dev.at t with serveNext := 1 } : Dev).onPort 0 fun x => { x with rx := rest }).serve
      { q with req := { q.req with t := instant s.dev.now t } }) ∧
  (∀ p x rest, p < 4 → s.dev.portUp p = true → (s.dev.at t).lineFree p = true → (s.dev.port p).tx = x :: rest →
    Runs (.replyTransmit t p) s fun d => (d.port p).tx = rest ∧
      (d.port p).sent = (instant s.dev.now t, s.dev.replyFrame p x) :: (s.dev.port p).sent ∧
      d.fld .hpTxReply p 0 32 = satNat 32 (s.dev.fld .hpTxReply p 0 32 + 1)) ∧
  (∀ p q target off data, p < 5 → s.dev.mgmtUp = true → (s.dev.port p).bg = some ⟨q, .fwLoad target off data⟩ →
    q.req.port = p → q.req.flags = 0 →
    Runs (.backgroundJobComplete t p true) s fun d => (d.port p).bg = none ∧
      (d.port p).tx = (s.dev.port p).tx ++
        [{ bytes := replyBytes q.op q.req ⟨stOk, []⟩, dst := q.src, vlan := q.vlan, arr := q.arr }] ∧
      (target < s.dev.hlt.regions.length → memWf (s.dev.region target).mem = true →
        memReads (d.region target).mem off data.length = data ∧
        ∀ a, a < off ∨ off + data.length ≤ a → memRead (d.region target).mem a = memRead (s.dev.region target).mem a)) ∧
  (∀ p g, p < 5 → (s.dev.port p).group = some g → (g.last + 10 * 1000 * unitsPerUs) / 20 < instant s.dev.now t / 20 →
    Runs (.groupTimeout t p) s fun d => (d.port p).group = none ∧ (d.port p).lowHeld = g.low ∧
      d.staged = s.dev.staged.filter fun x => !(x.inGroup && x.port = p)) ∧
  (∀ p, p < 5 → Runs (.writeLogSummary t p) s fun d =>
    (d.port p).logs = (s.dev.port p).logs.filter fun w => !decide (w.t + unitsPerSec ≤ instant s.dev.now t))

/-- The links of the host ports (R258, R259). Clauses rest on the model's choices of log entries 2, 33 and 34. -/
def Obligations.LinkEventsAct : Prop :=
  ∀ (s : State) (t : Time) (p : Nat), s.dev.alive = true → s.dev.Sized → p < 4 → s.dev.portOn p = true →
  (s.dev.worost p = true → 2 ≤ (s.dev.port p).ready →
    Runs (.linkStatusFrame t p 1) s fun d => (d.port p).link = true ∧ (d.port p).statusT = instant s.dev.now t) ∧
  (s.dev.worost p = true →
    Runs (.linkStatusFrame t p 0) s fun d => (d.port p).ready = 0 ∧ (d.port p).link = (s.dev.port p).link) ∧
  (s.dev.worost p = true → (s.dev.at t).lineFree p = true →
    Runs (.linkStatusSend t p) s fun d => (d.port p).statusSent = instant s.dev.now t ∧
      (d.port p).sent = (instant s.dev.now t, [3, BitVec.ofNat 8 (b2n (s.dev.port p).sync)]) :: (s.dev.port p).sent) ∧
  (s.dev.worost p = true → (s.dev.port p).statusT + 1000 * unitsPerUs ≤ instant s.dev.now t →
    Runs (.linkStatusTimeout t p) s fun d => (d.port p).link = false ∧ (d.port p).ready = 0) ∧
  (Runs (.linkSyncLoss t p) s fun d => (d.port p).link = false ∧ (d.port p).sync = false ∧
    ((s.dev.port p).link = true → d.regBit .hpStat p 7 = true)) ∧
  (s.dev.worost p = false → Runs (.linkUp t p true) s fun d => (d.port p).link = true ∧ (d.port p).sync = true)

/-- The SPI of the maintenance port (R261): a packet written whole joins the receive queue, a short one is counted, and a reply
is removed only when all of it has been clocked out. Clauses rest on the model's choices of log entries 2 and 37. -/
def Obligations.SpiEventsAct : Prop :=
  ∀ (s : State) (t : Time), s.dev.portUp 4 = true → s.dev.Sized →
  (Runs (.spiStatus t) s fun d => (d.port 4).sent = (instant s.dev.now t, [s.dev.spiStatusByte]) :: (s.dev.port 4).sent) ∧
  (∀ b, b.length < 16 → Runs (.spiWrite t b) s fun d => (d.port 4).rx = (s.dev.port 4).rx ∧
    d.fld .hpRxCrc 4 16 16 = satNat 16 (s.dev.fld .hpRxCrc 4 16 16 + 1)) ∧
  (∀ f, s.dev.hlt.pause = none → f.length = 16 + u16At f 6 →
    crc32 (f.take (f.length - 4)) = u32At f (f.length - 4) → byteAt f 0 / 16 = 1 → f.getD 1 0 &&& 0xF3 = 0 →
    zeroAt f 10 2 = true → (s.dev.port 4).rx.length < 4 →
    Runs (.spiWrite t f) s fun d => (d.port 4).sent = (instant s.dev.now t, [s.dev.spiStatusByte]) :: (s.dev.port 4).sent ∧
      (d.port 4).rx = (s.dev.port 4).rx ++
        [{ op := u16At f 2, arr := instant s.dev.now t, src := 0, vlan := none, req := packetRequest 4 (instant s.dev.now t) f }]) ∧
  (∀ n x rest, (s.dev.port 4).tx = x :: rest →
    Runs (.spiRead t n) s fun d => (d.port 4).sent =
        (instant s.dev.now t, s.dev.spiStatusByte :: leBytes 2 x.bytes.length ++ x.bytes.take n) :: (s.dev.port 4).sent ∧
      (d.port 4).tx = if x.bytes.length ≤ n then rest else x :: rest)

/-- The cyclic records (R293, R294, R296, R297): a part is kept with its instant; a sound part that is newer than the last one
is taken, and its records and their set-points are staged; an unsound one is counted and dropped; a part of a block leaves; a
lane whose records stay out is marked. Clauses rest on the model's choices of log entries 2, 32, 103 and 128. -/
def Obligations.RecordEventsAct : Prop :=
  ∀ (s : State) (p : Nat), s.dev.alive = true → s.dev.Sized → p < 4 →
  (∀ t b, s.dev.portUp p = true →
    Runs (.inboundPartReceive t p b) s fun d => (d.port p).inParts = (s.dev.port p).inParts ++ [(instant s.dev.now t, b)]) ∧
  (∀ t b rest, (s.dev.port p).inParts = (t, b) :: rest → s.dev.partSound p b = false →
    Runs (.inboundPartAccept p) s fun d => (d.port p).inParts = rest ∧ d.now = instant s.dev.now (t + 1600) ∧
      d.fld .hpInBad p 16 16 = satNat 16 (s.dev.fld .hpInBad p 16 16 + 1) ∧ d.staged = s.dev.staged) ∧
  (∀ t b rest ls cs, (s.dev.port p).inParts = (t, b) :: rest → s.dev.partSound p b = true →
    seqFresh ((s.dev.port p).inSeq.getD (byteAt b 1 % 2) none) (u32At b 4) = true →
    (s.dev.inShares p)[byteAt b 1 % 2]? = some (ls, cs) →
    Runs (.inboundPartAccept p) s fun d => (d.port p).inParts = rest ∧ d.now = instant s.dev.now (t + 1600) ∧
      (d.port p).inSeq = (s.dev.port p).inSeq.set (byteAt b 1 % 2) (some (u32At b 4)) ∧ (∀ x ∈ s.dev.staged, x ∈ d.staged) ∧
      ∀ j n, ls[j]? = some n → { port := p, acc := d.now, act := .inRecord n } ∈ d.staged ∧
        ((byteAt b (17 + 16 * j)).testBit 0 = true →
          { port := p, acc := d.now, act := .reg .trmSet n (wordAt b (20 + 16 * j)) } ∈ d.staged)) ∧
  (∀ t n, hasLane n s.dev = true → s.dev.inPort n = some p → s.dev.fld .hpMiss p 8 8 ≠ 0 → (s.dev.lane n).inLost = false →
    s.dev.fld .hpMiss p 8 8 ≤ (s.dev.lane n).inAge →
    Runs (.inboundMiss t n) s fun d => (d.lane n).inLost = true ∧ (d.lane n).inAge = (s.dev.lane n).inAge) ∧
  (∀ k part rest sent, (s.dev.port p).block = some (k, part :: rest, sent) → k < s.dev.time.k.getD 0 → s.dev.portUp p = true →
    Runs (.recordTransmit p) s fun d =>
      d.now = instant s.dev.now (s.dev.time.t0 + 20 * s.dev.fld .frmTxofs 0 0 18 + sent) ∧
      (d.port p).sent = (d.now, s.dev.recordFrame p part) :: (s.dev.port p).sent ∧
      (d.port p).block = if rest.isEmpty then none else some (k, rest, sent + 32 * (part.length + 44)))

/-- IDENTIFY, PING, PROT_STATUS and REG_RD are answered OK with the fields that R269, R270, R350 and R271 give, and stage
nothing. Clauses rest on the model's choices of log entries 2, 5 and 35. -/
def Obligations.DeviceReadsAnswer : Prop :=
  ∀ (s : State) (r : Request),
  (Admits s.dev r 1 .ignored .any → r.payload = [] →
    ∃ b, Answers (.identify r) 0x0001 r s ⟨stOk, b⟩ (fun d => d.staged = s.dev.staged) ∧ b.length = 82 ∧
      b.take 4 = [0x00, 0x96, BitVec.ofNat 8 s.dev.variant, 0x42] ∧ b.getD 4 0 = 0x07 ∧ byteAt b 5 = r.port ∧
      b.getD 9 0 = BitVec.ofNat 8 s.dev.leadPort ∧ slice b 26 6 = macBytes 0 ∧
      ∀ i < 48, b.getD (34 + i) 0 = BitVec.ofNat 8 (s.dev.owner (2 * i) + 16 * s.dev.owner (2 * i + 1))) ∧
  (Admits s.dev r 1 .ignored .any → r.payload.length ≤ payloadLimit r.gen - 4 →
    Answers (.ping r) 0x0002 r s ⟨stOk, zeros 2 ++ r.payload⟩ fun d => d.staged = s.dev.staged) ∧
  (Admits s.dev r 2 .ignored .any → r.payload = [] →
    ∃ b, Answers (.protStatus r) 0x0E02 r s ⟨stOk, b⟩ (fun d => d.staged = s.dev.staged) ∧
      b.take 2 = leBytes 2 (s.dev.fld .protStat 0 16 16) ∧
      slice b 4 2 = [BitVec.ofNat 8 (b2n s.dev.crit.sealed), BitVec.ofNat 8 s.dev.pwr.dbg.code] ∧
      (s.dev.pwr.imageOk = false → b.drop 6 = zeros 32)) ∧
  (∀ (x : RegId) (k : Nat), Admits s.dev r 1 .ignored .any →
    r.payload = leBytes 4 (x.addr k) ++ [1, 0, 0, 0] → targetOf (x.addr k) = .reg x k → x.addr k % 4 = 0 → x.addr k < 2 ^ 32 →
    groupAt (x.addr k) = none → (s.dev.port r.port).capture = none → s.dev.absentAt (x.addr k) = false →
    Answers (.regRd r) 0x0010 r s ⟨stOk, [1, 0] ++ wordBytes ((s.dev.counted r).readRc r.port (x.addr k))⟩ fun d =>
      d.staged = s.dev.staged)

/-- REG_WR and REG_RMW of one word: an SW word is staged, an RW word takes its value at once, a W1C bit clears unless an event
of the same cycle set it, and the reply says which (R7, R12, R272, R273). Clauses rest on the model's choices of log entries 2
and 35. -/
def Obligations.RegisterWritesAct : Prop :=
  ∀ (s : State) (r : Request) (x : RegId) (k : Nat) (v : Word),
  let a := x.addr k
  targetOf a = .reg x k → a % 4 = 0 → a < 2 ^ 32 → x.valueWords = 1 → s.dev.wordCheck r.port a = stOk →
  s.dev.regPresent x k = true →
  (Admits s.dev r 1 .ignored .any → x.info.sw ≠ 0 → s.dev.valueCheck a v = stOk → x.traceSetting = false →
    r.payload = leBytes 4 a ++ [1, 0, 0, 0] ++ wordBytes v →
    Answers (.regWr r) 0x0011 r s ⟨stStaged, [1, 0]⟩ (Staging s r.port r.t [.reg x k (v &&& x.info.sw)])) ∧
  (Admits s.dev r 1 .ignored .any → x.info.sw = 0 → s.dev.valueCheck a v = stOk → x.traceSetting = false →
    x ∉ [.timeSet, .mlsPop, .mlsAssign, .emuLane, .hpCtrl, .hpRxOk, .hpQmax, .bbxStat] →
    r.payload = leBytes 4 a ++ [1, 0, 0, 0] ++ wordBytes v →
    Answers (.regWr r) 0x0011 r s ⟨stOk, [1, 0]⟩ fun d => d.staged = s.dev.staged ∧
      d.reg x k = (s.dev.reg x k &&& ~~~x.info.rw &&& ~~~(v &&& x.info.w1c)) ||| (v &&& x.info.rw) |||
        ((s.dev.at r.t).freshWord x k &&& x.info.w1c)) ∧
  (∀ mask, Admits s.dev r 1 .ignored .any → x.info.sw ≠ 0 → x.traceSetting = false →
    mask &&& ~~~(x.info.rw ||| x.info.sw) = 0 →
    let old := (s.dev.counted r).rmwOld r.port a
    let new := ((old &&& ~~~mask) ||| (v &&& mask)) &&& ~~~x.info.w1c
    s.dev.valueCheck a new = stOk →
    r.payload = leBytes 4 a ++ wordBytes mask ++ wordBytes v →
    Answers (.regRmw r) 0x0012 r s ⟨stStaged, zeros 2 ++ wordBytes old⟩ (Staging s r.port r.t [.reg x k (new &&& x.info.sw)]))

/-- The register fields that the table gives rows of their own: GENERATOR_RUN, GENERATOR_STOP, POS_ARM, DET_RETURN, REQ_STATE,
PFE_TARE and PFE_FORCE_RST stage their register with the field set as the row says; TIME_SET arms the new `DTIME`; MLS_POP
removes the oldest milestone record and MLS_FLUSH all of them. Clauses rest on the model's choices of log entries 2 and 15. -/
def Obligations.FieldWritesAct : Prop :=
  ∀ (s : State) (w : RegWrite), Admits s.dev (fieldRequest w) 1 .ignored .any → s.dev.Sized →
  (∀ g, s.dev.regPresent .excCtrl g = true → g < 12 → s.dev.mayWrite w.port .excCtrl g = true →
    (Runs (.generatorRun w g) s fun d => ∃ v, Staging s w.port w.t [.reg .excCtrl g v] d ∧ v.getLsbD 0 = true) ∧
    (Runs (.generatorStop w g) s fun d => ∃ v, Staging s w.port w.t [.reg .excCtrl g v] d ∧ v.getLsbD 0 = false)) ∧
  (∀ n, s.dev.owns w.port n = true →
    (Runs (.posArm w n) s fun d => ∃ v, Staging s w.port w.t [.reg .trkCmd n v] d ∧ v.getLsbD 0 = true) ∧
    (Runs (.detReturn w n) s fun d => ∃ v, Staging s w.port w.t [.reg .trkCmd n v] d ∧ v.getLsbD 1 = true) ∧
    (∀ q : BitVec 3, Runs (.reqState w n q) s fun d =>
      ∃ v : Word, Staging s w.port w.t [.reg .laneCtrl n v] d ∧ v.extractLsb' 0 3 = q)) ∧
  (∀ c < 8, s.dev.mayWrite w.port .pfeCmd c = true →
    (Runs (.pfeTare w c) s fun d => ∃ v, Staging s w.port w.t [.reg .pfeCmd c v] d ∧ v.getLsbD 0 = true) ∧
    (Runs (.pfeForceRst w c) s fun d => ∃ v, Staging s w.port w.t [.reg .pfeCmd c v] d ∧ v.getLsbD 1 = true)) ∧
  (∀ v : Quad, s.dev.mayWrite w.port .timeSet 0 = true → s.dev.timeSetRefused = false →
    Runs (.timeSet w v) s fun d => d.time.setPend = some v.toNat ∧ d.staged = s.dev.staged) ∧
  (∀ j, s.dev.regPresent .mlsPop j = true → j < 32 → s.dev.mayWrite w.port .mlsPop j = true →
    (Runs (.mlsPop w j) s fun d => (d.mlsUnit j).fifo = (s.dev.mlsUnit j).fifo.tail) ∧
    (Runs (.mlsFlush w j) s fun d => (d.mlsUnit j).fifo = []))

/-- The opcodes of lanes (R175, R178, R274–R276): LANE_STAGE stages its words, LANE_COMMIT an admitted structure, LANE_PARK a
park; LANE_ADMIT and LANE_READ only answer. Clauses rest on the model's choices of log entries 2, 108 and 109. -/
def Obligations.LaneOpcodesAct : Prop :=
  ∀ (s : State) (r : Request), s.dev.Sized →
  (∀ o v, Admits s.dev r 1 .one .owner → stageOffsetOk o = true → o < 2 ^ 16 →
    (∀ x k, targetOf (0x100000 + 0x400 * r.lane + o) = .reg x k → x.valueWords = 1) →
    r.payload = [1, 0, 1, 0] ++ leBytes 2 o ++ [0, 0] ++ wordBytes v →
    ∃ x k, targetOf (0x100000 + 0x400 * r.lane + o) = .reg x k ∧
      Answers (.laneStage r) 0x0100 r s ⟨stStaged, []⟩ (Staging s r.port r.t [.reg x k (v &&& x.info.sw)])) ∧
  (let st := s.dev.stagedStruct r.port r.lane
   Admits s.dev r 1 .one .owner → r.payload = [] → s.dev.laneUp r.lane = false → st.ok = true →
   (s.dev.admission r.lane st).1 = true →
   ∃ b, Answers (.laneCommit r) 0x0101 r s ⟨stStaged, b⟩ (Staging s r.port r.t [.laneCommit r.lane st])) ∧
  (let st := s.dev.stagedStruct r.port r.lane
   Admits s.dev r 1 .one .any → r.payload = [] → st.ok = true →
   ∃ b, Answers (.laneAdmit r) 0x0104 r s ⟨if (s.dev.admission r.lane st).1 then stOk else stAdmission, b⟩ fun d =>
     d.staged = s.dev.staged ∧ d.lanes = s.dev.lanes) ∧
  (Admits s.dev r 1 .oneOrAll .owner → r.payload = [] →
    Answers (.lanePark r) 0x0103 r s ⟨stStaged, []⟩ (Staging s r.port r.t
      ((if r.lane = 0xFFFF then s.dev.ownedLanes r.port else [r.lane]).map Act.park))) ∧
  (∀ o n, Admits s.dev r 1 .one .any → o % 4 = 0 → 1 ≤ n → n ≤ readMax r.gen - 1 → o + 4 * n ≤ 0x400 →
    r.payload = leBytes 2 o ++ leBytes 2 n →
    Answers (.laneRead r) 0x0102 r s ⟨stOk, leBytes 2 n ++ leBytes 4 ((s.dev.ro.map Shadow.seq).getD s.dev.frmSeq) ++
      (List.range n).flatMap fun i => wordBytes ((s.dev.counted r).laneReadWord r.port r.lane (o + 4 * i))⟩ fun d =>
      d.staged = s.dev.staged)

/-- The opcodes of angle-error maps (R106–R109). Clauses rest on the model's choices of log entries 2, 58 and 61. -/
def Obligations.MapOpcodesAct : Prop :=
  ∀ (s : State) (r : Request),
  (∀ action terms : Byte, Admits s.dev r 2 .one .owner → r.payload = [action, terms, 0, 0] → action.toNat ≤ 3 →
    terms.toNat ≤ 7 →
    (action.toNat = 1 ∨ action.toNat = 2 → (s.dev.lane r.lane).map.learning = false ∧ (s.dev.lane r.lane).st ≠ .off ∧
      (s.dev.lane r.lane).st ≠ .fault ∧ s.dev.learnParamsOk r.port r.lane terms.toNat = true) →
    Answers (.mapLearn r) 0x0300 r s ⟨stStaged, []⟩
      (Staging s r.port r.t [.mapLearn r.lane action.toNat terms.toNat])) ∧
  (let m := (s.dev.lane r.lane).map
   Admits s.dev r 2 .one .any → r.payload = [] →
   ∃ b, Answers (.mapStatus r) 0x0301 r s ⟨stOk, b⟩ (fun d => d.lanes = s.dev.lanes ∧ d.staged = s.dev.staged) ∧
     b.take 2 = [BitVec.ofNat 8 m.stateCode, BitVec.ofNat 8 m.failCause] ∧
     slice b 10 4 = wordBytes m.resid ∧ slice b 18 8 = leBytes 8 m.accepted ∧ slice b 26 8 = leBytes 8 m.rejected) ∧
  (∀ ret : Bool, Admits s.dev r 2 .one .owner → r.payload = [if ret then 1 else 0] → (s.dev.port r.port).bg = none →
    StartsJob (.mapSave r) 0x0302 r s (.mapSave r.lane ret (s.dev.mapBlob r.lane)) fun d => d.lanes = s.dev.lanes) ∧
  (Admits s.dev r 2 .one .owner → r.payload = [0] → (s.dev.port r.port).bg = none →
    StartsJob (.mapLoad r) 0x0303 r s (.mapLoad r.lane) fun d => d.lanes = s.dev.lanes) ∧
  (∀ blob m, Admits s.dev r 2 .one .owner → r.payload = [1, 0, 0, 0] ++ blob → blob.length = 256 →
    s.dev.readBlob r.lane blob = .ok m →
    Answers (.mapLoad r) 0x0303 r s ⟨stStaged, []⟩ (Staging s r.port r.t [.mapLoad r.lane 2 m]))

/-- The opcodes of pulse inputs, milestones and emulation outputs (R140–R142, R160). Clauses rest on the model's choices of log
entries 2 and 35. -/
def Obligations.PulseOpcodesAct : Prop :=
  ∀ (s : State) (r : Request), s.dev.Sized → Admits s.dev r 1 .ignored .any →
  (∀ i action v, hasPin i s.dev = true → action ≤ 3 → -2 ^ 63 ≤ v → v < 2 ^ 63 →
    s.dev.ownsUnit r.port (s.dev.fld .pinAssign i 0 7) = true → s.dev.pinMode i ≠ 0 → s.dev.pinMode i ≠ 4 →
    ¬(s.dev.pinSerial i = true ∧ (action = 1 ∨ action = 3)) →
    r.payload = [BitVec.ofNat 8 i, BitVec.ofNat 8 action, 0, 0] ++ leBytes 8 (unsigned 64 v) →
    Answers (.pinAdjust r) 0x0600 r s ⟨stStaged, []⟩ (Staging s r.port r.t [.pinAdjust i action v])) ∧
  (∀ j most, hasPin j s.dev = true → 1 ≤ most → most ≤ (if r.gen = 1 then 7 else 16) →
    s.dev.ownsUnit r.port (s.dev.fld .mlsAssign j 0 7) = true →
    r.payload = [BitVec.ofNat 8 j, BitVec.ofNat 8 most, 1] →
    let q := (s.dev.mlsUnit j).fifo
    Answers (.mlsRead r) 0x0601 r s ⟨stOk, [BitVec.ofNat 8 (q.take most).length, BitVec.ofNat 8 (q.drop most).length] ++
      (q.take most).flatMap MlsRec.bytes⟩ fun d => (d.mlsUnit j).fifo = q.drop most) ∧
  (∀ j most, hasPin j s.dev = true → 1 ≤ most → most ≤ (if r.gen = 1 then 7 else 16) →
    r.payload = [BitVec.ofNat 8 j, BitVec.ofNat 8 most, 0] →
    let q := (s.dev.mlsUnit j).fifo
    Answers (.mlsRead r) 0x0601 r s ⟨stOk, [BitVec.ofNat 8 (q.take most).length, BitVec.ofNat 8 q.length] ++
      (q.take most).flatMap MlsRec.bytes⟩ fun d => d.mls = s.dev.mls) ∧
  (∀ j (on : Bool), hasPin j s.dev = true → s.dev.ownsUnit r.port (s.dev.fld .mlsAssign j 0 7) = true →
    r.payload = [BitVec.ofNat 8 j, if on then 1 else 0] →
    Answers (.mlsArm r) 0x0602 r s ⟨stStaged, []⟩ (Staging s r.port r.t [.mlsArm j on])) ∧
  (∀ o action, o < 24 → action ≤ 1 → s.dev.ownsUnit r.port (s.dev.emuLane o) = true →
    r.payload = [BitVec.ofNat 8 o, BitVec.ofNat 8 action, 0, 0] →
    Answers (.emuAlign r) 0x0700 r s ⟨stStaged, []⟩ (Staging s r.port r.t [.emuAlign o action]))

/-- The opcodes of coefficients and trace (R195–R197, R205, R206). Clauses rest on the model's choices of log entries 2, 105,
106 and 110. -/
def Obligations.CoefTraceOpcodesAct : Prop :=
  ∀ (s : State) (r : Request), s.dev.Sized →
  (∀ gains : List Word, Admits s.dev r 1 .one .owner → gains.length = 15 → gainsOk gains = true →
    let x := s.dev.loop r.lane
    let bank : Bank := { (x.banks.getD (1 - x.live) {}) with gains := gains }
    (x.banks.getD (1 - x.live) {}).gains.length = 15 → bank.secs.all SectionCoef.ok = true → x.live < 2 → x.banks.length = 2 →
    s.dev.swapAwaits r.port r.lane = false → r.payload = [1, 0, 15, 0] ++ gains.flatMap wordBytes →
    Answers (.coefStage r) 0x0400 r s ⟨stOk, []⟩ fun d =>
      (d.loop r.lane).banks.getD (1 - x.live) {} = bank ∧ (d.loop r.lane).banks.getD x.live {} = x.banks.getD x.live {} ∧
      (d.loop r.lane).live = x.live ∧ d.staged = s.dev.staged) ∧
  (∀ count, Admits s.dev r 1 .one .any → 1 ≤ count → count ≤ 15 →
    let x := s.dev.loop r.lane
    r.payload = [0, 1, 0, BitVec.ofNat 8 count] →
    Answers (.coefRead r) 0x0402 r s
      ⟨stOk, zeros 2 ++ ((x.banks.getD x.live {}).gains.take count).flatMap wordBytes⟩ fun d =>
        d.lanes = s.dev.lanes ∧ d.staged = s.dev.staged) ∧
  (∀ copy : Bool, Admits s.dev r 1 .one .owner → s.dev.swapAwaits r.port r.lane = false →
    r.payload = [if copy then 1 else 0, 0, 0, 0] →
    Answers (.coefSwap r) 0x0401 r s ⟨stStaged, []⟩ (Staging s r.port r.t [.coefSwap r.lane copy])) ∧
  (Admits s.dev r 1 .ignored .lead → r.payload = [] →
    Answers (.traceArm r) 0x0900 r s ⟨stStaged, []⟩ (Staging s r.port r.t [.traceArm])) ∧
  (Admits s.dev r 1 .ignored .lead → r.payload = [0] →
    Answers (.traceForce r) 0x0902 r s ⟨stOk, []⟩ fun d => d.trc = { s.dev.trc with force := true } ∧ d.staged = s.dev.staged) ∧
  (∀ o n, Admits s.dev r 1 .ignored .any → o % 4 = 0 → n % 4 = 0 → 4 ≤ n → n ≤ (if r.gen = 1 then 240 else 1000) →
    o + n ≤ 1048576 → r.payload = leBytes 4 o ++ leBytes 2 n →
    Answers (.traceRead r) 0x0901 r s ⟨stOk, memReads s.dev.trc.mem o n⟩ fun d =>
      d.trc = s.dev.trc ∧ d.staged = s.dev.staged)

/-- The profile opcodes without a time (R216–R229): each is staged for its lane, and STOP with 0xFFFF for every lane that the
sender owns. Clauses rest on the model's choices of log entries 2, 79 and 81. -/
def Obligations.ProfileOpcodesAct : Prop :=
  ∀ (s : State) (r : Request),
  (∀ kind v speed, Admits s.dev r 1 .one .owner → kind ≤ 1 → -2 ^ 63 ≤ v → v < 2 ^ 63 → speedOk speed = true →
    r.payload = [BitVec.ofNat 8 kind, 0, 0, 0, 0, 0, 0, 0] ++ leBytes 8 (unsigned 64 v) ++ wordBytes speed ++ [0, 0, 0, 0] →
    Answers (.move r) 0x0500 r s ⟨stStaged, []⟩
      (Staging s r.port r.t [.prf r.lane (.move kind v 0 (f32 speed)) false none])) ∧
  (∀ speed, Admits s.dev r 1 .one .owner → f32Finite speed = true →
    r.payload = [2, 0, 0, 0, 0, 0, 0, 0] ++ wordBytes speed ++ zeros 12 →
    Answers (.move r) 0x0500 r s ⟨stStaged, []⟩
      (Staging s r.port r.t [.prf r.lane (.move 2 0 (f32 speed) 0) false none])) ∧
  (∀ set v a dd j, Admits s.dev r 1 .one .owner → set ≤ 2 → limitsOk set v a dd j = true →
    r.payload = [BitVec.ofNat 8 set, 0, 0, 0, 0, 0, 0, 0] ++ wordBytes v ++ wordBytes a ++ wordBytes dd ++ wordBytes j →
    Answers (.limits r) 0x0501 r s ⟨stStaged, []⟩
      (Staging s r.port r.t ((limitsWords r.lane set v a dd j).map fun w => .reg w.1 w.2.1 w.2.2))) ∧
  (∀ kind idx align num den p q, Admits s.dev r 2 .one .owner → s.dev.gearIndexOk r.lane kind idx = true → idx < 256 →
    align ≤ 2 → -2 ^ 31 ≤ num → num < 2 ^ 31 → 1 ≤ den → den < 2 ^ 32 → -2 ^ 63 ≤ p → p < 2 ^ 63 → -2 ^ 63 ≤ q → q < 2 ^ 63 →
    r.payload = [BitVec.ofNat 8 kind, BitVec.ofNat 8 idx, BitVec.ofNat 8 align, 0, 0, 0, 0, 0] ++ leBytes 4 (unsigned 32 num) ++
      leBytes 4 den ++ leBytes 8 (unsigned 64 p) ++ leBytes 8 (unsigned 64 q) →
    Answers (.gear r) 0x0502 r s ⟨stStaged, []⟩
      (Staging s r.port r.t [.prf r.lane (.gear kind idx align num den p q) false none])) ∧
  (∀ action v, Admits s.dev r 1 .one .owner → action ≤ 2 → -2 ^ 63 ≤ v → v < 2 ^ 63 →
    r.payload = [BitVec.ofNat 8 action, 0, 0, 0, 0, 0, 0, 0] ++ leBytes 8 (unsigned 64 v) →
    Answers (.trim r) 0x0503 r s ⟨stStaged, []⟩ (Staging s r.port r.t [.prf r.lane (.trim action v) false none])) ∧
  (∀ kind x, Admits s.dev r 1 .oneOrAll .owner → kind ≤ 2 → x < 2 ^ 32 →
    r.payload = [BitVec.ofNat 8 kind, 0, 0, 0, 0, 0, 0, 0] ++ leBytes 4 x ++ [0, 0, 0, 0] →
    Answers (.stop r) 0x0504 r s ⟨stStaged, []⟩ (Staging s r.port r.t
      ((if r.lane = 0xFFFF then s.dev.ownedLanes r.port else [r.lane]).map fun n =>
        .prf n (.stop kind x) (r.lane = 0xFFFF) none))) ∧
  (∀ v x (mode : Bool), Admits s.dev r 2 .one .owner → s.dev.wpFill r.port r.lane < 16 → f32Finite v = true → -2 ^ 63 ≤ x →
    x < 2 ^ 63 → r.payload = [0, if mode then 1 else 0, 0, 0] ++ wordBytes v ++ leBytes 8 (unsigned 64 x) →
    Answers (.waypoint r) 0x0505 r s ⟨stStaged, leBytes 2 (s.dev.wpFill r.port r.lane + 1)⟩
      (Staging s r.port r.t [.prf r.lane (.wpAppend mode (f32 v) x) false none])) ∧
  (∀ m v, Admits s.dev r 2 .allOnly .lead → m < 8 → f32Finite v = true → absRat (f32 v) ≤ 1000 →
    r.payload = [BitVec.ofNat 8 m, 0, 0, 0, 0, 0, 0, 0] ++ wordBytes v ++ zeros 8 →
    Answers (.vmaster r) 0x0506 r s ⟨stStaged, []⟩ (Staging s r.port r.t [.vm m (.vel v) none]))

/-- The opcodes of process channels and of the black box (R252, R253, R367, R368). Clauses rest on the model's choices of log
entries 2, 88 and 124. -/
def Obligations.ChannelBlackBoxOpcodesAct : Prop :=
  ∀ (s : State) (r : Request),
  (∀ c (ws : List Word), Admits s.dev r 1 .ignored .any → c < 8 → ws.length = 8 →
    s.dev.ownsUnit r.port (s.dev.fld .pfeLane c 0 7) = true →
    r.payload = [BitVec.ofNat 8 c, 0, 0, 0] ++ ws.flatMap wordBytes →
    Answers (.chConfig r) 0x0800 r s ⟨stStaged, []⟩ fun d =>
      ∃ as, Staging s r.port r.t as d ∧ (.reg .pfeCtrl c (ws.getD 0 0 &&& RegId.pfeCtrl.info.sw)) ∈ as) ∧
  (∀ c, Admits s.dev r 1 .ignored .any → c < 8 → r.payload = [BitVec.ofNat 8 c] →
    Answers (.chRead r) 0x0801 r s ⟨stOk, [0, 1] ++ (s.dev.counted r).chEntry r.port c⟩ fun d => d.pfe = s.dev.pfe) ∧
  (∀ n x, Admits s.dev r 2 .ignored .any → 1 ≤ n → n ≤ 31 → x < 2 ^ 16 → r.payload = [0, BitVec.ofNat 8 n] ++ leBytes 2 x →
    Answers (.bbxRead r) 0x0C01 r s ⟨stOk, readEvents s.dev.bbx.ring.reverse s.dev.bbx.nextSeq x n⟩ fun d =>
      d.bbx.ring = s.dev.bbx.ring ∧ d.staged = s.dev.staged) ∧
  (Admits s.dev r 2 .ignored .lead → r.payload = [] → s.dev.bbx.running = none → (s.dev.port r.port).bg = none →
    StartsJob (.bbxCommit r) 0x0C02 r s .bbxCommit fun d => d.bbx.commit = none ∧
      ∃ c, d.bbx.running = some c ∧ c.kind = 4 ∧ c.t = instant s.dev.now r.t)

/-- The opcodes of firmware (R370–R372). Clauses rest on the model's choices of log entries 2, 35 and 151. -/
def Obligations.FirmwareOpcodesAct : Prop :=
  ∀ (s : State) (r : Request), s.dev.hlt.regions.length = 3 →
  (∀ target off (data : List Byte), Admits s.dev r 2 .ignored .lead → target ≤ 2 → off % 8 = 0 → data ≠ [] →
    data.length % 8 = 0 → off + data.length ≤ regionSize target → off < 2 ^ 32 → (target = 2 ∨ target ≠ s.dev.hlt.runSlot) →
    (s.dev.port r.port).bg = none → r.payload = [BitVec.ofNat 8 target, 1, 0, 0] ++ leBytes 4 off ++ data →
    StartsJob (.fwLoad r) 0x0D00 r s (.fwLoad target off data) fun d =>
      (d.region target).st = 1 ∧ (d.region target).factory = false) ∧
  (∀ target, Admits s.dev r 2 .ignored .lead → target ≤ 2 → (s.dev.port r.port).bg = none →
    r.payload = [BitVec.ofNat 8 target, 0, 0, 0] →
    StartsJob (.fwVerify r) 0x0D01 r s (.fwVerify target) fun d => d.hlt.regions = s.dev.hlt.regions) ∧
  (∀ slot, Admits s.dev r 3 .ignored .lead → slot ≤ 1 → (s.dev.region slot).st = 3 → slot ≠ s.dev.hlt.runSlot →
    s.dev.pwr.dbg ≠ .openDbg → s.dev.pwr.pfailLow = false → s.dev.jobsRun = false → r.payload = [BitVec.ofNat 8 slot, 0, 0, 0] →
    Answers (.fwSwitch r) 0x0D02 r s ⟨stStaged, []⟩ (Staging s r.port r.t [.fwSwitch slot]))

/-- The opcodes of power, debug and protection (R332, R338, R341, R344, R346, R347). Clauses rest on the model's choices of log
entries 2, 112 and 118. -/
def Obligations.PowerDebugOpcodesAct : Prop :=
  ∀ (s : State) (r : Request), Admits s.dev r 2 .ignored .lead →
  (∀ target, target ≤ 3 → s.dev.powerFails target = 0 → r.payload = [BitVec.ofNat 8 target, 0, 0, 0] →
    Answers (.powerState r) 0x0E00 r s ⟨stStaged, []⟩ fun d =>
      Staging s r.port r.t [.power target] d ∧ (target < 2 → d.pwr.detached = false)) ∧
  (r.payload = [] → (s.dev.port r.port).bg = none →
    StartsJob (.detach r) 0x0E01 r s .detach fun d => d.pwr.parkPend = (s.dev.askParked 2).pwr.parkPend ∧
      (d.bbx.running.isSome = true ∨ d.bbx.waiting.isSome = true)) ∧
  (s.dev.crit.sealed = false → s.dev.pwr.st = .parked → s.dev.pwr.imageOk = true →
    r.payload = digest (imgRoot s.dev.pwr.image) → r.payload.length = 32 →
    if s.dev.free.1 = 0 then Answers (.seal r) 0x0E10 r s ⟨stNvmFail, []⟩ fun d => d.pwr.sealFuse = s.dev.pwr.sealFuse
    else Answers (.seal r) 0x0E10 r s ⟨stOk, []⟩ fun d => d.pwr.sealFuse = true ∧ d.pwr.rootHash = r.payload ∧
      d.crit.sealed = false) ∧
  (∀ target, target = 1 ∨ target = 2 → r.payload = [BitVec.ofNat 8 target] →
    Answers (.dbgChallenge r) 0x0E20 r s ⟨stOk, (s.dev.at r.t |>.drawNonce target).1⟩ fun d =>
      ∃ n, d.pwr.nonce = some n ∧ n.target = target ∧ n.value = (s.dev.at r.t |>.drawNonce target).1) ∧
  (∀ idx (sig : List Byte), idx ≤ 3 → sig.length = 64 → r.payload = [BitVec.ofNat 8 idx, 0, 0, 0] ++ sig →
    let a := (s.dev.counted r).dbgRespond kPort r.port idx sig
    Answers (.dbgResponse r) 0x0E21 r s ⟨if a.1 then stOk else stRange, []⟩ fun d => d.pwr = a.2.pwr) ∧
  (r.payload = [] → s.dev.pwr.dbg ≠ .openDbg →
    Answers (.dbgClose r) 0x0E22 r s ⟨stOk, []⟩ fun d => d.pwr.dbg = .closed) ∧
  (r.payload = [] → s.dev.crit.sealed = false → s.dev.pwr.st = .parked →
    Answers (.dbgOpenFree r) 0x0E23 r s ⟨stOk, []⟩ fun d => d.pwr.dbg = .openDbg)

/-- The watch path of a lane (R301–R304, R307, R308): a sample is taken, a violation or a failed cross-comparison brings the
group off. Clauses rest on the model's choices of log entries 2 and 3. -/
def Obligations.WatchEventsAct : Prop :=
  ∀ (s : State) (t : Time) (n : Nat), s.dev.alive = true → s.dev.Sized → hasLane n s.dev = true →
  let x := s.dev.safLane n
  (∀ a b, let m := satNat 16 (isqrt (a * a + b * b).toNat)
    Runs (.watchSample t n a b) s fun d => (d.safLane n).mag = m ∧ (d.safLane n).sampleT = some (instant s.dev.now t) ∧
      d.crit = s.dev.crit ∧
      (s.dev.recordUsed n = true → m < (s.dev.laneP n 12).toNat → (d.safLane n).inv = true ∧ (d.safLane n).good = 0)) ∧
  (∀ fn, 1 ≤ fn → fn ≤ 3 → s.dev.recordUsed n = true → s.dev.fnActive n (fn - 1) = true → x.caused.getD (fn - 1) false = false →
    (s.dev.laneP n 2).toNat ≤ x.cnt.getD (fn - 1) 0 →
    Runs (.safetyViolation t n fn) s fun d => (d.safLane n).viol = true ∧ d.crit.soLatch.getLsbD (groupOf n) = true ∧
      ∀ m ∈ lanesOfGroup (groupOf n), d.barrierUp m = false) ∧
  (x.xFail = false → 3 ≤ x.xRun →
    Runs (.xcmpFail t n) s fun d => (d.safLane n).xFail = true ∧ d.crit.soLatch.getLsbD (groupOf n) = true ∧
      ∀ m ∈ lanesOfGroup (groupOf n), d.barrierUp m = false)

/-- The timers of the safety monitor (R306, R317, R321): SS1, arming, the watchdog of a connection. Clauses rest on the model's
choices of log entry 2. -/
def Obligations.SafetyTimersAct : Prop :=
  ∀ (s : State), s.dev.alive = true → s.dev.Sized →
  (∀ n e, hasLane n s.dev = true → (s.dev.safLane n).armed = some e →
    Runs (.armingExpiry n) s fun d => (d.safLane n).armed = none ∧ d.now = instant s.dev.now e ∧ d.crit = s.dev.crit) ∧
  (∀ n e, hasLane n s.dev = true → (s.dev.safLane n).ss1T = some e →
    Runs (.ss1Expiry n) s fun d => (d.safLane n).ss1T = none ∧ (d.safLane n).ss1End = true ∧ d.barrierUp n = false ∧
      (∀ m < 96, m ≠ n → d.barrierUp m = s.dev.barrierUp m) ∧ d.crit.soLatch = s.dev.crit.soLatch) ∧
  (∀ c, c < 16 → (s.dev.conn c).st = .ok →
    Runs (.connectionWatchdog c) s fun d => (d.conn c).st = .fail ∧ (d.conn c).failed = true ∧
      d.now = instant s.dev.now (s.dev.connDeadline c) ∧
      ∀ n ∈ s.dev.params.connLanes c, n < 96 → d.barrierUp n = false ∧ d.crit.soLatch.getLsbD (groupOf n) = true)

/-- The SI inputs (R313): a level is taken, a demand and a discrepancy act on the groups mapped to the pair. Clauses rest on the
model's choices of log entries 2 and 97. -/
def Obligations.SafetyInputsAct : Prop :=
  ∀ (s : State) (t : Time), s.dev.alive = true → s.dev.Sized →
  (∀ k v, k < 4 → Runs (.siLevelChange t k v) s fun d => d.saf.levels.getD k false = v ∧ d.crit = s.dev.crit ∧
    (s.dev.saf.levels.getD k false ≠ v → d.saf.levelT.getD k 0 = instant s.dev.now t)) ∧
  (∀ i k, i < 2 → k < 2 → s.dev.siMode i ≠ 0 → (s.dev.siPair i).demand = false → s.dev.siAtDemand i k = true →
    s.dev.saf.levelT.getD (2 * i + k) 0 + 500 * unitsPerUs ≤ instant s.dev.now t →
    Runs (.siDemand t i) s fun d => (d.siPair i).demand = true ∧
      (s.dev.siFunc i = 2 → (d.siPair i).ss1T.isSome = true ∧ d.crit = s.dev.crit) ∧
      (s.dev.siFunc i ≠ 2 → ∀ g ∈ s.dev.siGroups i, d.crit.soLatch.getLsbD g = true ∧
        ∀ m ∈ lanesOfGroup g, d.barrierUp m = false)) ∧
  (∀ i, i < 2 → s.dev.siMode i ≠ 0 → (s.dev.siPair i).disc = false → s.dev.siAtDemand i 0 ≠ s.dev.siAtDemand i 1 →
    max (s.dev.saf.levelT.getD (2 * i) 0) (s.dev.saf.levelT.getD (2 * i + 1) 0) + 1000 * unitsPerUs * s.dev.devP (4 + i) <
      instant s.dev.now t →
    Runs (.siDiscrepancy t i) s fun d => (d.siPair i).disc = true ∧
      ∀ g ∈ s.dev.siGroups i, d.crit.soLatch.getLsbD g = true ∧ ∀ m ∈ lanesOfGroup g, d.barrierUp m = false)

/-- The SO outputs and the self-tests (R305, R308, R312). Clauses rest on the model's choices of log entries 2 and 89. -/
def Obligations.SafetyOutputsAct : Prop :=
  ∀ (s : State) (t : Time) (g : Nat), s.dev.alive = true → s.dev.Sized → hasGroup g s.dev = true →
  (s.dev.soOn g = true → s.dev.saf.pulse.getD g none = none →
    Runs (.soTestPulse t g) s fun d => d.saf.pulse.getD g none = some (instant s.dev.now t) ∧ d.crit = s.dev.crit) ∧
  (∀ u, s.dev.saf.pulse.getD g none = some u →
    (Runs (.soTestPulseEnd t g true) s fun d => d.saf.pulse.getD g none = none ∧ d.crit = s.dev.crit) ∧
    (Runs (.soTestPulseEnd t g false) s fun d => d.saf.pulse.getD g none = none ∧ d.saf.readback.getD g 0 = 2 ∧
      4 ∈ d.saf.causes)) ∧
  (s.dev.soOn g = true → s.dev.saf.pulse.getD g none = none → s.dev.saf.readback.getD g 0 = 0 →
    Runs (.soReadbackFault t g 1) s fun d => d.saf.readback.getD g 0 = 1 ∧ d.crit.soLatch.getLsbD g = true ∧
      ∀ m ∈ lanesOfGroup g, d.barrierUp m = false) ∧
  (s.dev.soOn g = false → s.dev.saf.readback.getD g 0 ≠ 2 →
    Runs (.soReadbackFault t g 2) s fun d => d.saf.readback.getD g 0 = 2 ∧ 4 ∈ d.saf.causes) ∧
  (s.dev.saf.readback.getD g 0 = 1 →
    Runs (.soReadbackFault t g 0) s fun d => d.saf.readback.getD g 0 = 0 ∧ d.crit = s.dev.crit) ∧
  (s.dev.saf.chainCause.getD g false = false →
    Runs (.safetySelfTest t 4 g false) s fun d => d.saf.chainBad.getD g false = true ∧ d.saf.chainCause.getD g false = true ∧
      d.crit.soLatch.getLsbD g = true) ∧
  (∀ kind, kind = 1 ∨ kind = 2 → kind ∉ s.dev.saf.causes →
    Runs (.safetySelfTest t kind g false) s fun d => kind ∈ d.saf.causes ∧ d.crit.devLatch = true ∧
      ∀ m < 96, hasLane m s.dev = true → d.barrierUp m = false)

/-- The commands of a safety connection (R320, R321, R326): each sets the reference tag and its status. Clauses rest on the
model's choices of log entries 2, 92 and 98. -/
def Obligations.SafetyCommandsAct : Prop :=
  ∀ (s : State) (t : Time) (c : Nat) (tag : Byte), s.dev.alive = true → s.dev.Sized → c < 16 → (s.dev.conn c).st = .ok →
    tag.toNat ≠ (s.dev.conn c).refTag →
  (∀ mask, s.dev.saf.params.isSome = true →
    Runs (.safeResetAck t c tag mask) s fun d => (d.conn c).refTag = tag.toNat ∧ (d.conn c).status = stOk ∧
      d.crit = s.dev.crit ∧
      ∀ n, hasLane n s.dev = true → s.dev.connOf n = none → s.dev.armable n = true →
        (d.safLane n).armed = some (instant s.dev.now t + 10 * unitsPerSec)) ∧
  (∀ target index value i, s.dev.paramWriter c = true → s.dev.paramWord target.toNat index.toNat = some i →
    (if target.toNat < 0xC0 then s.dev.paramHeld target.toNat
      else if target.toNat < 0xFF then (s.dev.params.connLanes (target.toNat - 0xC0)).any s.dev.paramHeld
      else (List.range 96).any s.dev.barrierUp) = false →
    s.dev.paramOk target.toNat index.toNat value (s.dev.saf.staged.put i value) = true →
    Runs (.safeParamWr t c tag target index value) s fun d => (d.conn c).refTag = tag.toNat ∧ (d.conn c).status = stOk ∧
      d.saf.staged = s.dev.saf.staged.put i value ∧ d.saf.params = s.dev.saf.params) ∧
  (∀ crc, s.dev.paramWriter c = true → s.dev.saf.staged.crc = crc.toNat →
    (List.range 96).all s.dev.saf.staged.laneOk = true →
    ((List.range 16).flatMap s.dev.saf.staged.connLanes).any s.dev.saf.staged.unused = false → s.dev.saf.commitBy = none →
    Runs (.safeParamCommit t c tag crc) s fun d => (d.conn c).refTag = tag.toNat ∧ (d.conn c).status = stBusy ∧
      d.saf.commitBy = some (c, s.dev.saf.staged) ∧ d.saf.params = s.dev.saf.params) ∧
  (∀ target index i, s.dev.paramWord target.toNat index.toNat = some i →
    Runs (.safeParamRd t c tag target index 0) s fun d => (d.conn c).refTag = tag.toNat ∧ (d.conn c).status = stOk ∧
      (d.conn c).data = wordBytes (s.dev.params.word i) ∧ d.crit = s.dev.crit)

/-- The end of a parameter commit and the second step of the deliberate reset (R321, R326): only a pulse of 50 to 500 ms lifts
barriers, of armed lanes without a cause. Clauses rest on the model's choices of log entries 2, 90 and 99. -/
def Obligations.SafetyResetAct : Prop :=
  ∀ (s : State) (t : Time), s.dev.alive = true → s.dev.Sized →
  (∀ c p, s.dev.saf.commitBy = some (c, p) → c < 16 →
    (Runs (.safeParamCommitComplete t true) s fun d => d.saf.params = some p ∧ d.saf.commitBy = none ∧
      d.saf.copies = [some p, s.dev.saf.copies.headD none] ∧
      (d.conn c).status = (if (s.dev.conn c).op = 2 ∧ (s.dev.conn c).status = stBusy then stOk else (s.dev.conn c).status)) ∧
    (Runs (.safeParamCommitComplete t false) s fun d => d.saf.params = s.dev.saf.params ∧ d.saf.commitBy = none ∧
      d.saf.copies = [s.dev.saf.copies.headD none, none] ∧
      (d.conn c).status = (if (s.dev.conn c).op = 2 ∧ (s.dev.conn c).status = stBusy then stNvmFail else (s.dev.conn c).status) ∧
      d.crit = s.dev.crit)) ∧
  (∀ width, 50000 * unitsPerUs ≤ width → width ≤ 500000 * unitsPerUs →
    Runs (.safeRstEdge t width) s fun d => ∀ n < 96, hasLane n s.dev = true →
      d.barrierUp n = (s.dev.barrierUp n ||
        (match (s.dev.safLane n).armed with | some e => decide (instant s.dev.now t < e) | none => false) &&
          !s.dev.causePresent n)) ∧
  (∀ width, width < 50000 * unitsPerUs ∨ 500000 * unitsPerUs < width →
    Runs (.safeRstEdge t width) s fun d => d.crit = s.dev.crit ∧ d.saf.lastEvt = 0x0B0C) ∧
  (Runs (.safeRstHeld t) s fun d => d.crit = s.dev.crit ∧ d.saf.lastEvt = 0x0B0C)

/-- Reset and boot (R335, R336, R387, R388, R407): RESET_N low and the supply monitor bring every barrier and every SO output
down; the boot ROM starts once; its end leaves the device PARKED. Clauses rest on the model's choices of log entries 2, 115, 119
and 127. -/
def Obligations.BootEventsAct : Prop :=
  ∀ (s : State) (t : Time),
  (Runs (.resetNAssert t) s fun d => d.crit.barrierUp = 0 ∧ d.crit.soLatch = 0xFFF ∧ d.crit.sealed = s.dev.pwr.sealFuse ∧
    d.now = 0 ∧ d.regs = [] ∧ d.staged = [] ∧ d.pwr.booted = false ∧ d.pwr.image = s.dev.pwr.image ∧
    d.hlt.regions = s.dev.hlt.regions) ∧
  (Runs (.supplyMonitorReset t) s fun d => d.crit.barrierUp = 0 ∧ d.crit.soLatch = 0xFFF ∧ d.now = 0 ∧ d.regs = [] ∧
    d.pwr.booted = false) ∧
  (s.dev.pwr.booted = false → s.dev.pwr.booting = false → s.dev.pwr.st ≠ .dormant →
    Runs (.boot t) s fun d => d.pwr.booting = true ∧ d.pwr.booted = false ∧ d.crit = s.dev.crit ∧
      (d.pwr.recovery = true → d.hlt.runSlot = 3) ∧
      (s.dev.crit.sealed = true → d.pwr.imageOk = false → d.pwr.recovery = true)) ∧
  (∀ x, s.dev.pwr.booting = true →
    Runs (.bootComplete t x) s fun d => d.pwr.booted = true ∧ d.pwr.booting = false ∧ d.pwr.st = .parked ∧
      d.pwr.presentLow = x.present ∧ d.pwr.pfailLow = x.pfail ∧ d.pwr.detached = !x.present ∧ d.fld .hpCtrl 4 0 2 = 3) ∧
  (∀ e, s.dev.alive = true → s.dev.pwr.restartAt = some e → e ≤ instant s.dev.now t →
    Runs (.recoveryRestart t) s fun d => d.pwr.booting = true ∧ d.pwr.booted = false ∧ d.now = instant s.dev.now t ∧
      d.pwr.rstCause = 3)

/-- Presence, power fail, the analog domain, DORMANT and the wakes (R338–R343). Clauses rest on the model's choices of log
entries 2, 117 and 119. -/
def Obligations.PowerEventsAct : Prop :=
  ∀ (s : State) (t : Time),
  (s.dev.alive = true → Runs (.analogSettled t) s fun d => d.pwr = { s.dev.pwr with settling := false }) ∧
  (s.dev.alive = true → Runs (.presentNRise t) s fun d => d.pwr.presentLow = false ∧ d.pwr.detached = true ∧
    d.pwr.parkPend = some (s.dev.pwr.parkPend.getD 3) ∧ (d.bbx.running.isSome = true ∨ d.bbx.waiting.isSome = true)) ∧
  (Runs (.presentNFall t) s fun d => d.pwr = { s.dev.pwr with presentLow := true }) ∧
  (s.dev.alive = true → Runs (.pfailNFall t) s fun d => d.pwr.pfailLow = true ∧
    d.pwr.parkPend = some (s.dev.pwr.parkPend.getD 4) ∧ (d.bbx.running.isSome = true ∨ d.bbx.waiting.isSome = true)) ∧
  (s.dev.alive = true → Runs (.pfailNRise t) s fun d => d.pwr = { s.dev.pwr with pfailLow := false }) ∧
  (s.dev.alive = true → s.dev.pwr.dormantPend = true → s.dev.bbx.running = none → s.dev.pwr.wakeKept = none →
    Runs (.dormantEntry t) s fun d => d.pwr.st = .dormant ∧ d.pwr.booted = false ∧ d.now = instant s.dev.now t ∧
      d.crit.barrierUp = 0 ∧ d.crit.soLatch = 0xFFF ∧ d.reg .pwrWake 0 = s.dev.reg .pwrWake 0 ∧
      d.reg64 .pwrWakeT 0 = s.dev.reg64 .pwrWakeT 0 ∧ d.emus = s.dev.emus.map EmuOut.kept) ∧
  (∀ source port, s.dev.pwr.st = .dormant → (s.dev.at t).wakeEnabled source port = true →
    Runs (.wake t source port) s fun d => d.pwr.booting = true ∧ d.pwr.wake = source ∧ d.pwr.st = .parked) ∧
  (∀ port, s.dev.pwr.st ≠ .dormant → s.dev.pwr.dormantPend = true → s.dev.pwr.wakeKept = none →
    s.dev.bbx.waiting = none →
    Runs (.wake t 1 port) s fun d =>
      d.pwr = { s.dev.pwr with wakeKept := some 1, wakeAt := some (instant s.dev.now t) })

/-- The debug port (R344–R348, R365). Clauses rest on the model's choices of log entries 2, 112 and 118. -/
def Obligations.DebugEventsAct : Prop :=
  ∀ (s : State) (t : Time), s.dev.alive = true →
  (s.dev.fld .protDbg 0 0 2 = 2 → s.dev.pwr.dbg = .closed →
    Runs (.debugPortRequest t 1 none) s fun d => d.pwr = { s.dev.pwr with dbg := .observe }) ∧
  (s.dev.fld .protDbg 0 0 2 = 1 →
    Runs (.debugPortRequest t 1 none) s fun d => d.pwr.dbg = s.dev.pwr.dbg ∧
      ∃ n, d.pwr.nonce = some n ∧ n.target = 1 ∧ n.expires = instant s.dev.now t + 60 * unitsPerSec) ∧
  (s.dev.crit.sealed = false → s.dev.pwr.st = .parked → s.dev.pwr.dbg ≠ .openDbg →
    Runs (.debugPortRequest t 2 none) s fun d => d.pwr = { s.dev.pwr with dbg := .openDbg }) ∧
  (s.dev.crit.sealed = true →
    Runs (.debugPortRequest t 2 none) s fun d => d.pwr = s.dev.pwr ∧ d.reg .dbgAuthFail 0 = s.dev.reg .dbgAuthFail 0) ∧
  (∀ target n key sig, s.dev.pwr.nonce = some n →
    Runs (.debugPortRequest t target (some (key, sig))) s fun d =>
      if (s.dev.at t).dbgRefusal key sig = 0 then
        d.pwr = { s.dev.pwr with nonce := none, dbg := if n.target = 2 then .openDbg else .observe }
      else d.pwr = { s.dev.pwr with nonce := none }) ∧
  (s.dev.pwr.dbg = .observe → Runs (.debugPortRelease t) s fun d => d.pwr = { s.dev.pwr with dbg := .closed }) ∧
  (s.dev.pwr.st = .parked → s.dev.crit.barrierUp = 0 →
    Runs (.extestLoad t) s fun d => d.pwr = { s.dev.pwr with extest := true }) ∧
  (s.dev.pwr.st ≠ .parked ∨ s.dev.crit.barrierUp ≠ 0 → Runs (.extestLoad t) s fun d => d.pwr = s.dev.pwr ∧ d.regBit .dbgStat 0 6 = true) ∧
  (Runs (.extestLeave t) s fun d => d.pwr = { s.dev.pwr with extest := false }) ∧
  (∀ n, s.dev.pwr.nonce = some n → n.expires ≤ instant s.dev.now t →
    Runs (.nonceExpiry t) s fun d => d.pwr = { s.dev.pwr with nonce := none }) ∧
  (s.dev.pwr.dbg = .openDbg → Runs (.coreHalt t) s fun d => d.pwr = { s.dev.pwr with halted := true } ∧ d.mgmtUp = false) ∧
  (Runs (.coreResume t) s fun d => d.pwr = { s.dev.pwr with halted := false })

/-- Memory errors, odometers, prediction and the black box (R355–R360, R363, R364). Clauses rest on the model's choices of log
entries 2, 121, 123 and 124. -/
def Obligations.HealthEventsAct : Prop :=
  ∀ (s : State) (t : Time), s.dev.alive = true →
  (∀ c, hasCluster c s.dev = true → Runs (.tableRebuildComplete t c) s fun d => c ∉ d.hlt.rebuilding) ∧
  (∀ m addr errs owner late, m < 9 → 1 ≤ errs → errs ≤ 2 → late ≤ 100 →
    Runs (.scrubStep t m addr errs owner late) s fun d =>
      d.fld .hltCorr m 0 32 = satNat 32 (s.dev.fld .hltCorr m 0 32 + 1) ∧ d.lanes = s.dev.lanes ∧ d.trc = s.dev.trc) ∧
  (∀ addr errs owner late, 3 ≤ errs → late ≤ 100 → memWf s.dev.trc.mem = true →
    Runs (.scrubStep t 4 addr errs owner late) s fun d => d.reg .hltLastAddr 4 = addr ∧
      d.fld .hltUncorr 4 0 16 = satNat 16 (s.dev.fld .hltUncorr 4 0 16 + 1) ∧
      memReads d.trc.mem (addr.toNat / 8 * 8) 8 = zeros 8 ∧
      ∀ a, a < addr.toNat / 8 * 8 ∨ addr.toNat / 8 * 8 + 8 ≤ a → memRead d.trc.mem a = memRead s.dev.trc.mem a) ∧
  (s.dev.mgmtUp = true → Runs (.eccHourlyCheck t) s fun d => d.hlt.corrHour = List.replicate 10 0 ∧
    ((∃ m < 10, 100 < s.dev.hlt.corrHour.getD m 0) → d.regBit .hltStat 0 6 = true)) ∧
  (∀ ppm, s.dev.mgmtUp = true → Runs (.odometerUpdate t ppm) s fun d => d.hlt.odo.roDeg = ppm ∧
    d.hlt.odoCopies = [some d.hlt.odo, s.dev.hlt.odoCopies.headD none]) ∧
  (s.dev.mgmtUp = true → Runs (.eolPredict t) s fun d =>
    d.hlt.days = (s.dev.hlt.odo.fractions :: s.dev.hlt.days).take 90 ∧ d.hlt.dayCount = d.hlt.days.length) ∧
  (∀ w, s.dev.mgmtUp = true → s.dev.bbx.waiting = some w → w.due ≤ instant s.dev.now t → s.dev.bbx.running = none →
    Runs (.bbxDeferredCommit t) s fun d => d.bbx.waiting = none ∧ d.bbx.commit = none ∧
      ∃ r, d.bbx.running = some r ∧ r.kind = w.kind ∧ r.t = w.t ∧ r.merged = w.merged) ∧
  (∀ r, s.dev.bbx.running = some r → s.dev.bbx.waiting = none → s.dev.hlt.probation = none →
    (Runs (.bbxCommitComplete t true) s fun d => d.bbx.running = none ∧ d.bbx.commit = some r) ∧
    (Runs (.bbxCommitComplete t false) s fun d => d.bbx.running = none ∧ d.bbx.commit = none))

/-- The pauses of the management plane and probation (R373–R375). Clauses rest on the model's choices of log entries 2, 116 and
120. -/
def Obligations.UpdateEventsAct : Prop :=
  ∀ (s : State) (t : Time), s.dev.alive = true →
  (∀ x, s.dev.hlt.pause = some x → x.why = 0 → x.reloading = false → instant s.dev.now t ≤ readyBy x →
    Runs (.fwReady t) s fun d => d.hlt.pause = none ∧ d.hlt.runSlot = x.new ∧ d.hlt.oldSlot = x.old ∧
      d.hlt.probation = some (instant s.dev.now t + 60 * unitsPerSec)) ∧
  (∀ x, s.dev.hlt.pause = some x → x.why = 0 → x.reloading = false → readyBy x ≤ instant s.dev.now t →
    Runs (.fwReadyTimeout t) s fun d => d.hlt.pause = some { x with reloading := true } ∧ d.hlt.probation = none ∧
      d.regBit .hltStat 0 4 = true) ∧
  (∀ x, s.dev.hlt.pause = some x → x.reloading = true →
    Runs (.firmwareReloaded t) s fun d => d.hlt.pause = none ∧ d.hlt.runSlot = if x.why = 0 then x.old else x.new) ∧
  (s.dev.hlt.probation = none → s.dev.hlt.pause = none → s.dev.pwr.recovery = false →
    Runs (.heartbeatMissed t) s fun d => d.mgmtUp = false ∧ d.hlt.runSlot = s.dev.hlt.runSlot ∧
      d.fld .fwCnt 0 0 16 = satNat 16 (s.dev.fld .fwCnt 0 0 16 + 1) ∧
      ∃ x, d.hlt.pause = some x ∧ x.why = 2 ∧ x.cause = 2 ∧ x.start = instant s.dev.now t) ∧
  (∀ e, s.dev.hlt.probation = some e → s.dev.hlt.pause = none →
    Runs (.heartbeatMissed t) s fun d => d.hlt.probation = none ∧ d.regBit .hltStat 0 4 = true ∧
      ∃ x, d.hlt.pause = some x ∧ x.why = 1 ∧ x.new = s.dev.hlt.oldSlot) ∧
  (∀ e ok, s.dev.mgmtUp = true → s.dev.hlt.probation = some e → e ≤ instant s.dev.now t →
    Runs (.probationPass t ok) s fun d => d.hlt.probation = none ∧ d.hlt.recRetry = (if ok then false else true) ∧
      d.hlt.recSlot = (if ok then s.dev.hlt.runSlot else s.dev.hlt.recSlot)) ∧
  (∀ ok, s.dev.mgmtUp = true → s.dev.hlt.recRetry = true →
    Runs (.slotRecordRetry t ok) s fun d => d.hlt.recRetry = (if ok then false else true) ∧
      d.hlt.recSlot = (if ok then s.dev.hlt.runSlot else s.dev.hlt.recSlot))

/-- The frame of the time commands: they change the time unit, the registers named and the log, and the frames sent by the port
that runs 802.1AS. The one edge that takes over an armed `TIME_SET` moves the stamps of the clock too. Clauses rest on the
model's choices of log entries 3 and 12. -/
def Obligations.TimeCommandsKeep : Prop :=
  ∀ (s : State) (t : Time) (port domain interval : Nat) (rx gm u v w : Time) (two fu : Bool) (id : Quad),
  Keeps (.syncMessage t port domain rx gm interval two fu) s
    (logs.or { time := true, reg := words 0 [.timeOffset, .timeRate, .timeStat] }) ∧
  Keeps (.announceMessage t port domain id) s
    (logs.or { reg := fun i k => i = .timeGmId || words 0 [.timeStat] i k }) ∧
  Keeps (.pdelayReqReceive t port) s { time := true, port := (· = port) } ∧
  Keeps (.pdelayReqSend t) s { time := true, port := (· = s.dev.fld .timeCtrl 0 4 2) } ∧
  Keeps (.pdelayResponse t port u v w) s { time := true, reg := words 0 [.timePdelay] } ∧
  Keeps (.syncTimeout t) s (logs.or { time := true, reg := words 0 [.timeCnt] }) ∧
  (s.dev.time.src ≠ 3 ∨ s.dev.time.setPend = none → Keeps (.syncInEdge t interval) s
    (logs.or { time := true, reg := words 0 [.timeCnt, .timeOffset, .timeRate, .timeStat] })) ∧
  Keeps (.syncInEdge t interval) s (logs.or
    { time := true, staged := true, port := every, pfe := every, saf := true, safLane := every, conn := every
      reg := words 0 [.timeCnt, .timeOffset, .timeRate, .timeStat] }) ∧
  Keeps (.syncInMissing t) s (logs.or { time := true }) ∧ Keeps .syncOutPulse s { time := true } ∧
  Keeps .syncOutPulseEnd s { time := true }

/-- The frame of the events of excitation, acquisition and tracker: another group, another lane and every other unit stand.
Clauses rest on the model's choices of log entry 3. -/
def Obligations.SignalEventsKeep : Prop :=
  ∀ (s : State) (t : Time) (g n w : Nat),
  Keeps (.rampComplete t g) s { group := (· = g), acq := (· / 8 = g), trk := (· / 8 = g) } ∧
  Keeps (.excHalfPeriod t g w) s ((laneWork s.dev (· / 8 = g)).or
    { hlt := true, group := (· = g), reg := words g [.excStat] }) ∧
  (∀ x, Keeps (.demodSample t n x) s
    ((laneWork s.dev (· = n)).or { reg := words n [.acqCnt, .acqStat, .trkErrPk] })) ∧
  (∀ x, Keeps (.carrierPeriod t n x) s (logs.or { acq := (· = n), reg := words n [.acqStat] })) ∧
  Keeps (.phaseFastEnd t n) s { acq := (· = n) } ∧
  Keeps (.losConfirm t n) s ((laneWork s.dev (· = n)).or { hlt := true }) ∧
  Keeps (.losClear t n) s { acq := (· = n), trk := (· = n) } ∧
  Keeps (.modulatorReset t n w) s ((laneWork s.dev (· = n)).or { hlt := true }) ∧
  Keeps (.modulatorResetEnd t n w) s { acq := (· = n) } ∧
  Keeps (.rangeNarrowCount t n) s { acq := (· = n) } ∧
  Keeps (.rangeChange t n) s { acq := (· = n), reg := words n [.acqCnt] } ∧
  Keeps (.ratioEval t n) s (logs.or { acq := (· = n), reg := words n [.acqStat] }) ∧
  Keeps (.lockLoss t n) s ((laneWork s.dev (· = n)).or { hlt := true }) ∧
  Keeps (.overspeed t n) s ((laneWork s.dev (· = n)).or { hlt := true }) ∧
  Keeps (.reacqFastEnd t n) s { trk := (· = n) } ∧
  Keeps (.lockRegained t n) s ((logs.or (outputsOf s.dev (· = n))).or { trk := (· = n) }) ∧
  Keeps (.segmentEnd t n) s (logs.or { map := (· = n), reg := words n [.mapSeg, .segRej] }) ∧
  Keeps (.mapEvaluate t n) s (logs.or { map := (· = n), reg := words n [.mapSeg] }) ∧
  Keeps (.mapDriftCheck t n) s (logs.or { map := (· = n), reg := words n [.mapStat] }) ∧
  Keeps (.fadeComplete t n) s (logs.or { map := (· = n) })

/-- The frame of the events of pulse inputs, of outputs and of process channels: another input, output or channel stands, and so
does every lane that is not on its detour through the input or stalled by the output. Clauses rest on the model's choices of log
entry 3. -/
def Obligations.PulseEventsKeep : Prop :=
  ∀ (s : State) (t : Time) (i : Nat),
  let on (n : Nat) : Bool := (s.dev.lane n).trk.detour && s.dev.detSrc n = i
  let mls : May := { mls := fun j => s.dev.mlsSrc j = i, reg := fun r j => (r = .mlsCnt || r = .mlsStat) && s.dev.mlsSrc j = i }
  let pin : May := (laneWork s.dev on).or { pin := (· = i), hlt := true }
  (∀ a b z, Keeps (.pulseEdge t i a b z) s ((pin.or mls).or { reg := words i [.pinErr, .pinStat] })) ∧
  Keeps (.indexEvent t i) s ((pin.or mls).or { reg := words i [.pinStat, .pinZdrift] }) ∧
  (∀ w, Keeps (.switchDebounce t i w) s (pin.or mls)) ∧
  (∀ pair, Keeps (.wireFault t i pair) s pin) ∧ Keeps (.wireFaultClear t i) s pin ∧ Keeps (.pulseStill t i) s pin ∧
  Keeps (.serTransferStart i) s { pin := (· = i) } ∧
  (∀ x, Keeps (.serTransferEnd t i x) s (pin.or { reg := words i [.pinErr, .pinStat] })) ∧
  Keeps (.emuEdgeEmit t i) s (logs.or { emu := (· = i) }) ∧
  Keeps (.stepEmit i) s ((logs.or (outputsOf s.dev fun n => n = s.dev.emuLane i && s.dev.stepFb n = some i)).or
    { emu := (· = i) }) ∧
  Keeps (.stallDetect t i) s
    ((laneWork s.dev (· = s.dev.emuLane i)).or { hlt := true, emu := (· = i), reg := words i [.emuCnt] }) ∧
  (∀ x, Keeps (.pfeConversionEnd t i x) s (logs.or { pfe := every, reg := words i [.pfeCarry, .pfeCnt, .pfeSteps] })) ∧
  Keeps (.pfeValueAvailable t i) s { pfe := (· = i) } ∧
  (∀ v, Keeps (.dieTempUpdate t v) s { hlt := true })

/-- The frame of the events of the frame: the safety monitor's barriers, the ports' requests and the excitation stand where the
event does not name them. Clauses rest on the model's choices of log entry 3. -/
def Obligations.FrameEventsKeep : Prop :=
  ∀ (s : State) (t : Time) (n : Nat),
  (∀ ds, Keeps (.frameTick ds) s
    { reg := fun _ _ => true, lane := every, acq := every, trk := every, map := every, loop := every, prf := every,
      group := every, port := every, pin := every, mls := every, emu := every, vm := every, pfe := every, safLane := every,
      conn := every, saf := true, crit := true, time := true, bbx := true, hlt := true, pwr := true, trc := true, staged := true }) ∧
  (∀ late, Keeps (.outputJunction late) s
    { lane := every, acq := every, trk := every, map := every, loop := every, prf := every, port := every, emu := every,
      safLane := every, conn := every, time := true, bbx := true, hlt := true, trc := true, ro := true,
      reg := fun i _ => [.bbxStat, .emuStat, .emuCnt, .coefStat, .dmdFf, .dmdOut, .frmLateAll, .frmLateCnt, .iP, .iT, .iV,
        .laneStat, .loopStat, .posDem, .posErr, .safCnt, .stageExp, .trkCnt, .trmOut, .velDem, .velErr].contains i }) ∧
  Keeps (.lateWorkComplete t n) s ((laneWork s.dev (· = n)).or
    { hlt := true
      reg := fun i k => i = .stageExp || words (clusterOf n) [.engFail, .engRetry] i k ||
        words n [.coefCnt, .safCnt, .coefStat, .iP, .iT, .iV, .loopStat, .posErr, .trmOut, .velDem, .velErr] i k }) ∧
  Keeps (.timedCommandDue t n) s
    { reg := fun _ _ => true, lane := every, acq := every, trk := every, map := every, prf := every, loop := every,
      group := every, pin := every, emu := every, vm := every, pfe := every, bbx := true, hlt := true, staged := true } ∧
  Keeps (.followingError t n) s ((laneWork s.dev (· = n)).or { hlt := true }) ∧
  Keeps (.trimSourceFault t n) s ((laneWork s.dev (· = n)).or { hlt := true }) ∧
  Keeps (.masterTimeout t n) s (logs.or { prf := (· = n) }) ∧
  (∀ started failing, Keeps (.clusterSelfTest t n started failing) s
    (logs.or { cluster := (· = n), hlt := true, port := every, staged := true, reg := words 0 [.fwCnt, .hltStat] })) ∧
  Keeps (.traceDone t) s (logs.or { trc := true })

/-- The frame of packets, links, SPI and records: the port's own queues, counters and status, and the log. A lane's records
change nothing of the lane but its own part; a container acts on the safety monitor. Clauses rest on the model's choices of log
entry 3. -/
def Obligations.PortEventsKeep : Prop :=
  ∀ (s : State) (t : Time) (p : Nat),
  (∀ f bad, Keeps (.packetReceive t p f bad) s (logs.or
    { port := every
      reg := fun i k => words p [.hpPosted, .hpQmax, .hpRxCrc, .hpRxGen, .hpStat, .hpTxBusy] i k ||
        words 4 [.hpQmax, .hpRxCrc, .hpRxGen, .hpTxBusy] i k })) ∧
  Keeps (.replyTransmit t p) s { port := (· = p), reg := words p [.hpTxReply] } ∧
  (∀ ok, Keeps (.backgroundJobComplete t p ok) s (logs.or
    { hlt := true, map := every, port := every, pwr := true, staged := true, reg := fun i _ => i = .hpPosted })) ∧
  Keeps (.groupTimeout t p) s (logs.or { port := (· = p), staged := true }) ∧
  Keeps (.writeLogSummary t p) s (logs.or { port := (· = p) }) ∧
  (∀ b, Keeps (.linkStatusFrame t p b) s (logs.or { port := (· = p), reg := words p [.hpStat] })) ∧
  Keeps (.linkStatusSend t p) s { port := (· = p) } ∧
  Keeps (.linkStatusTimeout t p) s (logs.or { port := (· = p), reg := words p [.hpStat] }) ∧
  Keeps (.linkSyncLoss t p) s (logs.or { port := (· = p), reg := words p [.hpStat] }) ∧
  (∀ b, Keeps (.linkUp t p b) s (logs.or { port := (· = p), reg := words p [.hpStat] })) ∧
  (∀ b, Keeps (.spiWrite t b) s (logs.or { port := every, reg := words 4 [.hpQmax, .hpRxCrc, .hpRxGen, .hpTxBusy] })) ∧
  (∀ n, Keeps (.spiRead t n) s { port := (· = 4), reg := words 4 [.hpTxReply] }) ∧
  Keeps (.spiStatus t) s { port := (· = 4) } ∧
  (∀ b, Keeps (.inboundPartReceive t p b) s { port := (· = p) }) ∧
  Keeps (.inboundPartAccept p) s ((reaction s.dev every).or
    { conn := every, port := (· = p), staged := true
      reg := fun i k => i = .connCnt || words p [.hpInBad, .hpInCnt] i k }) ∧
  (∀ n, Keeps (.inboundMiss t n) s (logs.or { lane := (· = n) })) ∧
  Keeps (.recordTransmit p) s { port := (· = p), reg := words p [.hpInBad, .hpTxRec] }

/-- The frame of the safety monitor: a reaction brings down the barriers of the groups concerned and raises none; only
SAFE_RST_EDGE raises. No event of the monitor touches a lane's motion or a loop. Clauses rest on the model's choices of log
entry 3. -/
def Obligations.SafetyEventsKeep : Prop :=
  ∀ (s : State) (t : Time) (k : Nat),
  (∀ a b, Keeps (.watchSample t k a b) s (logs.or { saf := true, safLane := (· = k) })) ∧
  (∀ fn, Keeps (.safetyViolation t k fn) s ((reaction s.dev (· / 8 = k / 8)).or { reg := words k [.safCnt] })) ∧
  Keeps (.xcmpFail t k) s (reaction s.dev (· / 8 = k / 8)) ∧
  (∀ g ok, Keeps (.safetySelfTest t k g ok) s (reaction s.dev every)) ∧
  Keeps (.soTestPulse t k) s { saf := true } ∧
  (∀ low, Keeps (.soTestPulseEnd t k low) s (reaction s.dev every)) ∧
  (∀ kind, Keeps (.soReadbackFault t k kind) s (reaction s.dev every)) ∧
  (∀ level, Keeps (.siLevelChange t k level) s { saf := true }) ∧
  Keeps (.siDemand t k) s (reaction s.dev fun n => (s.dev.siGroups k).contains (n / 8)) ∧
  Keeps (.siDiscrepancy t k) s (reaction s.dev fun n => (s.dev.siGroups k).contains (n / 8)) ∧
  Keeps (.connectionWatchdog k) s ((reaction s.dev fun n => ((s.dev.params.connLanes k).map groupOf).contains (n / 8)).or
    { conn := (· = k), reg := words k [.connCnt] }) ∧
  Keeps (.ss1Expiry k) s (reaction s.dev every) ∧
  Keeps (.armingExpiry k) s { safLane := (· = k) } ∧
  (∀ tag mask, Keeps (.safeResetAck t k tag mask) s (logs.or { saf := true, safLane := every, conn := (· = k) })) ∧
  (∀ tag target index v, Keeps (.safeParamWr t k tag target index v) s (logs.or { saf := true, conn := (· = k) })) ∧
  (∀ tag crc, Keeps (.safeParamCommit t k tag crc) s (logs.or { saf := true, conn := (· = k) })) ∧
  (∀ tag target index which, Keeps (.safeParamRd t k tag target index which) s (logs.or { saf := true, conn := (· = k) })) ∧
  (∀ ok, Keeps (.safeParamCommitComplete t ok) s ((reaction s.dev every).or { conn := every })) ∧
  (∀ width, Keeps (.safeRstEdge t width) s (logs.or { crit := true, raise := true, saf := true, safLane := every })) ∧
  Keeps (.safeRstHeld t) s (logs.or { saf := true })

/-- The frame of boot, power, debug, memory protection and update, but for the commands that restart the device. Clauses rest on
the model's choices of log entry 3. -/
def Obligations.DeviceEventsKeep : Prop :=
  ∀ (s : State) (t : Time),
  Keeps (.boot t) s { reg := fun _ _ => true, bbx := true, hlt := true, pwr := true } ∧
  (∀ x, Keeps (.bootComplete t x) s
    ((reaction s.dev every).or { conn := every, pwr := true, reg := fun i _ => i = .hpCtrl })) ∧
  Keeps (.analogSettled t) s { pwr := true } ∧
  Keeps (.presentNRise t) s (logs.or { hlt := true, pwr := true }) ∧ Keeps (.presentNFall t) s { pwr := true } ∧
  Keeps (.pfailNFall t) s (logs.or { hlt := true, pwr := true }) ∧ Keeps (.pfailNRise t) s (logs.or { pwr := true }) ∧
  (∀ target x, Keeps (.debugPortRequest t target x) s (logs.or { pwr := true, reg := words 0 [.dbgAuthFail] })) ∧
  Keeps (.debugPortRelease t) s (logs.or { pwr := true }) ∧
  Keeps (.extestLoad t) s (logs.or { pwr := true, reg := words 0 [.dbgStat] }) ∧
  Keeps (.extestLeave t) s { pwr := true } ∧ Keeps (.nonceExpiry t) s { pwr := true } ∧
  Keeps (.coreHalt t) s { pwr := true } ∧ Keeps (.coreResume t) s { pwr := true, bbx := true, hlt := true } ∧
  (∀ c, Keeps (.tableRebuildComplete t c) s { hlt := true }) ∧
  (∀ m a errs owner late, errs ≤ 2 → late ≤ 100 →
    Keeps (.scrubStep t m a errs owner late) s { hlt := true, reg := words m [.hltCorr] }) ∧
  Keeps (.eccHourlyCheck t) s (logs.or { hlt := true, reg := words 0 [.hltStat] }) ∧
  (∀ x, Keeps (.odometerUpdate t x) s { hlt := true }) ∧
  Keeps (.eolPredict t) s (logs.or { hlt := true, reg := fun i _ => i = .eolFrac || i = .eolStat }) ∧
  Keeps (.bbxDeferredCommit t) s { bbx := true, hlt := true } ∧
  (∀ ok, Keeps (.bbxCommitComplete t ok) s (logs.or
    { hlt := true, port := every, staged := true
      reg := fun i k => i = .hpPosted || words 0 [.bbxCommits, .fwCnt, .hltStat] i k })) ∧
  Keeps (.fwReady t) s (logs.or { hlt := true }) ∧
  Keeps (.fwReadyTimeout t) s (logs.or { hlt := true, reg := words 0 [.fwCnt, .hltStat] }) ∧
  Keeps (.firmwareReloaded t) s (logs.or { hlt := true }) ∧
  Keeps (.heartbeatMissed t) s
    (logs.or { hlt := true, port := every, staged := true, reg := words 0 [.fwCnt, .hltStat] }) ∧
  (∀ ok, Keeps (.probationPass t ok) s (logs.or { hlt := true })) ∧
  (∀ ok, Keeps (.slotRecordRetry t ok) s { hlt := true })

/-- The frame of every request, in a group or not: no request touches a lane's acquisition, tracker, map or profile, a pulse
input, a process channel, the excitation, the safety monitor, the barriers or the record of the frame: it stages, and the commit
junction acts. -/
def Obligations.RequestsKeep : Prop :=
  ∀ (s : State) (r : Request) (t : Time),
  let m : May := { reg := fun _ _ => true, port := every, mls := every, emu := every, loop := every, time := true, bbx := true,
                   hlt := true, pwr := true, trc := true, staged := true }
  (∀ c ∈ [.identify r, .ping r, .regRd r, .regWr r, .regRmw r, .laneStage r, .laneCommit r, .laneRead r, .lanePark r,
      .laneAdmit r, .mapLearn r, .mapStatus r, .mapSave r, .mapLoad r, .coefStage r, .coefSwap r, .coefRead r, .move r,
      .limits r, .gear r, .trim r, .stop r, .waypoint r, .vmaster r, .pinAdjust r, .mlsRead r, .mlsArm r, .emuAlign r,
      .chConfig r, .chRead r, .traceArm r, .traceRead r, .traceForce r, .bbxRead r, .bbxCommit r, .fwLoad r, .fwVerify r,
      .fwSwitch r, .powerState r, .detach r, .protStatus r, .seal r, .dbgChallenge r, .dbgResponse r, .dbgClose r,
      .dbgOpenFree r], Keeps c s m) ∧
  Keeps (.packetServe t) s { m with serve := true }

/-- The frame of the requests outside a group that read or stage: nothing but their service and, for each, what it names. -/
def Obligations.SingleRequestsKeep : Prop :=
  ∀ (s : State) (r : Request), (s.dev.port r.port).group = none → r.flags.getLsbD 2 = false →
  (∀ c ∈ [.identify r, .ping r, .protStatus r, .laneAdmit r, .laneRead r, .mapStatus r, .coefRead r, .traceRead r, .chRead r,
      .bbxRead r, .mapLearn r, .mapSave r, .mapLoad r, .pinAdjust r, .mlsArm r, .emuAlign r, .laneCommit r, .lanePark r,
      .coefSwap r, .traceArm r, .move r, .limits r, .gear r, .trim r, .stop r, .waypoint r, .vmaster r, .fwSwitch r, .fwVerify r,
      .fwLoad r, .bbxCommit r], Keeps c s (serving r.port)) ∧
  Keeps (.coefStage r) s ((serving r.port).or { loop := (· = r.lane) }) ∧
  Keeps (.mlsRead r) s ((serving r.port).or { mls := (· = byteAt r.payload 0) }) ∧
  Keeps (.traceForce r) s ((serving r.port).or { trc := true }) ∧
  (∀ c ∈ [.powerState r, .detach r, .seal r, .dbgChallenge r, .dbgClose r, .dbgOpenFree r],
    Keeps c s ((serving r.port).or { pwr := true })) ∧
  Keeps (.dbgResponse r) s ((serving r.port).or { pwr := true, reg := words 0 [.dbgAuthFail] })

/-- The frame of reads and writes of registers outside a group: a read changes only words with RC bits that it names, a write
only the words that it names, where they have no SW field, and what such a word does at once. A register field with a row of its
own that is staged changes no register, `TIME_SET` the time unit, `MLS_POP` and `MLS_FLUSH` the records of their unit. -/
def Obligations.RegisterRequestsKeep : Prop :=
  ∀ (s : State) (r : Request), (s.dev.port r.port).group = none → r.flags.getLsbD 2 = false →
  let b := r.payload
  Keeps (.regRd r) s ((serving r.port).or { reg := fun i k => hit (u32At b 0) (u16At b 4) i k && i.info.rc ≠ 0 }) ∧
  Keeps (.regWr r) s ((serving r.port).or (writing (hit (u32At b 0) (u16At b 4)))) ∧
  Keeps (.regRmw r) s ((serving r.port).or (writing (hit (u32At b 0) 1))) ∧
  Keeps (.laneStage r) s ((serving r.port).or (writing fun i k => (stageEntries b (u16At b 2)).any fun e =>
    hit (0x100000 + 0x400 * r.lane + e.1) 1 i k)) ∧
  Keeps (.chConfig r) s ((serving r.port).or (writing (hit (0x60000 + 0x100 * byteAt b 0) 64))) ∧
  (∀ w : RegWrite, (s.dev.port w.port).group = none →
    (∀ n (q : BitVec 3), ∀ c ∈ [.generatorRun w n, .generatorStop w n, .posArm w n, .detReturn w n, .reqState w n q, .pfeTare w n,
        .pfeForceRst w n], Keeps c s (serving w.port)) ∧
    (∀ v, Keeps (.timeSet w v) s ((serving w.port).or { time := true })) ∧
    (∀ j, Keeps (.mlsPop w j) s ((serving w.port).or { mls := (· = j) })) ∧
    (∀ j, Keeps (.mlsFlush w j) s ((serving w.port).or { mls := (· = j) })))
end

