-- ==== Sys2Proof/Laws/State.lean ====
section
/-! SUPPORT. One lemma per field per update of the device: what each named update writes, and that it leaves every other field
alone. -/
namespace Sys2Proof.Machine

@[simp] theorem Dev.at_now (d : Dev) (t : Time) : (d.at t).now = instant d.now t := (rfl)
@[simp] theorem Dev.at_crit (d : Dev) (t : Time) : (d.at t).crit = d.crit := (rfl)
@[simp] theorem Dev.at_regs (d : Dev) (t : Time) : (d.at t).regs = d.regs := (rfl)
@[simp] theorem Dev.at_staged (d : Dev) (t : Time) : (d.at t).staged = d.staged := (rfl)
@[simp] theorem Dev.at_freeCtr (d : Dev) (t : Time) : (d.at t).freeCtr = d.freeCtr := (rfl)
@[simp] theorem Dev.at_variant (d : Dev) (t : Time) : (d.at t).variant = d.variant := (rfl)
@[simp] theorem Dev.at_time (d : Dev) (t : Time) : (d.at t).time = d.time := (rfl)
@[simp] theorem Dev.at_lanes (d : Dev) (t : Time) : (d.at t).lanes = d.lanes := (rfl)
@[simp] theorem Dev.at_groups (d : Dev) (t : Time) : (d.at t).groups = d.groups := (rfl)
@[simp] theorem Dev.at_bbx (d : Dev) (t : Time) : (d.at t).bbx = d.bbx := (rfl)
@[simp] theorem Dev.at_hlt (d : Dev) (t : Time) : (d.at t).hlt = d.hlt := (rfl)
@[simp] theorem Dev.at_ports (d : Dev) (t : Time) : (d.at t).ports = d.ports := (rfl)
@[simp] theorem Dev.at_serveNext (d : Dev) (t : Time) : (d.at t).serveNext = d.serveNext := (rfl)
@[simp] theorem Dev.at_pwr (d : Dev) (t : Time) : (d.at t).pwr = d.pwr := (rfl)
@[simp] theorem Dev.at_pins (d : Dev) (t : Time) : (d.at t).pins = d.pins := (rfl)
@[simp] theorem Dev.at_mls (d : Dev) (t : Time) : (d.at t).mls = d.mls := (rfl)
@[simp] theorem Dev.at_emus (d : Dev) (t : Time) : (d.at t).emus = d.emus := (rfl)
@[simp] theorem Dev.at_clusters (d : Dev) (t : Time) : (d.at t).clusters = d.clusters := (rfl)
@[simp] theorem Dev.at_vms (d : Dev) (t : Time) : (d.at t).vms = d.vms := (rfl)
@[simp] theorem Dev.at_pfe (d : Dev) (t : Time) : (d.at t).pfe = d.pfe := (rfl)
@[simp] theorem Dev.at_trc (d : Dev) (t : Time) : (d.at t).trc = d.trc := (rfl)
@[simp] theorem Dev.at_saf (d : Dev) (t : Time) : (d.at t).saf = d.saf := (rfl)
@[simp] theorem Dev.at_ro (d : Dev) (t : Time) : (d.at t).ro = d.ro := (rfl)

@[simp] theorem Dev.setReg_now (d : Dev) (i : RegId) (k : Nat) (v : Word) : (d.setReg i k v).now = d.now := (rfl)
@[simp] theorem Dev.setReg_crit (d : Dev) (i : RegId) (k : Nat) (v : Word) : (d.setReg i k v).crit = d.crit := (rfl)
@[simp] theorem Dev.setReg_regs (d : Dev) (i : RegId) (k : Nat) (v : Word) : (d.setReg i k v).regs = d.regs.set i k v := (rfl)
@[simp] theorem Dev.setReg_staged (d : Dev) (i : RegId) (k : Nat) (v : Word) : (d.setReg i k v).staged = d.staged := (rfl)
@[simp] theorem Dev.setReg_freeCtr (d : Dev) (i : RegId) (k : Nat) (v : Word) : (d.setReg i k v).freeCtr = d.freeCtr := (rfl)
@[simp] theorem Dev.setReg_variant (d : Dev) (i : RegId) (k : Nat) (v : Word) : (d.setReg i k v).variant = d.variant := (rfl)
@[simp] theorem Dev.setReg_time (d : Dev) (i : RegId) (k : Nat) (v : Word) : (d.setReg i k v).time = d.time := (rfl)
@[simp] theorem Dev.setReg_lanes (d : Dev) (i : RegId) (k : Nat) (v : Word) : (d.setReg i k v).lanes = d.lanes := (rfl)
@[simp] theorem Dev.setReg_groups (d : Dev) (i : RegId) (k : Nat) (v : Word) : (d.setReg i k v).groups = d.groups := (rfl)
@[simp] theorem Dev.setReg_bbx (d : Dev) (i : RegId) (k : Nat) (v : Word) : (d.setReg i k v).bbx = d.bbx := (rfl)
@[simp] theorem Dev.setReg_hlt (d : Dev) (i : RegId) (k : Nat) (v : Word) : (d.setReg i k v).hlt = d.hlt := (rfl)
@[simp] theorem Dev.setReg_ports (d : Dev) (i : RegId) (k : Nat) (v : Word) : (d.setReg i k v).ports = d.ports := (rfl)
@[simp] theorem Dev.setReg_serveNext (d : Dev) (i : RegId) (k : Nat) (v : Word) : (d.setReg i k v).serveNext = d.serveNext := (rfl)
@[simp] theorem Dev.setReg_pwr (d : Dev) (i : RegId) (k : Nat) (v : Word) : (d.setReg i k v).pwr = d.pwr := (rfl)
@[simp] theorem Dev.setReg_pins (d : Dev) (i : RegId) (k : Nat) (v : Word) : (d.setReg i k v).pins = d.pins := (rfl)
@[simp] theorem Dev.setReg_mls (d : Dev) (i : RegId) (k : Nat) (v : Word) : (d.setReg i k v).mls = d.mls := (rfl)
@[simp] theorem Dev.setReg_emus (d : Dev) (i : RegId) (k : Nat) (v : Word) : (d.setReg i k v).emus = d.emus := (rfl)
@[simp] theorem Dev.setReg_clusters (d : Dev) (i : RegId) (k : Nat) (v : Word) : (d.setReg i k v).clusters = d.clusters := (rfl)
@[simp] theorem Dev.setReg_vms (d : Dev) (i : RegId) (k : Nat) (v : Word) : (d.setReg i k v).vms = d.vms := (rfl)
@[simp] theorem Dev.setReg_pfe (d : Dev) (i : RegId) (k : Nat) (v : Word) : (d.setReg i k v).pfe = d.pfe := (rfl)
@[simp] theorem Dev.setReg_trc (d : Dev) (i : RegId) (k : Nat) (v : Word) : (d.setReg i k v).trc = d.trc := (rfl)
@[simp] theorem Dev.setReg_saf (d : Dev) (i : RegId) (k : Nat) (v : Word) : (d.setReg i k v).saf = d.saf := (rfl)
@[simp] theorem Dev.setReg_ro (d : Dev) (i : RegId) (k : Nat) (v : Word) : (d.setReg i k v).ro = d.ro := (rfl)

@[simp] theorem Dev.setFld_now (d : Dev) (i : RegId) (k lo n v : Nat) : (d.setFld i k lo n v).now = d.now := (rfl)
@[simp] theorem Dev.setFld_crit (d : Dev) (i : RegId) (k lo n v : Nat) : (d.setFld i k lo n v).crit = d.crit := (rfl)
@[simp] theorem Dev.setFld_regs (d : Dev) (i : RegId) (k lo n v : Nat) : (d.setFld i k lo n v).regs = d.regs.set i k (withField (d.reg i k) lo n v) := (rfl)
@[simp] theorem Dev.setFld_staged (d : Dev) (i : RegId) (k lo n v : Nat) : (d.setFld i k lo n v).staged = d.staged := (rfl)
@[simp] theorem Dev.setFld_freeCtr (d : Dev) (i : RegId) (k lo n v : Nat) : (d.setFld i k lo n v).freeCtr = d.freeCtr := (rfl)
@[simp] theorem Dev.setFld_variant (d : Dev) (i : RegId) (k lo n v : Nat) : (d.setFld i k lo n v).variant = d.variant := (rfl)
@[simp] theorem Dev.setFld_time (d : Dev) (i : RegId) (k lo n v : Nat) : (d.setFld i k lo n v).time = d.time := (rfl)
@[simp] theorem Dev.setFld_lanes (d : Dev) (i : RegId) (k lo n v : Nat) : (d.setFld i k lo n v).lanes = d.lanes := (rfl)
@[simp] theorem Dev.setFld_groups (d : Dev) (i : RegId) (k lo n v : Nat) : (d.setFld i k lo n v).groups = d.groups := (rfl)
@[simp] theorem Dev.setFld_bbx (d : Dev) (i : RegId) (k lo n v : Nat) : (d.setFld i k lo n v).bbx = d.bbx := (rfl)
@[simp] theorem Dev.setFld_hlt (d : Dev) (i : RegId) (k lo n v : Nat) : (d.setFld i k lo n v).hlt = d.hlt := (rfl)
@[simp] theorem Dev.setFld_ports (d : Dev) (i : RegId) (k lo n v : Nat) : (d.setFld i k lo n v).ports = d.ports := (rfl)
@[simp] theorem Dev.setFld_serveNext (d : Dev) (i : RegId) (k lo n v : Nat) : (d.setFld i k lo n v).serveNext = d.serveNext := (rfl)
@[simp] theorem Dev.setFld_pwr (d : Dev) (i : RegId) (k lo n v : Nat) : (d.setFld i k lo n v).pwr = d.pwr := (rfl)
@[simp] theorem Dev.setFld_pins (d : Dev) (i : RegId) (k lo n v : Nat) : (d.setFld i k lo n v).pins = d.pins := (rfl)
@[simp] theorem Dev.setFld_mls (d : Dev) (i : RegId) (k lo n v : Nat) : (d.setFld i k lo n v).mls = d.mls := (rfl)
@[simp] theorem Dev.setFld_emus (d : Dev) (i : RegId) (k lo n v : Nat) : (d.setFld i k lo n v).emus = d.emus := (rfl)
@[simp] theorem Dev.setFld_clusters (d : Dev) (i : RegId) (k lo n v : Nat) : (d.setFld i k lo n v).clusters = d.clusters := (rfl)
@[simp] theorem Dev.setFld_vms (d : Dev) (i : RegId) (k lo n v : Nat) : (d.setFld i k lo n v).vms = d.vms := (rfl)
@[simp] theorem Dev.setFld_pfe (d : Dev) (i : RegId) (k lo n v : Nat) : (d.setFld i k lo n v).pfe = d.pfe := (rfl)
@[simp] theorem Dev.setFld_trc (d : Dev) (i : RegId) (k lo n v : Nat) : (d.setFld i k lo n v).trc = d.trc := (rfl)
@[simp] theorem Dev.setFld_saf (d : Dev) (i : RegId) (k lo n v : Nat) : (d.setFld i k lo n v).saf = d.saf := (rfl)
@[simp] theorem Dev.setFld_ro (d : Dev) (i : RegId) (k lo n v : Nat) : (d.setFld i k lo n v).ro = d.ro := (rfl)

@[simp] theorem Dev.noteFresh_now (d : Dev) (i : RegId) (k : Nat) (g : Word → Word) : (d.noteFresh i k g).now = d.now := (rfl)
@[simp] theorem Dev.noteFresh_crit (d : Dev) (i : RegId) (k : Nat) (g : Word → Word) : (d.noteFresh i k g).crit = d.crit := (rfl)
@[simp] theorem Dev.noteFresh_regs (d : Dev) (i : RegId) (k : Nat) (g : Word → Word) : (d.noteFresh i k g).regs = d.regs := (rfl)
@[simp] theorem Dev.noteFresh_staged (d : Dev) (i : RegId) (k : Nat) (g : Word → Word) : (d.noteFresh i k g).staged = d.staged := (rfl)
@[simp] theorem Dev.noteFresh_freeCtr (d : Dev) (i : RegId) (k : Nat) (g : Word → Word) : (d.noteFresh i k g).freeCtr = d.freeCtr := (rfl)
@[simp] theorem Dev.noteFresh_variant (d : Dev) (i : RegId) (k : Nat) (g : Word → Word) : (d.noteFresh i k g).variant = d.variant := (rfl)
@[simp] theorem Dev.noteFresh_time (d : Dev) (i : RegId) (k : Nat) (g : Word → Word) : (d.noteFresh i k g).time = d.time := (rfl)
@[simp] theorem Dev.noteFresh_lanes (d : Dev) (i : RegId) (k : Nat) (g : Word → Word) : (d.noteFresh i k g).lanes = d.lanes := (rfl)
@[simp] theorem Dev.noteFresh_groups (d : Dev) (i : RegId) (k : Nat) (g : Word → Word) : (d.noteFresh i k g).groups = d.groups := (rfl)
@[simp] theorem Dev.noteFresh_bbx (d : Dev) (i : RegId) (k : Nat) (g : Word → Word) : (d.noteFresh i k g).bbx = d.bbx := (rfl)
@[simp] theorem Dev.noteFresh_hlt (d : Dev) (i : RegId) (k : Nat) (g : Word → Word) : (d.noteFresh i k g).hlt = d.hlt := (rfl)
@[simp] theorem Dev.noteFresh_ports (d : Dev) (i : RegId) (k : Nat) (g : Word → Word) : (d.noteFresh i k g).ports = d.ports := (rfl)
@[simp] theorem Dev.noteFresh_serveNext (d : Dev) (i : RegId) (k : Nat) (g : Word → Word) : (d.noteFresh i k g).serveNext = d.serveNext := (rfl)
@[simp] theorem Dev.noteFresh_pwr (d : Dev) (i : RegId) (k : Nat) (g : Word → Word) : (d.noteFresh i k g).pwr = d.pwr := (rfl)
@[simp] theorem Dev.noteFresh_pins (d : Dev) (i : RegId) (k : Nat) (g : Word → Word) : (d.noteFresh i k g).pins = d.pins := (rfl)
@[simp] theorem Dev.noteFresh_mls (d : Dev) (i : RegId) (k : Nat) (g : Word → Word) : (d.noteFresh i k g).mls = d.mls := (rfl)
@[simp] theorem Dev.noteFresh_emus (d : Dev) (i : RegId) (k : Nat) (g : Word → Word) : (d.noteFresh i k g).emus = d.emus := (rfl)
@[simp] theorem Dev.noteFresh_clusters (d : Dev) (i : RegId) (k : Nat) (g : Word → Word) : (d.noteFresh i k g).clusters = d.clusters := (rfl)
@[simp] theorem Dev.noteFresh_vms (d : Dev) (i : RegId) (k : Nat) (g : Word → Word) : (d.noteFresh i k g).vms = d.vms := (rfl)
@[simp] theorem Dev.noteFresh_pfe (d : Dev) (i : RegId) (k : Nat) (g : Word → Word) : (d.noteFresh i k g).pfe = d.pfe := (rfl)
@[simp] theorem Dev.noteFresh_trc (d : Dev) (i : RegId) (k : Nat) (g : Word → Word) : (d.noteFresh i k g).trc = d.trc := (rfl)
@[simp] theorem Dev.noteFresh_saf (d : Dev) (i : RegId) (k : Nat) (g : Word → Word) : (d.noteFresh i k g).saf = d.saf := (rfl)
@[simp] theorem Dev.noteFresh_ro (d : Dev) (i : RegId) (k : Nat) (g : Word → Word) : (d.noteFresh i k g).ro = d.ro := (rfl)
@[simp] theorem Dev.noteFresh_reg (d : Dev) (i j : RegId) (k l : Nat) (g : Word → Word) : (d.noteFresh i k g).reg j l = d.reg j l := (rfl)

@[simp] theorem Dev.setFlag_now (d : Dev) (i : RegId) (k b : Nat) : (d.setFlag i k b).now = d.now := (rfl)
@[simp] theorem Dev.setFlag_crit (d : Dev) (i : RegId) (k b : Nat) : (d.setFlag i k b).crit = d.crit := (rfl)
@[simp] theorem Dev.setFlag_regs (d : Dev) (i : RegId) (k b : Nat) : (d.setFlag i k b).regs = d.regs.set i k (d.reg i k ||| bitAt b true) := (rfl)
@[simp] theorem Dev.setFlag_staged (d : Dev) (i : RegId) (k b : Nat) : (d.setFlag i k b).staged = d.staged := (rfl)
@[simp] theorem Dev.setFlag_freeCtr (d : Dev) (i : RegId) (k b : Nat) : (d.setFlag i k b).freeCtr = d.freeCtr := (rfl)
@[simp] theorem Dev.setFlag_variant (d : Dev) (i : RegId) (k b : Nat) : (d.setFlag i k b).variant = d.variant := (rfl)
@[simp] theorem Dev.setFlag_time (d : Dev) (i : RegId) (k b : Nat) : (d.setFlag i k b).time = d.time := (rfl)
@[simp] theorem Dev.setFlag_lanes (d : Dev) (i : RegId) (k b : Nat) : (d.setFlag i k b).lanes = d.lanes := (rfl)
@[simp] theorem Dev.setFlag_groups (d : Dev) (i : RegId) (k b : Nat) : (d.setFlag i k b).groups = d.groups := (rfl)
@[simp] theorem Dev.setFlag_bbx (d : Dev) (i : RegId) (k b : Nat) : (d.setFlag i k b).bbx = d.bbx := (rfl)
@[simp] theorem Dev.setFlag_hlt (d : Dev) (i : RegId) (k b : Nat) : (d.setFlag i k b).hlt = d.hlt := (rfl)
@[simp] theorem Dev.setFlag_ports (d : Dev) (i : RegId) (k b : Nat) : (d.setFlag i k b).ports = d.ports := (rfl)
@[simp] theorem Dev.setFlag_serveNext (d : Dev) (i : RegId) (k b : Nat) : (d.setFlag i k b).serveNext = d.serveNext := (rfl)
@[simp] theorem Dev.setFlag_pwr (d : Dev) (i : RegId) (k b : Nat) : (d.setFlag i k b).pwr = d.pwr := (rfl)
@[simp] theorem Dev.setFlag_pins (d : Dev) (i : RegId) (k b : Nat) : (d.setFlag i k b).pins = d.pins := (rfl)
@[simp] theorem Dev.setFlag_mls (d : Dev) (i : RegId) (k b : Nat) : (d.setFlag i k b).mls = d.mls := (rfl)
@[simp] theorem Dev.setFlag_emus (d : Dev) (i : RegId) (k b : Nat) : (d.setFlag i k b).emus = d.emus := (rfl)
@[simp] theorem Dev.setFlag_clusters (d : Dev) (i : RegId) (k b : Nat) : (d.setFlag i k b).clusters = d.clusters := (rfl)
@[simp] theorem Dev.setFlag_vms (d : Dev) (i : RegId) (k b : Nat) : (d.setFlag i k b).vms = d.vms := (rfl)
@[simp] theorem Dev.setFlag_pfe (d : Dev) (i : RegId) (k b : Nat) : (d.setFlag i k b).pfe = d.pfe := (rfl)
@[simp] theorem Dev.setFlag_trc (d : Dev) (i : RegId) (k b : Nat) : (d.setFlag i k b).trc = d.trc := (rfl)
@[simp] theorem Dev.setFlag_saf (d : Dev) (i : RegId) (k b : Nat) : (d.setFlag i k b).saf = d.saf := (rfl)
@[simp] theorem Dev.setFlag_ro (d : Dev) (i : RegId) (k b : Nat) : (d.setFlag i k b).ro = d.ro := (rfl)

@[simp] theorem Dev.addCnt_now (d : Dev) (i : RegId) (k lo n m : Nat) : (d.addCnt i k lo n m).now = d.now := (rfl)
@[simp] theorem Dev.addCnt_crit (d : Dev) (i : RegId) (k lo n m : Nat) : (d.addCnt i k lo n m).crit = d.crit := (rfl)
@[simp] theorem Dev.addCnt_staged (d : Dev) (i : RegId) (k lo n m : Nat) : (d.addCnt i k lo n m).staged = d.staged := (rfl)
@[simp] theorem Dev.addCnt_freeCtr (d : Dev) (i : RegId) (k lo n m : Nat) : (d.addCnt i k lo n m).freeCtr = d.freeCtr := (rfl)
@[simp] theorem Dev.addCnt_variant (d : Dev) (i : RegId) (k lo n m : Nat) : (d.addCnt i k lo n m).variant = d.variant := (rfl)
@[simp] theorem Dev.addCnt_time (d : Dev) (i : RegId) (k lo n m : Nat) : (d.addCnt i k lo n m).time = d.time := (rfl)
@[simp] theorem Dev.addCnt_lanes (d : Dev) (i : RegId) (k lo n m : Nat) : (d.addCnt i k lo n m).lanes = d.lanes := (rfl)
@[simp] theorem Dev.addCnt_groups (d : Dev) (i : RegId) (k lo n m : Nat) : (d.addCnt i k lo n m).groups = d.groups := (rfl)
@[simp] theorem Dev.addCnt_bbx (d : Dev) (i : RegId) (k lo n m : Nat) : (d.addCnt i k lo n m).bbx = d.bbx := (rfl)
@[simp] theorem Dev.addCnt_hlt (d : Dev) (i : RegId) (k lo n m : Nat) : (d.addCnt i k lo n m).hlt = d.hlt := (rfl)
@[simp] theorem Dev.addCnt_ports (d : Dev) (i : RegId) (k lo n m : Nat) : (d.addCnt i k lo n m).ports = d.ports := (rfl)
@[simp] theorem Dev.addCnt_serveNext (d : Dev) (i : RegId) (k lo n m : Nat) : (d.addCnt i k lo n m).serveNext = d.serveNext := (rfl)
@[simp] theorem Dev.addCnt_pwr (d : Dev) (i : RegId) (k lo n m : Nat) : (d.addCnt i k lo n m).pwr = d.pwr := (rfl)
@[simp] theorem Dev.addCnt_pins (d : Dev) (i : RegId) (k lo n m : Nat) : (d.addCnt i k lo n m).pins = d.pins := (rfl)
@[simp] theorem Dev.addCnt_mls (d : Dev) (i : RegId) (k lo n m : Nat) : (d.addCnt i k lo n m).mls = d.mls := (rfl)
@[simp] theorem Dev.addCnt_emus (d : Dev) (i : RegId) (k lo n m : Nat) : (d.addCnt i k lo n m).emus = d.emus := (rfl)
@[simp] theorem Dev.addCnt_clusters (d : Dev) (i : RegId) (k lo n m : Nat) : (d.addCnt i k lo n m).clusters = d.clusters := (rfl)
@[simp] theorem Dev.addCnt_vms (d : Dev) (i : RegId) (k lo n m : Nat) : (d.addCnt i k lo n m).vms = d.vms := (rfl)
@[simp] theorem Dev.addCnt_pfe (d : Dev) (i : RegId) (k lo n m : Nat) : (d.addCnt i k lo n m).pfe = d.pfe := (rfl)
@[simp] theorem Dev.addCnt_trc (d : Dev) (i : RegId) (k lo n m : Nat) : (d.addCnt i k lo n m).trc = d.trc := (rfl)
@[simp] theorem Dev.addCnt_saf (d : Dev) (i : RegId) (k lo n m : Nat) : (d.addCnt i k lo n m).saf = d.saf := (rfl)
@[simp] theorem Dev.addCnt_ro (d : Dev) (i : RegId) (k lo n m : Nat) : (d.addCnt i k lo n m).ro = d.ro := (rfl)

@[simp] theorem Dev.setReg64_now (d : Dev) (i : RegId) (k v : Nat) : (d.setReg64 i k v).now = d.now := (rfl)
@[simp] theorem Dev.setReg64_crit (d : Dev) (i : RegId) (k v : Nat) : (d.setReg64 i k v).crit = d.crit := (rfl)
@[simp] theorem Dev.setReg64_staged (d : Dev) (i : RegId) (k v : Nat) : (d.setReg64 i k v).staged = d.staged := (rfl)
@[simp] theorem Dev.setReg64_freeCtr (d : Dev) (i : RegId) (k v : Nat) : (d.setReg64 i k v).freeCtr = d.freeCtr := (rfl)
@[simp] theorem Dev.setReg64_variant (d : Dev) (i : RegId) (k v : Nat) : (d.setReg64 i k v).variant = d.variant := (rfl)
@[simp] theorem Dev.setReg64_time (d : Dev) (i : RegId) (k v : Nat) : (d.setReg64 i k v).time = d.time := (rfl)
@[simp] theorem Dev.setReg64_lanes (d : Dev) (i : RegId) (k v : Nat) : (d.setReg64 i k v).lanes = d.lanes := (rfl)
@[simp] theorem Dev.setReg64_groups (d : Dev) (i : RegId) (k v : Nat) : (d.setReg64 i k v).groups = d.groups := (rfl)
@[simp] theorem Dev.setReg64_bbx (d : Dev) (i : RegId) (k v : Nat) : (d.setReg64 i k v).bbx = d.bbx := (rfl)
@[simp] theorem Dev.setReg64_hlt (d : Dev) (i : RegId) (k v : Nat) : (d.setReg64 i k v).hlt = d.hlt := (rfl)
@[simp] theorem Dev.setReg64_ports (d : Dev) (i : RegId) (k v : Nat) : (d.setReg64 i k v).ports = d.ports := (rfl)
@[simp] theorem Dev.setReg64_serveNext (d : Dev) (i : RegId) (k v : Nat) : (d.setReg64 i k v).serveNext = d.serveNext := (rfl)
@[simp] theorem Dev.setReg64_pwr (d : Dev) (i : RegId) (k v : Nat) : (d.setReg64 i k v).pwr = d.pwr := (rfl)
@[simp] theorem Dev.setReg64_pins (d : Dev) (i : RegId) (k v : Nat) : (d.setReg64 i k v).pins = d.pins := (rfl)
@[simp] theorem Dev.setReg64_mls (d : Dev) (i : RegId) (k v : Nat) : (d.setReg64 i k v).mls = d.mls := (rfl)
@[simp] theorem Dev.setReg64_emus (d : Dev) (i : RegId) (k v : Nat) : (d.setReg64 i k v).emus = d.emus := (rfl)
@[simp] theorem Dev.setReg64_clusters (d : Dev) (i : RegId) (k v : Nat) : (d.setReg64 i k v).clusters = d.clusters := (rfl)
@[simp] theorem Dev.setReg64_vms (d : Dev) (i : RegId) (k v : Nat) : (d.setReg64 i k v).vms = d.vms := (rfl)
@[simp] theorem Dev.setReg64_pfe (d : Dev) (i : RegId) (k v : Nat) : (d.setReg64 i k v).pfe = d.pfe := (rfl)
@[simp] theorem Dev.setReg64_trc (d : Dev) (i : RegId) (k v : Nat) : (d.setReg64 i k v).trc = d.trc := (rfl)
@[simp] theorem Dev.setReg64_saf (d : Dev) (i : RegId) (k v : Nat) : (d.setReg64 i k v).saf = d.saf := (rfl)
@[simp] theorem Dev.setReg64_ro (d : Dev) (i : RegId) (k v : Nat) : (d.setReg64 i k v).ro = d.ro := (rfl)

@[simp] theorem Dev.onLane_now (d : Dev) (n : Nat) (f : Lane → Lane) : (d.onLane n f).now = d.now := (rfl)
@[simp] theorem Dev.onLane_crit (d : Dev) (n : Nat) (f : Lane → Lane) : (d.onLane n f).crit = d.crit := (rfl)
@[simp] theorem Dev.onLane_regs (d : Dev) (n : Nat) (f : Lane → Lane) : (d.onLane n f).regs = d.regs := (rfl)
@[simp] theorem Dev.onLane_staged (d : Dev) (n : Nat) (f : Lane → Lane) : (d.onLane n f).staged = d.staged := (rfl)
@[simp] theorem Dev.onLane_freeCtr (d : Dev) (n : Nat) (f : Lane → Lane) : (d.onLane n f).freeCtr = d.freeCtr := (rfl)
@[simp] theorem Dev.onLane_variant (d : Dev) (n : Nat) (f : Lane → Lane) : (d.onLane n f).variant = d.variant := (rfl)
@[simp] theorem Dev.onLane_time (d : Dev) (n : Nat) (f : Lane → Lane) : (d.onLane n f).time = d.time := (rfl)
@[simp] theorem Dev.onLane_lanes (d : Dev) (n : Nat) (f : Lane → Lane) : (d.onLane n f).lanes = d.lanes.modify n f := (rfl)
@[simp] theorem Dev.onLane_groups (d : Dev) (n : Nat) (f : Lane → Lane) : (d.onLane n f).groups = d.groups := (rfl)
@[simp] theorem Dev.onLane_bbx (d : Dev) (n : Nat) (f : Lane → Lane) : (d.onLane n f).bbx = d.bbx := (rfl)
@[simp] theorem Dev.onLane_hlt (d : Dev) (n : Nat) (f : Lane → Lane) : (d.onLane n f).hlt = d.hlt := (rfl)
@[simp] theorem Dev.onLane_ports (d : Dev) (n : Nat) (f : Lane → Lane) : (d.onLane n f).ports = d.ports := (rfl)
@[simp] theorem Dev.onLane_serveNext (d : Dev) (n : Nat) (f : Lane → Lane) : (d.onLane n f).serveNext = d.serveNext := (rfl)
@[simp] theorem Dev.onLane_pwr (d : Dev) (n : Nat) (f : Lane → Lane) : (d.onLane n f).pwr = d.pwr := (rfl)
@[simp] theorem Dev.onLane_pins (d : Dev) (n : Nat) (f : Lane → Lane) : (d.onLane n f).pins = d.pins := (rfl)
@[simp] theorem Dev.onLane_mls (d : Dev) (n : Nat) (f : Lane → Lane) : (d.onLane n f).mls = d.mls := (rfl)
@[simp] theorem Dev.onLane_emus (d : Dev) (n : Nat) (f : Lane → Lane) : (d.onLane n f).emus = d.emus := (rfl)
@[simp] theorem Dev.onLane_clusters (d : Dev) (n : Nat) (f : Lane → Lane) : (d.onLane n f).clusters = d.clusters := (rfl)
@[simp] theorem Dev.onLane_vms (d : Dev) (n : Nat) (f : Lane → Lane) : (d.onLane n f).vms = d.vms := (rfl)
@[simp] theorem Dev.onLane_pfe (d : Dev) (n : Nat) (f : Lane → Lane) : (d.onLane n f).pfe = d.pfe := (rfl)
@[simp] theorem Dev.onLane_trc (d : Dev) (n : Nat) (f : Lane → Lane) : (d.onLane n f).trc = d.trc := (rfl)
@[simp] theorem Dev.onLane_saf (d : Dev) (n : Nat) (f : Lane → Lane) : (d.onLane n f).saf = d.saf := (rfl)
@[simp] theorem Dev.onLane_ro (d : Dev) (n : Nat) (f : Lane → Lane) : (d.onLane n f).ro = d.ro := (rfl)

@[simp] theorem Dev.onGroup_now (d : Dev) (g : Nat) (f : Group → Group) : (d.onGroup g f).now = d.now := (rfl)
@[simp] theorem Dev.onGroup_crit (d : Dev) (g : Nat) (f : Group → Group) : (d.onGroup g f).crit = d.crit := (rfl)
@[simp] theorem Dev.onGroup_regs (d : Dev) (g : Nat) (f : Group → Group) : (d.onGroup g f).regs = d.regs := (rfl)
@[simp] theorem Dev.onGroup_staged (d : Dev) (g : Nat) (f : Group → Group) : (d.onGroup g f).staged = d.staged := (rfl)
@[simp] theorem Dev.onGroup_freeCtr (d : Dev) (g : Nat) (f : Group → Group) : (d.onGroup g f).freeCtr = d.freeCtr := (rfl)
@[simp] theorem Dev.onGroup_variant (d : Dev) (g : Nat) (f : Group → Group) : (d.onGroup g f).variant = d.variant := (rfl)
@[simp] theorem Dev.onGroup_time (d : Dev) (g : Nat) (f : Group → Group) : (d.onGroup g f).time = d.time := (rfl)
@[simp] theorem Dev.onGroup_lanes (d : Dev) (g : Nat) (f : Group → Group) : (d.onGroup g f).lanes = d.lanes := (rfl)
@[simp] theorem Dev.onGroup_groups (d : Dev) (g : Nat) (f : Group → Group) : (d.onGroup g f).groups = d.groups.modify g f := (rfl)
@[simp] theorem Dev.onGroup_bbx (d : Dev) (g : Nat) (f : Group → Group) : (d.onGroup g f).bbx = d.bbx := (rfl)
@[simp] theorem Dev.onGroup_hlt (d : Dev) (g : Nat) (f : Group → Group) : (d.onGroup g f).hlt = d.hlt := (rfl)
@[simp] theorem Dev.onGroup_ports (d : Dev) (g : Nat) (f : Group → Group) : (d.onGroup g f).ports = d.ports := (rfl)
@[simp] theorem Dev.onGroup_serveNext (d : Dev) (g : Nat) (f : Group → Group) : (d.onGroup g f).serveNext = d.serveNext := (rfl)
@[simp] theorem Dev.onGroup_pwr (d : Dev) (g : Nat) (f : Group → Group) : (d.onGroup g f).pwr = d.pwr := (rfl)
@[simp] theorem Dev.onGroup_pins (d : Dev) (g : Nat) (f : Group → Group) : (d.onGroup g f).pins = d.pins := (rfl)
@[simp] theorem Dev.onGroup_mls (d : Dev) (g : Nat) (f : Group → Group) : (d.onGroup g f).mls = d.mls := (rfl)
@[simp] theorem Dev.onGroup_emus (d : Dev) (g : Nat) (f : Group → Group) : (d.onGroup g f).emus = d.emus := (rfl)
@[simp] theorem Dev.onGroup_clusters (d : Dev) (g : Nat) (f : Group → Group) : (d.onGroup g f).clusters = d.clusters := (rfl)
@[simp] theorem Dev.onGroup_vms (d : Dev) (g : Nat) (f : Group → Group) : (d.onGroup g f).vms = d.vms := (rfl)
@[simp] theorem Dev.onGroup_pfe (d : Dev) (g : Nat) (f : Group → Group) : (d.onGroup g f).pfe = d.pfe := (rfl)
@[simp] theorem Dev.onGroup_trc (d : Dev) (g : Nat) (f : Group → Group) : (d.onGroup g f).trc = d.trc := (rfl)
@[simp] theorem Dev.onGroup_saf (d : Dev) (g : Nat) (f : Group → Group) : (d.onGroup g f).saf = d.saf := (rfl)
@[simp] theorem Dev.onGroup_ro (d : Dev) (g : Nat) (f : Group → Group) : (d.onGroup g f).ro = d.ro := (rfl)

@[simp] theorem Dev.onTime_now (d : Dev) (f : TimeSt → TimeSt) : (d.onTime f).now = d.now := (rfl)
@[simp] theorem Dev.onTime_crit (d : Dev) (f : TimeSt → TimeSt) : (d.onTime f).crit = d.crit := (rfl)
@[simp] theorem Dev.onTime_regs (d : Dev) (f : TimeSt → TimeSt) : (d.onTime f).regs = d.regs := (rfl)
@[simp] theorem Dev.onTime_staged (d : Dev) (f : TimeSt → TimeSt) : (d.onTime f).staged = d.staged := (rfl)
@[simp] theorem Dev.onTime_freeCtr (d : Dev) (f : TimeSt → TimeSt) : (d.onTime f).freeCtr = d.freeCtr := (rfl)
@[simp] theorem Dev.onTime_variant (d : Dev) (f : TimeSt → TimeSt) : (d.onTime f).variant = d.variant := (rfl)
@[simp] theorem Dev.onTime_time (d : Dev) (f : TimeSt → TimeSt) : (d.onTime f).time = f d.time := (rfl)
@[simp] theorem Dev.onTime_lanes (d : Dev) (f : TimeSt → TimeSt) : (d.onTime f).lanes = d.lanes := (rfl)
@[simp] theorem Dev.onTime_groups (d : Dev) (f : TimeSt → TimeSt) : (d.onTime f).groups = d.groups := (rfl)
@[simp] theorem Dev.onTime_bbx (d : Dev) (f : TimeSt → TimeSt) : (d.onTime f).bbx = d.bbx := (rfl)
@[simp] theorem Dev.onTime_hlt (d : Dev) (f : TimeSt → TimeSt) : (d.onTime f).hlt = d.hlt := (rfl)
@[simp] theorem Dev.onTime_ports (d : Dev) (f : TimeSt → TimeSt) : (d.onTime f).ports = d.ports := (rfl)
@[simp] theorem Dev.onTime_serveNext (d : Dev) (f : TimeSt → TimeSt) : (d.onTime f).serveNext = d.serveNext := (rfl)
@[simp] theorem Dev.onTime_pwr (d : Dev) (f : TimeSt → TimeSt) : (d.onTime f).pwr = d.pwr := (rfl)
@[simp] theorem Dev.onTime_pins (d : Dev) (f : TimeSt → TimeSt) : (d.onTime f).pins = d.pins := (rfl)
@[simp] theorem Dev.onTime_mls (d : Dev) (f : TimeSt → TimeSt) : (d.onTime f).mls = d.mls := (rfl)
@[simp] theorem Dev.onTime_emus (d : Dev) (f : TimeSt → TimeSt) : (d.onTime f).emus = d.emus := (rfl)
@[simp] theorem Dev.onTime_clusters (d : Dev) (f : TimeSt → TimeSt) : (d.onTime f).clusters = d.clusters := (rfl)
@[simp] theorem Dev.onTime_vms (d : Dev) (f : TimeSt → TimeSt) : (d.onTime f).vms = d.vms := (rfl)
@[simp] theorem Dev.onTime_pfe (d : Dev) (f : TimeSt → TimeSt) : (d.onTime f).pfe = d.pfe := (rfl)
@[simp] theorem Dev.onTime_trc (d : Dev) (f : TimeSt → TimeSt) : (d.onTime f).trc = d.trc := (rfl)
@[simp] theorem Dev.onTime_saf (d : Dev) (f : TimeSt → TimeSt) : (d.onTime f).saf = d.saf := (rfl)
@[simp] theorem Dev.onTime_ro (d : Dev) (f : TimeSt → TimeSt) : (d.onTime f).ro = d.ro := (rfl)

@[simp] theorem Dev.onBbx_now (d : Dev) (f : BlackBox → BlackBox) : (d.onBbx f).now = d.now := (rfl)
@[simp] theorem Dev.onBbx_crit (d : Dev) (f : BlackBox → BlackBox) : (d.onBbx f).crit = d.crit := (rfl)
@[simp] theorem Dev.onBbx_regs (d : Dev) (f : BlackBox → BlackBox) : (d.onBbx f).regs = d.regs := (rfl)
@[simp] theorem Dev.onBbx_staged (d : Dev) (f : BlackBox → BlackBox) : (d.onBbx f).staged = d.staged := (rfl)
@[simp] theorem Dev.onBbx_freeCtr (d : Dev) (f : BlackBox → BlackBox) : (d.onBbx f).freeCtr = d.freeCtr := (rfl)
@[simp] theorem Dev.onBbx_variant (d : Dev) (f : BlackBox → BlackBox) : (d.onBbx f).variant = d.variant := (rfl)
@[simp] theorem Dev.onBbx_time (d : Dev) (f : BlackBox → BlackBox) : (d.onBbx f).time = d.time := (rfl)
@[simp] theorem Dev.onBbx_lanes (d : Dev) (f : BlackBox → BlackBox) : (d.onBbx f).lanes = d.lanes := (rfl)
@[simp] theorem Dev.onBbx_groups (d : Dev) (f : BlackBox → BlackBox) : (d.onBbx f).groups = d.groups := (rfl)
@[simp] theorem Dev.onBbx_bbx (d : Dev) (f : BlackBox → BlackBox) : (d.onBbx f).bbx = f d.bbx := (rfl)
@[simp] theorem Dev.onBbx_hlt (d : Dev) (f : BlackBox → BlackBox) : (d.onBbx f).hlt = d.hlt := (rfl)
@[simp] theorem Dev.onBbx_ports (d : Dev) (f : BlackBox → BlackBox) : (d.onBbx f).ports = d.ports := (rfl)
@[simp] theorem Dev.onBbx_serveNext (d : Dev) (f : BlackBox → BlackBox) : (d.onBbx f).serveNext = d.serveNext := (rfl)
@[simp] theorem Dev.onBbx_pwr (d : Dev) (f : BlackBox → BlackBox) : (d.onBbx f).pwr = d.pwr := (rfl)
@[simp] theorem Dev.onBbx_pins (d : Dev) (f : BlackBox → BlackBox) : (d.onBbx f).pins = d.pins := (rfl)
@[simp] theorem Dev.onBbx_mls (d : Dev) (f : BlackBox → BlackBox) : (d.onBbx f).mls = d.mls := (rfl)
@[simp] theorem Dev.onBbx_emus (d : Dev) (f : BlackBox → BlackBox) : (d.onBbx f).emus = d.emus := (rfl)
@[simp] theorem Dev.onBbx_clusters (d : Dev) (f : BlackBox → BlackBox) : (d.onBbx f).clusters = d.clusters := (rfl)
@[simp] theorem Dev.onBbx_vms (d : Dev) (f : BlackBox → BlackBox) : (d.onBbx f).vms = d.vms := (rfl)
@[simp] theorem Dev.onBbx_pfe (d : Dev) (f : BlackBox → BlackBox) : (d.onBbx f).pfe = d.pfe := (rfl)
@[simp] theorem Dev.onBbx_trc (d : Dev) (f : BlackBox → BlackBox) : (d.onBbx f).trc = d.trc := (rfl)
@[simp] theorem Dev.onBbx_saf (d : Dev) (f : BlackBox → BlackBox) : (d.onBbx f).saf = d.saf := (rfl)
@[simp] theorem Dev.onBbx_ro (d : Dev) (f : BlackBox → BlackBox) : (d.onBbx f).ro = d.ro := (rfl)

@[simp] theorem Dev.onHlt_now (d : Dev) (f : Health → Health) : (d.onHlt f).now = d.now := (rfl)
@[simp] theorem Dev.onHlt_crit (d : Dev) (f : Health → Health) : (d.onHlt f).crit = d.crit := (rfl)
@[simp] theorem Dev.onHlt_regs (d : Dev) (f : Health → Health) : (d.onHlt f).regs = d.regs := (rfl)
@[simp] theorem Dev.onHlt_staged (d : Dev) (f : Health → Health) : (d.onHlt f).staged = d.staged := (rfl)
@[simp] theorem Dev.onHlt_freeCtr (d : Dev) (f : Health → Health) : (d.onHlt f).freeCtr = d.freeCtr := (rfl)
@[simp] theorem Dev.onHlt_variant (d : Dev) (f : Health → Health) : (d.onHlt f).variant = d.variant := (rfl)
@[simp] theorem Dev.onHlt_time (d : Dev) (f : Health → Health) : (d.onHlt f).time = d.time := (rfl)
@[simp] theorem Dev.onHlt_lanes (d : Dev) (f : Health → Health) : (d.onHlt f).lanes = d.lanes := (rfl)
@[simp] theorem Dev.onHlt_groups (d : Dev) (f : Health → Health) : (d.onHlt f).groups = d.groups := (rfl)
@[simp] theorem Dev.onHlt_bbx (d : Dev) (f : Health → Health) : (d.onHlt f).bbx = d.bbx := (rfl)
@[simp] theorem Dev.onHlt_hlt (d : Dev) (f : Health → Health) : (d.onHlt f).hlt = f d.hlt := (rfl)
@[simp] theorem Dev.onHlt_ports (d : Dev) (f : Health → Health) : (d.onHlt f).ports = d.ports := (rfl)
@[simp] theorem Dev.onHlt_serveNext (d : Dev) (f : Health → Health) : (d.onHlt f).serveNext = d.serveNext := (rfl)
@[simp] theorem Dev.onHlt_pwr (d : Dev) (f : Health → Health) : (d.onHlt f).pwr = d.pwr := (rfl)
@[simp] theorem Dev.onHlt_pins (d : Dev) (f : Health → Health) : (d.onHlt f).pins = d.pins := (rfl)
@[simp] theorem Dev.onHlt_mls (d : Dev) (f : Health → Health) : (d.onHlt f).mls = d.mls := (rfl)
@[simp] theorem Dev.onHlt_emus (d : Dev) (f : Health → Health) : (d.onHlt f).emus = d.emus := (rfl)
@[simp] theorem Dev.onHlt_clusters (d : Dev) (f : Health → Health) : (d.onHlt f).clusters = d.clusters := (rfl)
@[simp] theorem Dev.onHlt_vms (d : Dev) (f : Health → Health) : (d.onHlt f).vms = d.vms := (rfl)
@[simp] theorem Dev.onHlt_pfe (d : Dev) (f : Health → Health) : (d.onHlt f).pfe = d.pfe := (rfl)
@[simp] theorem Dev.onHlt_trc (d : Dev) (f : Health → Health) : (d.onHlt f).trc = d.trc := (rfl)
@[simp] theorem Dev.onHlt_saf (d : Dev) (f : Health → Health) : (d.onHlt f).saf = d.saf := (rfl)
@[simp] theorem Dev.onHlt_ro (d : Dev) (f : Health → Health) : (d.onHlt f).ro = d.ro := (rfl)

@[simp] theorem Dev.onPwr_now (d : Dev) (f : Power → Power) : (d.onPwr f).now = d.now := (rfl)
@[simp] theorem Dev.onPwr_crit (d : Dev) (f : Power → Power) : (d.onPwr f).crit = d.crit := (rfl)
@[simp] theorem Dev.onPwr_regs (d : Dev) (f : Power → Power) : (d.onPwr f).regs = d.regs := (rfl)
@[simp] theorem Dev.onPwr_staged (d : Dev) (f : Power → Power) : (d.onPwr f).staged = d.staged := (rfl)
@[simp] theorem Dev.onPwr_freeCtr (d : Dev) (f : Power → Power) : (d.onPwr f).freeCtr = d.freeCtr := (rfl)
@[simp] theorem Dev.onPwr_variant (d : Dev) (f : Power → Power) : (d.onPwr f).variant = d.variant := (rfl)
@[simp] theorem Dev.onPwr_time (d : Dev) (f : Power → Power) : (d.onPwr f).time = d.time := (rfl)
@[simp] theorem Dev.onPwr_lanes (d : Dev) (f : Power → Power) : (d.onPwr f).lanes = d.lanes := (rfl)
@[simp] theorem Dev.onPwr_groups (d : Dev) (f : Power → Power) : (d.onPwr f).groups = d.groups := (rfl)
@[simp] theorem Dev.onPwr_bbx (d : Dev) (f : Power → Power) : (d.onPwr f).bbx = d.bbx := (rfl)
@[simp] theorem Dev.onPwr_hlt (d : Dev) (f : Power → Power) : (d.onPwr f).hlt = d.hlt := (rfl)
@[simp] theorem Dev.onPwr_ports (d : Dev) (f : Power → Power) : (d.onPwr f).ports = d.ports := (rfl)
@[simp] theorem Dev.onPwr_serveNext (d : Dev) (f : Power → Power) : (d.onPwr f).serveNext = d.serveNext := (rfl)
@[simp] theorem Dev.onPwr_pwr (d : Dev) (f : Power → Power) : (d.onPwr f).pwr = f d.pwr := (rfl)
@[simp] theorem Dev.onPwr_pins (d : Dev) (f : Power → Power) : (d.onPwr f).pins = d.pins := (rfl)
@[simp] theorem Dev.onPwr_mls (d : Dev) (f : Power → Power) : (d.onPwr f).mls = d.mls := (rfl)
@[simp] theorem Dev.onPwr_emus (d : Dev) (f : Power → Power) : (d.onPwr f).emus = d.emus := (rfl)
@[simp] theorem Dev.onPwr_clusters (d : Dev) (f : Power → Power) : (d.onPwr f).clusters = d.clusters := (rfl)
@[simp] theorem Dev.onPwr_vms (d : Dev) (f : Power → Power) : (d.onPwr f).vms = d.vms := (rfl)
@[simp] theorem Dev.onPwr_pfe (d : Dev) (f : Power → Power) : (d.onPwr f).pfe = d.pfe := (rfl)
@[simp] theorem Dev.onPwr_trc (d : Dev) (f : Power → Power) : (d.onPwr f).trc = d.trc := (rfl)
@[simp] theorem Dev.onPwr_saf (d : Dev) (f : Power → Power) : (d.onPwr f).saf = d.saf := (rfl)
@[simp] theorem Dev.onPwr_ro (d : Dev) (f : Power → Power) : (d.onPwr f).ro = d.ro := (rfl)

@[simp] theorem Dev.onPort_now (d : Dev) (p : Nat) (f : Port → Port) : (d.onPort p f).now = d.now := (rfl)
@[simp] theorem Dev.onPort_crit (d : Dev) (p : Nat) (f : Port → Port) : (d.onPort p f).crit = d.crit := (rfl)
@[simp] theorem Dev.onPort_regs (d : Dev) (p : Nat) (f : Port → Port) : (d.onPort p f).regs = d.regs := (rfl)
@[simp] theorem Dev.onPort_staged (d : Dev) (p : Nat) (f : Port → Port) : (d.onPort p f).staged = d.staged := (rfl)
@[simp] theorem Dev.onPort_freeCtr (d : Dev) (p : Nat) (f : Port → Port) : (d.onPort p f).freeCtr = d.freeCtr := (rfl)
@[simp] theorem Dev.onPort_variant (d : Dev) (p : Nat) (f : Port → Port) : (d.onPort p f).variant = d.variant := (rfl)
@[simp] theorem Dev.onPort_time (d : Dev) (p : Nat) (f : Port → Port) : (d.onPort p f).time = d.time := (rfl)
@[simp] theorem Dev.onPort_lanes (d : Dev) (p : Nat) (f : Port → Port) : (d.onPort p f).lanes = d.lanes := (rfl)
@[simp] theorem Dev.onPort_groups (d : Dev) (p : Nat) (f : Port → Port) : (d.onPort p f).groups = d.groups := (rfl)
@[simp] theorem Dev.onPort_bbx (d : Dev) (p : Nat) (f : Port → Port) : (d.onPort p f).bbx = d.bbx := (rfl)
@[simp] theorem Dev.onPort_hlt (d : Dev) (p : Nat) (f : Port → Port) : (d.onPort p f).hlt = d.hlt := (rfl)
@[simp] theorem Dev.onPort_ports (d : Dev) (p : Nat) (f : Port → Port) : (d.onPort p f).ports = d.ports.modify p f := (rfl)
@[simp] theorem Dev.onPort_serveNext (d : Dev) (p : Nat) (f : Port → Port) : (d.onPort p f).serveNext = d.serveNext := (rfl)
@[simp] theorem Dev.onPort_pwr (d : Dev) (p : Nat) (f : Port → Port) : (d.onPort p f).pwr = d.pwr := (rfl)
@[simp] theorem Dev.onPort_pins (d : Dev) (p : Nat) (f : Port → Port) : (d.onPort p f).pins = d.pins := (rfl)
@[simp] theorem Dev.onPort_mls (d : Dev) (p : Nat) (f : Port → Port) : (d.onPort p f).mls = d.mls := (rfl)
@[simp] theorem Dev.onPort_emus (d : Dev) (p : Nat) (f : Port → Port) : (d.onPort p f).emus = d.emus := (rfl)
@[simp] theorem Dev.onPort_clusters (d : Dev) (p : Nat) (f : Port → Port) : (d.onPort p f).clusters = d.clusters := (rfl)
@[simp] theorem Dev.onPort_vms (d : Dev) (p : Nat) (f : Port → Port) : (d.onPort p f).vms = d.vms := (rfl)
@[simp] theorem Dev.onPort_pfe (d : Dev) (p : Nat) (f : Port → Port) : (d.onPort p f).pfe = d.pfe := (rfl)
@[simp] theorem Dev.onPort_trc (d : Dev) (p : Nat) (f : Port → Port) : (d.onPort p f).trc = d.trc := (rfl)
@[simp] theorem Dev.onPort_saf (d : Dev) (p : Nat) (f : Port → Port) : (d.onPort p f).saf = d.saf := (rfl)
@[simp] theorem Dev.onPort_ro (d : Dev) (p : Nat) (f : Port → Port) : (d.onPort p f).ro = d.ro := (rfl)

@[simp] theorem Dev.onAcq_now (d : Dev) (n : Nat) (f : Acq → Acq) : (d.onAcq n f).now = d.now := (rfl)
@[simp] theorem Dev.onAcq_crit (d : Dev) (n : Nat) (f : Acq → Acq) : (d.onAcq n f).crit = d.crit := (rfl)
@[simp] theorem Dev.onAcq_regs (d : Dev) (n : Nat) (f : Acq → Acq) : (d.onAcq n f).regs = d.regs := (rfl)
@[simp] theorem Dev.onAcq_staged (d : Dev) (n : Nat) (f : Acq → Acq) : (d.onAcq n f).staged = d.staged := (rfl)
@[simp] theorem Dev.onAcq_freeCtr (d : Dev) (n : Nat) (f : Acq → Acq) : (d.onAcq n f).freeCtr = d.freeCtr := (rfl)
@[simp] theorem Dev.onAcq_variant (d : Dev) (n : Nat) (f : Acq → Acq) : (d.onAcq n f).variant = d.variant := (rfl)
@[simp] theorem Dev.onAcq_time (d : Dev) (n : Nat) (f : Acq → Acq) : (d.onAcq n f).time = d.time := (rfl)
@[simp] theorem Dev.onAcq_groups (d : Dev) (n : Nat) (f : Acq → Acq) : (d.onAcq n f).groups = d.groups := (rfl)
@[simp] theorem Dev.onAcq_bbx (d : Dev) (n : Nat) (f : Acq → Acq) : (d.onAcq n f).bbx = d.bbx := (rfl)
@[simp] theorem Dev.onAcq_hlt (d : Dev) (n : Nat) (f : Acq → Acq) : (d.onAcq n f).hlt = d.hlt := (rfl)
@[simp] theorem Dev.onAcq_ports (d : Dev) (n : Nat) (f : Acq → Acq) : (d.onAcq n f).ports = d.ports := (rfl)
@[simp] theorem Dev.onAcq_serveNext (d : Dev) (n : Nat) (f : Acq → Acq) : (d.onAcq n f).serveNext = d.serveNext := (rfl)
@[simp] theorem Dev.onAcq_pwr (d : Dev) (n : Nat) (f : Acq → Acq) : (d.onAcq n f).pwr = d.pwr := (rfl)
@[simp] theorem Dev.onAcq_pins (d : Dev) (n : Nat) (f : Acq → Acq) : (d.onAcq n f).pins = d.pins := (rfl)
@[simp] theorem Dev.onAcq_mls (d : Dev) (n : Nat) (f : Acq → Acq) : (d.onAcq n f).mls = d.mls := (rfl)
@[simp] theorem Dev.onAcq_emus (d : Dev) (n : Nat) (f : Acq → Acq) : (d.onAcq n f).emus = d.emus := (rfl)
@[simp] theorem Dev.onAcq_clusters (d : Dev) (n : Nat) (f : Acq → Acq) : (d.onAcq n f).clusters = d.clusters := (rfl)
@[simp] theorem Dev.onAcq_vms (d : Dev) (n : Nat) (f : Acq → Acq) : (d.onAcq n f).vms = d.vms := (rfl)
@[simp] theorem Dev.onAcq_pfe (d : Dev) (n : Nat) (f : Acq → Acq) : (d.onAcq n f).pfe = d.pfe := (rfl)
@[simp] theorem Dev.onAcq_trc (d : Dev) (n : Nat) (f : Acq → Acq) : (d.onAcq n f).trc = d.trc := (rfl)
@[simp] theorem Dev.onAcq_saf (d : Dev) (n : Nat) (f : Acq → Acq) : (d.onAcq n f).saf = d.saf := (rfl)
@[simp] theorem Dev.onAcq_ro (d : Dev) (n : Nat) (f : Acq → Acq) : (d.onAcq n f).ro = d.ro := (rfl)

@[simp] theorem Dev.onTrk_now (d : Dev) (n : Nat) (f : Tracker → Tracker) : (d.onTrk n f).now = d.now := (rfl)
@[simp] theorem Dev.onTrk_crit (d : Dev) (n : Nat) (f : Tracker → Tracker) : (d.onTrk n f).crit = d.crit := (rfl)
@[simp] theorem Dev.onTrk_regs (d : Dev) (n : Nat) (f : Tracker → Tracker) : (d.onTrk n f).regs = d.regs := (rfl)
@[simp] theorem Dev.onTrk_staged (d : Dev) (n : Nat) (f : Tracker → Tracker) : (d.onTrk n f).staged = d.staged := (rfl)
@[simp] theorem Dev.onTrk_freeCtr (d : Dev) (n : Nat) (f : Tracker → Tracker) : (d.onTrk n f).freeCtr = d.freeCtr := (rfl)
@[simp] theorem Dev.onTrk_variant (d : Dev) (n : Nat) (f : Tracker → Tracker) : (d.onTrk n f).variant = d.variant := (rfl)
@[simp] theorem Dev.onTrk_time (d : Dev) (n : Nat) (f : Tracker → Tracker) : (d.onTrk n f).time = d.time := (rfl)
@[simp] theorem Dev.onTrk_groups (d : Dev) (n : Nat) (f : Tracker → Tracker) : (d.onTrk n f).groups = d.groups := (rfl)
@[simp] theorem Dev.onTrk_bbx (d : Dev) (n : Nat) (f : Tracker → Tracker) : (d.onTrk n f).bbx = d.bbx := (rfl)
@[simp] theorem Dev.onTrk_hlt (d : Dev) (n : Nat) (f : Tracker → Tracker) : (d.onTrk n f).hlt = d.hlt := (rfl)
@[simp] theorem Dev.onTrk_ports (d : Dev) (n : Nat) (f : Tracker → Tracker) : (d.onTrk n f).ports = d.ports := (rfl)
@[simp] theorem Dev.onTrk_serveNext (d : Dev) (n : Nat) (f : Tracker → Tracker) : (d.onTrk n f).serveNext = d.serveNext := (rfl)
@[simp] theorem Dev.onTrk_pwr (d : Dev) (n : Nat) (f : Tracker → Tracker) : (d.onTrk n f).pwr = d.pwr := (rfl)
@[simp] theorem Dev.onTrk_pins (d : Dev) (n : Nat) (f : Tracker → Tracker) : (d.onTrk n f).pins = d.pins := (rfl)
@[simp] theorem Dev.onTrk_mls (d : Dev) (n : Nat) (f : Tracker → Tracker) : (d.onTrk n f).mls = d.mls := (rfl)
@[simp] theorem Dev.onTrk_emus (d : Dev) (n : Nat) (f : Tracker → Tracker) : (d.onTrk n f).emus = d.emus := (rfl)
@[simp] theorem Dev.onTrk_clusters (d : Dev) (n : Nat) (f : Tracker → Tracker) : (d.onTrk n f).clusters = d.clusters := (rfl)
@[simp] theorem Dev.onTrk_vms (d : Dev) (n : Nat) (f : Tracker → Tracker) : (d.onTrk n f).vms = d.vms := (rfl)
@[simp] theorem Dev.onTrk_pfe (d : Dev) (n : Nat) (f : Tracker → Tracker) : (d.onTrk n f).pfe = d.pfe := (rfl)
@[simp] theorem Dev.onTrk_trc (d : Dev) (n : Nat) (f : Tracker → Tracker) : (d.onTrk n f).trc = d.trc := (rfl)
@[simp] theorem Dev.onTrk_saf (d : Dev) (n : Nat) (f : Tracker → Tracker) : (d.onTrk n f).saf = d.saf := (rfl)
@[simp] theorem Dev.onTrk_ro (d : Dev) (n : Nat) (f : Tracker → Tracker) : (d.onTrk n f).ro = d.ro := (rfl)

@[simp] theorem Dev.onMap_now (d : Dev) (n : Nat) (f : MapSt → MapSt) : (d.onMap n f).now = d.now := (rfl)
@[simp] theorem Dev.onMap_crit (d : Dev) (n : Nat) (f : MapSt → MapSt) : (d.onMap n f).crit = d.crit := (rfl)
@[simp] theorem Dev.onMap_regs (d : Dev) (n : Nat) (f : MapSt → MapSt) : (d.onMap n f).regs = d.regs := (rfl)
@[simp] theorem Dev.onMap_staged (d : Dev) (n : Nat) (f : MapSt → MapSt) : (d.onMap n f).staged = d.staged := (rfl)
@[simp] theorem Dev.onMap_freeCtr (d : Dev) (n : Nat) (f : MapSt → MapSt) : (d.onMap n f).freeCtr = d.freeCtr := (rfl)
@[simp] theorem Dev.onMap_variant (d : Dev) (n : Nat) (f : MapSt → MapSt) : (d.onMap n f).variant = d.variant := (rfl)
@[simp] theorem Dev.onMap_time (d : Dev) (n : Nat) (f : MapSt → MapSt) : (d.onMap n f).time = d.time := (rfl)
@[simp] theorem Dev.onMap_groups (d : Dev) (n : Nat) (f : MapSt → MapSt) : (d.onMap n f).groups = d.groups := (rfl)
@[simp] theorem Dev.onMap_bbx (d : Dev) (n : Nat) (f : MapSt → MapSt) : (d.onMap n f).bbx = d.bbx := (rfl)
@[simp] theorem Dev.onMap_hlt (d : Dev) (n : Nat) (f : MapSt → MapSt) : (d.onMap n f).hlt = d.hlt := (rfl)
@[simp] theorem Dev.onMap_ports (d : Dev) (n : Nat) (f : MapSt → MapSt) : (d.onMap n f).ports = d.ports := (rfl)
@[simp] theorem Dev.onMap_serveNext (d : Dev) (n : Nat) (f : MapSt → MapSt) : (d.onMap n f).serveNext = d.serveNext := (rfl)
@[simp] theorem Dev.onMap_pwr (d : Dev) (n : Nat) (f : MapSt → MapSt) : (d.onMap n f).pwr = d.pwr := (rfl)
@[simp] theorem Dev.onMap_pins (d : Dev) (n : Nat) (f : MapSt → MapSt) : (d.onMap n f).pins = d.pins := (rfl)
@[simp] theorem Dev.onMap_mls (d : Dev) (n : Nat) (f : MapSt → MapSt) : (d.onMap n f).mls = d.mls := (rfl)
@[simp] theorem Dev.onMap_emus (d : Dev) (n : Nat) (f : MapSt → MapSt) : (d.onMap n f).emus = d.emus := (rfl)
@[simp] theorem Dev.onMap_clusters (d : Dev) (n : Nat) (f : MapSt → MapSt) : (d.onMap n f).clusters = d.clusters := (rfl)
@[simp] theorem Dev.onMap_vms (d : Dev) (n : Nat) (f : MapSt → MapSt) : (d.onMap n f).vms = d.vms := (rfl)
@[simp] theorem Dev.onMap_pfe (d : Dev) (n : Nat) (f : MapSt → MapSt) : (d.onMap n f).pfe = d.pfe := (rfl)
@[simp] theorem Dev.onMap_trc (d : Dev) (n : Nat) (f : MapSt → MapSt) : (d.onMap n f).trc = d.trc := (rfl)
@[simp] theorem Dev.onMap_saf (d : Dev) (n : Nat) (f : MapSt → MapSt) : (d.onMap n f).saf = d.saf := (rfl)
@[simp] theorem Dev.onMap_ro (d : Dev) (n : Nat) (f : MapSt → MapSt) : (d.onMap n f).ro = d.ro := (rfl)

@[simp] theorem Dev.stage_now (d : Dev) (p : Nat) (g : Bool) (a : Act) : (d.stage p g a).now = d.now := (rfl)
@[simp] theorem Dev.stage_crit (d : Dev) (p : Nat) (g : Bool) (a : Act) : (d.stage p g a).crit = d.crit := (rfl)
@[simp] theorem Dev.stage_regs (d : Dev) (p : Nat) (g : Bool) (a : Act) : (d.stage p g a).regs = d.regs := (rfl)
@[simp] theorem Dev.stage_staged (d : Dev) (p : Nat) (g : Bool) (a : Act) : (d.stage p g a).staged = d.staged ++ [{ port := p, acc := d.now, inGroup := g, act := a }] := (rfl)
@[simp] theorem Dev.stage_freeCtr (d : Dev) (p : Nat) (g : Bool) (a : Act) : (d.stage p g a).freeCtr = d.freeCtr := (rfl)
@[simp] theorem Dev.stage_variant (d : Dev) (p : Nat) (g : Bool) (a : Act) : (d.stage p g a).variant = d.variant := (rfl)
@[simp] theorem Dev.stage_time (d : Dev) (p : Nat) (g : Bool) (a : Act) : (d.stage p g a).time = d.time := (rfl)
@[simp] theorem Dev.stage_lanes (d : Dev) (p : Nat) (g : Bool) (a : Act) : (d.stage p g a).lanes = d.lanes := (rfl)
@[simp] theorem Dev.stage_groups (d : Dev) (p : Nat) (g : Bool) (a : Act) : (d.stage p g a).groups = d.groups := (rfl)
@[simp] theorem Dev.stage_bbx (d : Dev) (p : Nat) (g : Bool) (a : Act) : (d.stage p g a).bbx = d.bbx := (rfl)
@[simp] theorem Dev.stage_hlt (d : Dev) (p : Nat) (g : Bool) (a : Act) : (d.stage p g a).hlt = d.hlt := (rfl)
@[simp] theorem Dev.stage_ports (d : Dev) (p : Nat) (g : Bool) (a : Act) : (d.stage p g a).ports = d.ports := (rfl)
@[simp] theorem Dev.stage_serveNext (d : Dev) (p : Nat) (g : Bool) (a : Act) : (d.stage p g a).serveNext = d.serveNext := (rfl)
@[simp] theorem Dev.stage_pwr (d : Dev) (p : Nat) (g : Bool) (a : Act) : (d.stage p g a).pwr = d.pwr := (rfl)
@[simp] theorem Dev.stage_pins (d : Dev) (p : Nat) (g : Bool) (a : Act) : (d.stage p g a).pins = d.pins := (rfl)
@[simp] theorem Dev.stage_mls (d : Dev) (p : Nat) (g : Bool) (a : Act) : (d.stage p g a).mls = d.mls := (rfl)
@[simp] theorem Dev.stage_emus (d : Dev) (p : Nat) (g : Bool) (a : Act) : (d.stage p g a).emus = d.emus := (rfl)
@[simp] theorem Dev.stage_clusters (d : Dev) (p : Nat) (g : Bool) (a : Act) : (d.stage p g a).clusters = d.clusters := (rfl)
@[simp] theorem Dev.stage_vms (d : Dev) (p : Nat) (g : Bool) (a : Act) : (d.stage p g a).vms = d.vms := (rfl)
@[simp] theorem Dev.stage_pfe (d : Dev) (p : Nat) (g : Bool) (a : Act) : (d.stage p g a).pfe = d.pfe := (rfl)
@[simp] theorem Dev.stage_trc (d : Dev) (p : Nat) (g : Bool) (a : Act) : (d.stage p g a).trc = d.trc := (rfl)
@[simp] theorem Dev.stage_saf (d : Dev) (p : Nat) (g : Bool) (a : Act) : (d.stage p g a).saf = d.saf := (rfl)
@[simp] theorem Dev.stage_ro (d : Dev) (p : Nat) (g : Bool) (a : Act) : (d.stage p g a).ro = d.ro := (rfl)

end Sys2Proof.Machine
end

