-- ==== Sys2Proof/Laws/RegFile.lean ====
section
/-! SUPPORT. Register words: a word reads what was last written to it, and a write leaves every other word alone. -/
namespace Sys2Proof.Machine

theorem RegFile.get_filter_ne (f : RegFile) {i j : RegId} {k l : Nat} (h : ¬(j = i ∧ l = k)) :
    RegFile.get (f.filter fun c => !(decide (c.id = i) && decide (c.idx = k))) j l = RegFile.get f j l := by
  induction f with
  | nil => rfl
  | cons c rest ih =>
    by_cases hc : c.id = i ∧ c.idx = k
    · have h2 : ¬(c.id = j ∧ c.idx = l) := by rintro ⟨rfl, rfl⟩; exact h hc
      rw [List.filter_cons_of_neg (by simp [hc]), ih, RegFile.get, if_neg h2]
    · rw [List.filter_cons_of_pos (by grind), RegFile.get, RegFile.get, ih]

theorem RegFile.get_filter_self (f : RegFile) (i : RegId) (k : Nat) :
    RegFile.get (f.filter fun c => !(decide (c.id = i) && decide (c.idx = k))) i k = resetOf i k := by
  induction f with
  | nil => rfl
  | cons c rest ih =>
    by_cases hc : c.id = i ∧ c.idx = k
    · rw [List.filter_cons_of_neg (by simp [hc]), ih]
    · rw [List.filter_cons_of_pos (by grind), RegFile.get, if_neg hc, ih]

theorem RegFile.get_insert (f : RegFile) (i j : RegId) (k l : Nat) (v : Word)
    (h : ∀ c ∈ f, ¬(c.id = i ∧ c.idx = k)) :
    (RegFile.insert f i k v).get j l = if j = i ∧ l = k then v else f.get j l := by
  induction f with
  | nil => simp [RegFile.insert, RegFile.get, eq_comm]
  | cons c rest ih =>
    have hc := h c (by simp)
    have hr := ih fun x hx => h x (by simp [hx])
    unfold RegFile.insert
    split
    · simp [RegFile.get, eq_comm]
    · by_cases hj : j = i ∧ l = k
      · obtain ⟨rfl, rfl⟩ := hj
        simp [RegFile.get, hc, hr]
      · simp [RegFile.get, hr, hj]

/-- A word that has been written reads the value written. -/
@[simp] theorem RegFile.get_set_self (f : RegFile) (i : RegId) (k : Nat) (v : Word) : (f.set i k v).get i k = v := by
  unfold RegFile.set
  dsimp only
  split
  · rename_i h; rw [RegFile.get_filter_self, h]
  · rw [RegFile.get_insert]
    · simp
    · intro c hc; grind

/-- Writing one word leaves every other word alone. -/
theorem RegFile.get_set_ne (f : RegFile) {i j : RegId} {k l : Nat} (v : Word) (h : ¬(j = i ∧ l = k)) :
    (f.set i k v).get j l = f.get j l := by
  unfold RegFile.set
  dsimp only
  split
  · exact RegFile.get_filter_ne f h
  · rw [RegFile.get_insert, if_neg h]
    · exact RegFile.get_filter_ne f h
    · intro c hc; grind

theorem RegFile.get_set (f : RegFile) (i j : RegId) (k l : Nat) (v : Word) :
    (f.set i k v).get j l = if j = i ∧ l = k then v else f.get j l := by
  split
  · rename_i h; obtain ⟨rfl, rfl⟩ := h; simp
  · rename_i h; exact RegFile.get_set_ne f v h

@[simp] theorem Dev.reg_setReg_self (d : Dev) (i : RegId) (k : Nat) (v : Word) : (d.setReg i k v).reg i k = v := by
  simp [Dev.reg]

theorem Dev.reg_setReg_ne (d : Dev) {i j : RegId} {k l : Nat} (v : Word) (h : ¬(j = i ∧ l = k)) :
    (d.setReg i k v).reg j l = d.reg j l := by
  simp [Dev.reg, RegFile.get_set_ne _ _ h]

theorem Dev.reg_setReg (d : Dev) (i j : RegId) (k l : Nat) (v : Word) :
    (d.setReg i k v).reg j l = if j = i ∧ l = k then v else d.reg j l := by
  simp [Dev.reg, RegFile.get_set]

end Sys2Proof.Machine
end

