-- ==== Sys2Proof/Laws/Bits.lean ====
section
/-! SUPPORT. Bit fields of register words: a field reads what was written to it, and another field stands. -/
namespace Sys2Proof.Machine

theorem field_eq_extract (w : Word) (lo n : Nat) : field w lo n = (w.extractLsb' lo n).toNat := by
  simp [field, BitVec.extractLsb'_toNat, Nat.shiftRight_eq_div_pow]

theorem field_lt (w : Word) (lo n : Nat) : field w lo n < 2 ^ n := Nat.mod_lt _ (Nat.two_pow_pos n)

theorem getLsbD_maskOf (lo n i : Nat) (hi : i < 32) : (maskOf lo n).getLsbD i = decide (lo ≤ i ∧ i < lo + n) := by
  simp only [maskOf, BitVec.getLsbD_ofNat, hi, decide_true, Bool.true_and, Nat.testBit_mul_two_pow]
  rw [Nat.testBit_two_pow_sub_one]
  by_cases h1 : lo ≤ i <;> simp [h1] <;> omega

/-- Bit `i` of a word in which a field was written. -/
theorem getLsbD_withField (w : Word) (lo n v i : Nat) (hi : i < 32) :
    (withField w lo n v).getLsbD i = if lo ≤ i ∧ i < lo + n then v.testBit (i - lo) else w.getLsbD i := by
  simp only [withField, BitVec.getLsbD_or, BitVec.getLsbD_and, BitVec.getLsbD_not, getLsbD_maskOf _ _ _ hi,
    BitVec.getLsbD_ofNat, hi, decide_true, Bool.true_and, Nat.testBit_mul_two_pow, Nat.testBit_mod_two_pow]
  by_cases h1 : lo ≤ i <;> by_cases h2 : i < lo + n
  · have : i - lo < n := by omega
    simp [h1, h2, this]
  · have : ¬ i - lo < n := by omega
    simp [h1, h2, this]
  · simp [h1]
  · simp [h1]

/-- A field reads what was written to it, modulo its width. -/
theorem field_withField (w : Word) {lo n : Nat} (v : Nat) (h : lo + n ≤ 32) : field (withField w lo n v) lo n = v % 2 ^ n := by
  rw [field_eq_extract, ← BitVec.toNat_ofNat]
  congr 1
  apply BitVec.eq_of_getLsbD_eq
  intro i hi
  have h2 : lo + i < 32 := by omega
  rw [BitVec.getLsbD_extractLsb', getLsbD_withField _ _ _ _ _ h2, BitVec.getLsbD_ofNat]
  simp [hi]

/-- A field that shares no bit with the one written stands. -/
theorem field_withField_ne (w : Word) {lo n lo' n' : Nat} (v : Nat) (h : lo' + n' ≤ 32) (hd : lo' + n' ≤ lo ∨ lo + n ≤ lo') :
    field (withField w lo n v) lo' n' = field w lo' n' := by
  rw [field_eq_extract, field_eq_extract]
  congr 1
  apply BitVec.eq_of_getLsbD_eq
  intro i hi
  have h2 : lo' + i < 32 := by omega
  have h3 : ¬(lo ≤ lo' + i ∧ lo' + i < lo + n) := by omega
  simp [getLsbD_withField _ _ _ _ _ h2, hi, h3]

theorem satNat_lt (n x : Nat) : satNat n x < 2 ^ n := by
  have := Nat.two_pow_pos n
  unfold satNat
  omega

theorem Dev.fld_setFld (d : Dev) (i : RegId) (k : Nat) {lo n : Nat} (v : Nat) (h : lo + n ≤ 32) :
    (d.setFld i k lo n v).fld i k lo n = v % 2 ^ n := by
  simp [Dev.fld, Dev.setFld, field_withField _ v h]

theorem Dev.fld_setFld_ne (d : Dev) {i j : RegId} {k l : Nat} {lo n lo' n' : Nat} (v : Nat) (h : ¬(j = i ∧ l = k)) :
    (d.setFld i k lo n v).fld j l lo' n' = d.fld j l lo' n' := by
  simp [Dev.fld, Dev.setFld, Dev.reg_setReg_ne _ _ h]

/-- A counter field holds one more, or stays at its limit. -/
theorem Dev.fld_addCnt (d : Dev) (i : RegId) (k : Nat) {lo n : Nat} (m : Nat) (h : lo + n ≤ 32) :
    (d.addCnt i k lo n m).fld i k lo n = satNat n (d.fld i k lo n + m) := by
  simp only [Dev.addCnt, Dev.fld, Dev.noteFresh_reg]
  exact (Dev.fld_setFld d i k _ h).trans (Nat.mod_eq_of_lt (satNat_lt _ _))

theorem Dev.reg_addCnt_ne (d : Dev) {i j : RegId} {k l lo n m : Nat} (h : ¬(j = i ∧ l = k)) :
    (d.addCnt i k lo n m).reg j l = d.reg j l := Dev.reg_setReg_ne _ _ h

theorem bit_bitAt (i j : Nat) (b : Bool) (h : i < 32) : (bitAt j b).getLsbD i = (b && decide (i = j)) := by
  cases b
  · simp [bitAt, b2n]
  · simp only [bitAt, b2n, if_true, Nat.one_mul, BitVec.getLsbD_ofNat, Nat.testBit_two_pow, h, decide_true, Bool.true_and]
    simp [eq_comm]

/-- A sticky flag reads set after its event. -/
theorem Dev.regBit_setFlag (d : Dev) (i : RegId) (k : Nat) {b : Nat} (h : b < 32) : (d.setFlag i k b).regBit i k b = true := by
  simp [Dev.regBit, Dev.setFlag, bit, bit_bitAt _ _ _ h]

theorem Dev.reg_setFlag_ne (d : Dev) {i j : RegId} {k l b : Nat} (h : ¬(j = i ∧ l = k)) :
    (d.setFlag i k b).reg j l = d.reg j l := Dev.reg_setReg_ne _ _ h

end Sys2Proof.Machine
end

