-- ==== Sys2Proof/Laws/Exec.lean ====
section
/-! SUPPORT. What the shared forms of a command answer: `onEvent`, `onUnit`, `onDev`, `onExpiry`, `onMgmt`, `onPinLevel`. -/
namespace Sys2Proof.Machine
open Sys2Proof

/-- An event acts where the device runs, and else only moves the clock. -/
theorem onEvent_eq (present : Dev → Bool) (s : State) (t : Time) (f : Dev → Dev) :
    onEvent present s t f = onUnit present s fun d => if d.alive then f (d.at t) else d.at t := rfl

/-- An event of a unit that is present, on a running device, acts at its instant. -/
theorem onEvent_alive {present : Dev → Bool} {s : State} (hp : present s.dev = true) (ha : s.dev.alive = true) (t : Time)
    (f : Dev → Dev) : onEvent present s t f = .next { s with dev := f (s.dev.at t) } := by
  simp [onEvent_eq, onUnit, hp, onDev, ha]

/-- An event of a unit that is present, on a device that does not run, only moves the clock. -/
theorem onEvent_still {present : Dev → Bool} {s : State} (hp : present s.dev = true) (ha : s.dev.alive = false) (t : Time)
    (f : Dev → Dev) : onEvent present s t f = .next { s with dev := s.dev.at t } := by
  simp [onEvent_eq, onUnit, hp, onDev, ha]

/-- An event of an absent unit cannot occur. -/
theorem onEvent_absent {present : Dev → Bool} {s : State} (hp : present s.dev = false) (t : Time) (f : Dev → Dev) :
    onEvent present s t f = .fault .absentUnit := by
  simp [onEvent, onUnit, hp]

/-- An expiry on a running device acts. -/
theorem onExpiry_alive {present : Dev → Bool} {s : State} (hp : present s.dev = true) (ha : s.dev.alive = true)
    (f : Dev → Dev) : onExpiry present s f = .next { s with dev := f s.dev } := by
  simp [onExpiry, onUnit, hp, onDev, Dev.when, ha]

/-- The management plane works at the instant of an event just where it worked before. -/
@[simp] theorem Dev.at_mgmtUp (d : Dev) (t : Time) : (d.at t).mgmtUp = d.mgmtUp := (rfl)
@[simp] theorem Dev.at_alive (d : Dev) (t : Time) : (d.at t).alive = d.alive := (rfl)
@[simp] theorem Dev.at_reg (d : Dev) (t : Time) (i : RegId) (k : Nat) : (d.at t).reg i k = d.reg i k := (rfl)
@[simp] theorem Dev.at_fld (d : Dev) (t : Time) (i : RegId) (k l n : Nat) : (d.at t).fld i k l n = d.fld i k l n := (rfl)
@[simp] theorem Dev.at_regBit (d : Dev) (t : Time) (i : RegId) (k b : Nat) : (d.at t).regBit i k b = d.regBit i k b := (rfl)
@[simp] theorem Dev.at_reg64 (d : Dev) (t : Time) (i : RegId) (k : Nat) : (d.at t).reg64 i k = d.reg64 i k := (rfl)
@[simp] theorem Dev.at_lane (d : Dev) (t : Time) (n : Nat) : (d.at t).lane n = d.lane n := (rfl)
@[simp] theorem Dev.at_port (d : Dev) (t : Time) (n : Nat) : (d.at t).port n = d.port n := (rfl)
@[simp] theorem Dev.at_at (d : Dev) (t u : Time) : (d.at t).at u = { d with now := instant (instant d.now t) u } := (rfl)

/-- Where the management plane works, the device runs. -/
theorem Dev.alive_of_mgmtUp {d : Dev} (h : d.mgmtUp = true) : d.alive = true := by
  simp only [Dev.mgmtUp, Bool.and_eq_true] at h; exact h.1.1

/-- Supervision by the management plane acts where the plane works. -/
theorem onMgmt_up {present : Dev → Bool} {s : State} (hp : present s.dev = true) (hm : s.dev.mgmtUp = true) (t : Time)
    (f : Dev → Dev) : onMgmt present s t f = .next { s with dev := f (s.dev.at t) } := by
  simp [onMgmt, onEvent_alive hp (Dev.alive_of_mgmtUp hm), Dev.when, hm]

/-- A request on a port that is present is served at its instant, where the management plane works. -/
theorem onRequest_up {s : State} {op : Nat} {r : Request} (hp : r.port < 5) (hm : s.dev.mgmtUp = true) :
    onRequest s op r = .next { s with dev := (s.dev.at r.t).serve { op := op, arr := r.t, req := r } } := by
  simp [onRequest, onUnit, hasPort, hp, onDev, Dev.serveNow, hm]

/-- A command whose next state is known runs. -/
theorem runs_of {c : Instr} {s : State} {d : Dev} {P : Dev → Prop} (h : Machine.exec c s = .next { s with dev := d })
    (hp : P d) : Runs c s P := ⟨d, h, hp⟩

end Sys2Proof.Machine
end

