-- ==== Sys2Proof/Laws/Within.lean ====
section
/-! SUPPORT. What the primitive operations leave alone: `Within` composes along the operations of a meaning, each of which asks
of `May` just what it changes. -/
namespace Sys2Proof.Machine

@[simp] theorem Crit.Tight.refl (c : Crit) : c.Tight c := ⟨fun _ h => h, fun _ h => h, rfl⟩

theorem Crit.Tight.trans {a b c : Crit} (h : a.Tight b) (g : b.Tight c) : a.Tight c :=
  ⟨fun n k => h.barrier n (g.barrier n k), fun n k => g.latch n (h.latch n k), g.fuse.trans h.fuse⟩

/-- Barriers come down. -/
@[simp] theorem Crit.Tight.lower (c : Crit) (m : BitVec 96) : c.Tight { c with barrierUp := c.barrierUp &&& m } :=
  ⟨fun n h => by simp only [BitVec.getLsbD_and, Bool.and_eq_true] at h; exact h.1, fun _ h => h, rfl⟩

/-- SO latches are set. -/
@[simp] theorem Crit.Tight.set (c : Crit) (k : BitVec 12) : c.Tight { c with soLatch := c.soLatch ||| k } :=
  ⟨fun _ h => h, fun g h => by simp [h], rfl⟩

/-- `DEV_LATCH` moves alone. -/
@[simp] theorem Crit.Tight.dev (c : Crit) (b : Bool) : c.Tight { c with devLatch := b } := ⟨fun _ h => h, fun _ h => h, rfl⟩

@[simp] theorem Within.refl (m : May) (d : Dev) : Within m d d := by
  constructor
  case tight => exact fun _ => .refl _
  all_goals intros; rfl

theorem Within.trans {m : May} {a b c : Dev} (h : Within m a b) (g : Within m b c) : Within m a c := by
  constructor
  case variant => exact g.variant.trans h.variant
  case shape => exact g.shape.trans h.shape
  case tight => exact fun hm => (h.tight hm).trans (g.tight hm)
  case reg => exact fun i k hk => (g.reg i k hk).trans (h.reg i k hk)
  case lane => exact fun n hn => (g.lane n hn).trans (h.lane n hn)
  case acq => exact fun n hn => (g.acq n hn).trans (h.acq n hn)
  case trk => exact fun n hn => (g.trk n hn).trans (h.trk n hn)
  case map => exact fun n hn => (g.map n hn).trans (h.map n hn)
  case loop => exact fun n hn => (g.loop n hn).trans (h.loop n hn)
  case prf => exact fun n hn => (g.prf n hn).trans (h.prf n hn)
  case group => exact fun n hn => (g.group n hn).trans (h.group n hn)
  case port => exact fun n hn => (g.port n hn).trans (h.port n hn)
  case pin => exact fun n hn => (g.pin n hn).trans (h.pin n hn)
  case mls => exact fun n hn => (g.mls n hn).trans (h.mls n hn)
  case emu => exact fun n hn => (g.emu n hn).trans (h.emu n hn)
  case cluster => exact fun n hn => (g.cluster n hn).trans (h.cluster n hn)
  case vm => exact fun n hn => (g.vm n hn).trans (h.vm n hn)
  case pfe => exact fun n hn => (g.pfe n hn).trans (h.pfe n hn)
  case safLane => exact fun n hn => (g.safLane n hn).trans (h.safLane n hn)
  case conn => exact fun n hn => (g.conn n hn).trans (h.conn n hn)
  case saf => exact fun hm => (g.saf hm).trans (h.saf hm)
  case crit => exact fun hm => (g.crit hm).trans (h.crit hm)
  case time => exact fun hm => (g.time hm).trans (h.time hm)
  case bbx => exact fun hm => (g.bbx hm).trans (h.bbx hm)
  case hlt => exact fun hm => (g.hlt hm).trans (h.hlt hm)
  case pwr => exact fun hm => (g.pwr hm).trans (h.pwr hm)
  case trc => exact fun hm => (g.trc hm).trans (h.trc hm)
  case staged => exact fun hm => (g.staged hm).trans (h.staged hm)
  case ro => exact fun hm => (g.ro hm).trans (h.ro hm)
  case serve => exact fun hm => (g.serve hm).trans (h.serve hm)

theorem getD_modify {α : Type} (l : List α) (n k : Nat) (f : α → α) (a : α) (h : k ≠ n) :
    (l.modify n f).getD k a = l.getD k a := by
  simp [List.getD_eq_getElem?_getD, Ne.symm h]

theorem getD_modify_of {α β : Type} (l : List α) (n k : Nat) (f : α → α) (a : α) (p : α → β) (h : ∀ x, p (f x) = p x) :
    p ((l.modify n f).getD k a) = p (l.getD k a) := by
  simp only [List.getD_eq_getElem?_getD, List.getElem?_modify]
  split
  · cases l[k]? <;> simp [h]
  · cases l[k]? <;> rfl

/-- What a change of lane `n` may do: a part that it changes is one that `m` allows. -/
structure LaneMay (m : May) (n : Nat) (f : Lane → Lane) : Prop where
  lane : m.lane n = true ∨ ∀ l, (f l).own = l.own
  acq  : m.acq n = true ∨ ∀ l, (f l).acq = l.acq
  trk  : m.trk n = true ∨ ∀ l, (f l).trk = l.trk
  map  : m.map n = true ∨ ∀ l, (f l).map = l.map
  loop : m.loop n = true ∨ ∀ l, (f l).loop = l.loop
  prf  : m.prf n = true ∨ ∀ l, (f l).prf = l.prf

/-- The same as a conjunction, for `simp`. -/
@[simp] theorem laneMay_iff (m : May) (n : Nat) (f : Lane → Lane) : LaneMay m n f ↔
    (m.lane n = true ∨ ∀ l, (f l).own = l.own) ∧ (m.acq n = true ∨ ∀ l, (f l).acq = l.acq) ∧
    (m.trk n = true ∨ ∀ l, (f l).trk = l.trk) ∧ (m.map n = true ∨ ∀ l, (f l).map = l.map) ∧
    (m.loop n = true ∨ ∀ l, (f l).loop = l.loop) ∧ (m.prf n = true ∨ ∀ l, (f l).prf = l.prf) :=
  ⟨fun h => ⟨h.1, h.2, h.3, h.4, h.5, h.6⟩, fun h => ⟨h.1, h.2.1, h.2.2.1, h.2.2.2.1, h.2.2.2.2.1, h.2.2.2.2.2⟩⟩

variable {m : May} {d0 d : Dev}

theorem Dev.onLane_lane_of {β : Type} {b : Bool} (d : Dev) (n k : Nat) (f : Lane → Lane) (p : Lane → β) (hb : b = false)
    (h : (k = n → b = true) ∨ ∀ l, p (f l) = p l) : p ((d.onLane n f).lane k) = p (d.lane k) := by
  rcases h with h | h
  · have : k ≠ n := fun e => by simp [h e] at hb
    simp only [Dev.lane, Dev.onLane]; rw [getD_modify _ _ _ _ _ this]
  · exact getD_modify_of _ _ _ _ _ _ h

@[simp] theorem Within.onLane (h : Within m d0 d) (n : Nat) (f : Lane → Lane) (hf : LaneMay m n f) : Within m d0 (d.onLane n f) := by
  refine h.trans ?_
  have g := Within.refl m d
  exact { g with
    shape := by simp [Dev.shape, Dev.onLane]
    lane := fun k hk => d.onLane_lane_of n k f Lane.own hk (hf.lane.imp (fun e q => q ▸ e) id)
    acq := fun k hk => d.onLane_lane_of n k f Lane.acq hk (hf.acq.imp (fun e q => q ▸ e) id)
    trk := fun k hk => d.onLane_lane_of n k f Lane.trk hk (hf.trk.imp (fun e q => q ▸ e) id)
    map := fun k hk => d.onLane_lane_of n k f Lane.map hk (hf.map.imp (fun e q => q ▸ e) id)
    loop := fun k hk => d.onLane_lane_of n k f Lane.loop hk (hf.loop.imp (fun e q => q ▸ e) id)
    prf := fun k hk => d.onLane_lane_of n k f Lane.prf hk (hf.prf.imp (fun e q => q ▸ e) id) }

@[simp] theorem Within.setReg (h : Within m d0 d) {i : RegId} {k : Nat} {v : Word} (hm : m.reg i k = true) :
    Within m d0 (d.setReg i k v) :=
  h.trans { Within.refl m d with
    reg := fun j l hj => Dev.reg_setReg_ne _ _ fun e => by obtain ⟨rfl, rfl⟩ := e; simp [hm] at hj }

theorem ne_of_may {p : Nat → Bool} {n k : Nat} (hm : p n = true) (hk : p k = false) : k ≠ n := by
  rintro rfl; simp [hm] at hk

section
variable (h : Within m d0 d) (n : Nat)
include h

@[simp] theorem Within.onAcq (f : Acq → Acq) (hm : m.acq n = true) : Within m d0 (d.onAcq n f) :=
  h.onLane _ _ ⟨.inr fun _ => rfl, .inl hm, .inr fun _ => rfl, .inr fun _ => rfl, .inr fun _ => rfl, .inr fun _ => rfl⟩
@[simp] theorem Within.onTrk (f : Tracker → Tracker) (hm : m.trk n = true) : Within m d0 (d.onTrk n f) :=
  h.onLane _ _ ⟨.inr fun _ => rfl, .inr fun _ => rfl, .inl hm, .inr fun _ => rfl, .inr fun _ => rfl, .inr fun _ => rfl⟩
@[simp] theorem Within.onMap (f : MapSt → MapSt) (hm : m.map n = true) : Within m d0 (d.onMap n f) :=
  h.onLane _ _ ⟨.inr fun _ => rfl, .inr fun _ => rfl, .inr fun _ => rfl, .inl hm, .inr fun _ => rfl, .inr fun _ => rfl⟩
@[simp] theorem Within.onLoop (f : LoopLane → LoopLane) (hm : m.loop n = true) : Within m d0 (d.onLoop n f) :=
  h.onLane _ _ ⟨.inr fun _ => rfl, .inr fun _ => rfl, .inr fun _ => rfl, .inr fun _ => rfl, .inl hm, .inr fun _ => rfl⟩
@[simp] theorem Within.onPrf (f : PrfLane → PrfLane) (hm : m.prf n = true) : Within m d0 (d.onPrf n f) :=
  h.onLane _ _ ⟨.inr fun _ => rfl, .inr fun _ => rfl, .inr fun _ => rfl, .inr fun _ => rfl, .inr fun _ => rfl, .inl hm⟩
@[simp] theorem Within.onGroup (f : Group → Group) (hm : m.group n = true) : Within m d0 (d.onGroup n f) :=
  h.trans { Within.refl m d with
    shape := by simp [Dev.shape, Dev.onGroup]
    group := fun _ hk => getD_modify _ _ _ _ _ (ne_of_may hm hk) }
@[simp] theorem Within.onPort (f : Port → Port) (hm : m.port n = true) : Within m d0 (d.onPort n f) :=
  h.trans { Within.refl m d with
    shape := by simp [Dev.shape, Dev.onPort]
    port := fun _ hk => getD_modify _ _ _ _ _ (ne_of_may hm hk) }
@[simp] theorem Within.onPin (f : PulseIn → PulseIn) (hm : m.pin n = true) : Within m d0 (d.onPin n f) :=
  h.trans { Within.refl m d with
    shape := by simp [Dev.shape, Dev.onPin]
    pin := fun _ hk => getD_modify _ _ _ _ _ (ne_of_may hm hk) }
@[simp] theorem Within.onMls (f : MlsUnit → MlsUnit) (hm : m.mls n = true) : Within m d0 (d.onMls n f) :=
  h.trans { Within.refl m d with
    shape := by simp [Dev.shape, Dev.onMls]
    mls := fun _ hk => getD_modify _ _ _ _ _ (ne_of_may hm hk) }
@[simp] theorem Within.onEmu (f : EmuOut → EmuOut) (hm : m.emu n = true) : Within m d0 (d.onEmu n f) :=
  h.trans { Within.refl m d with
    shape := by simp [Dev.shape, Dev.onEmu]
    emu := fun _ hk => getD_modify _ _ _ _ _ (ne_of_may hm hk) }
@[simp] theorem Within.onVm (f : VMaster → VMaster) (hm : m.vm n = true) : Within m d0 (d.onVm n f) :=
  h.trans { Within.refl m d with
    shape := by simp [Dev.shape, Dev.onVm]
    vm := fun _ hk => getD_modify _ _ _ _ _ (ne_of_may hm hk) }
@[simp] theorem Within.onPfe (f : PfeCh → PfeCh) (hm : m.pfe n = true) : Within m d0 (d.onPfe n f) :=
  h.trans { Within.refl m d with
    shape := by simp [Dev.shape, Dev.onPfe]
    pfe := fun _ hk => getD_modify _ _ _ _ _ (ne_of_may hm hk) }
@[simp] theorem Within.onSafLane (f : SafLane → SafLane) (hm : m.safLane n = true) : Within m d0 (d.onSafLane n f) :=
  h.trans { Within.refl m d with
    shape := by simp [Dev.shape, Saf.shape, Dev.onSafLane, Dev.onSaf]
    safLane := fun _ hk => getD_modify _ _ _ _ _ (ne_of_may hm hk) }
@[simp] theorem Within.onConn (f : Conn → Conn) (hm : m.conn n = true) : Within m d0 (d.onConn n f) :=
  h.trans { Within.refl m d with
    shape := by simp [Dev.shape, Saf.shape, Dev.onConn, Dev.onSaf]
    conn := fun _ hk => getD_modify _ _ _ _ _ (ne_of_may hm hk) }
@[simp] theorem Within.setClusters (f : Cluster → Cluster) (hm : m.cluster n = true) :
    Within m d0 { d with clusters := d.clusters.modify n f } :=
  h.trans { Within.refl m d with
    shape := by simp [Dev.shape]
    cluster := fun _ hk => getD_modify _ _ _ _ _ (ne_of_may hm hk) }
@[simp] theorem Within.at (t : Time) : Within m d0 (d.at t) := h.trans { Within.refl m d with }
@[simp] theorem Within.onTime (f : TimeSt → TimeSt) (hm : m.time = true) : Within m d0 (d.onTime f) :=
  h.trans { Within.refl m d with time := fun hk => by simp [hm] at hk }
@[simp] theorem Within.onBbx (f : BlackBox → BlackBox) (hm : m.bbx = true) : Within m d0 (d.onBbx f) :=
  h.trans { Within.refl m d with bbx := fun hk => by simp [hm] at hk }
@[simp] theorem Within.onHlt (f : Health → Health) (hm : m.hlt = true) : Within m d0 (d.onHlt f) :=
  h.trans { Within.refl m d with hlt := fun hk => by simp [hm] at hk }
@[simp] theorem Within.onPwr (f : Power → Power) (hm : m.pwr = true) : Within m d0 (d.onPwr f) :=
  h.trans { Within.refl m d with pwr := fun hk => by simp [hm] at hk }
@[simp] theorem Within.onTrc (f : Trace → Trace) (hm : m.trc = true) : Within m d0 (d.onTrc f) :=
  h.trans { Within.refl m d with trc := fun hk => by simp [hm] at hk }
@[simp] theorem Within.onSaf (f : Saf → Saf) (hm : m.saf = true) (hl : ∀ s, (f s).lanes = s.lanes) (hc : ∀ s, (f s).conns = s.conns)
    (hs : ∀ s, (f s).pairs.length = s.pairs.length ∧ (f s).levels.length = s.levels.length ∧ (f s).levelT.length = s.levelT.length ∧
      (f s).chainBad.length = s.chainBad.length ∧ (f s).chainCause.length = s.chainCause.length ∧ (f s).chainPass.length = s.chainPass.length ∧
      (f s).readback.length = s.readback.length ∧ (f s).pulse.length = s.pulse.length) : Within m d0 (d.onSaf f) :=
  h.trans { Within.refl m d with
    shape := by simp [Dev.shape, Saf.shape, Dev.onSaf, hs, hl, hc]
    saf := fun hk => by simp [hm] at hk
    safLane := fun k _ => by simp [Dev.safLane, Dev.onSaf, hl]
    conn := fun k _ => by simp [Dev.conn, Dev.onSaf, hc] }
@[simp] theorem Within.setStaged (l : List Staged) (hm : m.staged = true) : Within m d0 { d with staged := l } :=
  h.trans { Within.refl m d with staged := fun hk => by simp [hm] at hk }
@[simp] theorem Within.setCrit (c : Crit) (hm : m.crit = true) (hr : m.raise = true ∨ d.crit.Tight c) :
    Within m d0 { d with crit := c } :=
  h.trans { Within.refl m d with
    crit := fun hk => by simp [hm] at hk
    tight := fun hk => hr.resolve_left fun e => by simp [e] at hk }
@[simp] theorem Within.setRo (r : Option Shadow) (hm : m.ro = true) : Within m d0 { d with ro := r } :=
  h.trans { Within.refl m d with ro := fun hk => by simp [hm] at hk }
@[simp] theorem Within.setTime (r : TimeSt) (hm : m.time = true) : Within m d0 { d with time := r } :=
  h.trans { Within.refl m d with time := fun hk => by simp [hm] at hk }
@[simp] theorem Within.setServe (k : Nat) (hm : m.serve = true) : Within m d0 { d with serveNext := k } :=
  h.trans { Within.refl m d with serve := fun hk => by simp [hm] at hk }
@[simp] theorem Within.noteFresh (i : RegId) (k : Nat) (f : Word → Word) : Within m d0 (d.noteFresh i k f) :=
  h.trans { Within.refl m d with }
@[simp] theorem Within.setNow (t : Time) : Within m d0 { d with now := t } := h.trans { Within.refl m d with }
@[simp] theorem Within.setFree (k : Nat) : Within m d0 { d with freeCtr := k } := h.trans { Within.refl m d with }
@[simp] theorem Within.setRegs (r : RegFile) (hm : ∀ i k, m.reg i k = true) : Within m d0 { d with regs := r } :=
  h.trans { Within.refl m d with reg := fun i k hk => by simp [hm] at hk }
@[simp] theorem Within.setVms (r : List VMaster) (hm : ∀ v, m.vm v = true) (hl : r.length = d.vms.length) : Within m d0 { d with vms := r } :=
  h.trans { Within.refl m d with
    shape := by simp [Dev.shape, hl]
    vm := fun v hk => by simp [hm] at hk }
end

@[simp] theorem Within.forEach (h : Within m d0 d) (l : List Nat) (f : Nat → Dev → Dev)
    (hf : ∀ n e, Within m d0 e → Within m d0 (f n e)) : Within m d0 (d.forEach l f) := by
  unfold Dev.forEach
  induction l generalizing d with
  | nil => exact h
  | cons a l ih => exact ih (hf a d h)

theorem Within.forEach_mem (h : Within m d0 d) (l : List Nat) (f : Nat → Dev → Dev)
    (hf : ∀ n ∈ l, ∀ e, Within m d0 e → Within m d0 (f n e)) : Within m d0 (d.forEach l f) := by
  unfold Dev.forEach
  induction l generalizing d with
  | nil => exact h
  | cons a l ih => exact ih (hf a (by simp) d h) fun n hn => hf n (by simp [hn])

theorem mem_lanesOfGroup {g n : Nat} : n ∈ lanesOfGroup g ↔ n / 8 = g := by
  simp only [lanesOfGroup, List.mem_map, List.mem_range]
  constructor
  · rintro ⟨i, hi, rfl⟩; omega
  · intro h; exact ⟨n % 8, by omega, by omega⟩

/-- The outputs assigned to lane `n` may change, with the flags and counters that show it; either all outputs may, or the
assignment stays as it is in `d0`. -/
def May.outputs (m : May) (d0 : Dev) (n : Nat) : Prop :=
  (∀ o, m.emu o = true ∧ m.reg .emuStat o = true ∧ m.reg .emuCnt o = true) ∨
  ((∀ o, m.reg .emuLane o = false) ∧
    ∀ o, d0.emuLane o = n → m.emu o = true ∧ m.reg .emuStat o = true ∧ m.reg .emuCnt o = true)

/-- An output of lane `n` may change. -/
theorem Within.output (h : Within m d0 d) {n o : Nat} (hm : m.outputs d0 n) (ho : d.emuLane o = n) :
    m.emu o = true ∧ m.reg .emuStat o = true ∧ m.reg .emuCnt o = true := by
  rcases hm with hm | ⟨hr, hm⟩
  · exact hm o
  · refine hm o ?_
    simp only [Dev.emuLane, Dev.fld] at ho ⊢
    rw [← h.reg .emuLane o (hr o)]; exact ho

/-- Where the outputs of a lane may change, so may those of the lane to which a change leaves an output of it assigned. -/
theorem Within.outputsOf {e : Dev} (h : Within m d0 d) (g : Within m d0 e) {o : Nat} (ho : m.outputs d0 (d.emuLane o)) :
    m.outputs d0 (e.emuLane o) := by
  rcases ho with ho | ho
  · exact .inl ho
  · have hr := ho.1 o
    have he : e.emuLane o = d.emuLane o := by
      simp only [Dev.emuLane, Dev.fld]; rw [g.reg .emuLane o hr, h.reg .emuLane o hr]
    rw [he]; exact .inr ho

/-- The outputs of lane `n` are taken one by one. -/
theorem Within.outputs (h : Within m d0 d) (n : Nat) (f : Nat → Dev → Dev) (hm : m.outputs d0 n)
    (hf : ∀ o e, m.emu o = true → m.reg .emuStat o = true → m.reg .emuCnt o = true →
      (∀ x, Within m d0 x → m.outputs d0 (x.emuLane o)) → Within m d0 e → Within m d0 (f o e)) :
    Within m d0 (d.forEach (d.emusOf n) f) := by
  refine Within.forEach_mem h _ _ fun o ho e he => ?_
  have hl : d.emuLane o = n := by simpa using (List.mem_filter.1 ho).2
  exact hf o e (h.output hm hl).1 (h.output hm hl).2.1 (h.output hm hl).2.2 (fun x hx => h.outputsOf hx (hl ▸ hm)) he

/-- A lane on its detour through pulse input `i` may change in all its parts but its profile, with its outputs. -/
def May.detour (m : May) (d0 : Dev) (i : Nat) : Prop :=
  (∀ n, m.trk n = true ∧ m.lane n = true ∧ m.acq n = true ∧ m.loop n = true ∧ m.map n = true ∧ m.outputs d0 n) ∨
  ((∀ n, m.reg .detCtrl n = false) ∧ ∀ n, (d0.lane n).trk.detour = true ∧ d0.detSrc n = i ∨ m.trk n = true →
    m.trk n = true ∧ m.lane n = true ∧ m.acq n = true ∧ m.loop n = true ∧ m.map n = true ∧ m.outputs d0 n)

/-- A lane on its detour through the input may change. -/
theorem Within.detour (h : Within m d0 d) {i n : Nat} (hm : m.detour d0 i) (hd : (d.lane n).trk.detour = true)
    (hs : d.detSrc n = i) :
    m.trk n = true ∧ m.lane n = true ∧ m.acq n = true ∧ m.loop n = true ∧ m.map n = true ∧ m.outputs d0 n := by
  rcases hm with hm | hm
  · exact hm n
  refine hm.2 n ?_
  by_cases ht : m.trk n = true
  · exact .inr ht
  · left
    rw [← h.trk n (by simpa using ht)]
    refine ⟨hd, ?_⟩
    simp only [Dev.detSrc, Dev.fld] at hs ⊢
    rw [← h.reg .detCtrl n (hm.1 n)]; exact hs

/-- The milestone units on input `i` may change. -/
def May.mlsOf (m : May) (d0 : Dev) (i : Nat) : Prop :=
  (∀ j, m.mls j = true ∧ m.reg .mlsCnt j = true ∧ m.reg .mlsStat j = true) ∨
  ((∀ j, m.reg .mlsCtrl j = false) ∧
    ∀ j, d0.mlsSrc j = i → m.mls j = true ∧ m.reg .mlsCnt j = true ∧ m.reg .mlsStat j = true)

/-- A unit on the input may change. -/
theorem Within.mlsOf (h : Within m d0 d) {i j : Nat} (hm : m.mlsOf d0 i) (hj : d.mlsSrc j = i) :
    m.mls j = true ∧ m.reg .mlsCnt j = true ∧ m.reg .mlsStat j = true := by
  rcases hm with hm | hm
  · exact hm j
  refine hm.2 j ?_
  simp only [Dev.mlsSrc, Dev.fld] at hj ⊢
  rw [← h.reg .mlsCtrl j (hm.1 j)]; exact hj

@[simp] theorem Within.foldl {α : Type} (h : Within m d0 d) (l : List α) (f : Dev → α → Dev)
    (hf : ∀ e a, Within m d0 e → Within m d0 (f e a)) : Within m d0 (l.foldl f d) := by
  induction l generalizing d with
  | nil => exact h
  | cons a l ih => exact ih (hf d a h)

@[simp] theorem Within.foldlSnd {α β : Type} (f : β × Dev → α → β × Dev) (l : List α) (a : β × Dev) (h : Within m d0 a.2)
    (hf : ∀ b x, Within m d0 b.2 → Within m d0 (f b x).2) : Within m d0 (l.foldl f a).2 := by
  induction l generalizing a with
  | nil => exact h
  | cons x l ih => exact ih (f a x) (hf a x h)

@[simp] theorem Within.when (h : Within m d0 d) (c : Bool) (f : Dev → Dev) (hf : ∀ e, Within m d0 e → Within m d0 (f e)) :
    Within m d0 (d.when c f) := by
  unfold Dev.when; split
  · exact hf d h
  · exact h

@[simp] theorem Within.whenSome {α : Type} (h : Within m d0 d) (o : Option α) (f : α → Dev → Dev)
    (hf : ∀ a e, Within m d0 e → Within m d0 (f a e)) : Within m d0 (d.whenSome o f) := by
  unfold Dev.whenSome; split
  · exact hf _ d h
  · exact h

@[simp] theorem Within.ite {b : Prop} [Decidable b] {x y : Dev} (hx : Within m d0 x) (hy : Within m d0 y) :
    Within m d0 (if b then x else y) := by
  split
  · exact hx
  · exact hy

end Sys2Proof.Machine
end

