-- ==== Sys2Proof/Laws/WithinSignal.lean ====
section
/-! SUPPORT. What the operations of the signal chain: time, excitation, acquisition, tracker, maps, pulse inputs, milestones, emulation outputs change: one lemma for each, which asks of
`May` just the places that the operation touches. -/
namespace Sys2Proof.Machine
open Sys2Proof
set_option linter.unusedSimpArgs false
set_option linter.unusedVariables false
set_option maxRecDepth 4000

/-! ### Ops -/

@[simp] theorem Dev.setFld_within {my : May} {d0 : Dev} (d : Dev) (i : RegId) (k lo n v : Nat) (h : Within my d0 d)
    (h1 : my.reg i k = true) :
    Within my d0 (d.setFld i k lo n v) := by
  simp (maxDischargeDepth := 60) [Dev.setFld, Lane.own, *]

@[simp] theorem Dev.setFlag_within {my : May} {d0 : Dev} (d : Dev) (i : RegId) (k b : Nat) (h : Within my d0 d)
    (h1 : my.reg i k = true) :
    Within my d0 (d.setFlag i k b) := by
  simp (maxDischargeDepth := 60) [Dev.setFlag, Lane.own, *]

@[simp] theorem Dev.setFlagIf_within {my : May} {d0 : Dev} (d : Dev) (c : Bool) (i : RegId) (k b : Nat)
    (h : Within my d0 d) (h1 : my.reg i k = true) :
    Within my d0 (d.setFlagIf c i k b) := by
  simp (maxDischargeDepth := 60) [Dev.setFlagIf, Lane.own, *]

@[simp] theorem Dev.addCnt_within {my : May} {d0 : Dev} (d : Dev) (i : RegId) (k lo n : Nat) (by_ : Nat)
    (h : Within my d0 d) (h1 : my.reg i k = true) :
    Within my d0 (d.addCnt i k lo n by_) := by
  simp (maxDischargeDepth := 60) [Dev.addCnt, Lane.own, *]

@[simp] theorem Dev.maxFld_within {my : May} {d0 : Dev} (d : Dev) (i : RegId) (k lo n v : Nat) (h : Within my d0 d)
    (h1 : my.reg i k = true) :
    Within my d0 (d.maxFld i k lo n v) := by
  simp (maxDischargeDepth := 60) [Dev.maxFld, Lane.own, *]

@[simp] theorem Dev.setReg64_within {my : May} {d0 : Dev} (d : Dev) (i : RegId) (k : Nat) (v : Nat) (h : Within my d0 d)
    (h1 : ∀ k', my.reg i k' = true) :
    Within my d0 (d.setReg64 i k v) := by
  simp (maxDischargeDepth := 60) [Dev.setReg64, Lane.own, *]

@[simp] theorem Dev.free_within {my : May} {d0 : Dev} (d : Dev) (h : Within my d0 d) :
    Within my d0 (d.free).2 := by
  simp (maxDischargeDepth := 60) [Dev.free, Lane.own, *]

@[simp] theorem Dev.stage_within {my : May} {d0 : Dev} (d : Dev) (port : Nat) (inGroup : Bool) (a : Act)
    (h : Within my d0 d) (h1 : my.staged = true) :
    Within my d0 (d.stage port inGroup a) := by
  simp (maxDischargeDepth := 60) [Dev.stage, Lane.own, *]

@[simp] theorem Dev.commitRegs_within {my : May} {d0 : Dev} (d : Dev) (es : List Staged) (hold : RegId → Nat → Word → Word)
    (ok : Dev → Bool) (err : Dev → Dev) (h : Within my d0 d) (h1 : ∀ i k, my.reg i k = true) (h2 : my.staged = true)
    (he : ∀ e, Within my d0 e → Within my d0 (err e)) : Within my d0 (d.commitRegs es hold ok err) := by
  unfold Dev.commitRegs; dsimp only
  refine Within.setStaged ?_ _ h2
  split
  · refine Within.foldl h _ _ fun e s hs => ?_
    split
    · exact Within.setReg hs (h1 _ _)
    · exact hs
  · refine Within.foldl h _ _ fun e s hs => ?_
    have hp : Within my d0 (match s.regOf with
      | some (i, k, v) => e.setReg i k (v &&& ~~~hold i k v ||| d.reg i k &&& hold i k v)
      | none => e) := by
      split
      · exact Within.setReg hs (h1 _ _)
      · exact hs
    split
    · exact hp
    · exact he _ hs

@[simp] theorem Dev.commitSet_within {my : May} {d0 : Dev} (d : Dev) (es : List Staged) (hold : RegId → Nat → Word → Word)
    (ok : Dev → Bool) (err : Dev → Dev) (h : Within my d0 d) (h1 : ∀ i k, my.reg i k = true) (h2 : my.staged = true)
    (he : ∀ e, Within my d0 e → Within my d0 (err e)) : Within my d0 (d.commitSet es hold ok err) := by
  unfold Dev.commitSet; dsimp only
  exact Within.ite (Dev.commitRegs_within _ _ _ _ _ h h1 h2 fun e hx => hx) (he d h)

@[simp] theorem Dev.logEvent_within {my : May} {d0 : Dev} (d : Dev) (code kind idx : Nat) (data : List Byte)
    (h : Within my d0 d) (h1 : my.bbx = true) (h2 : my.reg .bbxStat 0 = true) :
    Within my d0 (d.logEvent code kind idx data) := by
  simp (maxDischargeDepth := 60) [Dev.logEvent, Lane.own, *]

@[simp] theorem Dev.mramWrite_within {my : May} {d0 : Dev} (d : Dev) (r : Nat) (h : Within my d0 d) (h1 : my.hlt = true) :
    Within my d0 (d.mramWrite r) := by
  simp (maxDischargeDepth := 60) [Dev.mramWrite, Lane.own, *]

@[simp] theorem Dev.countHours_within {my : May} {d0 : Dev} (d : Dev) (h : Within my d0 d) (h1 : my.hlt = true) :
    Within my d0 (d.countHours) := by
  simp (maxDischargeDepth := 60) [Dev.countHours, Lane.own, *]

@[simp] theorem Dev.saveOdo_within {my : May} {d0 : Dev} (d : Dev) (h : Within my d0 d) (h1 : my.hlt = true) :
    Within my d0 (d.saveOdo) := by
  simp (maxDischargeDepth := 60) [Dev.saveOdo, Lane.own, *]

@[simp] theorem Dev.startCommit_within {my : May} {d0 : Dev} (d : Dev) (kind : Nat) (t : Time) (merged : Nat)
    (h : Within my d0 d) (h1 : my.bbx = true) (h2 : my.hlt = true) :
    Within my d0 (d.startCommit kind t merged) := by
  simp (maxDischargeDepth := 60) [Dev.startCommit, Lane.own, *]

@[simp] theorem Dev.bbxTrigger_within {my : May} {d0 : Dev} (d : Dev) (kind : Nat) (h : Within my d0 d)
    (h1 : my.bbx = true) (h2 : my.hlt = true) :
    Within my d0 (d.bbxTrigger kind) := by
  unfold Dev.bbxTrigger; (try dsimp only); (repeat' split) <;> simp (maxDischargeDepth := 60) [Lane.own, *]

@[simp] theorem Dev.runWaitingCommit_within {my : May} {d0 : Dev} (d : Dev) (h : Within my d0 d) (h1 : my.bbx = true)
    (h2 : my.hlt = true) :
    Within my d0 (d.runWaitingCommit) := by
  unfold Dev.runWaitingCommit; (repeat' split) <;> simp (maxDischargeDepth := 60) [Lane.own, *]

@[simp] theorem Dev.laneFault_within {my : May} {d0 : Dev} (d : Dev) (n code : Nat) (arg : Nat) (h : Within my d0 d)
    (h1 : my.bbx = true) (h2 : my.hlt = true) (h3 : my.lane n = true) :
    Within my d0 (d.laneFault n code arg) := by
  simp (maxDischargeDepth := 60) [Dev.laneFault, Lane.own, *]

@[simp] theorem Dev.rewritten_within {my : May} {d0 : Dev} (d : Dev) (ws : List (Nat × Nat)) (h : Within my d0 d)
    (h1 : my.hlt = true) :
    Within my d0 (d.rewritten ws) := by
  simp (maxDischargeDepth := 60) [Dev.rewritten, Lane.own, *]

/-! ### TimeSync -/

@[simp] theorem Dev.clockCycle_within {my : May} {d0 : Dev} (d : Dev) (h : Within my d0 d) (h1 : my.time = true) :
    Within my d0 (d.clockCycle) := by
  exact Within.setTime (Within.setNow h _) _ h1

@[simp] theorem Dev.enterHoldover_within {my : May} {d0 : Dev} (d : Dev) (h : Within my d0 d) (h1 : my.bbx = true)
    (h2 : my.reg .bbxStat 0 = true) (h3 : my.time = true) :
    Within my d0 (d.enterHoldover) := by
  simp (maxDischargeDepth := 60) [Dev.enterHoldover, Lane.own, *]

@[simp] theorem Dev.applyRate_within {my : May} {d0 : Dev} (d : Dev) (r : Int) (h : Within my d0 d)
    (h1 : my.reg .timeRate 0 = true) (h2 : my.reg .timeStat 0 = true) :
    Within my d0 (d.applyRate r) := by
  simp (maxDischargeDepth := 60) [Dev.applyRate, Lane.own, *]

@[simp] theorem Dev.servoUpdate_within {my : May} {d0 : Dev} (d : Dev) (err : Int) (h : Within my d0 d)
    (h1 : my.bbx = true) (h2 : my.reg .bbxStat 0 = true) (h3 : my.reg .timeOffset 0 = true)
    (h4 : my.reg .timeRate 0 = true) (h5 : my.reg .timeStat 0 = true) (h6 : my.time = true) :
    Within my d0 (d.servoUpdate err) := by
  simp (maxDischargeDepth := 60) [Dev.servoUpdate, Lane.own, *]

@[simp] theorem Dev.asCheck_within {my : May} {d0 : Dev} (d : Dev) (h : Within my d0 d) (h1 : my.time = true) :
    Within my d0 (d.asCheck) := by
  simp (maxDischargeDepth := 60) [Dev.asCheck, Lane.own, *]

@[simp] theorem Dev.asSend_within {my : May} {d0 : Dev} (d : Dev) (port : Nat) (h : Within my d0 d)
    (h1 : my.port port = true) :
    Within my d0 (d.asSend port) := by
  simp (maxDischargeDepth := 60) [Dev.asSend, Lane.own, *]

@[simp] theorem Dev.syncMessage_within {my : May} {d0 : Dev} (d : Dev) (port domain : Nat) (rx gm : Time) (interval : Nat)
    (twoStep followUp : Bool) (h : Within my d0 d) (h1 : my.bbx = true) (h2 : my.reg .bbxStat 0 = true)
    (h3 : my.reg .timeOffset 0 = true) (h4 : my.reg .timeRate 0 = true) (h5 : my.reg .timeStat 0 = true)
    (h6 : my.time = true) :
    Within my d0 (d.syncMessage port domain rx gm interval twoStep followUp) := by
  unfold Dev.syncMessage; (try dsimp only); (repeat' split) <;> simp (maxDischargeDepth := 60) [Lane.own, *]

@[simp] theorem Dev.announce_within {my : May} {d0 : Dev} (d : Dev) (port domain : Nat) (gm : Quad) (h : Within my d0 d)
    (h1 : my.bbx = true) (h2 : my.reg .bbxStat 0 = true) (h3 : ∀ k', my.reg .timeGmId k' = true)
    (h4 : my.reg .timeStat 0 = true) :
    Within my d0 (d.announce port domain gm) := by
  simp (maxDischargeDepth := 60) [Dev.announce, Lane.own, *]

@[simp] theorem Dev.pdelayAnswer_within {my : May} {d0 : Dev} (d : Dev) (port : Nat) (h : Within my d0 d)
    (h1 : my.port port = true) (h2 : my.time = true) :
    Within my d0 (d.pdelayAnswer port) := by
  simp (maxDischargeDepth := 60) [Dev.pdelayAnswer, Lane.own, *]

@[simp] theorem Dev.pdelaySend_within {my : May} {d0 : Dev} (d : Dev) (h : Within my d0 d) (h1 : ∀ k', my.port k' = true)
    (h2 : my.time = true) :
    Within my d0 (d.pdelaySend) := by
  simp (maxDischargeDepth := 60) [Dev.pdelaySend, Lane.own, *]

@[simp] theorem Dev.pdelayResponse_within {my : May} {d0 : Dev} (d : Dev) (port : Nat) (t2 t3 t4 : Time)
    (h : Within my d0 d) (h1 : my.reg .timePdelay 0 = true) (h2 : my.time = true) :
    Within my d0 (d.pdelayResponse port t2 t3 t4) := by
  unfold Dev.pdelayResponse; (try dsimp only); (repeat' split) <;> simp (maxDischargeDepth := 60) [Lane.own, *]

@[simp] theorem Dev.syncTimeout_within {my : May} {d0 : Dev} (d : Dev) (h : Within my d0 d) (h1 : my.bbx = true)
    (h2 : my.reg .bbxStat 0 = true) (h3 : my.reg .timeCnt 0 = true) (h4 : my.time = true) :
    Within my d0 (d.syncTimeout) := by
  simp (maxDischargeDepth := 60) [Dev.syncTimeout, Lane.own, *]

@[simp] theorem Dev.missEdge_within {my : May} {d0 : Dev} (d : Dev) (r : Int) (h : Within my d0 d) (h1 : my.bbx = true)
    (h2 : my.reg .bbxStat 0 = true) (h3 : my.time = true) :
    Within my d0 (d.missEdge r) := by
  simp (maxDischargeDepth := 60) [Dev.missEdge, Lane.own, *]

@[simp] theorem Dev.stepTime_within {my : May} {d0 : Dev} (d : Dev) (step : Int) (h : Within my d0 d)
    (h1 : my.bbx = true) (h2 : ∀ k, my.conn k = true) (h3 : ∀ k, my.pfe k = true) (h4 : ∀ k, my.port k = true)
    (h5 : my.reg .bbxStat 0 = true) (h6 : my.saf = true) (h7 : ∀ k, my.safLane k = true) (h8 : my.staged = true)
    (h9 : my.time = true) : Within my d0 (d.stepTime step) := by
  unfold Dev.stepTime; dsimp only
  refine Dev.logEvent_within _ _ _ _ _ (Within.onTime (h.trans ?_) _ h9) h1 h5
  exact { Within.refl my d with
    shape := by simp [Dev.shape, Saf.shape, Saf.shift]
    port := fun k hk => by simp [h4] at hk
    pfe := fun k hk => by simp [h3] at hk
    safLane := fun k hk => by simp [h7] at hk
    conn := fun k hk => by simp [h2] at hk
    saf := fun hk => by simp [h6] at hk
    staged := fun hk => by simp [h8] at hk }

@[simp] theorem Dev.syncInEdge_within {my : May} {d0 : Dev} (d : Dev) (at_ : Time) (width : Nat) (h : Within my d0 d)
    (h1 : my.bbx = true) (h2 : ∀ k', my.conn k' = true) (h3 : ∀ k', my.pfe k' = true) (h4 : ∀ k', my.port k' = true)
    (h5 : my.reg .bbxStat 0 = true) (h6 : my.reg .timeCnt 0 = true) (h7 : my.reg .timeOffset 0 = true)
    (h8 : my.reg .timeRate 0 = true) (h9 : my.reg .timeStat 0 = true) (h10 : my.saf = true)
    (h11 : ∀ k', my.safLane k' = true) (h12 : my.staged = true) (h13 : my.time = true) :
    Within my d0 (d.syncInEdge at_ width) := by
  unfold Dev.syncInEdge; (try dsimp only)
  (repeat' split) <;> (repeat' (first | assumption | refine Within.forEach ?_ _ _ (fun n e he => ?_) | refine Within.foldl ?_ _ _ (fun e n he => ?_) | refine Within.when ?_ _ _ (fun e he => ?_) | refine Within.whenSome ?_ _ _ (fun a e he => ?_) | split | dsimp only)) <;> simp_all (maxDischargeDepth := 60) [Lane.own]

@[simp] theorem Dev.syncInMissing_within {my : May} {d0 : Dev} (d : Dev) (h : Within my d0 d) (h1 : my.bbx = true)
    (h2 : my.reg .bbxStat 0 = true) (h3 : my.time = true) :
    Within my d0 (d.syncInMissing) := by
  simp (maxDischargeDepth := 60) [Dev.syncInMissing, Lane.own, *]

@[simp] theorem Dev.armTimeSet_within {my : May} {d0 : Dev} (d : Dev) (v : Nat) (h : Within my d0 d) (h1 : my.time = true) :
    Within my d0 (d.armTimeSet v) := by
  simp (maxDischargeDepth := 60) [Dev.armTimeSet, Lane.own, *]

@[simp] theorem Dev.takeSource_within {my : May} {d0 : Dev} (d : Dev) (h : Within my d0 d) (h1 : my.time = true) :
    Within my d0 (d.takeSource) := by
  simp (maxDischargeDepth := 60) [Dev.takeSource, Lane.own, *]

@[simp] theorem Dev.applyStep_within {my : May} {d0 : Dev} (d : Dev) (h : Within my d0 d) (h1 : my.bbx = true)
    (h2 : ∀ k', my.conn k' = true) (h3 : ∀ k', my.pfe k' = true) (h4 : ∀ k', my.port k' = true)
    (h5 : my.reg .bbxStat 0 = true) (h6 : my.saf = true) (h7 : ∀ k', my.safLane k' = true) (h8 : my.staged = true)
    (h9 : my.time = true) :
    Within my d0 (d.applyStep) := by
  unfold Dev.applyStep; (try dsimp only)
  (repeat' split) <;> (repeat' (first | assumption | refine Within.forEach ?_ _ _ (fun n e he => ?_) | refine Within.foldl ?_ _ _ (fun e n he => ?_) | refine Within.when ?_ _ _ (fun e he => ?_) | refine Within.whenSome ?_ _ _ (fun a e he => ?_) | split | dsimp only)) <;> simp_all (maxDischargeDepth := 60) [Lane.own]

@[simp] theorem Dev.issueTick_within {my : May} {d0 : Dev} (d : Dev) (h : Within my d0 d) (h1 : my.bbx = true)
    (h2 : my.reg .bbxStat 0 = true) (h3 : my.reg .frmSkip 0 = true) (h4 : my.time = true) :
    Within my d0 (d.issueTick) := by
  simp (maxDischargeDepth := 60) [Dev.issueTick, Lane.own, *]

@[simp] theorem Dev.syncOutPulse_within {my : May} {d0 : Dev} (d : Dev) (h : Within my d0 d) (h1 : my.time = true) :
    Within my d0 (d.syncOutPulse) := by
  unfold Dev.syncOutPulse; (try dsimp only); (repeat' split) <;> simp (maxDischargeDepth := 60) [Lane.own, *]

@[simp] theorem Dev.syncOutPulseEnd_within {my : May} {d0 : Dev} (d : Dev) (h : Within my d0 d) (h1 : my.time = true) :
    Within my d0 (d.syncOutPulseEnd) := by
  unfold Dev.syncOutPulseEnd; (repeat' split) <;> simp (maxDischargeDepth := 60) [Lane.own, *]

/-! ### Emu -/

@[simp] theorem Dev.emuPins_within {my : May} {d0 : Dev} (d : Dev) (o : Nat) (h : Within my d0 d) (h1 : my.emu o = true) :
    Within my d0 (d.emuPins o) := by
  simp (maxDischargeDepth := 60) [Dev.emuPins, Lane.own, *]

@[simp] theorem Dev.emuStallRef_within {my : May} {d0 : Dev} (d : Dev) (o : Nat) (h : Within my d0 d)
    (h1 : my.emu o = true) :
    Within my d0 (d.emuStallRef o) := by
  simp (maxDischargeDepth := 60) [Dev.emuStallRef, Lane.own, *]

@[simp] theorem Dev.emuBacklog_within {my : May} {d0 : Dev} (d : Dev) (o : Nat) (h : Within my d0 d) (h1 : my.bbx = true)
    (h2 : my.emu o = true) (h3 : my.reg .bbxStat 0 = true) (h4 : my.reg .emuCnt o = true) :
    Within my d0 (d.emuBacklog o) := by
  unfold Dev.emuBacklog; (try dsimp only); (repeat' split) <;> simp_all (maxDischargeDepth := 60) [Lane.own]

@[simp] theorem Dev.emuMove_within {my : May} {d0 : Dev} (d : Dev) (o : Nat) (t : Time) (pos : Int) (exact : Bool)
    (h : Within my d0 d) (h1 : my.bbx = true) (h2 : my.emu o = true) (h3 : my.reg .bbxStat 0 = true)
    (h4 : my.reg .emuCnt o = true) :
    Within my d0 (d.emuMove o t pos exact) := by
  simp (maxDischargeDepth := 60) [Dev.emuMove, Lane.own, *]

@[simp] theorem Dev.emuFollow_within {my : May} {d0 : Dev} (d : Dev) (n : Nat) (t : Time) (exact : Bool)
    (h : Within my d0 d) (h1 : my.bbx = true) (h2 : my.outputs d0 n) (h3 : my.reg .bbxStat 0 = true) :
    Within my d0 (d.emuFollow n t exact) := by
  unfold Dev.emuFollow
  refine Within.outputs (h := h) _ _ (by assumption) fun o e ha hb hc hl he => ?_
  try dsimp only
  (repeat' split) <;> simp (maxDischargeDepth := 60) [*]

@[simp] theorem Dev.emuReconcile_within {my : May} {d0 : Dev} (d : Dev) (o : Nat) (h : Within my d0 d)
    (h1 : my.bbx = true) (h2 : my.emu o = true) (h3 : my.outputs d0 (d.emuLane o)) (h4 : my.reg .bbxStat 0 = true)
    (h5 : my.reg .emuStat o = true) : Within my d0 (d.emuReconcile o) := by
  unfold Dev.emuReconcile; dsimp only
  split
  · exact h
  · split
    · simp (maxDischargeDepth := 60) [*]
    · split
      · exact Dev.emuFollow_within _ _ _ _ (by simp (maxDischargeDepth := 60) [*]) h1 h3 h4
      · simp (maxDischargeDepth := 60) [*]

@[simp] theorem Dev.emuRealignAt_within {my : May} {d0 : Dev} (d : Dev) (o : Nat) (pos : Int) (h : Within my d0 d)
    (h1 : my.emu o = true) :
    Within my d0 (d.emuRealignAt o pos) := by
  simp (maxDischargeDepth := 60) [Dev.emuRealignAt, Lane.own, *]

@[simp] theorem Dev.emuRealign_within {my : May} {d0 : Dev} (d : Dev) (o : Nat) (h : Within my d0 d)
    (h1 : my.emu o = true) :
    Within my d0 (d.emuRealign o) := by
  simp (maxDischargeDepth := 60) [Dev.emuRealign, Lane.own, *]

@[simp] theorem Dev.emuResume_within {my : May} {d0 : Dev} (d : Dev) (o : Nat) (h : Within my d0 d) (h1 : my.bbx = true)
    (h2 : my.emu o = true) (h3 : my.reg .bbxStat 0 = true) (h4 : my.reg .emuStat o = true) :
    Within my d0 (d.emuResume o) := by
  simp (maxDischargeDepth := 60) [Dev.emuResume, Lane.own, *]

@[simp] theorem Dev.emuRefresh_within {my : May} {d0 : Dev} (d : Dev) (o : Nat) (h : Within my d0 d)
    (h1 : my.bbx = true) (h2 : my.emu o = true) (h3 : my.outputs d0 (d.emuLane o)) (h4 : my.reg .bbxStat 0 = true)
    (h5 : my.reg .emuStat o = true) : Within my d0 (d.emuRefresh o) := by
  have hr : ∀ e, Within my d0 e → Within my d0 (e.emuReconcile o) := fun e he =>
    Dev.emuReconcile_within e o he h1 h2 (h.outputsOf he h3) h4 h5
  unfold Dev.emuRefresh; dsimp only
  (repeat' split) <;> simp (maxDischargeDepth := 60) [*]

@[simp] theorem Dev.emuRefreshLane_within {my : May} {d0 : Dev} (d : Dev) (n : Nat) (h : Within my d0 d)
    (h1 : my.bbx = true) (h2 : my.outputs d0 n) (h3 : my.reg .bbxStat 0 = true) :
    Within my d0 (d.emuRefreshLane n) := by
  unfold Dev.emuRefreshLane
  refine Within.outputs (h := h) _ _ (by assumption) fun o e ha hb hc hl he => ?_
  try dsimp only
  simp (maxDischargeDepth := 60) [*]

@[simp] theorem Dev.emuRekey_within {my : May} {d0 : Dev} (d : Dev) (n : Nat) (oldPos newPos : Int) (h : Within my d0 d)
    (h1 : my.bbx = true) (h2 : my.outputs d0 n) (h3 : my.reg .bbxStat 0 = true) :
    Within my d0 (d.emuRekey n oldPos newPos) := by
  unfold Dev.emuRekey
  refine Within.outputs (h := h) _ _ (by assumption) fun o e ha hb hc hl he => ?_
  try dsimp only
  (repeat' split) <;> simp (maxDischargeDepth := 60) [*]

/-- One count leaves an output: outputs of its lane move with it where it is the lane's feedback. -/
theorem Dev.emuEmit_within {my : May} {d0 : Dev} (d : Dev) (o : Nat) (t : Time) (dir : Int) (h : Within my d0 d)
    (h1 : my.bbx = true) (h2 : my.emu o = true) (h3 : d.stepFb (d.emuLane o) = some o → my.outputs d0 (d.emuLane o))
    (h4 : my.reg .bbxStat 0 = true) : Within my d0 (d.emuEmit o t dir) := by
  unfold Dev.emuEmit; dsimp only
  split
  · next hs => exact Dev.emuFollow_within _ _ _ _ (by simp (maxDischargeDepth := 60) [*]) h1 (h3 hs) h4
  · simp (maxDischargeDepth := 60) [*]

@[simp] theorem Dev.emuEdgeEmit_within {my : May} {d0 : Dev} (d : Dev) (t : Time) (o : Nat) (h : Within my d0 d)
    (h1 : my.bbx = true) (h2 : my.emu o = true) (h3 : my.reg .bbxStat 0 = true) : Within my d0 (d.emuEdgeEmit t o) := by
  unfold Dev.emuEdgeEmit; dsimp only
  split
  · split
    · next hs =>
      refine Dev.emuEmit_within _ _ _ _ h h1 h2 (fun hf => ?_) h3
      simp only [Dev.stepFb] at hf
      have hm := List.find?_some hf
      simp [hs.1] at hm
    · exact h
  · exact h

@[simp] theorem Dev.stepEmit_within {my : May} {d0 : Dev} (d : Dev) (o : Nat) (h : Within my d0 d)
    (h1 : my.bbx = true) (h2 : my.emu o = true) (h3 : d.stepFb (d.emuLane o) = some o → my.outputs d0 (d.emuLane o))
    (h4 : my.reg .bbxStat 0 = true) : Within my d0 (d.stepEmit o) := by
  unfold Dev.stepEmit; dsimp only
  (repeat' split) <;> first | exact h | exact Dev.emuEmit_within _ _ _ _ h h1 h2 h3 h4

@[simp] theorem Dev.stepTarget_within {my : May} {d0 : Dev} (d : Dev) (o : Nat) (posDem : Int) (h : Within my d0 d)
    (h1 : my.emu o = true) :
    Within my d0 (d.stepTarget o posDem) := by
  simp (maxDischargeDepth := 60) [Dev.stepTarget, Lane.own, *]

@[simp] theorem Dev.stallSnapshot_within {my : May} {d0 : Dev} (d : Dev) (o : Nat) (h : Within my d0 d)
    (h1 : my.emu o = true) :
    Within my d0 (d.stallSnapshot o) := by
  simp (maxDischargeDepth := 60) [Dev.stallSnapshot, Lane.own, *]

/-- An output stalls: its lane may go to FAULT. -/
@[simp] theorem Dev.stallDetect_within {my : May} {d0 : Dev} (d : Dev) (o : Nat) (h : Within my d0 d) (h1 : my.bbx = true)
    (h2 : my.emu o = true) (h3 : my.hlt = true) (h4 : my.lane (d.emuLane o) = true) (h5 : my.outputs d0 (d.emuLane o))
    (h6 : my.reg .bbxStat 0 = true) (h7 : my.reg .emuCnt o = true) : Within my d0 (d.stallDetect o) := by
  unfold Dev.stallDetect; dsimp only
  (repeat' split) <;> simp (maxDischargeDepth := 60) [*]

@[simp] theorem Dev.emuAlign_within {my : May} {d0 : Dev} (d : Dev) (o action : Nat) (h : Within my d0 d)
    (h1 : my.bbx = true) (h2 : my.emu o = true) (h3 : my.outputs d0 (d.emuLane o)) (h4 : my.reg .bbxStat 0 = true)
    (h5 : my.reg .emuStat o = true) : Within my d0 (d.emuAlign o action) := by
  have hr : ∀ e, Within my d0 e → Within my d0 (e.emuReconcile o) := fun e he =>
    Dev.emuReconcile_within e o he h1 h2 (h.outputsOf he h3) h4 h5
  have hx : ∀ e, Within my d0 e → Within my d0 (e.emuRefresh o) := fun e he =>
    Dev.emuRefresh_within e o he h1 h2 (h.outputsOf he h3) h4 h5
  unfold Dev.emuAlign; dsimp only
  (repeat' split) <;> simp (maxDischargeDepth := 60) [*]

@[simp] theorem Dev.emuPark_within {my : May} {d0 : Dev} (d : Dev) (h : Within my d0 d) (h1 : my.bbx = true)
    (h2 : ∀ k', my.emu k' = true) (h3 : ∀ k', my.outputs d0 k') (h4 : my.reg .bbxStat 0 = true)
    (h5 : ∀ k', my.reg .emuStat k' = true) :
    Within my d0 (d.emuPark) := by
  unfold Dev.emuPark; (try dsimp only)
  (repeat' (first | assumption | refine Within.forEach ?_ _ _ (fun n e he => ?_) | refine Within.foldl ?_ _ _ (fun e n he => ?_) | refine Within.when ?_ _ _ (fun e he => ?_) | refine Within.whenSome ?_ _ _ (fun a e he => ?_) | split | dsimp only)) <;> simp_all (maxDischargeDepth := 60) [Lane.own]

@[simp] theorem Dev.emuUnpark_within {my : May} {d0 : Dev} (d : Dev) (h : Within my d0 d) (h1 : my.bbx = true)
    (h2 : ∀ k', my.emu k' = true) (h3 : ∀ k', my.outputs d0 k') (h4 : my.reg .bbxStat 0 = true)
    (h5 : ∀ k', my.reg .emuStat k' = true) :
    Within my d0 (d.emuUnpark) := by
  unfold Dev.emuUnpark; (try dsimp only)
  (repeat' (first | assumption | refine Within.forEach ?_ _ _ (fun n e he => ?_) | refine Within.foldl ?_ _ _ (fun e n he => ?_) | refine Within.when ?_ _ _ (fun e he => ?_) | refine Within.whenSome ?_ _ _ (fun a e he => ?_) | split | dsimp only)) <;> simp_all (maxDischargeDepth := 60) [Lane.own]

@[simp] theorem Dev.stepsOn_within {my : May} {d0 : Dev} (d : Dev) (n : Nat) (on : Bool) (h : Within my d0 d)
    (h1 : my.bbx = true) (h2 : my.outputs d0 n) (h3 : my.reg .bbxStat 0 = true) :
    Within my d0 (d.stepsOn n on) := by
  unfold Dev.stepsOn
  refine Within.outputs (h := h) _ _ (by assumption) fun o e ha hb hc hl he => ?_
  try dsimp only
  (repeat' split) <;> simp (maxDischargeDepth := 60) [*]

@[simp] theorem Dev.emuEnterRun_within {my : May} {d0 : Dev} (d : Dev) (n : Nat) (h : Within my d0 d) (h1 : my.bbx = true)
    (h2 : my.outputs d0 n) (h3 : my.reg .bbxStat 0 = true) :
    Within my d0 (d.emuEnterRun n) := by
  unfold Dev.emuEnterRun
  dsimp only
  refine Within.outputs (h := Dev.stepsOn_within d n true h (by assumption) (by assumption) (by assumption)) _ _ (by assumption) fun o e ha hb hc hl he => ?_
  try dsimp only
  (repeat' split) <;> simp (maxDischargeDepth := 60) [*]

/-! ### Track -/

@[simp] theorem Dev.holdPos_within {my : May} {d0 : Dev} (d : Dev) (n : Nat) (h : Within my d0 d) (h1 : my.trk n = true) :
    Within my d0 (d.holdPos n) := by
  simp (maxDischargeDepth := 60) [Dev.holdPos, Lane.own, *]

@[simp] theorem Dev.detourFail_within {my : May} {d0 : Dev} (d : Dev) (n : Nat) (h : Within my d0 d) (h1 : my.bbx = true)
    (h2 : my.hlt = true) (h3 : my.lane n = true) (h4 : my.outputs d0 n) (h5 : my.reg .bbxStat 0 = true)
    (h6 : my.trk n = true) :
    Within my d0 (d.detourFail n) := by
  simp (maxDischargeDepth := 60) [Dev.detourFail, Lane.own, *]

@[simp] theorem Dev.detourBack_within {my : May} {d0 : Dev} (d : Dev) (n : Nat) (h : Within my d0 d)
    (h1 : my.trk n = true) :
    Within my d0 (d.detourBack n) := by
  simp (maxDischargeDepth := 60) [Dev.detourBack, Lane.own, *]

@[simp] theorem Dev.pinValidity_within {my : May} {d0 : Dev} (d : Dev) (i : Nat) (h : Within my d0 d) (h1 : my.bbx = true)
    (h2 : my.detour d0 i) (h3 : my.hlt = true) (h4 : my.reg .bbxStat 0 = true) :
    Within my d0 (d.pinValidity i) := by
  unfold Dev.pinValidity
  refine Within.forEach h _ _ fun n e he => ?_
  split
  · rename_i hc
    have hc' : (e.lane n).trk.detour = true ∧ e.detSrc n = i := by simp_all
    obtain ⟨ho1, ho2, ho3, ho4, ho5, ho⟩ := Within.detour he (n := n) (i := i) (by assumption) hc'.1 hc'.2
    (repeat' split) <;> simp (maxDischargeDepth := 60) [*]
  · exact he

@[simp] theorem Dev.detourEnter_within {my : May} {d0 : Dev} (d : Dev) (n : Nat) (h : Within my d0 d) (h1 : my.bbx = true)
    (h2 : my.reg .bbxStat 0 = true) (h3 : my.reg .trkCnt n = true) (h4 : my.trk n = true) :
    Within my d0 (d.detourEnter n) := by
  simp (maxDischargeDepth := 60) [Dev.detourEnter, Lane.own, *]

@[simp] theorem Dev.loseLock_within {my : May} {d0 : Dev} (d : Dev) (n cause : Nat) (h : Within my d0 d)
    (h1 : my.bbx = true) (h2 : my.hlt = true) (h3 : my.lane n = true) (h4 : my.outputs d0 n)
    (h5 : my.reg .bbxStat 0 = true) (h6 : my.reg .trkCnt n = true) (h7 : my.trk n = true) :
    Within my d0 (d.loseLock n cause) := by
  simp (maxDischargeDepth := 60) [Dev.loseLock, Lane.own, *]

@[simp] theorem Dev.overspeed_within {my : May} {d0 : Dev} (d : Dev) (n : Nat) (h : Within my d0 d) (h1 : my.bbx = true)
    (h2 : my.hlt = true) (h3 : my.lane n = true) (h4 : my.outputs d0 n) (h5 : my.reg .bbxStat 0 = true)
    (h6 : my.reg .trkCnt n = true) (h7 : my.trk n = true) :
    Within my d0 (d.overspeed n) := by
  simp (maxDischargeDepth := 60) [Dev.overspeed, Lane.own, *]

@[simp] theorem Dev.lockLoss_within {my : May} {d0 : Dev} (d : Dev) (n : Nat) (h : Within my d0 d) (h1 : my.bbx = true)
    (h2 : my.hlt = true) (h3 : my.lane n = true) (h4 : my.outputs d0 n) (h5 : my.reg .bbxStat 0 = true)
    (h6 : my.reg .trkCnt n = true) (h7 : my.trk n = true) :
    Within my d0 (d.lockLoss n) := by
  simp (maxDischargeDepth := 60) [Dev.lockLoss, Lane.own, *]

@[simp] theorem Dev.reacqFastEnd_within {my : May} {d0 : Dev} (d : Dev) (n : Nat) (h : Within my d0 d)
    (h1 : my.trk n = true) :
    Within my d0 (d.reacqFastEnd n) := by
  unfold Dev.reacqFastEnd; (repeat' split) <;> simp (maxDischargeDepth := 60) [Lane.own, *]

@[simp] theorem Dev.lockRegained_within {my : May} {d0 : Dev} (d : Dev) (n : Nat) (h : Within my d0 d)
    (h1 : my.bbx = true) (h2 : my.outputs d0 n) (h3 : my.reg .bbxStat 0 = true) (h4 : my.trk n = true) :
    Within my d0 (d.lockRegained n) := by
  simp (maxDischargeDepth := 60) [Dev.lockRegained, Lane.own, *]

@[simp] theorem Dev.clearReference_within {my : May} {d0 : Dev} (d : Dev) (n : Nat) (h : Within my d0 d)
    (h1 : my.map n = true) (h2 : my.trk n = true) :
    Within my d0 (d.clearReference n) := by
  simp (maxDischargeDepth := 60) [Dev.clearReference, Lane.own, *]

@[simp] theorem Dev.afterUpdate_within {my : May} {d0 : Dev} (d : Dev) (n : Nat) (t : Time) (h : Within my d0 d)
    (h1 : my.bbx = true) (h2 : my.outputs d0 n) (h3 : my.reg .bbxStat 0 = true) (h4 : my.trk n = true) :
    Within my d0 (d.afterUpdate n t) := by
  simp (maxDischargeDepth := 60) [Dev.afterUpdate, Lane.own, *]

@[simp] theorem Dev.coastUpdate_within {my : May} {d0 : Dev} (d : Dev) (n : Nat) (t : Time) (h : Within my d0 d)
    (h1 : my.bbx = true) (h2 : my.outputs d0 n) (h3 : my.reg .bbxStat 0 = true) (h4 : my.trk n = true) :
    Within my d0 (d.coastUpdate n t) := by
  simp (maxDischargeDepth := 60) [Dev.coastUpdate, Lane.own, *]

@[simp] theorem Dev.holdUpdate_within {my : May} {d0 : Dev} (d : Dev) (n : Nat) (t : Time) (h : Within my d0 d)
    (h1 : my.bbx = true) (h2 : my.outputs d0 n) (h3 : my.reg .bbxStat 0 = true) (h4 : my.trk n = true) :
    Within my d0 (d.holdUpdate n t) := by
  simp (maxDischargeDepth := 60) [Dev.holdUpdate, Lane.own, *]

@[simp] theorem Dev.trackerUpdate_within {my : May} {d0 : Dev} (d : Dev) (n : Nat) (t : Time) (s c : Int)
    (h : Within my d0 d) (h1 : my.bbx = true) (h2 : my.map n = true) (h3 : my.outputs d0 n)
    (h4 : my.reg .bbxStat 0 = true) (h5 : my.reg .trkErrPk n = true) (h6 : my.trk n = true) :
    Within my d0 (d.trackerUpdate n t s c) := by
  unfold Dev.trackerUpdate; (try dsimp only); (repeat' split) <;> simp (maxDischargeDepth := 60) [Lane.own, *]

@[simp] theorem Dev.startTracking_within {my : May} {d0 : Dev} (d : Dev) (n : Nat) (h : Within my d0 d)
    (h1 : my.bbx = true) (h2 : my.map n = true) (h3 : my.outputs d0 n) (h4 : my.reg .bbxStat 0 = true)
    (h5 : my.reg .trkCnt n = true) (h6 : my.trk n = true) :
    Within my d0 (d.startTracking n) := by
  simp (maxDischargeDepth := 60) [Dev.startTracking, Lane.own, *]

@[simp] theorem Dev.stopTracking_within {my : May} {d0 : Dev} (d : Dev) (n : Nat) (h : Within my d0 d)
    (h1 : my.bbx = true) (h2 : my.outputs d0 n) (h3 : my.reg .bbxStat 0 = true) (h4 : my.trk n = true) :
    Within my d0 (d.stopTracking n) := by
  simp (maxDischargeDepth := 60) [Dev.stopTracking, Lane.own, *]

@[simp] theorem Dev.refreshTracking_within {my : May} {d0 : Dev} (d : Dev) (n : Nat) (h : Within my d0 d)
    (h1 : my.bbx = true) (h2 : my.map n = true) (h3 : my.outputs d0 n) (h4 : my.reg .bbxStat 0 = true)
    (h5 : my.reg .trkCnt n = true) (h6 : my.trk n = true) :
    Within my d0 (d.refreshTracking n) := by
  simp (maxDischargeDepth := 60) [Dev.refreshTracking, Lane.own, *]

@[simp] theorem Dev.losCleared_within {my : May} {d0 : Dev} (d : Dev) (n : Nat) (h : Within my d0 d)
    (h1 : my.trk n = true) :
    Within my d0 (d.losCleared n) := by
  simp (maxDischargeDepth := 60) [Dev.losCleared, Lane.own, *]

@[simp] theorem Dev.setPosition_within {my : May} {d0 : Dev} (d : Dev) (n : Nat) (t : Time) (target : Int)
    (h : Within my d0 d) (h1 : my.bbx = true) (h2 : my.outputs d0 n) (h3 : my.reg .bbxStat 0 = true)
    (h4 : my.trk n = true) :
    Within my d0 (d.setPosition n t target) := by
  simp (maxDischargeDepth := 60) [Dev.setPosition, Lane.own, *]

@[simp] theorem Dev.posArm_within {my : May} {d0 : Dev} (d : Dev) (n : Nat) (h : Within my d0 d) (h1 : my.bbx = true)
    (h2 : my.map n = true) (h3 : my.outputs d0 n) (h4 : my.reg .bbxStat 0 = true) (h5 : my.reg .trkStat n = true)
    (h6 : my.trk n = true) :
    Within my d0 (d.posArm n) := by
  simp (maxDischargeDepth := 60) [Dev.posArm, Lane.own, *]

@[simp] theorem Dev.detReturn_within {my : May} {d0 : Dev} (d : Dev) (n : Nat) (h : Within my d0 d) (h1 : my.bbx = true)
    (h2 : my.outputs d0 n) (h3 : my.reg .bbxStat 0 = true) (h4 : my.reg .trkStat n = true) (h5 : my.trk n = true) :
    Within my d0 (d.detReturn n) := by
  simp (maxDischargeDepth := 60) [Dev.detReturn, Lane.own, *]

@[simp] theorem Dev.enterTrack_within {my : May} {d0 : Dev} (d : Dev) (n : Nat) (h : Within my d0 d)
    (h1 : my.trk n = true) :
    Within my d0 (d.enterTrack n) := by
  simp (maxDischargeDepth := 60) [Dev.enterTrack, Lane.own, *]

/-! ### Acquire -/

@[simp] theorem Dev.acqLog_within {my : May} {d0 : Dev} (d : Dev) (n slot code : Nat) (data : List Byte)
    (h : Within my d0 d) (h1 : my.acq n = true) (h2 : my.bbx = true) (h3 : my.reg .bbxStat 0 = true) :
    Within my d0 (d.acqLog n slot code data) := by
  simp (maxDischargeDepth := 60) [Dev.acqLog, Lane.own, *]

@[simp] theorem Dev.confirmLos_within {my : May} {d0 : Dev} (d : Dev) (n c : Nat) (h : Within my d0 d)
    (h1 : my.acq n = true) (h2 : my.bbx = true) (h3 : my.hlt = true) (h4 : my.lane n = true) (h5 : my.outputs d0 n)
    (h6 : my.reg .bbxStat 0 = true) (h7 : my.reg .trkCnt n = true) (h8 : my.trk n = true) :
    Within my d0 (d.confirmLos n c) := by
  simp (maxDischargeDepth := 60) [Dev.confirmLos, Lane.own, *]

@[simp] theorem Dev.clipCheck_within {my : May} {d0 : Dev} (d : Dev) (n : Nat) (x : Demod) (h : Within my d0 d)
    (h1 : my.acq n = true) (h2 : my.bbx = true) (h3 : my.reg .acqStat n = true) (h4 : my.reg .bbxStat 0 = true) :
    Within my d0 (d.clipCheck n x) := by
  simp (maxDischargeDepth := 60) [Dev.clipCheck, Lane.own, *]

@[simp] theorem Dev.rangeSample_within {my : May} {d0 : Dev} (d : Dev) (n : Nat) (x : Demod) (h : Within my d0 d)
    (h1 : my.acq n = true) :
    Within my d0 (d.rangeSample n x) := by
  simp (maxDischargeDepth := 60) [Dev.rangeSample, Lane.own, *]

@[simp] theorem Dev.suspectSample_within {my : May} {d0 : Dev} (d : Dev) (t : Time) (n : Nat) (x : Demod)
    (h : Within my d0 d) (h1 : my.acq n = true) (h2 : my.bbx = true) (h3 : my.outputs d0 n)
    (h4 : my.reg .bbxStat 0 = true) (h5 : my.trk n = true) :
    Within my d0 (d.suspectSample t n x) := by
  simp (maxDischargeDepth := 60) [Dev.suspectSample, Lane.own, *]

@[simp] theorem Dev.goodSample_within {my : May} {d0 : Dev} (d : Dev) (t : Time) (n : Nat) (x : Demod) (cleared : Bool)
    (h : Within my d0 d) (h1 : my.acq n = true) (h2 : my.bbx = true) (h3 : my.map n = true) (h4 : my.outputs d0 n)
    (h5 : my.reg .acqCnt n = true) (h6 : my.reg .bbxStat 0 = true) (h7 : my.reg .trkErrPk n = true) (h8 : my.trk n = true) :
    Within my d0 (d.goodSample t n x cleared) := by
  unfold Dev.goodSample; (try dsimp only); simp_all (maxDischargeDepth := 60) [Lane.own]

@[simp] theorem Dev.demodSample_within {my : May} {d0 : Dev} (d : Dev) (t : Time) (n : Nat) (x : Demod)
    (h : Within my d0 d) (h1 : my.acq n = true) (h2 : my.bbx = true) (h3 : my.map n = true) (h4 : my.outputs d0 n)
    (h5 : my.reg .acqCnt n = true) (h6 : my.reg .acqStat n = true) (h7 : my.reg .bbxStat 0 = true)
    (h8 : my.reg .trkErrPk n = true) (h9 : my.trk n = true) :
    Within my d0 (d.demodSample t n x) := by
  simp (maxDischargeDepth := 60) [Dev.demodSample, Lane.own, *]

@[simp] theorem Dev.phasePeriod_within {my : May} {d0 : Dev} (d : Dev) (n : Nat) (x : Period) (h : Within my d0 d)
    (h1 : my.acq n = true) :
    Within my d0 (d.phasePeriod n x) := by
  unfold Dev.phasePeriod; (try dsimp only); (repeat' split) <;> simp (maxDischargeDepth := 60) [Lane.own, *]

@[simp] theorem Dev.phaseLimit_within {my : May} {d0 : Dev} (d : Dev) (n : Nat) (h : Within my d0 d)
    (h1 : my.acq n = true) (h2 : my.bbx = true) (h3 : my.reg .acqStat n = true) (h4 : my.reg .bbxStat 0 = true) :
    Within my d0 (d.phaseLimit n) := by
  simp (maxDischargeDepth := 60) [Dev.phaseLimit, Lane.own, *]

@[simp] theorem Dev.ampWindow_within {my : May} {d0 : Dev} (d : Dev) (n : Nat) (h : Within my d0 d) (h1 : my.acq n = true)
    (h2 : my.bbx = true) (h3 : my.reg .acqStat n = true) (h4 : my.reg .bbxStat 0 = true) :
    Within my d0 (d.ampWindow n) := by
  simp (maxDischargeDepth := 60) [Dev.ampWindow, Lane.own, *]

@[simp] theorem Dev.carrierPeriodEnd_within {my : May} {d0 : Dev} (d : Dev) (n : Nat) (x : Period) (h : Within my d0 d)
    (h1 : my.acq n = true) (h2 : my.bbx = true) (h3 : my.reg .acqStat n = true) (h4 : my.reg .bbxStat 0 = true) :
    Within my d0 (d.carrierPeriodEnd n x) := by
  simp (maxDischargeDepth := 60) [Dev.carrierPeriodEnd, Lane.own, *]

@[simp] theorem Dev.phaseFastEnd_within {my : May} {d0 : Dev} (d : Dev) (n : Nat) (h : Within my d0 d)
    (h1 : my.acq n = true) :
    Within my d0 (d.phaseFastEnd n) := by
  unfold Dev.phaseFastEnd; (repeat' split) <;> simp (maxDischargeDepth := 60) [Lane.own, *]

@[simp] theorem Dev.losConfirm_within {my : May} {d0 : Dev} (d : Dev) (n : Nat) (h : Within my d0 d)
    (h1 : my.acq n = true) (h2 : my.bbx = true) (h3 : my.hlt = true) (h4 : my.lane n = true) (h5 : my.outputs d0 n)
    (h6 : my.reg .bbxStat 0 = true) (h7 : my.reg .trkCnt n = true) (h8 : my.trk n = true) :
    Within my d0 (d.losConfirm n) := by
  unfold Dev.losConfirm; (try dsimp only); (repeat' split) <;> simp (maxDischargeDepth := 60) [Lane.own, *]

@[simp] theorem Dev.losEnded_within {my : May} {d0 : Dev} (d : Dev) (n : Nat) (h : Within my d0 d) (h1 : my.acq n = true)
    (h2 : my.trk n = true) :
    Within my d0 (d.losEnded n) := by
  simp (maxDischargeDepth := 60) [Dev.losEnded, Lane.own, *]

@[simp] theorem Dev.losClear_within {my : May} {d0 : Dev} (d : Dev) (n : Nat) (h : Within my d0 d) (h1 : my.acq n = true)
    (h2 : my.trk n = true) :
    Within my d0 (d.losClear n) := by
  simp (maxDischargeDepth := 60) [Dev.losClear, Lane.own, *]

@[simp] theorem Dev.modulatorReset_within {my : May} {d0 : Dev} (d : Dev) (t : Time) (n w : Nat) (h : Within my d0 d)
    (h1 : my.acq n = true) (h2 : my.bbx = true) (h3 : my.hlt = true) (h4 : my.lane n = true) (h5 : my.outputs d0 n)
    (h6 : my.reg .bbxStat 0 = true) (h7 : my.reg .trkCnt n = true) (h8 : my.trk n = true) :
    Within my d0 (d.modulatorReset t n w) := by
  simp (maxDischargeDepth := 60) [Dev.modulatorReset, Lane.own, *]

@[simp] theorem Dev.modulatorResetEnd_within {my : May} {d0 : Dev} (d : Dev) (n w : Nat) (h : Within my d0 d)
    (h1 : my.acq n = true) :
    Within my d0 (d.modulatorResetEnd n w) := by
  simp (maxDischargeDepth := 60) [Dev.modulatorResetEnd, Lane.own, *]

@[simp] theorem Dev.rangeNarrow_within {my : May} {d0 : Dev} (d : Dev) (n : Nat) (h : Within my d0 d)
    (h1 : my.acq n = true) :
    Within my d0 (d.rangeNarrow n) := by
  simp (maxDischargeDepth := 60) [Dev.rangeNarrow, Lane.own, *]

@[simp] theorem Dev.rangeChange_within {my : May} {d0 : Dev} (d : Dev) (n : Nat) (h : Within my d0 d)
    (h1 : my.acq n = true) (h2 : my.reg .acqCnt n = true) :
    Within my d0 (d.rangeChange n) := by
  unfold Dev.rangeChange; (try dsimp only); (repeat' split) <;> simp (maxDischargeDepth := 60) [Lane.own, *]

@[simp] theorem Dev.ratioEval_within {my : May} {d0 : Dev} (d : Dev) (n : Nat) (h : Within my d0 d) (h1 : my.acq n = true)
    (h2 : my.bbx = true) (h3 : my.reg .acqStat n = true) (h4 : my.reg .bbxStat 0 = true) :
    Within my d0 (d.ratioEval n) := by
  unfold Dev.ratioEval; (try dsimp only); (repeat' split) <;> simp (maxDischargeDepth := 60) [Lane.own, *]

@[simp] theorem Dev.acqStart_within {my : May} {d0 : Dev} (d : Dev) (n : Nat) (h : Within my d0 d) (h1 : my.acq n = true) :
    Within my d0 (d.acqStart n) := by
  simp (maxDischargeDepth := 60) [Dev.acqStart, Lane.own, *]

@[simp] theorem Dev.retrack_within {my : May} {d0 : Dev} (d : Dev) (n : Nat) (h : Within my d0 d) (h1 : my.acq n = true)
    (h2 : my.bbx = true) (h3 : my.map n = true) (h4 : my.outputs d0 n) (h5 : my.reg .bbxStat 0 = true)
    (h6 : my.reg .trkCnt n = true) (h7 : my.trk n = true) :
    Within my d0 (d.retrack n) := by
  simp (maxDischargeDepth := 60) [Dev.retrack, Lane.own, *]

/-! ### Excite -/

@[simp] theorem Dev.leaveRunning_within {my : May} {d0 : Dev} (d : Dev) (g : Nat) (h : Within my d0 d)
    (h1 : ∀ n', n' / 8 = g → my.acq n' = true) (h2 : my.bbx = true) (h3 : my.hlt = true)
    (h4 : ∀ n', n' / 8 = g → my.lane n' = true) (h5 : ∀ n', n' / 8 = g → my.outputs d0 n') (h6 : my.reg .bbxStat 0 = true)
    (h7 : ∀ n', n' / 8 = g → my.reg .trkCnt n' = true) (h8 : ∀ n', n' / 8 = g → my.trk n' = true) :
    Within my d0 (d.leaveRunning g) := by
  unfold Dev.leaveRunning
  refine Within.forEach_mem h _ _ fun n hn e he => ?_
  have hg := mem_lanesOfGroup.1 hn
  try dsimp only
  (repeat' split) <;> simp (maxDischargeDepth := 60) [*]

@[simp] theorem Dev.genStart_within {my : May} {d0 : Dev} (d : Dev) (g : Nat) (h : Within my d0 d) (h1 : my.bbx = true)
    (h2 : my.group g = true) (h3 : my.reg .bbxStat 0 = true) :
    Within my d0 (d.genStart g) := by
  simp (maxDischargeDepth := 60) [Dev.genStart, Lane.own, *]

@[simp] theorem Dev.excRelease_within {my : May} {d0 : Dev} (d : Dev) (g : Nat) (to_ : GenState) (ramp : Bool)
    (h : Within my d0 d) (h1 : ∀ n', n' / 8 = g → my.acq n' = true) (h2 : my.bbx = true) (h3 : my.group g = true)
    (h4 : my.hlt = true) (h5 : ∀ n', n' / 8 = g → my.lane n' = true) (h6 : ∀ n', n' / 8 = g → my.outputs d0 n')
    (h7 : my.reg .bbxStat 0 = true) (h8 : ∀ n', n' / 8 = g → my.reg .trkCnt n' = true)
    (h9 : ∀ n', n' / 8 = g → my.trk n' = true) :
    Within my d0 (d.excRelease g to_ ramp) := by
  unfold Dev.excRelease; (try dsimp only); (repeat' split) <;> simp_all (maxDischargeDepth := 60) [Lane.own]

@[simp] theorem Dev.genStop_within {my : May} {d0 : Dev} (d : Dev) (g : Nat) (ramp : Bool) (h : Within my d0 d)
    (h1 : ∀ n', n' / 8 = g → my.acq n' = true) (h2 : my.bbx = true) (h3 : my.group g = true) (h4 : my.hlt = true)
    (h5 : ∀ n', n' / 8 = g → my.lane n' = true) (h6 : ∀ n', n' / 8 = g → my.outputs d0 n') (h7 : my.reg .bbxStat 0 = true)
    (h8 : ∀ n', n' / 8 = g → my.reg .trkCnt n' = true) (h9 : ∀ n', n' / 8 = g → my.trk n' = true) :
    Within my d0 (d.genStop g ramp) := by
  unfold Dev.genStop; (try dsimp only); (repeat' split) <;> simp_all (maxDischargeDepth := 60) [Lane.own]

@[simp] theorem Dev.rampComplete_within {my : May} {d0 : Dev} (d : Dev) (g : Nat) (h : Within my d0 d)
    (h1 : ∀ n', n' / 8 = g → my.acq n' = true) (h2 : my.group g = true) (h3 : ∀ n', n' / 8 = g → my.trk n' = true) :
    Within my d0 (d.rampComplete g) := by
  unfold Dev.rampComplete
  dsimp only
  split
  · exact h
  · refine Within.forEach_mem (by simp (maxDischargeDepth := 60) [*]) _ _ fun n hn e he => ?_
    have hg := mem_lanesOfGroup.1 hn
    simp (maxDischargeDepth := 60) [*]

@[simp] theorem Dev.excShort_within {my : May} {d0 : Dev} (d : Dev) (g peak : Nat) (h : Within my d0 d)
    (h1 : ∀ n', n' / 8 = g → my.acq n' = true) (h2 : my.bbx = true) (h3 : my.group g = true) (h4 : my.hlt = true)
    (h5 : ∀ n', n' / 8 = g → my.lane n' = true) (h6 : ∀ n', n' / 8 = g → my.outputs d0 n') (h7 : my.reg .bbxStat 0 = true)
    (h8 : ∀ n', n' / 8 = g → my.reg .trkCnt n' = true) (h9 : ∀ n', n' / 8 = g → my.trk n' = true) :
    Within my d0 (d.excShort g peak) := by
  unfold Dev.excShort; (try dsimp only); simp_all (maxDischargeDepth := 60) [Lane.own]

@[simp] theorem Dev.openSeen_within {my : May} {d0 : Dev} (d : Dev) (g : Nat) (h : Within my d0 d)
    (h1 : ∀ n', n' / 8 = g → my.acq n' = true) :
    Within my d0 (d.openSeen g) := by
  unfold Dev.openSeen
  exact Within.forEach_mem h _ _ fun n hn e he => Within.onAcq he _ _ (h1 _ (mem_lanesOfGroup.1 hn))

@[simp] theorem Dev.openLane_within {my : May} {d0 : Dev} (d : Dev) (n : Nat) (h : Within my d0 d) (h1 : my.acq n = true)
    (h2 : my.bbx = true) (h3 : my.hlt = true) (h4 : my.lane n = true) (h5 : my.outputs d0 n)
    (h6 : my.reg .bbxStat 0 = true) (h7 : my.reg .trkCnt n = true) (h8 : my.trk n = true) :
    Within my d0 (d.openLane n) := by
  simp (maxDischargeDepth := 60) [Dev.openLane, Lane.own, *]

@[simp] theorem Dev.excOpen_within {my : May} {d0 : Dev} (d : Dev) (g peak : Nat) (h : Within my d0 d)
    (h1 : ∀ n', n' / 8 = g → my.acq n' = true) (h2 : my.bbx = true) (h3 : my.group g = true) (h4 : my.hlt = true)
    (h5 : ∀ n', n' / 8 = g → my.lane n' = true) (h6 : ∀ n', n' / 8 = g → my.outputs d0 n') (h7 : my.reg .bbxStat 0 = true)
    (h8 : ∀ n', n' / 8 = g → my.reg .trkCnt n' = true) (h9 : ∀ n', n' / 8 = g → my.trk n' = true) :
    Within my d0 (d.excOpen g peak) := by
  unfold Dev.excOpen
  refine Dev.openSeen_within _ _ (Within.forEach_mem (by simp (maxDischargeDepth := 60) [*]) _ _ fun n hn e he => ?_) (by assumption)
  have hg := mem_lanesOfGroup.1 hn
  simp (maxDischargeDepth := 60) [*]

@[simp] theorem Dev.excHalfPeriod_within {my : May} {d0 : Dev} (d : Dev) (g peak : Nat) (h : Within my d0 d)
    (h1 : ∀ n', n' / 8 = g → my.acq n' = true) (h2 : my.bbx = true) (h3 : my.group g = true) (h4 : my.hlt = true)
    (h5 : ∀ n', n' / 8 = g → my.lane n' = true) (h6 : ∀ n', n' / 8 = g → my.outputs d0 n') (h7 : my.reg .bbxStat 0 = true)
    (h8 : my.reg .excStat g = true) (h9 : ∀ n', n' / 8 = g → my.reg .trkCnt n' = true)
    (h10 : ∀ n', n' / 8 = g → my.trk n' = true) :
    Within my d0 (d.excHalfPeriod g peak) := by
  unfold Dev.excHalfPeriod; dsimp only
  split
  · exact h
  · generalize hd : (Dev.setFld _ _ _ _ _ _) = e
    have he : Within my d0 e := hd ▸ Dev.setFld_within _ _ _ _ _ _ (Within.onHlt h _ (by assumption)) (by assumption)
    (repeat' split) <;> first
      | with_reducible apply Dev.excShort_within <;> assumption
      | with_reducible apply Dev.openSeen_within <;> assumption
      | with_reducible apply Dev.excOpen_within <;> assumption
      | exact Within.onGroup he _ _ h3

@[simp] theorem Dev.excCommit_within {my : May} {d0 : Dev} (d : Dev) (g : Nat) (es : List Staged) (h : Within my d0 d)
    (h1 : ∀ n', n' / 8 = g → my.acq n' = true) (h2 : my.bbx = true) (h3 : my.group g = true) (h4 : my.hlt = true)
    (h5 : ∀ n', n' / 8 = g → my.lane n' = true) (h6 : ∀ n', n' / 8 = g → my.outputs d0 n')
    (h7 : ∀ i' k', my.reg i' k' = true) (h8 : my.staged = true) (h9 : ∀ n', n' / 8 = g → my.trk n' = true) :
    Within my d0 (d.excCommit g es) := by
  have hc := Dev.commitSet_within d es (fun i _ v => d.excHold g i v) (fun e => e.excCfgOk g)
    (fun e => e.setFlag .excStat g 5) h (by assumption) (by assumption) fun e he => by simp (maxDischargeDepth := 60) [*]
  unfold Dev.excCommit; dsimp only
  revert hc
  generalize d.commitSet es (fun i _ v => d.excHold g i v) (fun e => e.excCfgOk g) (fun e => e.setFlag .excStat g 5) = e
  intro hc
  have hs : Within my d0 (e.genStop g true) := by
    apply Dev.genStop_within <;> first | assumption | exact h7 _ _ | exact fun _ _ => h7 _ _
  have ht : Within my d0 (e.genStart g) := by simp (maxDischargeDepth := 60) [*]
  (repeat' split) <;> first | exact hc | exact hs | exact ht | exact Within.onGroup hc _ _ (by assumption)

@[simp] theorem Dev.excEconomy_within {my : May} {d0 : Dev} (d : Dev) (g : Nat) (h : Within my d0 d)
    (h1 : ∀ n', n' / 8 = g → my.acq n' = true) (h2 : my.bbx = true) (h3 : my.group g = true) (h4 : my.hlt = true)
    (h5 : ∀ n', n' / 8 = g → my.lane n' = true) (h6 : ∀ n', n' / 8 = g → my.outputs d0 n') (h7 : my.reg .bbxStat 0 = true)
    (h8 : ∀ n', n' / 8 = g → my.reg .trkCnt n' = true) (h9 : ∀ n', n' / 8 = g → my.trk n' = true) :
    Within my d0 (d.excEconomy g) := by
  unfold Dev.excEconomy; (try dsimp only); (repeat' split) <;> simp_all (maxDischargeDepth := 60) [Lane.own]

@[simp] theorem Dev.excPark_within {my : May} {d0 : Dev} (d : Dev) (h : Within my d0 d) (h1 : ∀ k', my.acq k' = true)
    (h2 : my.bbx = true) (h3 : ∀ k', my.group k' = true) (h4 : my.hlt = true) (h5 : ∀ k', my.lane k' = true)
    (h6 : ∀ k', my.outputs d0 k') (h7 : my.reg .bbxStat 0 = true) (h8 : ∀ k', my.reg .excCtrl k' = true)
    (h9 : ∀ k', my.reg .trkCnt k' = true) (h10 : ∀ k', my.trk k' = true) :
    Within my d0 (d.excPark) := by
  unfold Dev.excPark; simp_all (maxDischargeDepth := 60) [Lane.own]

/-! ### MapLearn -/

@[simp] theorem Dev.segmentFail_within {my : May} {d0 : Dev} (d : Dev) (n : Nat) (h : Within my d0 d)
    (h1 : my.map n = true) :
    Within my d0 (d.segmentFail n) := by
  simp (maxDischargeDepth := 60) [Dev.segmentFail, Lane.own, *]

@[simp] theorem Dev.mapSample_within {my : May} {d0 : Dev} (d : Dev) (n : Nat) (t : Time) (s c : Int) (h : Within my d0 d)
    (h1 : my.map n = true) :
    Within my d0 (d.mapSample n t s c) := by
  simp (maxDischargeDepth := 60) [Dev.mapSample, Lane.own, *]

@[simp] theorem Dev.learnFail_within {my : May} {d0 : Dev} (d : Dev) (n cause : Nat) (h : Within my d0 d)
    (h1 : my.bbx = true) (h2 : my.map n = true) (h3 : my.reg .bbxStat 0 = true) :
    Within my d0 (d.learnFail n cause) := by
  simp (maxDischargeDepth := 60) [Dev.learnFail, Lane.own, *]

@[simp] theorem Dev.segmentDiscard_within {my : May} {d0 : Dev} (d : Dev) (n : Nat) (h : Within my d0 d)
    (h1 : my.bbx = true) (h2 : my.map n = true) (h3 : my.reg .bbxStat 0 = true) (h4 : my.reg .segRej n = true) :
    Within my d0 (d.segmentDiscard n) := by
  simp (maxDischargeDepth := 60) [Dev.segmentDiscard, Lane.own, *]

@[simp] theorem Dev.showBands_within {my : May} {d0 : Dev} (d : Dev) (n : Nat) (h : Within my d0 d)
    (h1 : my.reg .mapSeg n = true) :
    Within my d0 (d.showBands n) := by
  simp (maxDischargeDepth := 60) [Dev.showBands, Lane.own, *]

@[simp] theorem Dev.segmentEnd_within {my : May} {d0 : Dev} (d : Dev) (n : Nat) (h : Within my d0 d) (h1 : my.bbx = true)
    (h2 : my.map n = true) (h3 : my.reg .bbxStat 0 = true) (h4 : my.reg .mapSeg n = true) (h5 : my.reg .segRej n = true) :
    Within my d0 (d.segmentEnd n) := by
  simp (maxDischargeDepth := 60) [Dev.segmentEnd, Lane.own, *]

@[simp] theorem Dev.mapEvaluate_within {my : May} {d0 : Dev} (d : Dev) (n : Nat) (h : Within my d0 d) (h1 : my.bbx = true)
    (h2 : my.map n = true) (h3 : my.reg .bbxStat 0 = true) (h4 : my.reg .mapSeg n = true) :
    Within my d0 (d.mapEvaluate n) := by
  simp (maxDischargeDepth := 60) [Dev.mapEvaluate, Lane.own, *]

@[simp] theorem Dev.mapDriftCheck_within {my : May} {d0 : Dev} (d : Dev) (n : Nat) (h : Within my d0 d)
    (h1 : my.bbx = true) (h2 : my.map n = true) (h3 : my.reg .bbxStat 0 = true) (h4 : my.reg .mapStat n = true) :
    Within my d0 (d.mapDriftCheck n) := by
  simp (maxDischargeDepth := 60) [Dev.mapDriftCheck, Lane.own, *]

@[simp] theorem Dev.serveMap_within {my : May} {d0 : Dev} (d : Dev) (n source : Nat) (m : AngleMap) (h : Within my d0 d)
    (h1 : my.bbx = true) (h2 : my.map n = true) (h3 : my.reg .bbxStat 0 = true) :
    Within my d0 (d.serveMap n source m) := by
  simp (maxDischargeDepth := 60) [Dev.serveMap, Lane.own, *]

@[simp] theorem Dev.mapEnterTrack_within {my : May} {d0 : Dev} (d : Dev) (n : Nat) (h : Within my d0 d)
    (h1 : my.map n = true) :
    Within my d0 (d.mapEnterTrack n) := by
  unfold Dev.mapEnterTrack; (repeat' split) <;> simp (maxDischargeDepth := 60) [Lane.own, *]

@[simp] theorem Dev.fadeComplete_within {my : May} {d0 : Dev} (d : Dev) (n : Nat) (h : Within my d0 d)
    (h1 : my.bbx = true) (h2 : my.map n = true) (h3 : my.reg .bbxStat 0 = true) :
    Within my d0 (d.fadeComplete n) := by
  unfold Dev.fadeComplete; (try dsimp only); (repeat' split) <;> simp (maxDischargeDepth := 60) [Lane.own, *]

@[simp] theorem Dev.mapPolesChanged_within {my : May} {d0 : Dev} (d : Dev) (n : Nat) (h : Within my d0 d)
    (h1 : my.bbx = true) (h2 : my.map n = true) (h3 : my.reg .bbxStat 0 = true) :
    Within my d0 (d.mapPolesChanged n) := by
  simp (maxDischargeDepth := 60) [Dev.mapPolesChanged, Lane.own, *]

@[simp] theorem Dev.mapLaneState_within {my : May} {d0 : Dev} (d : Dev) (n : Nat) (h : Within my d0 d)
    (h1 : my.bbx = true) (h2 : my.map n = true) (h3 : my.reg .bbxStat 0 = true) :
    Within my d0 (d.mapLaneState n) := by
  unfold Dev.mapLaneState; (try dsimp only); (repeat' split) <;> simp (maxDischargeDepth := 60) [Lane.own, *]

@[simp] theorem Dev.mapLearnCommit_within {my : May} {d0 : Dev} (d : Dev) (n action terms : Nat) (h : Within my d0 d)
    (h1 : my.bbx = true) (h2 : my.map n = true) (h3 : my.reg .bbxStat 0 = true) (h4 : my.reg .mapSeg n = true) :
    Within my d0 (d.mapLearnCommit n action terms) := by
  unfold Dev.mapLearnCommit; (try dsimp only); (repeat' split) <;> simp (maxDischargeDepth := 60) [Lane.own, *]

@[simp] theorem Dev.mapStore_within {my : May} {d0 : Dev} (d : Dev) (n : Nat) (blob : List Byte) (h : Within my d0 d)
    (h1 : my.bbx = true) (h2 : my.hlt = true) (h3 : my.map n = true) (h4 : my.reg .bbxStat 0 = true) :
    Within my d0 (d.mapStore n blob) := by
  simp (maxDischargeDepth := 60) [Dev.mapStore, Lane.own, *]

@[simp] theorem Dev.mapLoadCommit_within {my : May} {d0 : Dev} (d : Dev) (n source : Nat) (m : AngleMap)
    (h : Within my d0 d) (h1 : my.bbx = true) (h2 : my.map n = true) (h3 : my.reg .bbxStat 0 = true)
    (h4 : my.reg .mapSeg n = true) (h5 : my.reg .mapStat n = true) :
    Within my d0 (d.mapLoadCommit n source m) := by
  simp (maxDischargeDepth := 60) [Dev.mapLoadCommit, Lane.own, *]

@[simp] theorem Dev.autoloadFails_within {my : May} {d0 : Dev} (d : Dev) (n status : Nat) (h : Within my d0 d)
    (h1 : my.bbx = true) (h2 : my.map n = true) (h3 : my.reg .bbxStat 0 = true) :
    Within my d0 (d.autoloadFails n status) := by
  simp (maxDischargeDepth := 60) [Dev.autoloadFails, Lane.own, *]

@[simp] theorem Dev.mapAutoload_within {my : May} {d0 : Dev} (d : Dev) (n : Nat) (h : Within my d0 d) (h1 : my.bbx = true)
    (h2 : my.map n = true) (h3 : my.reg .bbxStat 0 = true) (h4 : my.reg .mapSeg n = true) (h5 : my.reg .mapStat n = true) :
    Within my d0 (d.mapAutoload n) := by
  unfold Dev.mapAutoload; (repeat' split) <;> simp (maxDischargeDepth := 60) [Lane.own, *]

@[simp] theorem Dev.mapCommit_within {my : May} {d0 : Dev} (d : Dev) (n : Nat) (h : Within my d0 d) (h1 : my.bbx = true)
    (h2 : my.map n = true) (h3 : my.reg .bbxStat 0 = true) :
    Within my d0 (d.mapCommit n) := by
  unfold Dev.mapCommit; (repeat' split) <;> simp (maxDischargeDepth := 60) [Lane.own, *]

/-! ### Milestone -/

@[simp] theorem Dev.mlsPush_within {my : May} {d0 : Dev} (d : Dev) (j : Nat) (r : MlsRec) (h : Within my d0 d)
    (h1 : my.bbx = true) (h2 : my.mls j = true) (h3 : my.reg .bbxStat 0 = true) (h4 : my.reg .mlsCnt j = true)
    (h5 : my.reg .mlsStat j = true) :
    Within my d0 (d.mlsPush j r) := by
  simp (maxDischargeDepth := 60) [Dev.mlsPush, Lane.own, *]

@[simp] theorem Dev.mlsLatch_within {my : May} {d0 : Dev} (d : Dev) (j : Nat) (tp : Time) (c : Int) (kind : Nat)
    (drift : Int) (h : Within my d0 d) (h1 : my.bbx = true) (h2 : my.mls j = true) (h3 : my.reg .bbxStat 0 = true)
    (h4 : my.reg .mlsCnt j = true) (h5 : my.reg .mlsStat j = true) :
    Within my d0 (d.mlsLatch j tp c kind drift) := by
  simp (maxDischargeDepth := 60) [Dev.mlsLatch, Lane.own, *]

@[simp] theorem Dev.mlsEdge_within {my : May} {d0 : Dev} (d : Dev) (i w : Nat) (tp : Time) (rising : Bool)
    (h : Within my d0 d) (h1 : my.bbx = true) (h2 : my.mlsOf d0 i) (h3 : my.reg .bbxStat 0 = true) :
    Within my d0 (d.mlsEdge i w tp rising) := by
  unfold Dev.mlsEdge
  split
  · exact h
  · refine Within.forEach h _ _ fun j e he => ?_
    by_cases hc : e.mlsSrc j = i
    · obtain ⟨ho5, ho6, ho7⟩ := Within.mlsOf he (i := i) (j := j) (by assumption) hc
      (repeat' split) <;> simp (maxDischargeDepth := 60) [*]
    · simp [hc, he]

@[simp] theorem Dev.mlsIndex_within {my : May} {d0 : Dev} (d : Dev) (i : Nat) (tp : Time) (c drift : Int)
    (h : Within my d0 d) (h1 : my.bbx = true) (h2 : my.mlsOf d0 i) (h3 : my.reg .bbxStat 0 = true) :
    Within my d0 (d.mlsIndex i tp c drift) := by
  unfold Dev.mlsIndex
  refine Within.forEach h _ _ fun j e he => ?_
  split
  · obtain ⟨h5, h6, h7⟩ := he.mlsOf (i := i) (j := j) (by assumption) (by simp_all)
    simp (maxDischargeDepth := 60) [*]
  · exact he

@[simp] theorem Dev.mlsSlip_within {my : May} {d0 : Dev} (d : Dev) (i : Nat) (tp : Time) (c drift : Int)
    (h : Within my d0 d) (h1 : my.bbx = true) (h2 : my.mlsOf d0 i) (h3 : my.reg .bbxStat 0 = true) :
    Within my d0 (d.mlsSlip i tp c drift) := by
  unfold Dev.mlsSlip
  refine Within.forEach h _ _ fun j e he => ?_
  split
  · obtain ⟨h5, h6, h7⟩ := he.mlsOf (i := i) (j := j) (by assumption) (by simp_all)
    simp (maxDischargeDepth := 60) [*]
  · exact he

@[simp] theorem Dev.mlsSnapshot_within {my : May} {d0 : Dev} (d : Dev) (j : Nat) (t0 : Time) (h : Within my d0 d)
    (h1 : my.bbx = true) (h2 : my.mls j = true) (h3 : my.reg .bbxStat 0 = true) (h4 : my.reg .mlsCnt j = true)
    (h5 : my.reg .mlsStat j = true) :
    Within my d0 (d.mlsSnapshot j t0) := by
  unfold Dev.mlsSnapshot; (try dsimp only); (repeat' split) <;> simp (maxDischargeDepth := 60) [Lane.own, *]

@[simp] theorem Dev.mlsPop_within {my : May} {d0 : Dev} (d : Dev) (j : Nat) (h : Within my d0 d) (h1 : my.mls j = true) :
    Within my d0 (d.mlsPop j) := by
  simp (maxDischargeDepth := 60) [Dev.mlsPop, Lane.own, *]

@[simp] theorem Dev.mlsFlush_within {my : May} {d0 : Dev} (d : Dev) (j : Nat) (h : Within my d0 d) (h1 : my.mls j = true) :
    Within my d0 (d.mlsFlush j) := by
  simp (maxDischargeDepth := 60) [Dev.mlsFlush, Lane.own, *]

@[simp] theorem Dev.mlsArmCommit_within {my : May} {d0 : Dev} (d : Dev) (j : Nat) (on : Bool) (h : Within my d0 d)
    (h1 : my.mls j = true) :
    Within my d0 (d.mlsArmCommit j on) := by
  simp (maxDischargeDepth := 60) [Dev.mlsArmCommit, Lane.own, *]

/-! ### Pulse -/

@[simp] theorem Dev.pinFollow_within {my : May} {d0 : Dev} (d : Dev) (i : Nat) (h : Within my d0 d) (h1 : my.bbx = true)
    (h2 : my.detour d0 i) (h3 : my.reg .bbxStat 0 = true) :
    Within my d0 (d.pinFollow i) := by
  unfold Dev.pinFollow
  refine Within.forEach h _ _ fun n e he => ?_
  try dsimp only
  split
  · rename_i hc
    have hc' : (e.lane n).trk.detour = true ∧ e.detSrc n = i := by simp_all
    obtain ⟨ho1, ho2, ho3, ho4, ho5, ho⟩ := Within.detour he (n := n) (i := i) (by assumption) hc'.1 hc'.2
    simp (maxDischargeDepth := 60) [*]
  · exact he

@[simp] theorem Dev.cntLost_within {my : May} {d0 : Dev} (d : Dev) (i : Nat) (h : Within my d0 d) (h1 : my.bbx = true)
    (h2 : my.detour d0 i) (h3 : my.hlt = true) (h4 : my.pin i = true) (h5 : my.reg .bbxStat 0 = true) :
    Within my d0 (d.cntLost i) := by
  simp (maxDischargeDepth := 60) [Dev.cntLost, Lane.own, *]

@[simp] theorem Dev.edgeCheck_within {my : May} {d0 : Dev} (d : Dev) (i wire : Nat) (t : Time) (prev : Option Time)
    (h : Within my d0 d) (h1 : my.bbx = true) (h2 : my.pin i = true) (h3 : my.reg .bbxStat 0 = true)
    (h4 : my.reg .pinErr i = true) (h5 : my.reg .pinStat i = true) :
    Within my d0 (d.edgeCheck i wire t prev) := by
  unfold Dev.edgeCheck; (try dsimp only); (repeat' split) <;> simp (maxDischargeDepth := 60) [Lane.own, *]

@[simp] theorem Dev.countEdge_within {my : May} {d0 : Dev} (d : Dev) (i : Nat) (t : Time) (neg : Bool)
    (h : Within my d0 d) (h1 : my.bbx = true) (h2 : my.detour d0 i) (h3 : my.pin i = true) (h4 : my.reg .bbxStat 0 = true) :
    Within my d0 (d.countEdge i t neg) := by
  simp (maxDischargeDepth := 60) [Dev.countEdge, Lane.own, *]

@[simp] theorem Dev.countSample_within {my : May} {d0 : Dev} (d : Dev) (i : Nat) (t : Time) (a0 b0 a1 b1 : Bool)
    (h : Within my d0 d) (h1 : my.bbx = true) (h2 : my.detour d0 i) (h3 : my.hlt = true) (h4 : my.pin i = true)
    (h5 : my.reg .bbxStat 0 = true) :
    Within my d0 (d.countSample i t a0 b0 a1 b1) := by
  unfold Dev.countSample; (repeat' split) <;> simp (maxDischargeDepth := 60) [Lane.own, *]

@[simp] theorem Dev.switchEdge_within {my : May} {d0 : Dev} (d : Dev) (i : Nat) (x : Bounce) (h : Within my d0 d)
    (h1 : my.bbx = true) (h2 : my.mlsOf d0 i) (h3 : my.pin i = true) (h4 : my.reg .bbxStat 0 = true) :
    Within my d0 (d.switchEdge i x) := by
  simp (maxDischargeDepth := 60) [Dev.switchEdge, Lane.own, *]

@[simp] theorem Dev.switchDebounce_within {my : May} {d0 : Dev} (d : Dev) (t : Time) (i wire : Nat) (h : Within my d0 d)
    (h1 : my.bbx = true) (h2 : my.mlsOf d0 i) (h3 : my.pin i = true) (h4 : my.reg .bbxStat 0 = true) :
    Within my d0 (d.switchDebounce t i wire) := by
  unfold Dev.switchDebounce; (repeat' split) <;> simp (maxDischargeDepth := 60) [Lane.own, *]

@[simp] theorem Dev.switchLevel_within {my : May} {d0 : Dev} (d : Dev) (t : Time) (i wire : Nat) (level : Bool)
    (h : Within my d0 d) (h1 : my.bbx = true) (h2 : my.mlsOf d0 i) (h3 : my.pin i = true) (h4 : my.reg .bbxStat 0 = true) :
    Within my d0 (d.switchLevel t i wire level) := by
  simp (maxDischargeDepth := 60) [Dev.switchLevel, Lane.own, *]

@[simp] theorem Dev.countLevels_within {my : May} {d0 : Dev} (d : Dev) (t : Time) (i : Nat) (p : PulseIn)
    (a1 b1 z1 : Bool) (h : Within my d0 d) (h1 : my.bbx = true) (h2 : my.detour d0 i) (h3 : my.hlt = true)
    (h4 : my.pin i = true) (h5 : my.reg .bbxStat 0 = true) (h6 : my.reg .pinErr i = true) (h7 : my.reg .pinStat i = true) :
    Within my d0 (d.countLevels t i p a1 b1 z1) := by
  unfold Dev.countLevels; (try dsimp only); simp_all (maxDischargeDepth := 60) [Lane.own]

@[simp] theorem Dev.mlsLevels_within {my : May} {d0 : Dev} (d : Dev) (t : Time) (i : Nat) (p : PulseIn) (a1 b1 z1 : Bool)
    (h : Within my d0 d) (h1 : my.bbx = true) (h2 : my.mlsOf d0 i) (h3 : my.reg .bbxStat 0 = true) :
    Within my d0 (d.mlsLevels t i p a1 b1 z1) := by
  unfold Dev.mlsLevels; (try dsimp only); simp_all (maxDischargeDepth := 60) [Lane.own]

@[simp] theorem Dev.pulseEdge_within {my : May} {d0 : Dev} (d : Dev) (t : Time) (i : Nat) (a b z : Option Bool)
    (h : Within my d0 d) (h1 : my.bbx = true) (h2 : my.detour d0 i) (h3 : my.hlt = true) (h4 : my.mlsOf d0 i)
    (h5 : my.pin i = true) (h6 : my.reg .bbxStat 0 = true) (h7 : my.reg .pinErr i = true) (h8 : my.reg .pinStat i = true) :
    Within my d0 (d.pulseEdge t i a b z) := by
  unfold Dev.pulseEdge; (try dsimp only); (repeat' split) <;> simp_all (maxDischargeDepth := 60) [Lane.own]

@[simp] theorem Dev.driftEvent_within {my : May} {d0 : Dev} (d : Dev) (i code : Nat) (drift c : Int) (h : Within my d0 d)
    (h1 : my.bbx = true) (h2 : my.pin i = true) (h3 : my.reg .bbxStat 0 = true) :
    Within my d0 (d.driftEvent i code drift c) := by
  simp (maxDischargeDepth := 60) [Dev.driftEvent, Lane.own, *]

@[simp] theorem Dev.indexCheck_within {my : May} {d0 : Dev} (d : Dev) (i : Nat) (x : PulseEdge) (drift : Int)
    (h : Within my d0 d) (h1 : my.bbx = true) (h2 : my.mlsOf d0 i) (h3 : my.pin i = true) (h4 : my.reg .bbxStat 0 = true)
    (h5 : my.reg .pinStat i = true) (h6 : my.reg .pinZdrift i = true) :
    Within my d0 (d.indexCheck i x drift) := by
  simp (maxDischargeDepth := 60) [Dev.indexCheck, Lane.own, *]

@[simp] theorem Dev.indexAlign_within {my : May} {d0 : Dev} (d : Dev) (i : Nat) (drift : Int) (h : Within my d0 d)
    (h1 : my.bbx = true) (h2 : my.detour d0 i) (h3 : my.hlt = true) (h4 : my.pin i = true) (h5 : my.reg .bbxStat 0 = true)
    (h6 : my.reg .pinStat i = true) :
    Within my d0 (d.indexAlign i drift) := by
  simp (maxDischargeDepth := 60) [Dev.indexAlign, Lane.own, *]

@[simp] theorem Dev.indexEvent_within {my : May} {d0 : Dev} (d : Dev) (i : Nat) (h : Within my d0 d) (h1 : my.bbx = true)
    (h2 : my.detour d0 i) (h3 : my.hlt = true) (h4 : my.mlsOf d0 i) (h5 : my.pin i = true) (h6 : my.reg .bbxStat 0 = true)
    (h7 : my.reg .pinStat i = true) (h8 : my.reg .pinZdrift i = true) :
    Within my d0 (d.indexEvent i) := by
  unfold Dev.indexEvent; (try dsimp only); (repeat' split) <;> simp (maxDischargeDepth := 60) [Lane.own, *]

@[simp] theorem Dev.wireFault_within {my : May} {d0 : Dev} (d : Dev) (i pair : Nat) (h : Within my d0 d)
    (h1 : my.bbx = true) (h2 : my.detour d0 i) (h3 : my.hlt = true) (h4 : my.pin i = true) (h5 : my.reg .bbxStat 0 = true) :
    Within my d0 (d.wireFault i pair) := by
  simp (maxDischargeDepth := 60) [Dev.wireFault, Lane.own, *]

@[simp] theorem Dev.wireFaultClear_within {my : May} {d0 : Dev} (d : Dev) (i : Nat) (h : Within my d0 d)
    (h1 : my.bbx = true) (h2 : my.detour d0 i) (h3 : my.hlt = true) (h4 : my.pin i = true) (h5 : my.reg .bbxStat 0 = true) :
    Within my d0 (d.wireFaultClear i) := by
  simp (maxDischargeDepth := 60) [Dev.wireFaultClear, Lane.own, *]

@[simp] theorem Dev.pinSpeedAt_within {my : May} {d0 : Dev} (d : Dev) (i : Nat) (t : Time) (h : Within my d0 d)
    (h1 : my.pin i = true) :
    Within my d0 (d.pinSpeedAt i t) := by
  simp (maxDischargeDepth := 60) [Dev.pinSpeedAt, Lane.own, *]

@[simp] theorem Dev.pinCapture_within {my : May} {d0 : Dev} (d : Dev) (i : Nat) (t0 : Time) (h : Within my d0 d)
    (h1 : my.pin i = true) (h2 : ∀ k', my.reg .pinCount k' = true) (h3 : ∀ k', my.reg .pinEdgeT k' = true)
    (h4 : my.reg .pinSpeed i = true) :
    Within my d0 (d.pinCapture i t0) := by
  unfold Dev.pinCapture; (try dsimp only); (repeat' split) <;> simp (maxDischargeDepth := 60) [Lane.own, *]

@[simp] theorem Dev.pulseStill_within {my : May} {d0 : Dev} (d : Dev) (t : Time) (i : Nat) (h : Within my d0 d)
    (h1 : my.pin i = true) :
    Within my d0 (d.pulseStill t i) := by
  unfold Dev.pulseStill; (repeat' split) <;> simp (maxDischargeDepth := 60) [Lane.own, *]

@[simp] theorem Dev.serStart_within {my : May} {d0 : Dev} (d : Dev) (i : Nat) (h : Within my d0 d) (h1 : my.pin i = true) :
    Within my d0 (d.serStart i) := by
  simp (maxDischargeDepth := 60) [Dev.serStart, Lane.own, *]

@[simp] theorem Dev.serBadEnd_within {my : May} {d0 : Dev} (d : Dev) (i cause : Nat) (h : Within my d0 d)
    (h1 : my.bbx = true) (h2 : my.detour d0 i) (h3 : my.hlt = true) (h4 : my.pin i = true) (h5 : my.reg .bbxStat 0 = true)
    (h6 : my.reg .pinErr i = true) (h7 : my.reg .pinStat i = true) :
    Within my d0 (d.serBadEnd i cause) := by
  simp (maxDischargeDepth := 60) [Dev.serBadEnd, Lane.own, *]

@[simp] theorem Dev.serGoodEnd_within {my : May} {d0 : Dev} (d : Dev) (i u : Nat) (ts : Time) (diff : Int)
    (h : Within my d0 d) (h1 : my.bbx = true) (h2 : my.detour d0 i) (h3 : my.hlt = true) (h4 : my.pin i = true)
    (h5 : my.reg .bbxStat 0 = true) :
    Within my d0 (d.serGoodEnd i u ts diff) := by
  simp (maxDischargeDepth := 60) [Dev.serGoodEnd, Lane.own, *]

@[simp] theorem Dev.serEnd_within {my : May} {d0 : Dev} (d : Dev) (i : Nat) (x : SerialFrame) (h : Within my d0 d)
    (h1 : my.bbx = true) (h2 : my.detour d0 i) (h3 : my.hlt = true) (h4 : my.pin i = true) (h5 : my.reg .bbxStat 0 = true)
    (h6 : my.reg .pinErr i = true) (h7 : my.reg .pinStat i = true) :
    Within my d0 (d.serEnd i x) := by
  unfold Dev.serEnd; (try dsimp only); (repeat' split) <;> simp (maxDischargeDepth := 60) [Lane.own, *]

@[simp] theorem Dev.pinAdjustCommit_within {my : May} {d0 : Dev} (d : Dev) (i action : Nat) (v : Int) (h : Within my d0 d)
    (h1 : my.bbx = true) (h2 : my.detour d0 i) (h3 : my.hlt = true) (h4 : my.pin i = true) (h5 : my.reg .bbxStat 0 = true) :
    Within my d0 (d.pinAdjustCommit i action v) := by
  unfold Dev.pinAdjustCommit; (try dsimp only); (repeat' split) <;> simp (maxDischargeDepth := 60) [Lane.own, *]

@[simp] theorem Dev.pinRestart_within {my : May} {d0 : Dev} (d : Dev) (i : Nat) (h : Within my d0 d) (h1 : my.bbx = true)
    (h2 : my.detour d0 i) (h3 : my.hlt = true) (h4 : my.pin i = true) (h5 : my.reg .bbxStat 0 = true) :
    Within my d0 (d.pinRestart i) := by
  simp (maxDischargeDepth := 60) [Dev.pinRestart, Lane.own, *]

end Sys2Proof.Machine
end

