-- ==== Sys2Proof/Laws/WithinMotion.lean ====
section
/-! SUPPORT. What the operations of loops, profiles, gearing and the process channels change: one lemma for each, which asks of
`May` just the places that the operation touches. -/
namespace Sys2Proof.Machine
open Sys2Proof
set_option linter.unusedSimpArgs false
set_option linter.unusedVariables false
set_option maxRecDepth 4000

/-! ### Profile -/

@[simp] theorem Dev.onGen_within {my : May} {d0 : Dev} (d : Dev) (n : Nat) (f : Profile → Profile) (h : Within my d0 d)
    (h1 : my.prf n = true) :
    Within my d0 (d.onGen n f) := by
  simp (maxDischargeDepth := 60) [Dev.onGen, Lane.own, *]

@[simp] theorem Dev.gearEngage_within {my : May} {d0 : Dev} (d : Dev) (n : Nat) (t : Time) (kind idx align : Nat)
    (num : Int) (den : Nat) (pos mref : Int) (h : Within my d0 d) (h1 : my.prf n = true) :
    Within my d0 (d.gearEngage n t kind idx align num den pos mref) := by
  simp (maxDischargeDepth := 60) [Dev.gearEngage, Lane.own, *]

@[simp] theorem Dev.prfStop_within {my : May} {d0 : Dev} (d : Dev) (n : Nat) (t : Time) (variant phase : Nat)
    (h : Within my d0 d) (h1 : my.prf n = true) :
    Within my d0 (d.prfStop n t variant phase) := by
  unfold Dev.prfStop; (try dsimp only); (repeat' split) <;> simp (maxDischargeDepth := 60) [Lane.own, *]

@[simp] theorem Dev.gearStep_within {my : May} {d0 : Dev} (d : Dev) (n : Nat) (t : Time) (h : Within my d0 d)
    (h1 : my.bbx = true) (h2 : my.prf n = true) (h3 : my.reg .bbxStat 0 = true) :
    Within my d0 (d.gearStep n t) := by
  unfold Dev.gearStep; (try dsimp only); (repeat' split) <;> simp (maxDischargeDepth := 60) [Lane.own, *]

@[simp] theorem Dev.masterTimeout_within {my : May} {d0 : Dev} (d : Dev) (n : Nat) (h : Within my d0 d)
    (h1 : my.bbx = true) (h2 : my.prf n = true) (h3 : my.reg .bbxStat 0 = true) :
    Within my d0 (d.masterTimeout n) := by
  unfold Dev.masterTimeout; (repeat' split) <;> simp (maxDischargeDepth := 60) [Lane.own, *]

@[simp] theorem Dev.takeWaypoint_within {my : May} {d0 : Dev} (d : Dev) (n : Nat) (t : Rat) (k : Kin) (h : Within my d0 d)
    (h1 : my.prf n = true) (h2 : my.reg .prfStat n = true) :
    Within my d0 (d.takeWaypoint n t k) := by
  unfold Dev.takeWaypoint; (try dsimp only); (repeat' split) <;> simp (maxDischargeDepth := 60) [Lane.own, *]

@[simp] theorem Dev.advancePlan_within {my : May} {d0 : Dev} (d : Dev) (n : Nat) (t : Time) (k : Nat) (h : Within my d0 d)
    (h1 : my.prf n = true) (h2 : my.reg .prfStat n = true) :
    Within my d0 (d.advancePlan n t k) := by
  induction k generalizing d with
  | zero => exact h
  | succ k ih =>
    unfold Dev.advancePlan; dsimp only
    (repeat' split) <;> first | exact h | exact ih _ (by simp (maxDischargeDepth := 60) [*])

@[simp] theorem Dev.prfDiscard_within {my : May} {d0 : Dev} (d : Dev) (n : Nat) (c : PrfCmd) (reason : Nat)
    (h : Within my d0 d) (h1 : my.bbx = true) (h2 : my.reg .bbxStat 0 = true) (h3 : my.reg .prfCnt n = true)
    (h4 : my.reg .prfStat n = true) :
    Within my d0 (d.prfDiscard n c reason) := by
  simp (maxDischargeDepth := 60) [Dev.prfDiscard, Lane.own, *]

@[simp] theorem Dev.prfEnter_within {my : May} {d0 : Dev} (d : Dev) (n : Nat) (t : Time) (h : Within my d0 d)
    (h1 : my.prf n = true) :
    Within my d0 (d.prfEnter n t) := by
  simp (maxDischargeDepth := 60) [Dev.prfEnter, Lane.own, *]

@[simp] theorem Dev.overshoot_within {my : May} {d0 : Dev} (d : Dev) (n : Nat) (sup : Bool) (p : Plan)
    (h : Within my d0 d) (h1 : my.bbx = true) (h2 : my.prf n = true) (h3 : my.reg .bbxStat 0 = true)
    (h4 : my.reg .prfCnt n = true) :
    Within my d0 (d.overshoot n sup p) := by
  simp (maxDischargeDepth := 60) [Dev.overshoot, Lane.own, *]

@[simp] theorem Dev.limitsBase_within {my : May} {d0 : Dev} (d : Dev) (n : Nat) (t : Time) (h : Within my d0 d)
    (h1 : my.bbx = true) (h2 : my.prf n = true) (h3 : my.reg .bbxStat 0 = true) (h4 : my.reg .prfCnt n = true) :
    Within my d0 (d.limitsBase n t) := by
  unfold Dev.limitsBase; (try dsimp only); (repeat' split) <;> simp (maxDischargeDepth := 60) [Lane.own, *]

@[simp] theorem Dev.limitsSup_within {my : May} {d0 : Dev} (d : Dev) (n : Nat) (t : Time) (h : Within my d0 d)
    (h1 : my.bbx = true) (h2 : my.prf n = true) (h3 : my.reg .bbxStat 0 = true) (h4 : my.reg .prfCnt n = true) :
    Within my d0 (d.limitsSup n t) := by
  unfold Dev.limitsSup; (try dsimp only); (repeat' split) <;> simp (maxDischargeDepth := 60) [Lane.own, *]

@[simp] theorem Dev.prfMove_within {my : May} {d0 : Dev} (d : Dev) (n : Nat) (t : Time) (kind : Nat) (target : Int)
    (vel speed : Rat) (h : Within my d0 d) (h1 : my.prf n = true) :
    Within my d0 (d.prfMove n t kind target vel speed) := by
  simp (maxDischargeDepth := 60) [Dev.prfMove, Lane.own, *]

@[simp] theorem Dev.prfGear_within {my : May} {d0 : Dev} (d : Dev) (n : Nat) (t : Time) (kind idx align : Nat) (num : Int)
    (den : Nat) (pos mref : Int) (h : Within my d0 d) (h1 : my.bbx = true) (h2 : my.prf n = true)
    (h3 : my.reg .bbxStat 0 = true) (h4 : my.reg .prfCnt n = true) (h5 : my.reg .prfStat n = true) :
    Within my d0 (d.prfGear n t kind idx align num den pos mref) := by
  simp (maxDischargeDepth := 60) [Dev.prfGear, Lane.own, *]

@[simp] theorem Dev.prfTrim_within {my : May} {d0 : Dev} (d : Dev) (n : Nat) (t : Time) (action : Nat) (val : Int)
    (h : Within my d0 d) (h1 : my.prf n = true) :
    Within my d0 (d.prfTrim n t action val) := by
  unfold Dev.prfTrim; (try dsimp only); (repeat' split) <;> simp (maxDischargeDepth := 60) [Lane.own, *]

@[simp] theorem Dev.prfAppend_within {my : May} {d0 : Dev} (d : Dev) (n : Nat) (t : Time) (rel : Bool) (w : Rat)
    (target : Int) (h : Within my d0 d) (h1 : my.prf n = true) :
    Within my d0 (d.prfAppend n t rel w target) := by
  simp (maxDischargeDepth := 60) [Dev.prfAppend, Lane.own, *]

@[simp] theorem Dev.prfDisplaced_within {my : May} {d0 : Dev} (d : Dev) (n : Nat) (c : PrfCmd) (h : Within my d0 d)
    (h1 : my.bbx = true) (h2 : my.reg .bbxStat 0 = true) (h3 : my.reg .prfCnt n = true) (h4 : my.reg .prfStat n = true) :
    Within my d0 (d.prfDisplaced n c) := by
  unfold Dev.prfDisplaced; (repeat' split) <;> simp (maxDischargeDepth := 60) [Lane.own, *]

@[simp] theorem Dev.prfMain_within {my : May} {d0 : Dev} (d : Dev) (n : Nat) (t : Time) (c : PrfCmd) (h : Within my d0 d)
    (h1 : my.bbx = true) (h2 : my.prf n = true) (h3 : my.reg .bbxStat 0 = true) (h4 : my.reg .prfCnt n = true)
    (h5 : my.reg .prfStat n = true) :
    Within my d0 (d.prfMain n t c) := by
  unfold Dev.prfMain; (repeat' split) <;> simp (maxDischargeDepth := 60) [Lane.own, *]

@[simp] theorem Dev.prfQueue_within {my : May} {d0 : Dev} (d : Dev) (n : Nat) (t : Time) (c : PrfCmd) (h : Within my d0 d)
    (h1 : my.prf n = true) :
    Within my d0 (d.prfQueue n t c) := by
  unfold Dev.prfQueue; (repeat' split) <;> simp (maxDischargeDepth := 60) [Lane.own, *]

@[simp] theorem Dev.prfSup_within {my : May} {d0 : Dev} (d : Dev) (n : Nat) (t : Time) (c : PrfCmd) (h : Within my d0 d)
    (h1 : my.prf n = true) :
    Within my d0 (d.prfSup n t c) := by
  unfold Dev.prfSup; (repeat' split) <;> simp (maxDischargeDepth := 60) [Lane.own, *]

@[simp] theorem Dev.prfCommands_within {my : May} {d0 : Dev} (d : Dev) (n : Nat) (t : Time) (cs : List (PrfCmd × Bool))
    (stop3 stop7 : Option Nat) (h : Within my d0 d) (h1 : my.bbx = true) (h2 : my.prf n = true)
    (h3 : my.reg .bbxStat 0 = true) (h4 : my.reg .prfCnt n = true) (h5 : my.reg .prfStat n = true) :
    Within my d0 (d.prfCommands n t cs stop3 stop7) := by
  unfold Dev.prfCommands; (try dsimp only); (repeat' split) <;> simp_all (maxDischargeDepth := 60) [Lane.own]

@[simp] theorem Dev.prfShow_within {my : May} {d0 : Dev} (d : Dev) (n : Nat) (pp : Int) (vp ap : Rat) (sp : Int)
    (h : Within my d0 d) (h1 : my.prf n = true) (h2 : my.reg .prfAp n = true) (h3 : ∀ k', my.reg .prfPp k' = true)
    (h4 : ∀ k', my.reg .prfTarget k' = true) (h5 : my.reg .prfVp n = true) (h6 : ∀ k', my.reg .supPos k' = true)
    (h7 : ∀ k', my.reg .supTgt k' = true) :
    Within my d0 (d.prfShow n pp vp ap sp) := by
  unfold Dev.prfShow; (try dsimp only); (repeat' split) <;> simp_all (maxDischargeDepth := 60) [Lane.own]

@[simp] theorem Dev.prfEvaluate_within {my : May} {d0 : Dev} (d : Dev) (n : Nat) (t : Time) (h : Within my d0 d)
    (h1 : my.bbx = true) (h2 : my.prf n = true) (h3 : my.reg .bbxStat 0 = true) (h4 : my.reg .prfAp n = true)
    (h5 : ∀ k', my.reg .prfPp k' = true) (h6 : my.reg .prfStat n = true) (h7 : ∀ k', my.reg .prfTarget k' = true)
    (h8 : my.reg .prfVp n = true) (h9 : ∀ k', my.reg .supPos k' = true) (h10 : ∀ k', my.reg .supTgt k' = true) :
    Within my d0 (d.prfEvaluate n t) := by
  simp (maxDischargeDepth := 60) [Dev.prfEvaluate, Lane.own, *]

@[simp] theorem Dev.prfDrop_within {my : May} {d0 : Dev} (d : Dev) (n : Nat) (h : Within my d0 d) (h1 : my.prf n = true) :
    Within my d0 (d.prfDrop n) := by
  simp (maxDischargeDepth := 60) [Dev.prfDrop, Lane.own, *]

@[simp] theorem Dev.prfFollow_within {my : May} {d0 : Dev} (d : Dev) (n : Nat) (m : Motion) (h : Within my d0 d)
    (h1 : my.prf n = true) (h2 : my.reg .prfAp n = true) (h3 : ∀ k', my.reg .prfPp k' = true)
    (h4 : ∀ k', my.reg .prfTarget k' = true) (h5 : my.reg .prfVp n = true) (h6 : ∀ k', my.reg .supPos k' = true)
    (h7 : ∀ k', my.reg .supTgt k' = true) :
    Within my d0 (d.prfFollow n m) := by
  simp (maxDischargeDepth := 60) [Dev.prfFollow, Lane.own, *]

@[simp] theorem Dev.inPosition_within {my : May} {d0 : Dev} (d : Dev) (n : Nat) (t0 : Time) (posDem pos : Int)
    (h : Within my d0 d) (h1 : my.prf n = true) :
    Within my d0 (d.inPosition n t0 posDem pos) := by
  simp (maxDischargeDepth := 60) [Dev.inPosition, Lane.own, *]

@[simp] theorem Dev.vmCommit_within {my : May} {d0 : Dev} (d : Dev) (t : Time) (m : Nat) (c : VmCmd) (h : Within my d0 d)
    (h1 : my.bbx = true) (h2 : ∀ k', my.prf k' = true) (h3 : my.reg .bbxStat 0 = true) (h4 : my.vm m = true) :
    Within my d0 (d.vmCommit t m c) := by
  unfold Dev.vmCommit; dsimp only
  split
  · simp (maxDischargeDepth := 60) [*]
  · simp (maxDischargeDepth := 60) [*]
  · split
    · simp (maxDischargeDepth := 60) [*]
    · refine Dev.logEvent_within _ _ _ _ _ (Within.onVm ?_ _ _ (by simp [*])) (by simp [*]) (by simp [*])
      refine Within.forEach h _ _ fun n e he => ?_
      split
      · split
        · simp (maxDischargeDepth := 60) [*]
        · exact he
      · exact he

@[simp] theorem Dev.vmEvaluate_within {my : May} {d0 : Dev} (d : Dev) (t : Time) (h : Within my d0 d)
    (h1 : ∀ k', my.vm k' = true) :
    Within my d0 (d.vmEvaluate t) := by
  simp (maxDischargeDepth := 60) [Dev.vmEvaluate, Lane.own, *]

/-! ### Pfe -/

@[simp] theorem Dev.pairReset_within {my : May} {d0 : Dev} (d : Dev) (c : Nat) (h : Within my d0 d)
    (h1 : ∀ k', my.pfe k' = true) :
    Within my d0 (d.pairReset c) := by
  unfold Dev.pairReset; (try dsimp only); simp_all (maxDischargeDepth := 60) [Lane.own]

@[simp] theorem Dev.pfeRestart_within {my : May} {d0 : Dev} (d : Dev) (c : Nat) (h : Within my d0 d)
    (h1 : ∀ k', my.pfe k' = true) :
    Within my d0 (d.pfeRestart c) := by
  simp (maxDischargeDepth := 60) [Dev.pfeRestart, Lane.own, *]

@[simp] theorem Dev.pfeForm_within {my : May} {d0 : Dev} (d : Dev) (c : Nat) (t : Time) (v : PfeVal) (h : Within my d0 d)
    (h1 : ∀ k', my.pfe k' = true) :
    Within my d0 (d.pfeForm c t v) := by
  unfold Dev.pfeForm; (try dsimp only); (repeat' split) <;> simp_all (maxDischargeDepth := 60) [Lane.own]

@[simp] theorem Dev.pfeRevoke_within {my : May} {d0 : Dev} (d : Dev) (c : Nat) (t : Time) (h : Within my d0 d)
    (h1 : my.pfe c = true) :
    Within my d0 (d.pfeRevoke c t) := by
  simp (maxDischargeDepth := 60) [Dev.pfeRevoke, Lane.own, *]

@[simp] theorem Dev.pfeAvailable_within {my : May} {d0 : Dev} (d : Dev) (c : Nat) (t : Time) (h : Within my d0 d)
    (h1 : my.pfe c = true) :
    Within my d0 (d.pfeAvailable c t) := by
  unfold Dev.pfeAvailable; (repeat' split) <;> simp (maxDischargeDepth := 60) [Lane.own, *]

@[simp] theorem Dev.setPair_within {my : May} {d0 : Dev} (d : Dev) (lo hi : Nat) (v : Bool) (h : Within my d0 d)
    (h1 : my.bbx = true) (h2 : my.pfe lo = true) (h3 : my.pfe hi = true) (h4 : my.reg .bbxStat 0 = true) :
    Within my d0 (d.setPair lo hi v) := by
  simp (maxDischargeDepth := 60) [Dev.setPair, Lane.own, *]

@[simp] theorem Dev.pairCompare_within {my : May} {d0 : Dev} (d : Dev) (c : Nat) (t : Time) (h : Within my d0 d)
    (h1 : my.bbx = true) (h2 : ∀ k', my.pfe k' = true) (h3 : my.reg .bbxStat 0 = true) :
    Within my d0 (d.pairCompare c t) := by
  unfold Dev.pairCompare; (try dsimp only); (repeat' split) <;> simp (maxDischargeDepth := 60) [Lane.own, *]

@[simp] theorem Dev.excUpdate_within {my : May} {d0 : Dev} (d : Dev) (c : Nat) (x : Conversion) (h : Within my d0 d)
    (h1 : my.bbx = true) (h2 : my.pfe c = true) (h3 : my.reg .bbxStat 0 = true) :
    Within my d0 (d.excUpdate c x) := by
  unfold Dev.excUpdate; (try dsimp only); (repeat' split) <;> simp (maxDischargeDepth := 60) [Lane.own, *]

@[simp] theorem Dev.pfeNotched_within {my : May} {d0 : Dev} (d : Dev) (c : Nat) (v : Int) (h : Within my d0 d)
    (h1 : my.pfe c = true) :
    Within my d0 (d.pfeNotched c v).2 := by
  unfold Dev.pfeNotched; (try dsimp only); (repeat' split) <;> simp (maxDischargeDepth := 60) [Lane.own, *]

@[simp] theorem Dev.pfeBoundary_within {my : May} {d0 : Dev} (d : Dev) (c : Nat) (due : Option Nat) (reset : Bool)
    (h : Within my d0 d) (h1 : my.pfe c = true) (h2 : my.reg .pfeSteps c = true) :
    Within my d0 (d.pfeBoundary c due reset) := by
  unfold Dev.pfeBoundary; (try dsimp only); (repeat' split) <;> simp (maxDischargeDepth := 60) [Lane.own, *]

@[simp] theorem Dev.pfeNext_within {my : May} {d0 : Dev} (d : Dev) (c : Nat) (h : Within my d0 d) (h1 : my.pfe c = true) :
    Within my d0 (d.pfeNext c) := by
  simp (maxDischargeDepth := 60) [Dev.pfeNext, Lane.own, *]

@[simp] theorem Dev.pfeTest_within {my : May} {d0 : Dev} (d : Dev) (c : Nat) (t : Time) (x : Conversion)
    (h : Within my d0 d) (h1 : my.bbx = true) (h2 : my.pfe c = true) (h3 : my.reg .bbxStat 0 = true)
    (h4 : my.reg .pfeCnt c = true) :
    Within my d0 (d.pfeTest c t x) := by
  simp (maxDischargeDepth := 60) [Dev.pfeTest, Lane.own, *]

@[simp] theorem Dev.pfeOver_within {my : May} {d0 : Dev} (d : Dev) (c : Nat) (beyond : Bool) (x : Word)
    (h : Within my d0 d) (h1 : my.bbx = true) (h2 : my.pfe c = true) (h3 : my.reg .bbxStat 0 = true)
    (h4 : my.reg .pfeCnt c = true) :
    Within my d0 (d.pfeOver c beyond x) := by
  simp (maxDischargeDepth := 60) [Dev.pfeOver, Lane.own, *]

@[simp] theorem Dev.pfeValue_within {my : May} {d0 : Dev} (d : Dev) (c : Nat) (x : Option Rat) (t : Time) (settled : Bool)
    (h : Within my d0 d) (h1 : my.bbx = true) (h2 : ∀ k', my.pfe k' = true) (h3 : my.reg .bbxStat 0 = true) :
    Within my d0 (d.pfeValue c x t settled) := by
  simp (maxDischargeDepth := 60) [Dev.pfeValue, Lane.own, *]

@[simp] theorem Dev.chargeX_within {my : May} {d0 : Dev} (d : Dev) (c : Nat) (v : Int) (q : Rat) (h : Within my d0 d)
    (h1 : my.pfe c = true) :
    Within my d0 (d.chargeX c v q).2 := by
  simp (maxDischargeDepth := 60) [Dev.chargeX, Lane.own, *]

@[simp] theorem Dev.pfeRaw_within {my : May} {d0 : Dev} (d : Dev) (c : Nat) (x : Conversion) (h : Within my d0 d)
    (h1 : my.pfe c = true) :
    Within my d0 (d.pfeRaw c x).2 := by
  unfold Dev.pfeRaw; (try dsimp only); (repeat' split) <;> simp (maxDischargeDepth := 60) [Lane.own, *]

@[simp] theorem Dev.pfeMeasure_within {my : May} {d0 : Dev} (d : Dev) (c : Nat) (t : Time) (x : Conversion)
    (settled : Bool) (h : Within my d0 d) (h1 : my.bbx = true) (h2 : ∀ k', my.pfe k' = true)
    (h3 : my.reg .bbxStat 0 = true) (h4 : my.reg .pfeCnt c = true) (h5 : my.reg .pfeSteps c = true) :
    Within my d0 (d.pfeMeasure c t x settled) := by
  unfold Dev.pfeMeasure; (try dsimp only); (repeat' split) <;> simp (maxDischargeDepth := 60) [Lane.own, *]

@[simp] theorem Dev.pfeEnds_within {my : May} {d0 : Dev} (d : Dev) (c : Nat) (t : Time) (x : Conversion)
    (h : Within my d0 d) (h1 : my.bbx = true) (h2 : ∀ k', my.pfe k' = true) (h3 : my.reg .bbxStat 0 = true)
    (h4 : my.reg .pfeCnt c = true) (h5 : my.reg .pfeSteps c = true) :
    Within my d0 (d.pfeEnds c t x) := by
  unfold Dev.pfeEnds; (try dsimp only); (repeat' split) <;> simp (maxDischargeDepth := 60) [Lane.own, *]

@[simp] theorem Dev.pfeConversion_within {my : May} {d0 : Dev} (d : Dev) (c : Nat) (x : Conversion) (h : Within my d0 d)
    (h1 : my.bbx = true) (h2 : ∀ k', my.pfe k' = true) (h3 : my.reg .bbxStat 0 = true) (h4 : my.reg .pfeCnt c = true)
    (h5 : my.reg .pfeSteps c = true) :
    Within my d0 (d.pfeConversion c x) := by
  unfold Dev.pfeConversion; (repeat' split) <;> simp_all (maxDischargeDepth := 60) [Lane.own]

@[simp] theorem Dev.pfeCmdCommit_within {my : May} {d0 : Dev} (d : Dev) (c : Nat) (tare force : Bool) (h : Within my d0 d)
    (h1 : my.pfe c = true) :
    Within my d0 (d.pfeCmdCommit c tare force) := by
  simp (maxDischargeDepth := 60) [Dev.pfeCmdCommit, Lane.own, *]

@[simp] theorem Dev.pfeCapture_within {my : May} {d0 : Dev} (d : Dev) (c : Nat) (t0 : Time) (h : Within my d0 d)
    (h1 : my.pfe c = true) :
    Within my d0 (d.pfeCapture c t0) := by
  simp (maxDischargeDepth := 60) [Dev.pfeCapture, Lane.own, *]

@[simp] theorem Dev.pfeStop_within {my : May} {d0 : Dev} (d : Dev) (h : Within my d0 d) (h1 : ∀ k', my.pfe k' = true)
    (h2 : ∀ k', my.reg .pfeStat k' = true) :
    Within my d0 (d.pfeStop) := by
  unfold Dev.pfeStop; (try dsimp only); simp_all (maxDischargeDepth := 60) [Lane.own]

@[simp] theorem Dev.pfeStart_within {my : May} {d0 : Dev} (d : Dev) (h : Within my d0 d) (h1 : ∀ k', my.pfe k' = true) :
    Within my d0 (d.pfeStart) := by
  unfold Dev.pfeStart; simp_all (maxDischargeDepth := 60) [Lane.own]

@[simp] theorem Dev.pfeCommit_within {my : May} {d0 : Dev} (d : Dev) (c : Nat) (es : List Staged) (h : Within my d0 d)
    (h1 : my.bbx = true) (h2 : ∀ k', my.pfe k' = true) (h3 : ∀ i' k', my.reg i' k' = true) (h4 : my.staged = true) :
    Within my d0 (d.pfeCommit c es) := by
  unfold Dev.pfeCommit; dsimp only
  split
  · exact h
  · split
    · exact Within.setStaged h _ (by assumption)
    · have hf : Within my d0 (es.foldl (fun e s => match s.regOf with
          | some (i, k, v) => e.setReg i k v
          | none => e) (d.pairReset c)) := by
        refine Within.foldl (by simp (maxDischargeDepth := 60) [*]) _ _ fun e s hs => ?_
        split
        · exact Within.setReg hs (by simp [*])
        · exact hs
      split
      · refine Dev.logEvent_within _ _ _ _ _ ?_ (by assumption) (by simp [*])
        have hr := Dev.pfeRestart_within _ c hf (by simp [*])
        split
        · exact hr
        · exact Within.onPfe hr _ _ (by simp [*])
      · simp (maxDischargeDepth := 60) [*]

/-! ### Cascade -/

@[simp] theorem Dev.completeWork_within {my : May} {d0 : Dev} (d : Dev) (n : Nat) (late : Bool) (h : Within my d0 d)
    (h1 : my.lane n = true) (h2 : my.loop n = true) (h3 : my.reg .coefStat n = true) (h4 : my.reg .iP n = true)
    (h5 : my.reg .iT n = true) (h6 : my.reg .iV n = true) (h7 : my.reg .loopStat n = true) (h8 : my.reg .posErr n = true)
    (h9 : ∀ k', my.reg .stageExp k' = true) (h10 : my.reg .trmOut n = true) (h11 : my.reg .velDem n = true)
    (h12 : my.reg .velErr n = true) :
    Within my d0 (d.completeWork n late) := by
  unfold Dev.completeWork; (try dsimp only); (repeat' split) <;> simp_all (maxDischargeDepth := 60) [Lane.own]

@[simp] theorem Dev.discardWork_within {my : May} {d0 : Dev} (d : Dev) (n : Nat) (h : Within my d0 d)
    (h1 : my.lane n = true) (h2 : my.prf n = true) :
    Within my d0 (d.discardWork n) := by
  unfold Dev.discardWork; (try dsimp only); (repeat' split) <;> simp (maxDischargeDepth := 60) [Lane.own, *]

@[simp] theorem Dev.loopEnter_within {my : May} {d0 : Dev} (d : Dev) (n : Nat) (h : Within my d0 d)
    (h1 : my.loop n = true) (h2 : my.prf n = true) :
    Within my d0 (d.loopEnter n) := by
  simp (maxDischargeDepth := 60) [Dev.loopEnter, Lane.own, *]

@[simp] theorem Dev.loopLeave_within {my : May} {d0 : Dev} (d : Dev) (n : Nat) (h : Within my d0 d)
    (h1 : my.lane n = true) (h2 : my.loop n = true) (h3 : my.prf n = true) :
    Within my d0 (d.loopLeave n) := by
  simp (maxDischargeDepth := 60) [Dev.loopLeave, Lane.own, *]

@[simp] theorem Dev.coefSwapCommit_within {my : May} {d0 : Dev} (d : Dev) (n : Nat) (copyBack : Bool) (h : Within my d0 d)
    (h1 : my.bbx = true) (h2 : my.loop n = true) (h3 : my.reg .bbxStat 0 = true) (h4 : my.reg .coefCnt n = true)
    (h5 : my.reg .coefStat n = true) :
    Within my d0 (d.coefSwapCommit n copyBack) := by
  simp (maxDischargeDepth := 60) [Dev.coefSwapCommit, Lane.own, *]

@[simp] theorem Dev.structCommit_within {my : May} {d0 : Dev} (d : Dev) (n : Nat) (s : LoopStruct) (h : Within my d0 d)
    (h1 : my.loop n = true) (h2 : my.reg .loopCtrl n = true) (h3 : my.reg .loopDiv n = true)
    (h4 : my.reg .trmCtrl n = true) :
    Within my d0 (d.structCommit n s) := by
  simp (maxDischargeDepth := 60) [Dev.structCommit, Lane.own, *]

@[simp] theorem Dev.trimSource_within {my : May} {d0 : Dev} (d : Dev) (n : Nat) (h : Within my d0 d) (h1 : my.bbx = true)
    (h2 : my.loop n = true) (h3 : my.reg .bbxStat 0 = true) :
    Within my d0 (d.trimSource n) := by
  simp (maxDischargeDepth := 60) [Dev.trimSource, Lane.own, *]

@[simp] theorem Dev.trimFault_within {my : May} {d0 : Dev} (d : Dev) (n : Nat) (h : Within my d0 d) (h1 : my.bbx = true)
    (h2 : my.hlt = true) (h3 : my.lane n = true) :
    Within my d0 (d.trimFault n) := by
  simp (maxDischargeDepth := 60) [Dev.trimFault, Lane.own, *]

@[simp] theorem Dev.followingError_within {my : May} {d0 : Dev} (d : Dev) (n : Nat) (h : Within my d0 d)
    (h1 : my.bbx = true) (h2 : my.hlt = true) (h3 : my.lane n = true) (h4 : my.reg .bbxStat 0 = true) :
    Within my d0 (d.followingError n) := by
  simp (maxDischargeDepth := 60) [Dev.followingError, Lane.own, *]

end Sys2Proof.Machine
end

