-- ==== Sys2Proof/Laws/WithinSafety.lean ====
section
/-! SUPPORT. What the operations of the safety monitor, the safety connections, records and trace change: one lemma for each, which asks of
`May` just the places that the operation touches. -/
namespace Sys2Proof.Machine
open Sys2Proof
set_option linter.unusedSimpArgs false
set_option linter.unusedVariables false
set_option maxRecDepth 4000

/-! ### SafetyMon -/

@[simp] theorem Dev.onPair_within {my : May} {d0 : Dev} (d : Dev) (i : Nat) (f : SiPair → SiPair) (h : Within my d0 d)
    (h1 : my.saf = true) :
    Within my d0 (d.onPair i f) := by
  simp (maxDischargeDepth := 60) [Dev.onPair, Lane.own, *]

@[simp] theorem Dev.safLog_within {my : May} {d0 : Dev} (d : Dev) (code kind idx : Nat) (data : List Byte)
    (h : Within my d0 d) (h1 : my.bbx = true) (h2 : my.reg .bbxStat 0 = true) (h3 : my.saf = true) :
    Within my d0 (d.safLog code kind idx data) := by
  simp (maxDischargeDepth := 60) [Dev.safLog, Lane.own, *]

theorem Dev.lowerBarriers_within {my : May} {d0 : Dev} (d : Dev) (ns : List Nat) (h : Within my d0 d)
    (h1 : ∀ n ∈ ns, my.safLane n = true ∧ my.outputs d0 n) (h2 : my.bbx = true) (h3 : my.crit = true) (h4 : my.reg .bbxStat 0 = true) : Within my d0 (d.lowerBarriers ns) := by
  unfold Dev.lowerBarriers
  refine Within.forEach_mem (Within.setCrit h _ h3 (.inr (Crit.Tight.lower _ _))) _ _ fun n hn e he => ?_
  obtain ⟨h5, h6⟩ := h1 n hn
  simp (maxDischargeDepth := 60) [*]

@[simp] theorem Dev.laneReaction_within {my : May} {d0 : Dev} (d : Dev) (n : Nat) (h : Within my d0 d)
    (h1 : my.safLane n = true) (ho : my.outputs d0 n) (h2 : my.bbx = true) (h3 : my.crit = true) (h4 : my.reg .bbxStat 0 = true) (h5 : my.hlt = true) : Within my d0 (d.laneReaction n) := by
  have hl := Dev.lowerBarriers_within d [n] h (by simp [*]) h2 h3 h4
  simp (maxDischargeDepth := 60) [Dev.laneReaction, *]

theorem Dev.groupOff_within {my : May} {d0 : Dev} (d : Dev) (g : Nat) (h : Within my d0 d)
    (h1 : ∀ n, n / 8 = g → my.safLane n = true ∧ my.outputs d0 n) (h2 : my.bbx = true) (h3 : my.crit = true) (h4 : my.reg .bbxStat 0 = true) : Within my d0 (d.groupOff g) :=
  Dev.lowerBarriers_within _ _ (Within.setCrit h _ h3 (.inr (Crit.Tight.set _ _))) (fun n hn => h1 n (mem_lanesOfGroup.1 hn)) h2 h3 h4

theorem Dev.groupReaction_within_of {my : May} {d0 : Dev} (d : Dev) (gs : List Nat) (h : Within my d0 d)
    (h1 : ∀ g ∈ gs, ∀ n, n / 8 = g → my.safLane n = true ∧ my.outputs d0 n) (h2 : my.bbx = true) (h3 : my.crit = true) (h4 : my.reg .bbxStat 0 = true) (h5 : my.hlt = true) :
    Within my d0 (d.groupReaction gs) := by
  have hg := Within.forEach_mem h gs (fun g d => d.groupOff g) fun g hg e he => Dev.groupOff_within e g he (h1 g hg) h2 h3 h4
  simp (maxDischargeDepth := 60) [Dev.groupReaction, *]

@[simp] theorem Dev.groupReaction_within {my : May} {d0 : Dev} (d : Dev) (gs : List Nat) (h : Within my d0 d)
    (h1 : ∀ n, my.safLane n = true) (ho : ∀ n, my.outputs d0 n) (h2 : my.bbx = true) (h3 : my.crit = true) (h4 : my.reg .bbxStat 0 = true) (h5 : my.hlt = true) :
    Within my d0 (d.groupReaction gs) :=
  Dev.groupReaction_within_of d gs h (fun _ _ n _ => ⟨h1 n, ho n⟩) h2 h3 h4 h5

@[simp] theorem Dev.deviceReaction_within {my : May} {d0 : Dev} (d : Dev) (cause : Nat) (h : Within my d0 d)
    (h1 : my.bbx = true) (h2 : my.crit = true) (h3 : my.hlt = true) (h4 : ∀ k', my.outputs d0 k')
    (h5 : my.reg .bbxStat 0 = true) (h6 : my.saf = true) (h7 : ∀ k', my.safLane k' = true) :
    Within my d0 (d.deviceReaction cause) := by
  simp (maxDischargeDepth := 60) [Dev.deviceReaction, Lane.own, *]

@[simp] theorem Dev.parkedCauseEnds_within {my : May} {d0 : Dev} (d : Dev) (h : Within my d0 d) (h1 : my.crit = true)
    (h2 : my.saf = true) :
    Within my d0 (d.parkedCauseEnds) := by
  simp (maxDischargeDepth := 60) [Dev.parkedCauseEnds, Lane.own, *]

@[simp] theorem Dev.countSample__within {my : May} {d0 : Dev} (d : Dev) (n f : Nat) (h : Within my d0 d)
    (h1 : my.safLane n = true) :
    Within my d0 (d.countSample_ n f) := by
  simp (maxDischargeDepth := 60) [Dev.countSample_, Lane.own, *]

@[simp] theorem Dev.watchSample_within {my : May} {d0 : Dev} (d : Dev) (n : Nat) (s c : Int) (h : Within my d0 d)
    (h1 : my.bbx = true) (h2 : my.reg .bbxStat 0 = true) (h3 : my.saf = true) (h4 : my.safLane n = true) :
    Within my d0 (d.watchSample n s c) := by
  unfold Dev.watchSample; (try dsimp only); (repeat' split) <;> simp_all (maxDischargeDepth := 60) [Lane.own]

@[simp] theorem Dev.safetyViolation_within {my : May} {d0 : Dev} (d : Dev) (n fn : Nat) (h : Within my d0 d)
    (h1 : my.bbx = true) (h2 : my.crit = true) (h3 : my.hlt = true) (h4 : ∀ n', n' / 8 = n / 8 → my.outputs d0 n')
    (h5 : my.reg .bbxStat 0 = true) (h6 : my.reg .safCnt n = true) (h7 : my.saf = true)
    (h8 : ∀ n', n' / 8 = n / 8 → my.safLane n' = true) :
    Within my d0 (d.safetyViolation n fn) := by
  unfold Dev.safetyViolation; dsimp only
  split
  · exact h
  · refine Dev.groupReaction_within_of _ _ (by simp (maxDischargeDepth := 60) [*]) ?_ (by assumption) (by assumption) (by assumption) (by assumption)
    intro g hg k hk
    have hk' : k / 8 = n / 8 := by rw [List.mem_singleton.1 hg] at hk; exact hk
    constructor <;> first | exact h4 k hk' | exact h7 k hk' | exact h8 k hk'

@[simp] theorem Dev.xcmpFail_within {my : May} {d0 : Dev} (d : Dev) (n : Nat) (h : Within my d0 d) (h1 : my.bbx = true)
    (h2 : my.crit = true) (h3 : my.hlt = true) (h4 : ∀ n', n' / 8 = n / 8 → my.outputs d0 n')
    (h5 : my.reg .bbxStat 0 = true) (h6 : my.saf = true) (h7 : ∀ n', n' / 8 = n / 8 → my.safLane n' = true) :
    Within my d0 (d.xcmpFail n) := by
  unfold Dev.xcmpFail; dsimp only
  split
  · exact h
  · refine Dev.groupReaction_within_of _ _ (by simp (maxDischargeDepth := 60) [*]) ?_ (by assumption) (by assumption) (by assumption) (by assumption)
    intro g hg k hk
    have hk' : k / 8 = n / 8 := by rw [List.mem_singleton.1 hg] at hk; exact hk
    constructor <;> first | exact h4 k hk' | exact h7 k hk' | exact h6 k hk'

@[simp] theorem Dev.xcmp_within {my : May} {d0 : Dev} (d : Dev) (n : Nat) (h : Within my d0 d) (h1 : my.bbx = true)
    (h2 : my.crit = true) (h3 : my.hlt = true) (h4 : ∀ n', n' / 8 = n / 8 → my.outputs d0 n')
    (h5 : my.reg .bbxStat 0 = true) (h6 : my.saf = true) (h7 : ∀ n', n' / 8 = n / 8 → my.safLane n' = true)
    (h8 : my.safLane n = true) :
    Within my d0 (d.xcmp n) := by
  unfold Dev.xcmp; (try dsimp only); (repeat' split) <;> simp_all (maxDischargeDepth := 60) [Lane.own]

@[simp] theorem Dev.ss1Request_within {my : May} {d0 : Dev} (d : Dev) (n : Nat) (on : Bool) (h : Within my d0 d)
    (h1 : my.bbx = true) (h2 : my.reg .bbxStat 0 = true) (h3 : my.saf = true) (h4 : my.safLane n = true) :
    Within my d0 (d.ss1Request n on) := by
  simp (maxDischargeDepth := 60) [Dev.ss1Request, Lane.own, *]

@[simp] theorem Dev.laneRequest_within {my : May} {d0 : Dev} (d : Dev) (n : Nat) (enable ss1 sos sdi sdiPos : Bool)
    (sls : Nat) (h : Within my d0 d) (h1 : my.bbx = true) (h2 : my.crit = true) (h3 : my.hlt = true)
    (h4 : my.outputs d0 n) (h5 : my.reg .bbxStat 0 = true) (h6 : my.saf = true) (h7 : my.safLane n = true) :
    Within my d0 (d.laneRequest n enable ss1 sos sdi sdiPos sls) := by
  simp (maxDischargeDepth := 60) [Dev.laneRequest, Lane.own, *]

@[simp] theorem Dev.ss1Expiry_within {my : May} {d0 : Dev} (d : Dev) (n : Nat) (h : Within my d0 d) (h1 : my.bbx = true)
    (h2 : my.crit = true) (h3 : my.hlt = true) (h4 : ∀ k', my.outputs d0 k') (h5 : my.reg .bbxStat 0 = true)
    (h6 : my.saf = true) (h7 : ∀ k', my.safLane k' = true) :
    Within my d0 (d.ss1Expiry n) := by
  unfold Dev.ss1Expiry; (try dsimp only); (repeat' split) <;> simp_all (maxDischargeDepth := 60) [Lane.own]

@[simp] theorem Dev.siLevel_within {my : May} {d0 : Dev} (d : Dev) (k : Nat) (level : Bool) (h : Within my d0 d)
    (h1 : my.saf = true) :
    Within my d0 (d.siLevel k level) := by
  unfold Dev.siLevel; (try dsimp only); (repeat' split) <;> simp (maxDischargeDepth := 60) [Lane.own, *]

@[simp] theorem Dev.siReact_within {my : May} {d0 : Dev} (d : Dev) (i : Nat) (h : Within my d0 d) (h1 : my.bbx = true)
    (h2 : my.crit = true) (h3 : my.hlt = true) (h4 : ∀ k', my.outputs d0 k') (h5 : my.reg .bbxStat 0 = true)
    (h6 : my.saf = true) (h7 : ∀ k', my.safLane k' = true) :
    Within my d0 (d.siReact i) := by
  unfold Dev.siReact; (try dsimp only); (repeat' split) <;> simp_all (maxDischargeDepth := 60) [Lane.own]

@[simp] theorem Dev.siDemand_within {my : May} {d0 : Dev} (d : Dev) (i : Nat) (h : Within my d0 d) (h1 : my.bbx = true)
    (h2 : my.crit = true) (h3 : my.hlt = true) (h4 : ∀ k', my.outputs d0 k') (h5 : my.reg .bbxStat 0 = true)
    (h6 : my.saf = true) (h7 : ∀ k', my.safLane k' = true) :
    Within my d0 (d.siDemand i) := by
  simp (maxDischargeDepth := 60) [Dev.siDemand, Lane.own, *]

@[simp] theorem Dev.siDiscrepancy_within {my : May} {d0 : Dev} (d : Dev) (i : Nat) (h : Within my d0 d)
    (h1 : my.bbx = true) (h2 : my.crit = true) (h3 : my.hlt = true) (h4 : ∀ k', my.outputs d0 k')
    (h5 : my.reg .bbxStat 0 = true) (h6 : my.saf = true) (h7 : ∀ k', my.safLane k' = true) :
    Within my d0 (d.siDiscrepancy i) := by
  simp (maxDischargeDepth := 60) [Dev.siDiscrepancy, Lane.own, *]

@[simp] theorem Dev.safetySelfTest_within {my : May} {d0 : Dev} (d : Dev) (kind g : Nat) (pass : Bool)
    (h : Within my d0 d) (h1 : my.bbx = true) (h2 : my.crit = true) (h3 : my.hlt = true) (h4 : ∀ k', my.outputs d0 k')
    (h5 : my.reg .bbxStat 0 = true) (h6 : my.saf = true) (h7 : ∀ k', my.safLane k' = true) :
    Within my d0 (d.safetySelfTest kind g pass) := by
  unfold Dev.safetySelfTest; (try dsimp only); (repeat' split) <;> simp (maxDischargeDepth := 60) [Lane.own, *]

@[simp] theorem Dev.soStuck_within {my : May} {d0 : Dev} (d : Dev) (g : Nat) (h : Within my d0 d) (h1 : my.bbx = true)
    (h2 : my.crit = true) (h3 : my.hlt = true) (h4 : ∀ k', my.outputs d0 k') (h5 : my.reg .bbxStat 0 = true)
    (h6 : my.saf = true) (h7 : ∀ k', my.safLane k' = true) :
    Within my d0 (d.soStuck g) := by
  simp (maxDischargeDepth := 60) [Dev.soStuck, Lane.own, *]

@[simp] theorem Dev.soReadback_within {my : May} {d0 : Dev} (d : Dev) (g kind : Nat) (h : Within my d0 d)
    (h1 : my.bbx = true) (h2 : my.crit = true) (h3 : my.hlt = true) (h4 : ∀ k', my.outputs d0 k')
    (h5 : my.reg .bbxStat 0 = true) (h6 : my.saf = true) (h7 : ∀ k', my.safLane k' = true) :
    Within my d0 (d.soReadback g kind) := by
  simp (maxDischargeDepth := 60) [Dev.soReadback, Lane.own, *]

@[simp] theorem Dev.soPulse_within {my : May} {d0 : Dev} (d : Dev) (g : Nat) (h : Within my d0 d) (h1 : my.saf = true) :
    Within my d0 (d.soPulse g) := by
  simp (maxDischargeDepth := 60) [Dev.soPulse, Lane.own, *]

@[simp] theorem Dev.soPulseEnd_within {my : May} {d0 : Dev} (d : Dev) (g : Nat) (low : Bool) (h : Within my d0 d)
    (h1 : my.bbx = true) (h2 : my.crit = true) (h3 : my.hlt = true) (h4 : ∀ k', my.outputs d0 k')
    (h5 : my.reg .bbxStat 0 = true) (h6 : my.saf = true) (h7 : ∀ k', my.safLane k' = true) :
    Within my d0 (d.soPulseEnd g low) := by
  unfold Dev.soPulseEnd; (try dsimp only); (repeat' split) <;> simp (maxDischargeDepth := 60) [Lane.own, *]

@[simp] theorem Dev.resetAck_within {my : May} {d0 : Dev} (d : Dev) (c mask : Nat) (h : Within my d0 d)
    (h1 : my.bbx = true) (h2 : my.reg .bbxStat 0 = true) (h3 : my.saf = true) (h4 : ∀ k', my.safLane k' = true) :
    Within my d0 (d.resetAck c mask).2 := by
  unfold Dev.resetAck; (try dsimp only); simp_all (maxDischargeDepth := 60) [Lane.own]

@[simp] theorem Dev.liftBarriers_within {my : May} {d0 : Dev} (d : Dev) (h : Within my d0 d) (h1 : my.bbx = true)
    (h2 : my.crit = true) (h3 : my.raise = true) (h4 : my.reg .bbxStat 0 = true) (h5 : my.saf = true)
    (h6 : ∀ k', my.safLane k' = true) :
    Within my d0 (d.liftBarriers) := by
  unfold Dev.liftBarriers; (try dsimp only); (repeat' split) <;> simp_all (maxDischargeDepth := 60) [Lane.own]

@[simp] theorem Dev.safeRst_within {my : May} {d0 : Dev} (d : Dev) (width : Nat) (h : Within my d0 d) (h1 : my.bbx = true)
    (h2 : my.crit = true) (h3 : my.raise = true) (h4 : my.reg .bbxStat 0 = true) (h5 : my.saf = true)
    (h6 : ∀ k', my.safLane k' = true) :
    Within my d0 (d.safeRst width) := by
  simp (maxDischargeDepth := 60) [Dev.safeRst, Lane.own, *]

@[simp] theorem Dev.safeRstHeld_within {my : May} {d0 : Dev} (d : Dev) (h : Within my d0 d) (h1 : my.bbx = true)
    (h2 : my.reg .bbxStat 0 = true) (h3 : my.saf = true) :
    Within my d0 (d.safeRstHeld) := by
  simp (maxDischargeDepth := 60) [Dev.safeRstHeld, Lane.own, *]

@[simp] theorem Dev.armingExpiry_within {my : May} {d0 : Dev} (d : Dev) (n : Nat) (h : Within my d0 d)
    (h1 : my.safLane n = true) :
    Within my d0 (d.armingExpiry n) := by
  unfold Dev.armingExpiry; (repeat' split) <;> simp (maxDischargeDepth := 60) [Lane.own, *]

@[simp] theorem Dev.watchOff_within {my : May} {d0 : Dev} (d : Dev) (n : Nat) (h : Within my d0 d)
    (h1 : my.safLane n = true) :
    Within my d0 (d.watchOff n) := by
  simp (maxDischargeDepth := 60) [Dev.watchOff, Lane.own, *]

@[simp] theorem Dev.applyParams_within {my : May} {d0 : Dev} (d : Dev) (p : ParamSet) (h : Within my d0 d)
    (h1 : my.bbx = true) (h2 : ∀ k', my.conn k' = true) (h3 : my.crit = true) (h4 : my.hlt = true)
    (h5 : ∀ k', my.outputs d0 k') (h6 : my.reg .bbxStat 0 = true) (h7 : my.saf = true) (h8 : ∀ k', my.safLane k' = true) :
    Within my d0 (d.applyParams p) := by
  unfold Dev.applyParams
  refine Within.forEach (Within.forEach ?_ _ _ fun c e he => ?_) _ _ fun n e he => ?_
  · simp (maxDischargeDepth := 60) [*]
  · simp (maxDischargeDepth := 60) [*]
  · dsimp only
    (repeat' split) <;> simp (maxDischargeDepth := 60) [*]

/-! ### Packet -/

@[simp] theorem Dev.answer_within {my : May} {d0 : Dev} (d : Dev) (st : Nat) (data : List Byte) (h : Within my d0 d) :
    Within my d0 (d.answer st data).2 := by
  simp (maxDischargeDepth := 60) [Dev.answer, Lane.own, *]

/-- An opcode that names its unit refuses, or does what it goes on to do. -/
@[simp] theorem Dev.forUnit_within {my : May} {d0 : Dev} (d : Dev) (r : Request) (present : Bool) (lane : Nat) (go : Served)
    (h : Within my d0 d) (hg : Within my d0 go.2) : Within my d0 (d.forUnit r present lane go).2 := by
  unfold Dev.forUnit
  (repeat' split) <;> first | exact hg | exact Dev.answer_within _ _ _ h

@[simp] theorem Dev.linkSet_within {my : May} {d0 : Dev} (d : Dev) (p : Nat) (up : Bool) (h : Within my d0 d)
    (h1 : my.bbx = true) (h2 : my.port p = true) (h3 : my.reg .bbxStat 0 = true) (h4 : my.reg .hpStat p = true) :
    Within my d0 (d.linkSet p up) := by
  simp (maxDischargeDepth := 60) [Dev.linkSet, Lane.own, *]

@[simp] theorem Dev.linkLose_within {my : May} {d0 : Dev} (d : Dev) (p : Nat) (h : Within my d0 d) (h1 : my.bbx = true)
    (h2 : my.port p = true) (h3 : my.reg .bbxStat 0 = true) (h4 : my.reg .hpStat p = true) :
    Within my d0 (d.linkLose p) := by
  simp (maxDischargeDepth := 60) [Dev.linkLose, Lane.own, *]

@[simp] theorem Dev.logWrite_within {my : May} {d0 : Dev} (d : Dev) (p code op lane tag addr : Nat) (status : Nat)
    (h : Within my d0 d) (h1 : my.bbx = true) (h2 : my.port p = true) (h3 : my.reg .bbxStat 0 = true) :
    Within my d0 (d.logWrite p code op lane tag addr status) := by
  simp (maxDischargeDepth := 60) [Dev.logWrite, Lane.own, *]

@[simp] theorem Dev.logSummary_within {my : May} {d0 : Dev} (d : Dev) (p : Nat) (w : WriteLog) (h : Within my d0 d)
    (h1 : my.bbx = true) (h2 : my.reg .bbxStat 0 = true) :
    Within my d0 (d.logSummary p w) := by
  simp (maxDischargeDepth := 60) [Dev.logSummary, Lane.own, *]

@[simp] theorem Dev.writeLogSummary_within {my : May} {d0 : Dev} (d : Dev) (p : Nat) (h : Within my d0 d)
    (h1 : my.bbx = true) (h2 : my.port p = true) (h3 : my.reg .bbxStat 0 = true) :
    Within my d0 (d.writeLogSummary p) := by
  unfold Dev.writeLogSummary; (try dsimp only); simp_all (maxDischargeDepth := 60) [Lane.own]

/-! ### Evfo -/

@[simp] theorem Dev.paramWr_within {my : May} {d0 : Dev} (d : Dev) (c target index : Nat) (v : Word) (h : Within my d0 d)
    (h1 : my.saf = true) :
    Within my d0 (d.paramWr c target index v).2 := by
  unfold Dev.paramWr; (try dsimp only); (repeat' split) <;> simp (maxDischargeDepth := 60) [Lane.own, *]

@[simp] theorem Dev.paramCommit_within {my : May} {d0 : Dev} (d : Dev) (c : Nat) (crc : Word) (h : Within my d0 d)
    (h1 : my.bbx = true) (h2 : my.reg .bbxStat 0 = true) (h3 : my.saf = true) :
    Within my d0 (d.paramCommit c crc).2 := by
  unfold Dev.paramCommit; (try dsimp only); (repeat' split) <;> simp (maxDischargeDepth := 60) [Lane.own, *]

@[simp] theorem Dev.paramCommitEnd_within {my : May} {d0 : Dev} (d : Dev) (ok : Bool) (h : Within my d0 d)
    (h1 : my.bbx = true) (h2 : ∀ k', my.conn k' = true) (h3 : my.crit = true) (h4 : my.hlt = true)
    (h5 : ∀ k', my.outputs d0 k') (h6 : my.reg .bbxStat 0 = true) (h7 : my.saf = true) (h8 : ∀ k', my.safLane k' = true) :
    Within my d0 (d.paramCommitEnd ok) := by
  unfold Dev.paramCommitEnd
  split
  · exact h
  · dsimp only
    split
    · apply Dev.applyParams_within <;> simp (maxDischargeDepth := 60) [*]
    · simp (maxDischargeDepth := 60) [*]

@[simp] theorem Dev.connCommand_within {my : May} {d0 : Dev} (d : Dev) (c op tag : Nat) (args : List Byte)
    (h : Within my d0 d) (h1 : my.bbx = true) (h2 : my.conn c = true) (h3 : my.reg .bbxStat 0 = true) (h4 : my.saf = true)
    (h5 : ∀ k', my.safLane k' = true) :
    Within my d0 (d.connCommand c op tag args) := by
  unfold Dev.connCommand; (try dsimp only); (repeat' split) <;> simp (maxDischargeDepth := 60) [Lane.own, *]

@[simp] theorem Dev.connExec_within {my : May} {d0 : Dev} (d : Dev) (c op tag : Nat) (args : List Byte)
    (h : Within my d0 d) (h1 : my.bbx = true) (h2 : my.conn c = true) (h3 : my.reg .bbxStat 0 = true) (h4 : my.saf = true)
    (h5 : ∀ k', my.safLane k' = true) :
    Within my d0 (d.connExec c op tag args) := by
  simp (maxDischargeDepth := 60) [Dev.connExec, Lane.own, *]

@[simp] theorem Dev.connFail_within {my : May} {d0 : Dev} (d : Dev) (c cause : Nat) (h : Within my d0 d)
    (h1 : my.bbx = true) (h2 : my.conn c = true) (h3 : my.crit = true) (h4 : my.hlt = true) (h5 : ∀ k', my.outputs d0 k')
    (h6 : my.reg .bbxStat 0 = true) (h7 : my.reg .connCnt c = true) (h8 : my.saf = true) (h9 : ∀ k', my.safLane k' = true) :
    Within my d0 (d.connFail c cause) := by
  simp (maxDischargeDepth := 60) [Dev.connFail, Lane.own, *]

@[simp] theorem Dev.connWatchdog_within {my : May} {d0 : Dev} (d : Dev) (c : Nat) (h : Within my d0 d)
    (h1 : my.bbx = true) (h2 : my.conn c = true) (h3 : my.crit = true) (h4 : my.hlt = true) (h5 : ∀ k', my.outputs d0 k')
    (h6 : my.reg .bbxStat 0 = true) (h7 : my.reg .connCnt c = true) (h8 : my.saf = true) (h9 : ∀ k', my.safLane k' = true) :
    Within my d0 (d.connWatchdog c) := by
  simp (maxDischargeDepth := 60) [Dev.connWatchdog, Lane.own, *]

@[simp] theorem Dev.connRequests_within {my : May} {d0 : Dev} (d : Dev) (c : Nat) (b : List Byte) (h : Within my d0 d)
    (h1 : my.bbx = true) (h2 : my.crit = true) (h3 : my.hlt = true) (h4 : ∀ k', my.outputs d0 k')
    (h5 : my.reg .bbxStat 0 = true) (h6 : my.saf = true) (h7 : ∀ k', my.safLane k' = true) :
    Within my d0 (d.connRequests c b) := by
  unfold Dev.connRequests; (try dsimp only)
  (try simp (maxDischargeDepth := 60) [Lane.own, *]) <;>
    (first | refine Within.forEach ?_ _ _ (fun n e he => ?_) | refine Within.foldl ?_ _ _ (fun e n he => ?_) | skip) <;> (try dsimp only) <;> (repeat' split) <;> simp (maxDischargeDepth := 60) [Lane.own, *]

@[simp] theorem Dev.connAccept_within {my : May} {d0 : Dev} (d : Dev) (c : Nat) (b : List Byte) (h : Within my d0 d)
    (h1 : my.bbx = true) (h2 : my.conn c = true) (h3 : my.crit = true) (h4 : my.hlt = true) (h5 : ∀ k', my.outputs d0 k')
    (h6 : my.reg .bbxStat 0 = true) (h7 : my.saf = true) (h8 : ∀ k', my.safLane k' = true) :
    Within my d0 (d.connAccept c b) := by
  simp (maxDischargeDepth := 60) [Dev.connAccept, Lane.own, *]

@[simp] theorem Dev.connEnter_within {my : May} {d0 : Dev} (d : Dev) (c : Nat) (b : List Byte) (h : Within my d0 d)
    (h1 : my.bbx = true) (h2 : my.conn c = true) (h3 : my.crit = true) (h4 : my.hlt = true) (h5 : ∀ k', my.outputs d0 k')
    (h6 : my.reg .bbxStat 0 = true) (h7 : my.saf = true) (h8 : ∀ k', my.safLane k' = true) :
    Within my d0 (d.connEnter c b) := by
  simp (maxDischargeDepth := 60) [Dev.connEnter, Lane.own, *]

@[simp] theorem Dev.connWaiting_within {my : May} {d0 : Dev} (d : Dev) (c : Nat) (b : List Byte) (h : Within my d0 d)
    (h1 : my.bbx = true) (h2 : my.conn c = true) (h3 : my.crit = true) (h4 : my.hlt = true) (h5 : ∀ k', my.outputs d0 k')
    (h6 : my.reg .bbxStat 0 = true) (h7 : my.saf = true) (h8 : ∀ k', my.safLane k' = true) :
    Within my d0 (d.connWaiting c b) := by
  simp (maxDischargeDepth := 60) [Dev.connWaiting, Lane.own, *]

@[simp] theorem Dev.container_within {my : May} {d0 : Dev} (d : Dev) (c : Nat) (b : List Byte) (h : Within my d0 d)
    (h1 : my.bbx = true) (h2 : my.conn c = true) (h3 : my.crit = true) (h4 : my.hlt = true) (h5 : ∀ k', my.outputs d0 k')
    (h6 : my.reg .bbxStat 0 = true) (h7 : my.reg .connCnt c = true) (h8 : my.saf = true) (h9 : ∀ k', my.safLane k' = true) :
    Within my d0 (d.container c b) := by
  unfold Dev.container; (try dsimp only); (repeat' split) <;> simp (maxDischargeDepth := 60) [Lane.own, *]

@[simp] theorem Dev.buildContainer_within {my : May} {d0 : Dev} (d : Dev) (c : Nat) (h : Within my d0 d)
    (h1 : my.conn c = true) :
    Within my d0 (d.buildContainer c).2 := by
  simp (maxDischargeDepth := 60) [Dev.buildContainer, Lane.own, *]

/-! ### Records -/

@[simp] theorem Dev.partReceive_within {my : May} {d0 : Dev} (d : Dev) (p : Nat) (bytes : List Byte) (h : Within my d0 d)
    (h1 : my.port p = true) :
    Within my d0 (d.partReceive p bytes) := by
  simp (maxDischargeDepth := 60) [Dev.partReceive, Lane.own, *]

@[simp] theorem Dev.stageInbound_within {my : May} {d0 : Dev} (d : Dev) (p : Nat) (a : Act) (h : Within my d0 d)
    (h1 : my.staged = true) :
    Within my d0 (d.stageInbound p a) := by
  simp (maxDischargeDepth := 60) [Dev.stageInbound, Lane.own, *]

@[simp] theorem Dev.stageRecord_within {my : May} {d0 : Dev} (d : Dev) (p n : Nat) (b : List Byte) (h : Within my d0 d)
    (h1 : my.staged = true) :
    Within my d0 (d.stageRecord p n b) := by
  unfold Dev.stageRecord; (try dsimp only); simp_all (maxDischargeDepth := 60) [Lane.own]

@[simp] theorem Dev.takeRecords_within {my : May} {d0 : Dev} (d : Dev) (p : Nat) (b : List Byte) (ls : List Nat)
    (h : Within my d0 d) (h1 : my.staged = true) :
    Within my d0 (d.takeRecords p b ls) := by
  unfold Dev.takeRecords; simp_all (maxDischargeDepth := 60) [Lane.own]

@[simp] theorem Dev.takeContainers_within {my : May} {d0 : Dev} (d : Dev) (b : List Byte) (n : Nat) (cs : List Nat)
    (h : Within my d0 d) (h1 : my.bbx = true) (h2 : ∀ k', my.conn k' = true) (h3 : my.crit = true) (h4 : my.hlt = true)
    (h5 : ∀ k', my.outputs d0 k') (h6 : my.reg .bbxStat 0 = true) (h7 : ∀ k', my.reg .connCnt k' = true)
    (h8 : my.saf = true) (h9 : ∀ k', my.safLane k' = true) :
    Within my d0 (d.takeContainers b n cs) := by
  unfold Dev.takeContainers; simp_all (maxDischargeDepth := 60) [Lane.own]

@[simp] theorem Dev.takePart_within {my : May} {d0 : Dev} (d : Dev) (p : Nat) (b : List Byte) (h : Within my d0 d)
    (h1 : my.bbx = true) (h2 : ∀ k', my.conn k' = true) (h3 : my.crit = true) (h4 : my.hlt = true)
    (h5 : ∀ k', my.outputs d0 k') (h6 : my.port p = true) (h7 : my.reg .bbxStat 0 = true)
    (h8 : ∀ k', my.reg .connCnt k' = true) (h9 : my.reg .hpInCnt p = true) (h10 : my.saf = true)
    (h11 : ∀ k', my.safLane k' = true) (h12 : my.staged = true) :
    Within my d0 (d.takePart p b) := by
  unfold Dev.takePart; (try dsimp only); simp_all (maxDischargeDepth := 60) [Lane.own]

@[simp] theorem Dev.partAccept_within {my : May} {d0 : Dev} (d : Dev) (p : Nat) (h : Within my d0 d) (h1 : my.bbx = true)
    (h2 : ∀ k', my.conn k' = true) (h3 : my.crit = true) (h4 : my.hlt = true) (h5 : ∀ k', my.outputs d0 k')
    (h6 : my.port p = true) (h7 : my.reg .bbxStat 0 = true) (h8 : ∀ k', my.reg .connCnt k' = true)
    (h9 : my.reg .hpInBad p = true) (h10 : my.reg .hpInCnt p = true) (h11 : my.saf = true)
    (h12 : ∀ k', my.safLane k' = true) (h13 : my.staged = true) :
    Within my d0 (d.partAccept p) := by
  unfold Dev.partAccept; (try dsimp only); (repeat' split) <;> simp (maxDischargeDepth := 60) [Lane.own, *]

@[simp] theorem Dev.inboundMiss_within {my : May} {d0 : Dev} (d : Dev) (n : Nat) (h : Within my d0 d) (h1 : my.bbx = true)
    (h2 : my.lane n = true) (h3 : my.reg .bbxStat 0 = true) :
    Within my d0 (d.inboundMiss n) := by
  unfold Dev.inboundMiss; (try dsimp only); (repeat' split) <;> simp (maxDischargeDepth := 60) [Lane.own, *]

@[simp] theorem Dev.inboundAge_within {my : May} {d0 : Dev} (d : Dev) (n : Nat) (came : Bool) (h : Within my d0 d)
    (h1 : my.bbx = true) (h2 : my.lane n = true) (h3 : my.reg .bbxStat 0 = true) :
    Within my d0 (d.inboundAge n came) := by
  unfold Dev.inboundAge; (try dsimp only); (repeat' split) <;> simp (maxDischargeDepth := 60) [Lane.own, *]

@[simp] theorem Dev.buildPart_within {my : May} {d0 : Dev} (d : Dev) (i m : Nat) (s : List Nat × List Nat)
    (h : Within my d0 d) (h1 : ∀ k', my.conn k' = true) :
    Within my d0 (d.buildPart i m s).2 := by
  unfold Dev.buildPart; (try dsimp only); simp_all (maxDischargeDepth := 60) [Lane.own]

@[simp] theorem Dev.buildBlock_within {my : May} {d0 : Dev} (d : Dev) (p : Nat) (h : Within my d0 d)
    (h1 : ∀ k', my.conn k' = true) (h2 : my.port p = true) :
    Within my d0 (d.buildBlock p) := by
  unfold Dev.buildBlock; (try dsimp only); (repeat' split) <;> simp_all (maxDischargeDepth := 60) [Lane.own]

@[simp] theorem Dev.recordTransmit_within {my : May} {d0 : Dev} (d : Dev) (p : Nat) (h : Within my d0 d)
    (h1 : my.port p = true) (h2 : my.reg .hpInBad p = true) (h3 : my.reg .hpTxRec p = true) :
    Within my d0 (d.recordTransmit p) := by
  unfold Dev.recordTransmit; (try dsimp only); (repeat' split) <;> simp (maxDischargeDepth := 60) [Lane.own, *]

/-! ### Trace -/

@[simp] theorem Dev.traceDone_within {my : May} {d0 : Dev} (d : Dev) (h : Within my d0 d) (h1 : my.bbx = true)
    (h2 : my.reg .bbxStat 0 = true) (h3 : my.trc = true) :
    Within my d0 (d.traceDone) := by
  simp (maxDischargeDepth := 60) [Dev.traceDone, Lane.own, *]

@[simp] theorem Dev.traceTick_within {my : May} {d0 : Dev} (d : Dev) (y : TraceTake) (h : Within my d0 d)
    (h1 : my.bbx = true) (h2 : my.reg .bbxStat 0 = true) (h3 : my.trc = true) :
    Within my d0 (d.traceTick y) := by
  unfold Dev.traceTick; (try dsimp only); (repeat' split) <;> simp (maxDischargeDepth := 60) [Lane.own, *]

@[simp] theorem Dev.traceCapture_within {my : May} {d0 : Dev} (d : Dev) (k : Nat) (h : Within my d0 d)
    (h1 : my.trc = true) :
    Within my d0 (d.traceCapture k) := by
  simp (maxDischargeDepth := 60) [Dev.traceCapture, Lane.own, *]

@[simp] theorem Dev.traceMark_within {my : May} {d0 : Dev} (d : Dev) (h : Within my d0 d) (h1 : my.trc = true) :
    Within my d0 (d.traceMark) := by
  simp (maxDischargeDepth := 60) [Dev.traceMark, Lane.own, *]

@[simp] theorem Dev.traceEarly_within {my : May} {d0 : Dev} (d : Dev) (y : TraceTake) (h : Within my d0 d)
    (h1 : my.bbx = true) (h2 : my.reg .bbxStat 0 = true) (h3 : my.trc = true) :
    Within my d0 (d.traceEarly y) := by
  simp (maxDischargeDepth := 60) [Dev.traceEarly, Lane.own, *]

@[simp] theorem Dev.traceLate_within {my : May} {d0 : Dev} (d : Dev) (y : TraceTake) (h : Within my d0 d)
    (h1 : my.bbx = true) (h2 : my.reg .bbxStat 0 = true) (h3 : my.trc = true) :
    Within my d0 (d.traceLate y) := by
  simp (maxDischargeDepth := 60) [Dev.traceLate, Lane.own, *]

@[simp] theorem Dev.traceStat_within {my : May} {d0 : Dev} (d : Dev) (h : Within my d0 d) (h1 : my.trc = true) :
    Within my d0 (d.traceStat) := by
  simp (maxDischargeDepth := 60) [Dev.traceStat, Lane.own, *]

@[simp] theorem Dev.traceArm_within {my : May} {d0 : Dev} (d : Dev) (port : Nat) (h : Within my d0 d) (h1 : my.bbx = true)
    (h2 : my.reg .bbxStat 0 = true) (h3 : my.trc = true) :
    Within my d0 (d.traceArm port) := by
  simp (maxDischargeDepth := 60) [Dev.traceArm, Lane.own, *]

@[simp] theorem Dev.traceStop_within {my : May} {d0 : Dev} (d : Dev) (h : Within my d0 d) (h1 : my.bbx = true)
    (h2 : my.reg .bbxStat 0 = true) (h3 : my.trc = true) :
    Within my d0 (d.traceStop) := by
  simp (maxDischargeDepth := 60) [Dev.traceStop, Lane.own, *]

@[simp] theorem Dev.traceLose_within {my : May} {d0 : Dev} (d : Dev) (h : Within my d0 d) (h1 : my.trc = true) :
    Within my d0 (d.traceLose) := by
  simp (maxDischargeDepth := 60) [Dev.traceLose, Lane.own, *]

end Sys2Proof.Machine
end

