-- ==== Sys2Proof/Laws/WithinRequest.lean ====
section
/-! SUPPORT. What the operations of register words and the opcodes change: one lemma for each, which asks of
`May` just the places that the operation touches. -/
namespace Sys2Proof.Machine
open Sys2Proof
set_option linter.unusedSimpArgs false
set_option linter.unusedVariables false
set_option maxRecDepth 4000

/-! ### RegRead -/

@[simp] theorem Dev.clearRc_within {my : May} {d0 : Dev} (d : Dev) (a : Nat) (h : Within my d0 d)
    (h1 : ∀ i' k', my.reg i' k' = true) :
    Within my d0 (d.clearRc a) := by
  unfold Dev.clearRc; (repeat' split) <;> simp (maxDischargeDepth := 60) [Lane.own, *]

@[simp] theorem Dev.readWord_within {my : May} {d0 : Dev} (d : Dev) (p a : Nat) (h : Within my d0 d)
    (h1 : my.port p = true) (h2 : ∀ i' k', my.reg i' k' = true) :
    Within my d0 (d.readWord p a).2 := by
  unfold Dev.readWord; (try dsimp only); (repeat' split) <;> simp (maxDischargeDepth := 60) [Lane.own, *]

@[simp] theorem Dev.readWords_within {my : May} {d0 : Dev} (d : Dev) (p a : Nat) (k : Nat) (h : Within my d0 d)
    (h1 : my.port p = true) (h2 : ∀ i' k', my.reg i' k' = true) :
    Within my d0 (d.readWords p a k).2 := by
  induction k generalizing d a with
  | zero => exact h
  | succ k ih =>
    unfold Dev.readWords; dsimp only
    exact ih _ _ (Dev.readWord_within _ _ _ h h1 h2)

/-! ### RegWrite -/

@[simp] theorem Dev.writeNow_within {my : May} {d0 : Dev} (d : Dev) (r : RegId) (k : Nat) (v : Word) (h : Within my d0 d)
    (h1 : my.bbx = true) (h2 : my.emu k = true) (h3 : my.mls k = true) (h4 : ∀ k', my.outputs d0 k')
    (h5 : my.port k = true) (h6 : my.reg .bbxStat 0 = true) (h7 : my.reg .emuStat k = true) (h8 : my.reg .hpStat k = true)
    (h9 : my.reg r k = true) (h10 : my.time = true) :
    Within my d0 (d.writeNow r k v) := by
  unfold Dev.writeNow; (try dsimp only); (repeat' split) <;> simp (maxDischargeDepth := 60) [Lane.own, *]

@[simp] theorem Dev.writeOne_within {my : May} {d0 : Dev} (d : Dev) (p : Nat) (inGroup : Bool) (r : RegId) (k : Nat)
    (v : Word) (h : Within my d0 d) (h1 : my.bbx = true) (h2 : my.emu k = true) (h3 : my.mls k = true)
    (h4 : ∀ k', my.outputs d0 k') (h5 : my.port k = true) (h6 : my.reg .bbxStat 0 = true) (h7 : my.reg .emuStat k = true)
    (h8 : my.reg .hpStat k = true) (h9 : my.reg r k = true) (h10 : my.staged = true) (h11 : my.time = true) :
    Within my d0 (d.writeOne p inGroup r k v) := by
  simp (maxDischargeDepth := 60) [Dev.writeOne, Lane.own, *]

@[simp] theorem Dev.writeReg_within {my : May} {d0 : Dev} (d : Dev) (p : Nat) (inGroup : Bool) (r : RegId) (k : Nat)
    (v : Word) (h : Within my d0 d) (h1 : my.bbx = true) (h2 : ∀ k', my.emu k' = true) (h3 : ∀ k', my.mls k' = true)
    (h4 : ∀ k', my.outputs d0 k') (h5 : ∀ k', my.port k' = true) (h6 : my.reg .bbxStat 0 = true)
    (h7 : ∀ k', my.reg .emuStat k' = true) (h8 : ∀ k', my.reg .hpStat k' = true) (h9 : ∀ k', my.reg r k' = true)
    (h10 : my.staged = true) (h11 : my.time = true) :
    Within my d0 (d.writeReg p inGroup r k v) := by
  unfold Dev.writeReg; (try dsimp only); (repeat' split) <;> simp_all (maxDischargeDepth := 60) [Lane.own]

@[simp] theorem Dev.writeAt_within {my : May} {d0 : Dev} (d : Dev) (p : Nat) (inGroup : Bool) (a : Nat) (v : Word)
    (h : Within my d0 d) (h1 : my.bbx = true) (h2 : ∀ k', my.emu k' = true) (h3 : ∀ k', my.mls k' = true)
    (h4 : ∀ k', my.outputs d0 k') (h5 : ∀ k', my.port k' = true) (h6 : ∀ i' k', my.reg i' k' = true)
    (h7 : my.staged = true) (h8 : my.time = true) :
    Within my d0 (d.writeAt p inGroup a v) := by
  unfold Dev.writeAt; (repeat' split) <;> simp (maxDischargeDepth := 60) [Lane.own, *]

@[simp] theorem Dev.writeWords_within {my : May} {d0 : Dev} (d : Dev) (p : Nat) (inGroup : Bool) (a : Nat)
    (ws : List Word) (h : Within my d0 d) (h1 : my.bbx = true) (h2 : ∀ k', my.emu k' = true) (h3 : ∀ k', my.mls k' = true)
    (h4 : ∀ k', my.outputs d0 k') (h5 : ∀ k', my.port k' = true) (h6 : ∀ i' k', my.reg i' k' = true)
    (h7 : my.staged = true) (h8 : my.time = true) :
    Within my d0 (d.writeWords p inGroup a ws).2 := by
  unfold Dev.writeWords; (try dsimp only); (repeat' split) <;> simp_all (maxDischargeDepth := 60) [Lane.own]

/-! ### OpDevice -/

@[simp] theorem Dev.opIdentify_within {my : May} {d0 : Dev} (d : Dev) (r : Request) (u0 : Bool) (h : Within my d0 d) :
    Within my d0 (d.opIdentify r u0).2 := by
  unfold Dev.opIdentify; (try dsimp only); (repeat' split) <;> simp (maxDischargeDepth := 60) [Lane.own, *]

@[simp] theorem Dev.opPing_within {my : May} {d0 : Dev} (d : Dev) (r : Request) (u0 : Bool) (h : Within my d0 d) :
    Within my d0 (d.opPing r u0).2 := by
  unfold Dev.opPing; (repeat' split) <;> simp (maxDischargeDepth := 60) [Lane.own, *]

@[simp] theorem Dev.opRegRd_within {my : May} {d0 : Dev} (d : Dev) (r : Request) (u0 : Bool) (h : Within my d0 d)
    (h1 : my.port r.port = true) (h2 : ∀ i' k', my.reg i' k' = true) :
    Within my d0 (d.opRegRd r u0).2 := by
  unfold Dev.opRegRd; dsimp only
  (repeat' split) <;> first | exact h | exact Dev.readWords_within _ _ _ _ h (by simp [*]) (by simp [*])

@[simp] theorem Dev.opRegWr_within {my : May} {d0 : Dev} (d : Dev) (r : Request) (g : Bool) (h : Within my d0 d)
    (h1 : my.bbx = true) (h2 : ∀ k', my.emu k' = true) (h3 : ∀ k', my.mls k' = true) (h4 : ∀ k', my.outputs d0 k')
    (h5 : ∀ k', my.port k' = true) (h6 : ∀ i' k', my.reg i' k' = true) (h7 : my.staged = true) (h8 : my.time = true) :
    Within my d0 (d.opRegWr r g).2 := by
  unfold Dev.opRegWr; (try dsimp only); (repeat' split) <;> simp (maxDischargeDepth := 60) [Lane.own, *]

@[simp] theorem Dev.opRegRmw_within {my : May} {d0 : Dev} (d : Dev) (r : Request) (g : Bool) (h : Within my d0 d)
    (h1 : my.bbx = true) (h2 : ∀ k', my.emu k' = true) (h3 : ∀ k', my.mls k' = true) (h4 : ∀ k', my.outputs d0 k')
    (h5 : ∀ k', my.port k' = true) (h6 : ∀ i' k', my.reg i' k' = true) (h7 : my.staged = true) (h8 : my.time = true) :
    Within my d0 (d.opRegRmw r g).2 := by
  unfold Dev.opRegRmw; (try dsimp only); (repeat' split) <;> simp (maxDischargeDepth := 60) [Lane.own, *]

@[simp] theorem Dev.opLaneStage_within {my : May} {d0 : Dev} (d : Dev) (r : Request) (g : Bool) (h : Within my d0 d)
    (h1 : my.bbx = true) (h2 : ∀ k', my.emu k' = true) (h3 : ∀ k', my.mls k' = true) (h4 : ∀ k', my.outputs d0 k')
    (h5 : ∀ k', my.port k' = true) (h6 : ∀ i' k', my.reg i' k' = true) (h7 : my.staged = true) (h8 : my.time = true) :
    Within my d0 (d.opLaneStage r g).2 := by
  unfold Dev.opLaneStage; (try dsimp only); (repeat' split) <;> simp_all (maxDischargeDepth := 60) [Lane.own]

@[simp] theorem Dev.opLaneRead_within {my : May} {d0 : Dev} (d : Dev) (r : Request) (u0 : Bool) (h : Within my d0 d) :
    Within my d0 (d.opLaneRead r u0).2 := by
  unfold Dev.opLaneRead; (try dsimp only); (repeat' split) <;> simp (maxDischargeDepth := 60) [Lane.own, *]

@[simp] theorem Dev.opLanePark_within {my : May} {d0 : Dev} (d : Dev) (r : Request) (g : Bool) (h : Within my d0 d)
    (h1 : my.staged = true) :
    Within my d0 (d.opLanePark r g).2 := by
  unfold Dev.opLanePark; (repeat' split) <;> simp_all (maxDischargeDepth := 60) [Lane.own]

@[simp] theorem Dev.opLaneCommit_within {my : May} {d0 : Dev} (d : Dev) (r : Request) (g : Bool) (h : Within my d0 d)
    (h1 : my.bbx = true) (h2 : my.reg .bbxStat 0 = true) (h3 : my.staged = true) :
    Within my d0 (d.opLaneCommit r g).2 := by
  unfold Dev.opLaneCommit; (try dsimp only); (repeat' split) <;> simp (maxDischargeDepth := 60) [Lane.own, *]

@[simp] theorem Dev.opLaneAdmit_within {my : May} {d0 : Dev} (d : Dev) (r : Request) (u0 : Bool) (h : Within my d0 d) :
    Within my d0 (d.opLaneAdmit r u0).2 := by
  unfold Dev.opLaneAdmit; (try dsimp only); (repeat' split) <;> simp (maxDischargeDepth := 60) [Lane.own, *]

/-! ### OpMap -/

@[simp] theorem Dev.background_within {my : May} {d0 : Dev} (d : Dev) (r : Request) (op : Nat) (a : BgAct)
    (h : Within my d0 d) (h1 : my.port r.port = true) :
    Within my d0 (d.background r op a).2 := by
  unfold Dev.background; (repeat' split) <;> simp (maxDischargeDepth := 60) [Lane.own, *]

@[simp] theorem Dev.opMapLearn_within {my : May} {d0 : Dev} (d : Dev) (r : Request) (g : Bool) (h : Within my d0 d)
    (h1 : my.staged = true) :
    Within my d0 (d.opMapLearn r g).2 := by
  unfold Dev.opMapLearn; (try dsimp only); (repeat' split) <;> simp (maxDischargeDepth := 60) [Lane.own, *]

@[simp] theorem Dev.opMapStatus_within {my : May} {d0 : Dev} (d : Dev) (r : Request) (u0 : Bool) (h : Within my d0 d) :
    Within my d0 (d.opMapStatus r u0).2 := by
  unfold Dev.opMapStatus; (try dsimp only); (repeat' split) <;> simp (maxDischargeDepth := 60) [Lane.own, *]

@[simp] theorem Dev.opMapSave_within {my : May} {d0 : Dev} (d : Dev) (r : Request) (u0 : Bool) (h : Within my d0 d)
    (h1 : my.port r.port = true) :
    Within my d0 (d.opMapSave r u0).2 := by
  unfold Dev.opMapSave; (try dsimp only); (repeat' split) <;> simp (maxDischargeDepth := 60) [Lane.own, *]

@[simp] theorem Dev.stageBlob_within {my : May} {d0 : Dev} (d : Dev) (port n source : Nat) (g : Bool) (blob : List Byte)
    (h : Within my d0 d) (h1 : my.staged = true) :
    Within my d0 (d.stageBlob port n source g blob).2 := by
  unfold Dev.stageBlob; (repeat' split) <;> simp (maxDischargeDepth := 60) [Lane.own, *]

@[simp] theorem Dev.opMapLoad_within {my : May} {d0 : Dev} (d : Dev) (r : Request) (g : Bool) (h : Within my d0 d)
    (h1 : my.port r.port = true) (h2 : my.staged = true) :
    Within my d0 (d.opMapLoad r g).2 := by
  unfold Dev.opMapLoad; (try dsimp only); (repeat' split) <;> simp (maxDischargeDepth := 60) [Lane.own, *]

/-! ### OpPulse -/

@[simp] theorem Dev.opPinAdjust_within {my : May} {d0 : Dev} (d : Dev) (r : Request) (g : Bool) (h : Within my d0 d)
    (h1 : my.staged = true) :
    Within my d0 (d.opPinAdjust r g).2 := by
  unfold Dev.opPinAdjust; (try dsimp only); (repeat' split) <;> simp (maxDischargeDepth := 60) [Lane.own, *]

@[simp] theorem Dev.opMlsRead_within {my : May} {d0 : Dev} (d : Dev) (r : Request) (u0 : Bool) (h : Within my d0 d)
    (h1 : ∀ k', my.mls k' = true) :
    Within my d0 (d.opMlsRead r u0).2 := by
  unfold Dev.opMlsRead; (try dsimp only); (repeat' split) <;> simp (maxDischargeDepth := 60) [Lane.own, *]

@[simp] theorem Dev.opMlsArm_within {my : May} {d0 : Dev} (d : Dev) (r : Request) (g : Bool) (h : Within my d0 d)
    (h1 : my.staged = true) :
    Within my d0 (d.opMlsArm r g).2 := by
  unfold Dev.opMlsArm; (try dsimp only); (repeat' split) <;> simp (maxDischargeDepth := 60) [Lane.own, *]

@[simp] theorem Dev.opEmuAlign_within {my : May} {d0 : Dev} (d : Dev) (r : Request) (g : Bool) (h : Within my d0 d)
    (h1 : my.staged = true) :
    Within my d0 (d.opEmuAlign r g).2 := by
  unfold Dev.opEmuAlign; (try dsimp only); (repeat' split) <;> simp (maxDischargeDepth := 60) [Lane.own, *]

/-! ### OpCoef -/

@[simp] theorem Dev.opCoefStage_within {my : May} {d0 : Dev} (d : Dev) (r : Request) (u0 : Bool) (h : Within my d0 d)
    (h1 : my.hlt = true) (h2 : ∀ k', my.loop k' = true) :
    Within my d0 (d.opCoefStage r u0).2 := by
  unfold Dev.opCoefStage; (try dsimp only); (repeat' split) <;> simp (maxDischargeDepth := 60) [Lane.own, *]

@[simp] theorem Dev.opCoefRead_within {my : May} {d0 : Dev} (d : Dev) (r : Request) (u0 : Bool) (h : Within my d0 d) :
    Within my d0 (d.opCoefRead r u0).2 := by
  unfold Dev.opCoefRead; (try dsimp only); (repeat' split) <;> simp (maxDischargeDepth := 60) [Lane.own, *]

@[simp] theorem Dev.opCoefSwap_within {my : May} {d0 : Dev} (d : Dev) (r : Request) (g : Bool) (h : Within my d0 d)
    (h1 : my.staged = true) :
    Within my d0 (d.opCoefSwap r g).2 := by
  unfold Dev.opCoefSwap; (try dsimp only); (repeat' split) <;> simp_all (maxDischargeDepth := 60) [Lane.own]

@[simp] theorem Dev.opTraceArm_within {my : May} {d0 : Dev} (d : Dev) (r : Request) (g : Bool) (h : Within my d0 d)
    (h1 : my.staged = true) :
    Within my d0 (d.opTraceArm r g).2 := by
  unfold Dev.opTraceArm; (repeat' split) <;> simp (maxDischargeDepth := 60) [Lane.own, *]

@[simp] theorem Dev.opTraceForce_within {my : May} {d0 : Dev} (d : Dev) (r : Request) (u0 : Bool) (h : Within my d0 d)
    (h1 : my.bbx = true) (h2 : my.reg .bbxStat 0 = true) (h3 : my.trc = true) :
    Within my d0 (d.opTraceForce r u0).2 := by
  unfold Dev.opTraceForce; (repeat' split) <;> simp (maxDischargeDepth := 60) [Lane.own, *]

@[simp] theorem Dev.opTraceRead_within {my : May} {d0 : Dev} (d : Dev) (r : Request) (u0 : Bool) (h : Within my d0 d) :
    Within my d0 (d.opTraceRead r u0).2 := by
  unfold Dev.opTraceRead; (try dsimp only); (repeat' split) <;> simp (maxDischargeDepth := 60) [Lane.own, *]

/-! ### OpProfile -/

@[simp] theorem Dev.putPrf_within {my : May} {d0 : Dev} (d : Dev) (port : Nat) (g all : Bool) (ns : List Nat) (c : PrfCmd)
    (k : Option Nat) (h : Within my d0 d) (h1 : my.staged = true) :
    Within my d0 (d.putPrf port g all ns c k).2 := by
  exact Dev.answer_within _ _ _ (Within.forEach h _ _ fun n e he => Dev.stage_within _ _ _ _ he h1)

@[simp] theorem Dev.stagePrf_within {my : May} {d0 : Dev} (d : Dev) (r : Request) (g : Bool) (ns : List Nat) (flags : Nat)
    (c : PrfCmd) (h : Within my d0 d) (h1 : my.staged = true) :
    Within my d0 (d.stagePrf r g ns flags c).2 := by
  unfold Dev.stagePrf
  (repeat' split) <;> first | exact Dev.answer_within _ _ _ h | exact Dev.putPrf_within _ _ _ _ _ _ _ h h1

@[simp] theorem Dev.opMove_within {my : May} {d0 : Dev} (d : Dev) (r : Request) (g : Bool) (h : Within my d0 d)
    (h1 : my.staged = true) :
    Within my d0 (d.opMove r g).2 := by
  unfold Dev.opMove; dsimp only
  (repeat' split) <;> first | exact h | exact Dev.stagePrf_within _ _ _ _ _ _ h h1

@[simp] theorem Dev.opLimits_within {my : May} {d0 : Dev} (d : Dev) (r : Request) (g : Bool) (h : Within my d0 d)
    (h1 : my.staged = true) :
    Within my d0 (d.opLimits r g).2 := by
  unfold Dev.opLimits; dsimp only
  (repeat' split) <;> first | exact h | exact Dev.stagePrf_within _ _ _ _ _ _ h h1 |
    exact Dev.answer_within _ _ _ (Within.foldl h _ _ fun e w he => Dev.stage_within _ _ _ _ he h1)

@[simp] theorem Dev.opGear_within {my : May} {d0 : Dev} (d : Dev) (r : Request) (g : Bool) (h : Within my d0 d)
    (h1 : my.staged = true) :
    Within my d0 (d.opGear r g).2 := by
  unfold Dev.opGear; dsimp only
  (repeat' split) <;> first | exact h | exact Dev.stagePrf_within _ _ _ _ _ _ h h1

@[simp] theorem Dev.opTrim_within {my : May} {d0 : Dev} (d : Dev) (r : Request) (g : Bool) (h : Within my d0 d)
    (h1 : my.staged = true) :
    Within my d0 (d.opTrim r g).2 := by
  unfold Dev.opTrim; dsimp only
  (repeat' split) <;> first | exact h | exact Dev.stagePrf_within _ _ _ _ _ _ h h1

@[simp] theorem Dev.opStop_within {my : May} {d0 : Dev} (d : Dev) (r : Request) (g : Bool) (h : Within my d0 d)
    (h1 : my.staged = true) :
    Within my d0 (d.opStop r g).2 := by
  unfold Dev.opStop; dsimp only
  (repeat' split) <;> first | exact h | exact Dev.stagePrf_within _ _ _ _ _ _ h h1

@[simp] theorem Dev.opWaypoint_within {my : May} {d0 : Dev} (d : Dev) (r : Request) (g : Bool) (h : Within my d0 d)
    (h1 : my.staged = true) :
    Within my d0 (d.opWaypoint r g).2 := by
  unfold Dev.opWaypoint; (try dsimp only); (repeat' split) <;> simp (maxDischargeDepth := 60) [Lane.own, *]

@[simp] theorem Dev.opVmaster_within {my : May} {d0 : Dev} (d : Dev) (r : Request) (g : Bool) (h : Within my d0 d)
    (h1 : my.staged = true) :
    Within my d0 (d.opVmaster r g).2 := by
  unfold Dev.opVmaster; (try dsimp only); (repeat' split) <;> simp (maxDischargeDepth := 60) [Lane.own, *]

end Sys2Proof.Machine
end

