-- ==== Sys2Proof/Laws/WithinDevice.lean ====
section
/-! SUPPORT. What the operations of power, health and the service of requests change: one lemma for each, which asks of
`May` just the places that the operation touches. -/
namespace Sys2Proof.Machine
open Sys2Proof
set_option linter.unusedSimpArgs false
set_option linter.unusedVariables false
set_option maxRecDepth 4000

/-! ### Power -/

@[simp] theorem Dev.onRegion_within {my : May} {d0 : Dev} (d : Dev) (i : Nat) (f : Region → Region) (h : Within my d0 d)
    (h1 : my.hlt = true) :
    Within my d0 (d.onRegion i f) := by
  simp (maxDischargeDepth := 60) [Dev.onRegion, Lane.own, *]

@[simp] theorem Dev.loadProtWord_within {my : May} {d0 : Dev} (d : Dev) (m : List Host.Cell) (i : Nat)
    (h : Within my d0 d) (h1 : ∀ i' k', my.reg i' k' = true) :
    Within my d0 (d.loadProtWord m i) := by
  unfold Dev.loadProtWord; (try dsimp only); (repeat' split) <;> simp (maxDischargeDepth := 60) [Lane.own, *]

@[simp] theorem Dev.loadProt_within {my : May} {d0 : Dev} (d : Dev) (m : List Host.Cell) (h : Within my d0 d)
    (h1 : ∀ i' k', my.reg i' k' = true) :
    Within my d0 (d.loadProt m) := by
  unfold Dev.loadProt; simp_all (maxDischargeDepth := 60) [Lane.own]

@[simp] theorem Dev.chooseImage_within {my : May} {d0 : Dev} (d : Dev) (h : Within my d0 d) (h1 : my.bbx = true)
    (h2 : my.hlt = true) (h3 : my.pwr = true) (h4 : my.reg .bbxStat 0 = true) :
    Within my d0 (d.chooseImage) := by
  simp (maxDischargeDepth := 60) [Dev.chooseImage, Lane.own, *]

@[simp] theorem Dev.writeProt_within {my : May} {d0 : Dev} (d : Dev) (h : Within my d0 d) (h1 : my.pwr = true)
    (h2 : ∀ i' k', my.reg i' k' = true) :
    Within my d0 (d.writeProt) := by
  unfold Dev.writeProt; (try dsimp only); (repeat' split) <;> simp_all (maxDischargeDepth := 60) [Lane.own]

@[simp] theorem Dev.chooseSlot_within {my : May} {d0 : Dev} (d : Dev) (h : Within my d0 d) (h1 : my.bbx = true)
    (h2 : my.pwr = true) (h3 : my.reg .bbxStat 0 = true) :
    Within my d0 (d.chooseSlot).2 := by
  unfold Dev.chooseSlot; (try dsimp only); (repeat' split) <;> simp (maxDischargeDepth := 60) [Lane.own, *]

@[simp] theorem Dev.loadOdo_within {my : May} {d0 : Dev} (d : Dev) (h : Within my d0 d) (h1 : my.bbx = true)
    (h2 : my.hlt = true) (h3 : my.reg .bbxStat 0 = true) (h4 : my.reg .hltStat 0 = true) :
    Within my d0 (d.loadOdo) := by
  unfold Dev.loadOdo; (repeat' split) <;> simp (maxDischargeDepth := 60) [Lane.own, *]

@[simp] theorem Dev.bootRom_within {my : May} {d0 : Dev} (d : Dev) (h : Within my d0 d) (h1 : my.bbx = true)
    (h2 : my.hlt = true) (h3 : my.pwr = true) (h4 : ∀ i' k', my.reg i' k' = true) :
    Within my d0 (d.bootRom) := by
  simp (maxDischargeDepth := 60) [Dev.bootRom, Lane.own, *]

@[simp] theorem Dev.boot_within {my : May} {d0 : Dev} (d : Dev) (h : Within my d0 d) (h1 : my.bbx = true)
    (h2 : my.hlt = true) (h3 : my.pwr = true) (h4 : ∀ i' k', my.reg i' k' = true) :
    Within my d0 (d.boot) := by
  simp (maxDischargeDepth := 60) [Dev.boot, Lane.own, *]

@[simp] theorem Dev.loadParams_within {my : May} {d0 : Dev} (d : Dev) (h : Within my d0 d) (h1 : my.bbx = true)
    (h2 : ∀ k', my.conn k' = true) (h3 : my.crit = true) (h4 : my.hlt = true) (h5 : ∀ k', my.outputs d0 k')
    (h6 : my.reg .bbxStat 0 = true) (h7 : my.saf = true) (h8 : ∀ k', my.safLane k' = true) :
    Within my d0 (d.loadParams) := by
  unfold Dev.loadParams; dsimp only
  refine Within.forEach ?_ _ _ fun c e he => ?_
  · split
    · apply Dev.applyParams_within <;> simp (maxDischargeDepth := 60) [*]
    · exact h
  · simp (maxDischargeDepth := 60) [*]

@[simp] theorem Dev.portModes_within {my : May} {d0 : Dev} (d : Dev) (h : Within my d0 d)
    (h1 : ∀ k', my.reg .hpCtrl k' = true) :
    Within my d0 (d.portModes) := by
  unfold Dev.portModes; (try dsimp only); simp_all (maxDischargeDepth := 60) [Lane.own]

@[simp] theorem Dev.bootComplete_within {my : May} {d0 : Dev} (d : Dev) (x : BootSeen) (h : Within my d0 d)
    (h1 : my.bbx = true) (h2 : ∀ k', my.conn k' = true) (h3 : my.crit = true) (h4 : my.hlt = true)
    (h5 : ∀ k', my.outputs d0 k') (h6 : my.pwr = true) (h7 : my.reg .bbxStat 0 = true)
    (h8 : ∀ k', my.reg .hpCtrl k' = true) (h9 : my.saf = true) (h10 : ∀ k', my.safLane k' = true) :
    Within my d0 (d.bootComplete x) := by
  unfold Dev.bootComplete; dsimp only
  split
  · exact h
  · refine Within.when (Within.when (Dev.logEvent_within _ _ _ _ _ ?_ ?_ ?_) _ _ fun e he => ?_) _ _ fun e he => ?_
    · apply Dev.loadParams_within <;> simp (maxDischargeDepth := 60) [*]
    all_goals simp (maxDischargeDepth := 60) [*]

@[simp] theorem Dev.settleLane_within {my : May} {d0 : Dev} (d : Dev) (n : Nat) (h : Within my d0 d)
    (h1 : my.acq n = true) (h2 : my.bbx = true) (h3 : my.lane n = true) (h4 : my.loop n = true) (h5 : my.map n = true)
    (h6 : my.outputs d0 n) (h7 : my.prf n = true) (h8 : my.reg .bbxStat 0 = true) (h9 : my.reg .trkCnt n = true)
    (h10 : my.trk n = true) :
    Within my d0 (d.settleLane n) := by
  simp (maxDischargeDepth := 60) [Dev.settleLane, Lane.own, *]

@[simp] theorem Dev.settleFault_within {my : May} {d0 : Dev} (d : Dev) (n : Nat) (h : Within my d0 d)
    (h1 : my.acq n = true) (h2 : my.bbx = true) (h3 : my.lane n = true) (h4 : my.loop n = true) (h5 : my.map n = true)
    (h6 : my.outputs d0 n) (h7 : my.prf n = true) (h8 : my.reg .bbxStat 0 = true) (h9 : my.reg .trkCnt n = true)
    (h10 : my.trk n = true) :
    Within my d0 (d.settleFault n) := by
  simp (maxDischargeDepth := 60) [Dev.settleFault, Lane.own, *]

@[simp] theorem Dev.enterParked_within {my : May} {d0 : Dev} (d : Dev) (cause : Nat) (h : Within my d0 d)
    (h1 : ∀ k', my.acq k' = true) (h2 : my.bbx = true) (h3 : my.crit = true) (h4 : ∀ k', my.emu k' = true)
    (h5 : ∀ k', my.group k' = true) (h6 : my.hlt = true) (h7 : ∀ k', my.lane k' = true) (h8 : ∀ k', my.loop k' = true)
    (h9 : ∀ k', my.map k' = true) (h10 : ∀ k', my.outputs d0 k') (h11 : ∀ k', my.pfe k' = true)
    (h12 : ∀ k', my.prf k' = true) (h13 : my.pwr = true) (h14 : my.reg .bbxStat 0 = true)
    (h15 : ∀ k', my.reg .emuStat k' = true) (h16 : ∀ k', my.reg .excCtrl k' = true)
    (h17 : ∀ k', my.reg .pfeStat k' = true) (h18 : ∀ k', my.reg .trkCnt k' = true) (h19 : my.saf = true)
    (h20 : ∀ k', my.safLane k' = true) (h21 : my.time = true) (h22 : ∀ k', my.trk k' = true) :
    Within my d0 (d.enterParked cause) := by
  unfold Dev.enterParked; (try dsimp only); (repeat' split) <;> simp_all (maxDischargeDepth := 60) [Lane.own]

@[simp] theorem Dev.enterPowered_within {my : May} {d0 : Dev} (d : Dev) (eco : Bool) (h : Within my d0 d)
    (h1 : ∀ k', my.acq k' = true) (h2 : my.bbx = true) (h3 : my.crit = true) (h4 : ∀ k', my.emu k' = true)
    (h5 : ∀ k', my.map k' = true) (h6 : ∀ k', my.outputs d0 k') (h7 : ∀ k', my.pfe k' = true) (h8 : my.pwr = true)
    (h9 : my.reg .bbxStat 0 = true) (h10 : ∀ k', my.reg .emuStat k' = true) (h11 : ∀ k', my.reg .trkCnt k' = true)
    (h12 : my.saf = true) (h13 : ∀ k', my.trk k' = true) :
    Within my d0 (d.enterPowered eco) := by
  unfold Dev.enterPowered; (try dsimp only); (repeat' split) <;> simp_all (maxDischargeDepth := 60) [Lane.own]

@[simp] theorem Dev.analogSettled_within {my : May} {d0 : Dev} (d : Dev) (h : Within my d0 d) (h1 : my.pwr = true) :
    Within my d0 (d.analogSettled) := by
  simp (maxDischargeDepth := 60) [Dev.analogSettled, Lane.own, *]

@[simp] theorem Dev.beginDormant_within {my : May} {d0 : Dev} (d : Dev) (h : Within my d0 d) (h1 : my.bbx = true)
    (h2 : my.hlt = true) (h3 : my.pwr = true) :
    Within my d0 (d.beginDormant) := by
  simp (maxDischargeDepth := 60) [Dev.beginDormant, Lane.own, *]

@[simp] theorem Dev.askParked_within {my : May} {d0 : Dev} (d : Dev) (cause : Nat) (h : Within my d0 d)
    (h1 : my.pwr = true) :
    Within my d0 (d.askParked cause) := by
  simp (maxDischargeDepth := 60) [Dev.askParked, Lane.own, *]

@[simp] theorem Dev.presentRise_within {my : May} {d0 : Dev} (d : Dev) (h : Within my d0 d) (h1 : my.bbx = true)
    (h2 : my.hlt = true) (h3 : my.pwr = true) (h4 : my.reg .bbxStat 0 = true) :
    Within my d0 (d.presentRise) := by
  simp (maxDischargeDepth := 60) [Dev.presentRise, Lane.own, *]

@[simp] theorem Dev.pfailFall_within {my : May} {d0 : Dev} (d : Dev) (h : Within my d0 d) (h1 : my.bbx = true)
    (h2 : my.hlt = true) (h3 : my.pwr = true) (h4 : my.reg .bbxStat 0 = true) :
    Within my d0 (d.pfailFall) := by
  simp (maxDischargeDepth := 60) [Dev.pfailFall, Lane.own, *]

@[simp] theorem Dev.pfailRise_within {my : May} {d0 : Dev} (d : Dev) (h : Within my d0 d) (h1 : my.bbx = true)
    (h2 : my.pwr = true) (h3 : my.reg .bbxStat 0 = true) :
    Within my d0 (d.pfailRise) := by
  simp (maxDischargeDepth := 60) [Dev.pfailRise, Lane.own, *]

@[simp] theorem Dev.setDebug_within {my : May} {d0 : Dev} (d : Dev) (st : DebugState) (kind idx key : Nat)
    (h : Within my d0 d) (h1 : my.bbx = true) (h2 : my.pwr = true) (h3 : my.reg .bbxStat 0 = true) :
    Within my d0 (d.setDebug st kind idx key) := by
  simp (maxDischargeDepth := 60) [Dev.setDebug, Lane.own, *]

@[simp] theorem Dev.refuseDebug_within {my : May} {d0 : Dev} (d : Dev) (kind idx cause : Nat) (h : Within my d0 d)
    (h1 : my.bbx = true) (h2 : my.pwr = true) (h3 : my.reg .bbxStat 0 = true) (h4 : my.reg .dbgAuthFail 0 = true) :
    Within my d0 (d.refuseDebug kind idx cause) := by
  simp (maxDischargeDepth := 60) [Dev.refuseDebug, Lane.own, *]

@[simp] theorem Dev.refuseEntry_within {my : May} {d0 : Dev} (d : Dev) (cause : Nat) (h : Within my d0 d)
    (h1 : my.bbx = true) (h2 : my.reg .bbxStat 0 = true) :
    Within my d0 (d.refuseEntry cause) := by
  simp (maxDischargeDepth := 60) [Dev.refuseEntry, Lane.own, *]

@[simp] theorem Dev.drawNonce_within {my : May} {d0 : Dev} (d : Dev) (target : Nat) (h : Within my d0 d)
    (h1 : my.pwr = true) :
    Within my d0 (d.drawNonce target).2 := by
  simp (maxDischargeDepth := 60) [Dev.drawNonce, Lane.own, *]

@[simp] theorem Dev.dbgRespond_within {my : May} {d0 : Dev} (d : Dev) (kind idx key : Nat) (sig : List Byte)
    (h : Within my d0 d) (h1 : my.bbx = true) (h2 : my.pwr = true) (h3 : my.reg .bbxStat 0 = true)
    (h4 : my.reg .dbgAuthFail 0 = true) :
    Within my d0 (d.dbgRespond kind idx key sig).2 := by
  unfold Dev.dbgRespond; (repeat' split) <;> simp (maxDischargeDepth := 60) [Lane.own, *]

@[simp] theorem Dev.debugPortRequest_within {my : May} {d0 : Dev} (d : Dev) (target : Nat)
    (response : Option (Nat × List Byte)) (h : Within my d0 d) (h1 : my.bbx = true) (h2 : my.pwr = true)
    (h3 : my.reg .bbxStat 0 = true) (h4 : my.reg .dbgAuthFail 0 = true) :
    Within my d0 (d.debugPortRequest target response) := by
  unfold Dev.debugPortRequest; (repeat' split) <;> simp (maxDischargeDepth := 60) [Lane.own, *]

@[simp] theorem Dev.debugPortRelease_within {my : May} {d0 : Dev} (d : Dev) (h : Within my d0 d) (h1 : my.bbx = true)
    (h2 : my.pwr = true) (h3 : my.reg .bbxStat 0 = true) :
    Within my d0 (d.debugPortRelease) := by
  simp (maxDischargeDepth := 60) [Dev.debugPortRelease, Lane.own, *]

@[simp] theorem Dev.extestLoad_within {my : May} {d0 : Dev} (d : Dev) (h : Within my d0 d) (h1 : my.bbx = true)
    (h2 : my.pwr = true) (h3 : my.reg .bbxStat 0 = true) (h4 : my.reg .dbgStat 0 = true) :
    Within my d0 (d.extestLoad) := by
  simp (maxDischargeDepth := 60) [Dev.extestLoad, Lane.own, *]

@[simp] theorem Dev.extestLeave_within {my : May} {d0 : Dev} (d : Dev) (h : Within my d0 d) (h1 : my.pwr = true) :
    Within my d0 (d.extestLeave) := by
  simp (maxDischargeDepth := 60) [Dev.extestLeave, Lane.own, *]

@[simp] theorem Dev.nonceExpiry_within {my : May} {d0 : Dev} (d : Dev) (h : Within my d0 d) (h1 : my.pwr = true) :
    Within my d0 (d.nonceExpiry) := by
  unfold Dev.nonceExpiry; (repeat' split) <;> simp (maxDischargeDepth := 60) [Lane.own, *]

@[simp] theorem Dev.coreHalt_within {my : May} {d0 : Dev} (d : Dev) (h : Within my d0 d) (h1 : my.pwr = true) :
    Within my d0 (d.coreHalt) := by
  simp (maxDischargeDepth := 60) [Dev.coreHalt, Lane.own, *]

@[simp] theorem Dev.coreResume_within {my : May} {d0 : Dev} (d : Dev) (h : Within my d0 d) (h1 : my.bbx = true)
    (h2 : my.hlt = true) (h3 : my.pwr = true) :
    Within my d0 (d.coreResume) := by
  simp (maxDischargeDepth := 60) [Dev.coreResume, Lane.own, *]

/-! ### Health -/

@[simp] theorem Dev.releaseGroup_within {my : May} {d0 : Dev} (d : Dev) (p : Nat) (h : Within my d0 d)
    (h1 : my.port p = true) (h2 : my.staged = true) :
    Within my d0 (d.releaseGroup p) := by
  unfold Dev.releaseGroup; (repeat' split) <;> simp (maxDischargeDepth := 60) [Lane.own, *]

@[simp] theorem Dev.abandonGroup_within {my : May} {d0 : Dev} (d : Dev) (p cause : Nat) (h : Within my d0 d)
    (h1 : my.bbx = true) (h2 : my.port p = true) (h3 : my.reg .bbxStat 0 = true) (h4 : my.staged = true) :
    Within my d0 (d.abandonGroup p cause) := by
  unfold Dev.abandonGroup; (repeat' split) <;> simp (maxDischargeDepth := 60) [Lane.own, *]

@[simp] theorem Dev.beginPause_within {my : May} {d0 : Dev} (d : Dev) (x : Pause) (h : Within my d0 d)
    (h1 : my.bbx = true) (h2 : my.hlt = true) (h3 : ∀ k', my.port k' = true) (h4 : my.reg .bbxStat 0 = true)
    (h5 : my.staged = true) :
    Within my d0 (d.beginPause x) := by
  unfold Dev.beginPause; (try dsimp only); simp_all (maxDischargeDepth := 60) [Lane.own]

@[simp] theorem Dev.rollbackMark_within {my : May} {d0 : Dev} (d : Dev) (cause bad : Nat) (h : Within my d0 d)
    (h1 : my.bbx = true) (h2 : my.hlt = true) (h3 : my.reg .bbxStat 0 = true) (h4 : my.reg .fwCnt 0 = true)
    (h5 : my.reg .hltStat 0 = true) :
    Within my d0 (d.rollbackMark cause bad) := by
  simp (maxDischargeDepth := 60) [Dev.rollbackMark, Lane.own, *]

@[simp] theorem Dev.probationFails_within {my : May} {d0 : Dev} (d : Dev) (cause : Nat) (h : Within my d0 d)
    (h1 : my.bbx = true) (h2 : my.hlt = true) (h3 : ∀ k', my.port k' = true) (h4 : my.reg .bbxStat 0 = true)
    (h5 : my.reg .fwCnt 0 = true) (h6 : my.reg .hltStat 0 = true) (h7 : my.staged = true) :
    Within my d0 (d.probationFails cause) := by
  simp (maxDischargeDepth := 60) [Dev.probationFails, Lane.own, *]

@[simp] theorem Dev.mgmtRestart_within {my : May} {d0 : Dev} (d : Dev) (cause : Nat) (h : Within my d0 d)
    (h1 : my.bbx = true) (h2 : my.hlt = true) (h3 : ∀ k', my.port k' = true) (h4 : my.reg .bbxStat 0 = true)
    (h5 : my.reg .fwCnt 0 = true) (h6 : my.staged = true) :
    Within my d0 (d.mgmtRestart cause) := by
  simp (maxDischargeDepth := 60) [Dev.mgmtRestart, Lane.own, *]

@[simp] theorem Dev.mgmtFails_within {my : May} {d0 : Dev} (d : Dev) (cause : Nat) (h : Within my d0 d)
    (h1 : my.bbx = true) (h2 : my.hlt = true) (h3 : ∀ k', my.port k' = true) (h4 : my.reg .bbxStat 0 = true)
    (h5 : my.reg .fwCnt 0 = true) (h6 : my.reg .hltStat 0 = true) (h7 : my.staged = true) :
    Within my d0 (d.mgmtFails cause) := by
  simp (maxDischargeDepth := 60) [Dev.mgmtFails, Lane.own, *]

@[simp] theorem Dev.switchCommit_within {my : May} {d0 : Dev} (d : Dev) (port slot : Nat) (h : Within my d0 d)
    (h1 : my.bbx = true) (h2 : my.hlt = true) (h3 : ∀ k', my.port k' = true) (h4 : my.reg .bbxStat 0 = true)
    (h5 : my.staged = true) :
    Within my d0 (d.switchCommit port slot) := by
  simp (maxDischargeDepth := 60) [Dev.switchCommit, Lane.own, *]

@[simp] theorem Dev.fwReady_within {my : May} {d0 : Dev} (d : Dev) (h : Within my d0 d) (h1 : my.bbx = true)
    (h2 : my.hlt = true) (h3 : my.reg .bbxStat 0 = true) :
    Within my d0 (d.fwReady) := by
  unfold Dev.fwReady; (try dsimp only); (repeat' split) <;> simp (maxDischargeDepth := 60) [Lane.own, *]

@[simp] theorem Dev.fwReadyTimeout_within {my : May} {d0 : Dev} (d : Dev) (h : Within my d0 d) (h1 : my.bbx = true)
    (h2 : my.hlt = true) (h3 : my.reg .bbxStat 0 = true) (h4 : my.reg .fwCnt 0 = true) (h5 : my.reg .hltStat 0 = true) :
    Within my d0 (d.fwReadyTimeout) := by
  unfold Dev.fwReadyTimeout; (repeat' split) <;> simp (maxDischargeDepth := 60) [Lane.own, *]

@[simp] theorem Dev.fwReloaded_within {my : May} {d0 : Dev} (d : Dev) (h : Within my d0 d) (h1 : my.bbx = true)
    (h2 : my.hlt = true) (h3 : my.reg .bbxStat 0 = true) :
    Within my d0 (d.fwReloaded) := by
  unfold Dev.fwReloaded; (try dsimp only); (repeat' split) <;> simp (maxDischargeDepth := 60) [Lane.own, *]

@[simp] theorem Dev.writeRecord_within {my : May} {d0 : Dev} (d : Dev) (ok : Bool) (h : Within my d0 d)
    (h1 : my.hlt = true) :
    Within my d0 (d.writeRecord ok) := by
  simp (maxDischargeDepth := 60) [Dev.writeRecord, Lane.own, *]

@[simp] theorem Dev.probationPass_within {my : May} {d0 : Dev} (d : Dev) (ok : Bool) (h : Within my d0 d)
    (h1 : my.bbx = true) (h2 : my.hlt = true) (h3 : my.reg .bbxStat 0 = true) :
    Within my d0 (d.probationPass ok) := by
  unfold Dev.probationPass; (repeat' split) <;> simp (maxDischargeDepth := 60) [Lane.own, *]

@[simp] theorem Dev.recordRetry_within {my : May} {d0 : Dev} (d : Dev) (ok : Bool) (h : Within my d0 d)
    (h1 : my.hlt = true) :
    Within my d0 (d.recordRetry ok) := by
  simp (maxDischargeDepth := 60) [Dev.recordRetry, Lane.own, *]

@[simp] theorem Dev.eccCorrect_within {my : May} {d0 : Dev} (d : Dev) (m owner : Nat) (h : Within my d0 d)
    (h1 : my.hlt = true) (h2 : my.reg .hltCorr m = true) :
    Within my d0 (d.eccCorrect m owner) := by
  simp (maxDischargeDepth := 60) [Dev.eccCorrect, Lane.own, *]

@[simp] theorem Dev.badLaneWord_within {my : May} {d0 : Dev} (d : Dev) (lane off : Nat) (h : Within my d0 d)
    (h1 : my.acq lane = true) (h2 : my.bbx = true) (h3 : my.hlt = true) (h4 : my.lane lane = true)
    (h5 : my.loop lane = true) (h6 : my.map lane = true) (h7 : my.outputs d0 lane) (h8 : my.prf lane = true)
    (h9 : my.reg .bbxStat 0 = true) (h10 : my.reg .trkCnt lane = true) (h11 : my.trk lane = true) :
    Within my d0 (d.badLaneWord lane off) := by
  simp (maxDischargeDepth := 60) [Dev.badLaneWord, Lane.own, *]

@[simp] theorem Dev.badTables_within {my : May} {d0 : Dev} (d : Dev) (c : Nat) (addr : Word) (h : Within my d0 d)
    (h1 : ∀ k', my.acq k' = true) (h2 : my.bbx = true) (h3 : my.hlt = true) (h4 : ∀ k', my.lane k' = true)
    (h5 : ∀ k', my.loop k' = true) (h6 : ∀ k', my.map k' = true) (h7 : ∀ k', my.outputs d0 k')
    (h8 : ∀ k', my.prf k' = true) (h9 : my.reg .bbxStat 0 = true) (h10 : ∀ k', my.reg .trkCnt k' = true)
    (h11 : ∀ k', my.trk k' = true) :
    Within my d0 (d.badTables c addr) := by
  unfold Dev.badTables; (try dsimp only); simp_all (maxDischargeDepth := 60) [Lane.own]

@[simp] theorem Dev.badMram_within {my : May} {d0 : Dev} (d : Dev) (r : Nat) (addr : Word) (h : Within my d0 d)
    (h1 : my.bbx = true) (h2 : my.hlt = true) (h3 : ∀ k', my.map k' = true) (h4 : my.pwr = true)
    (h5 : my.reg .bbxStat 0 = true) (h6 : my.saf = true) :
    Within my d0 (d.badMram r addr) := by
  unfold Dev.badMram; (try dsimp only); (repeat' split) <;> simp (maxDischargeDepth := 60) [Lane.own, *]

@[simp] theorem Dev.badBuffer_within {my : May} {d0 : Dev} (d : Dev) (p : Nat) (h : Within my d0 d)
    (h1 : my.port p = true) (h2 : my.reg .hpInBad p = true) (h3 : my.reg .hpRxCrc p = true) :
    Within my d0 (d.badBuffer p) := by
  simp (maxDischargeDepth := 60) [Dev.badBuffer, Lane.own, *]

@[simp] theorem Dev.eccBad_within {my : May} {d0 : Dev} (d : Dev) (m : Nat) (addr : Word) (owner : Nat)
    (h : Within my d0 d) (h1 : ∀ k', my.acq k' = true) (h2 : my.bbx = true) (h3 : my.hlt = true)
    (h4 : ∀ k', my.lane k' = true) (h5 : ∀ k', my.loop k' = true) (h6 : ∀ k', my.map k' = true)
    (h7 : ∀ k', my.outputs d0 k') (h8 : ∀ k', my.port k' = true) (h9 : ∀ k', my.prf k' = true) (h10 : my.pwr = true)
    (h11 : my.reg .bbxStat 0 = true) (h12 : my.reg .fwCnt 0 = true) (h13 : my.reg .hltLastAddr m = true)
    (h14 : my.reg .hltStat 0 = true) (h15 : my.reg .hltUncorr m = true) (h16 : my.reg .hpInBad owner = true)
    (h17 : my.reg .hpRxCrc owner = true) (h18 : ∀ k', my.reg .trkCnt k' = true) (h19 : my.saf = true)
    (h20 : my.staged = true) (h21 : my.trc = true) (h22 : ∀ k', my.trk k' = true) :
    Within my d0 (d.eccBad m addr owner) := by
  unfold Dev.eccBad; (try dsimp only); (repeat' split) <;> simp (maxDischargeDepth := 60) [Lane.own, *]

@[simp] theorem Dev.scrubStep_within {my : May} {d0 : Dev} (d : Dev) (m : Nat) (addr : Word) (errs owner late : Nat)
    (h : Within my d0 d) (h1 : ∀ k', my.acq k' = true) (h2 : my.bbx = true) (h3 : my.hlt = true)
    (h4 : ∀ k', my.lane k' = true) (h5 : ∀ k', my.loop k' = true) (h6 : ∀ k', my.map k' = true)
    (h7 : ∀ k', my.outputs d0 k') (h8 : ∀ k', my.port k' = true) (h9 : ∀ k', my.prf k' = true) (h10 : my.pwr = true)
    (h11 : my.reg .bbxStat 0 = true) (h12 : my.reg .fwCnt 0 = true) (h13 : my.reg .hltCorr m = true)
    (h14 : my.reg .hltLastAddr m = true) (h15 : my.reg .hltStat 0 = true) (h16 : my.reg .hltUncorr m = true)
    (h17 : my.reg .hpInBad owner = true) (h18 : my.reg .hpRxCrc owner = true) (h19 : ∀ k', my.reg .trkCnt k' = true)
    (h20 : my.saf = true) (h21 : my.staged = true) (h22 : my.trc = true) (h23 : ∀ k', my.trk k' = true) :
    Within my d0 (d.scrubStep m addr errs owner late) := by
  simp (maxDischargeDepth := 60) [Dev.scrubStep, Lane.own, *]

@[simp] theorem Dev.eccHourly_within {my : May} {d0 : Dev} (d : Dev) (h : Within my d0 d) (h1 : my.bbx = true)
    (h2 : my.hlt = true) (h3 : my.reg .bbxStat 0 = true) (h4 : my.reg .hltStat 0 = true) :
    Within my d0 (d.eccHourly) := by
  unfold Dev.eccHourly; (try dsimp only); simp_all (maxDischargeDepth := 60) [Lane.own]

@[simp] theorem Dev.rebuildDone_within {my : May} {d0 : Dev} (d : Dev) (c : Nat) (h : Within my d0 d) (h1 : my.hlt = true) :
    Within my d0 (d.rebuildDone c) := by
  simp (maxDischargeDepth := 60) [Dev.rebuildDone, Lane.own, *]

@[simp] theorem Dev.dieTemp_within {my : May} {d0 : Dev} (d : Dev) (v : Word) (h : Within my d0 d) (h1 : my.hlt = true) :
    Within my d0 (d.dieTemp v) := by
  simp (maxDischargeDepth := 60) [Dev.dieTemp, Lane.own, *]

@[simp] theorem Dev.odometerUpdate_within {my : May} {d0 : Dev} (d : Dev) (roPpm : Int) (h : Within my d0 d)
    (h1 : my.hlt = true) :
    Within my d0 (d.odometerUpdate roPpm) := by
  simp (maxDischargeDepth := 60) [Dev.odometerUpdate, Lane.own, *]

@[simp] theorem Dev.eolPredict_within {my : May} {d0 : Dev} (d : Dev) (h : Within my d0 d) (h1 : my.bbx = true)
    (h2 : my.hlt = true) (h3 : my.reg .bbxStat 0 = true) (h4 : ∀ k', my.reg .eolFrac k' = true)
    (h5 : my.reg .eolStat 0 = true) :
    Within my d0 (d.eolPredict) := by
  unfold Dev.eolPredict; (try dsimp only); (repeat' split) <;> simp_all (maxDischargeDepth := 60) [Lane.own]

@[simp] theorem Dev.commitEnd_within {my : May} {d0 : Dev} (d : Dev) (ok : Bool) (h : Within my d0 d) (h1 : my.bbx = true)
    (h2 : my.hlt = true) (h3 : ∀ k', my.port k' = true) (h4 : my.reg .bbxCommits 0 = true) (h5 : my.reg .bbxStat 0 = true)
    (h6 : my.reg .fwCnt 0 = true) (h7 : my.reg .hltStat 0 = true) (h8 : my.staged = true) :
    Within my d0 (d.commitEnd ok) := by
  unfold Dev.commitEnd; (try dsimp only); (repeat' split) <;> simp (maxDischargeDepth := 60) [Lane.own, *]

@[simp] theorem Dev.fwLoadEnd_within {my : May} {d0 : Dev} (d : Dev) (target off : Nat) (data : List Byte) (ok : Bool)
    (h : Within my d0 d) (h1 : my.hlt = true) :
    Within my d0 (d.fwLoadEnd target off data ok).2 := by
  unfold Dev.fwLoadEnd; (try dsimp only); (repeat' split) <;> simp (maxDischargeDepth := 60) [Lane.own, *]

@[simp] theorem Dev.fwVerifyEnd_within {my : May} {d0 : Dev} (d : Dev) (port target : Nat) (h : Within my d0 d)
    (h1 : my.bbx = true) (h2 : my.hlt = true) (h3 : my.pwr = true) (h4 : my.reg .bbxStat 0 = true) :
    Within my d0 (d.fwVerifyEnd port target).2 := by
  simp (maxDischargeDepth := 60) [Dev.fwVerifyEnd, Lane.own, *]

/-! ### OpHealth -/

@[simp] theorem Dev.opChConfig_within {my : May} {d0 : Dev} (d : Dev) (r : Request) (g : Bool) (h : Within my d0 d)
    (h1 : my.bbx = true) (h2 : ∀ k', my.emu k' = true) (h3 : ∀ k', my.mls k' = true) (h4 : ∀ k', my.outputs d0 k')
    (h5 : ∀ k', my.port k' = true) (h6 : ∀ i' k', my.reg i' k' = true) (h7 : my.staged = true) (h8 : my.time = true) :
    Within my d0 (d.opChConfig r g).2 := by
  unfold Dev.opChConfig; (try dsimp only); (repeat' split) <;> simp_all (maxDischargeDepth := 60) [Lane.own]

@[simp] theorem Dev.opChRead_within {my : May} {d0 : Dev} (d : Dev) (r : Request) (u0 : Bool) (h : Within my d0 d) :
    Within my d0 (d.opChRead r u0).2 := by
  unfold Dev.opChRead; (try dsimp only); (repeat' split) <;> simp (maxDischargeDepth := 60) [Lane.own, *]

@[simp] theorem Dev.opBbxRead_within {my : May} {d0 : Dev} (d : Dev) (r : Request) (u0 : Bool) (h : Within my d0 d) :
    Within my d0 (d.opBbxRead r u0).2 := by
  unfold Dev.opBbxRead; (try dsimp only); (repeat' split) <;> simp (maxDischargeDepth := 60) [Lane.own, *]

@[simp] theorem Dev.opBbxCommit_within {my : May} {d0 : Dev} (d : Dev) (r : Request) (u0 : Bool) (h : Within my d0 d)
    (h1 : my.bbx = true) (h2 : my.hlt = true) (h3 : my.port r.port = true) :
    Within my d0 (d.opBbxCommit r u0).2 := by
  unfold Dev.opBbxCommit; (repeat' split) <;> simp (maxDischargeDepth := 60) [Lane.own, *]

@[simp] theorem Dev.opFwLoad_within {my : May} {d0 : Dev} (d : Dev) (r : Request) (u0 : Bool) (h : Within my d0 d)
    (h1 : my.hlt = true) (h2 : my.port r.port = true) :
    Within my d0 (d.opFwLoad r u0).2 := by
  unfold Dev.opFwLoad; (try dsimp only); (repeat' split) <;> simp (maxDischargeDepth := 60) [Lane.own, *]

@[simp] theorem Dev.opFwVerify_within {my : May} {d0 : Dev} (d : Dev) (r : Request) (u0 : Bool) (h : Within my d0 d)
    (h1 : my.port r.port = true) :
    Within my d0 (d.opFwVerify r u0).2 := by
  unfold Dev.opFwVerify; (try dsimp only); (repeat' split) <;> simp (maxDischargeDepth := 60) [Lane.own, *]

@[simp] theorem Dev.opFwSwitch_within {my : May} {d0 : Dev} (d : Dev) (r : Request) (g : Bool) (h : Within my d0 d)
    (h1 : my.staged = true) :
    Within my d0 (d.opFwSwitch r g).2 := by
  unfold Dev.opFwSwitch; (try dsimp only); (repeat' split) <;> simp (maxDischargeDepth := 60) [Lane.own, *]

@[simp] theorem Dev.opPowerState_within {my : May} {d0 : Dev} (d : Dev) (r : Request) (g : Bool) (h : Within my d0 d)
    (h1 : my.pwr = true) (h2 : my.staged = true) :
    Within my d0 (d.opPowerState r g).2 := by
  unfold Dev.opPowerState; (try dsimp only); (repeat' split) <;> simp_all (maxDischargeDepth := 60) [Lane.own]

@[simp] theorem Dev.opDetach_within {my : May} {d0 : Dev} (d : Dev) (r : Request) (u0 : Bool) (h : Within my d0 d)
    (h1 : my.bbx = true) (h2 : my.hlt = true) (h3 : my.port r.port = true) (h4 : my.pwr = true) :
    Within my d0 (d.opDetach r u0).2 := by
  unfold Dev.opDetach; (repeat' split) <;> simp (maxDischargeDepth := 60) [Lane.own, *]

@[simp] theorem Dev.opProtStatus_within {my : May} {d0 : Dev} (d : Dev) (r : Request) (u0 : Bool) (h : Within my d0 d) :
    Within my d0 (d.opProtStatus r u0).2 := by
  unfold Dev.opProtStatus; (try dsimp only); (repeat' split) <;> simp (maxDischargeDepth := 60) [Lane.own, *]

@[simp] theorem Dev.opSeal_within {my : May} {d0 : Dev} (d : Dev) (r : Request) (u0 : Bool) (h : Within my d0 d)
    (h1 : my.bbx = true) (h2 : my.pwr = true) (h3 : my.reg .bbxStat 0 = true) :
    Within my d0 (d.opSeal r u0).2 := by
  unfold Dev.opSeal; (try dsimp only); (repeat' split) <;> simp (maxDischargeDepth := 60) [Lane.own, *]

@[simp] theorem Dev.opDbgChallenge_within {my : May} {d0 : Dev} (d : Dev) (r : Request) (u0 : Bool) (h : Within my d0 d)
    (h1 : my.pwr = true) :
    Within my d0 (d.opDbgChallenge r u0).2 := by
  unfold Dev.opDbgChallenge; (try dsimp only); (repeat' split) <;> simp (maxDischargeDepth := 60) [Lane.own, *]

@[simp] theorem Dev.opDbgResponse_within {my : May} {d0 : Dev} (d : Dev) (r : Request) (u0 : Bool) (h : Within my d0 d)
    (h1 : my.bbx = true) (h2 : my.pwr = true) (h3 : my.reg .bbxStat 0 = true) (h4 : my.reg .dbgAuthFail 0 = true) :
    Within my d0 (d.opDbgResponse r u0).2 := by
  unfold Dev.opDbgResponse; (try dsimp only); (repeat' split) <;> simp (maxDischargeDepth := 60) [Lane.own, *]

@[simp] theorem Dev.opDbgClose_within {my : May} {d0 : Dev} (d : Dev) (r : Request) (u0 : Bool) (h : Within my d0 d)
    (h1 : my.bbx = true) (h2 : my.pwr = true) (h3 : my.reg .bbxStat 0 = true) :
    Within my d0 (d.opDbgClose r u0).2 := by
  unfold Dev.opDbgClose; (repeat' split) <;> simp (maxDischargeDepth := 60) [Lane.own, *]

@[simp] theorem Dev.opDbgOpenFree_within {my : May} {d0 : Dev} (d : Dev) (r : Request) (u0 : Bool) (h : Within my d0 d)
    (h1 : my.bbx = true) (h2 : my.pwr = true) (h3 : my.reg .bbxStat 0 = true) :
    Within my d0 (d.opDbgOpenFree r u0).2 := by
  unfold Dev.opDbgOpenFree; (repeat' split) <;> simp (maxDischargeDepth := 60) [Lane.own, *]

/-! ### Proto -/

@[simp] theorem Dev.logDrop_within {my : May} {d0 : Dev} (d : Dev) (p slot code : Nat) (head : List Byte)
    (h : Within my d0 d) (h1 : my.bbx = true) (h2 : my.port p = true) (h3 : my.reg .bbxStat 0 = true) :
    Within my d0 (d.logDrop p slot code head) := by
  simp (maxDischargeDepth := 60) [Dev.logDrop, Lane.own, *]

@[simp] theorem Dev.pushReply_within {my : May} {d0 : Dev} (d : Dev) (q : QReq) (a : Resp) (h : Within my d0 d)
    (h1 : my.port q.req.port = true) :
    Within my d0 (d.pushReply q a) := by
  simp (maxDischargeDepth := 60) [Dev.pushReply, Lane.own, *]

@[simp] theorem Dev.arrival_within {my : May} {d0 : Dev} (d : Dev) (p : Nat) (b : List Byte) (pad : Bool) (src : Nat)
    (vlan : Option Nat) (h : Within my d0 d) (h1 : my.bbx = true) (h2 : ∀ k', my.port k' = true)
    (h3 : my.reg .bbxStat 0 = true) (h4 : my.reg .hpQmax p = true) (h5 : my.reg .hpRxCrc p = true)
    (h6 : my.reg .hpRxGen p = true) (h7 : my.reg .hpTxBusy p = true) :
    Within my d0 (d.arrival p b pad src vlan) := by
  unfold Dev.arrival; (try dsimp only); (repeat' split) <;> simp (maxDischargeDepth := 60) [Lane.own, *]

@[simp] theorem Dev.linkStatus_within {my : May} {d0 : Dev} (d : Dev) (p : Nat) (status : Byte) (h : Within my d0 d)
    (h1 : my.bbx = true) (h2 : my.port p = true) (h3 : my.reg .bbxStat 0 = true) (h4 : my.reg .hpStat p = true) :
    Within my d0 (d.linkStatus p status) := by
  unfold Dev.linkStatus; (try dsimp only); (repeat' split) <;> simp (maxDischargeDepth := 60) [Lane.own, *]

@[simp] theorem Dev.worostFrame_within {my : May} {d0 : Dev} (d : Dev) (p : Nat) (f : List Byte) (damaged : Bool)
    (h : Within my d0 d) (h1 : my.bbx = true) (h2 : ∀ k', my.port k' = true) (h3 : my.reg .bbxStat 0 = true)
    (h4 : my.reg .hpQmax p = true) (h5 : my.reg .hpRxCrc p = true) (h6 : my.reg .hpRxGen p = true)
    (h7 : my.reg .hpStat p = true) (h8 : my.reg .hpTxBusy p = true) :
    Within my d0 (d.worostFrame p f damaged) := by
  unfold Dev.worostFrame; (try dsimp only); (repeat' split) <;> simp (maxDischargeDepth := 60) [Lane.own, *]

@[simp] theorem Dev.macFrame_within {my : May} {d0 : Dev} (d : Dev) (p : Nat) (f : List Byte) (damaged : Bool)
    (h : Within my d0 d) (h1 : my.bbx = true) (h2 : ∀ k', my.port k' = true) (h3 : my.reg .bbxStat 0 = true)
    (h4 : my.reg .hpPosted p = true) (h5 : my.reg .hpQmax p = true) (h6 : my.reg .hpRxCrc p = true)
    (h7 : my.reg .hpRxGen p = true) (h8 : my.reg .hpTxBusy p = true) :
    Within my d0 (d.macFrame p f damaged) := by
  unfold Dev.macFrame; (try dsimp only); (repeat' split) <;> simp (maxDischargeDepth := 60) [Lane.own, *]

@[simp] theorem Dev.frameIn_within {my : May} {d0 : Dev} (d : Dev) (p : Nat) (f : List Byte) (damaged : Bool)
    (h : Within my d0 d) (h1 : my.bbx = true) (h2 : ∀ k', my.port k' = true) (h3 : my.reg .bbxStat 0 = true)
    (h4 : my.reg .hpPosted p = true) (h5 : my.reg .hpQmax 4 = true) (h6 : my.reg .hpQmax p = true)
    (h7 : my.reg .hpRxCrc 4 = true) (h8 : my.reg .hpRxCrc p = true) (h9 : my.reg .hpRxGen 4 = true)
    (h10 : my.reg .hpRxGen p = true) (h11 : my.reg .hpStat p = true) (h12 : my.reg .hpTxBusy 4 = true)
    (h13 : my.reg .hpTxBusy p = true) :
    Within my d0 (d.frameIn p f damaged) := by
  simp (maxDischargeDepth := 60) [Dev.frameIn, Lane.own, *]

/-- An opcode does what its entry in the table does. -/
theorem Dev.runOp_within_of {my : May} {d0 : Dev} (d : Dev) (op : Nat) (r : Request) (g : Bool) (h : Within my d0 d)
    (hrun : ∀ i, opInfo op = some i → Within my d0 (i.run d r g).2) : Within my d0 (d.runOp op r g).2 := by
  unfold Dev.runOp
  split
  · exact h
  · split
    · exact h
    · split
      · exact h
      · rename_i i hi
        (repeat' split) <;> first | exact h | exact hrun i hi

theorem opInfo_run_within {my : May} {d0 : Dev} {op : Nat} {i : OpInfo} (hi : opInfo op = some i) (d : Dev) (r : Request) (g : Bool)
    (h : Within my d0 d) (h1 : my.bbx = true) (h2 : ∀ k, my.emu k = true) (h3 : my.hlt = true) (h4 : ∀ k, my.loop k = true)
    (h5 : ∀ k, my.mls k = true) (h6 : ∀ k, my.port k = true) (h7 : my.pwr = true) (h8 : ∀ i k, my.reg i k = true)
    (h9 : my.staged = true) (h10 : my.time = true) (h11 : my.trc = true) : Within my d0 (i.run d r g).2 := by
  have ho : ∀ k, my.outputs d0 k := fun _ => .inl fun o => ⟨h2 o, h8 _ _, h8 _ _⟩
  obtain ⟨l1, l2, hl, -⟩ := List.lookup_eq_some_iff.1 hi
  have hm : (op, i) ∈ opsLow ++ opsMid ++ opsHigh := by rw [hl]; simp
  simp only [opsLow, opsMid, opsHigh, List.cons_append, List.nil_append, List.mem_cons, List.not_mem_nil, or_false,
    Prod.mk.injEq] at hm
  clear hl hi
  rcases hm with ⟨-, rfl⟩ | hm
  · simp (maxDischargeDepth := 60) [*]
  repeat (rcases hm with ⟨-, rfl⟩ | hm; · simp (maxDischargeDepth := 60) [*])

@[simp] theorem Dev.runOp_within {my : May} {d0 : Dev} (d : Dev) (op : Nat) (r : Request) (g : Bool)
    (h : Within my d0 d) (h1 : my.bbx = true) (h2 : ∀ k, my.emu k = true) (h3 : my.hlt = true) (h4 : ∀ k, my.loop k = true)
    (h5 : ∀ k, my.mls k = true) (h6 : ∀ k, my.port k = true) (h7 : my.pwr = true) (h8 : ∀ i k, my.reg i k = true)
    (h9 : my.staged = true) (h10 : my.time = true) (h11 : my.trc = true) : Within my d0 (d.runOp op r g).2 :=
  Dev.runOp_within_of d op r g h fun i hi => opInfo_run_within hi d r g h h1 h2 h3 h4 h5 h6 h7 h8 h9 h10 h11

@[simp] theorem Dev.countPosted_within {my : May} {d0 : Dev} (d : Dev) (q : QReq) (failed : Bool) (h : Within my d0 d)
    (h1 : my.reg .hpPosted q.req.port = true) :
    Within my d0 (d.countPosted q failed) := by
  unfold Dev.countPosted; simp_all (maxDischargeDepth := 60) [Lane.own]

@[simp] theorem Dev.replyUnlessPosted_within {my : May} {d0 : Dev} (d : Dev) (q : QReq) (a : Resp) (h : Within my d0 d)
    (h1 : my.port q.req.port = true) :
    Within my d0 (d.replyUnlessPosted q a) := by
  simp (maxDischargeDepth := 60) [Dev.replyUnlessPosted, Lane.own, *]

@[simp] theorem Dev.reply_within {my : May} {d0 : Dev} (d : Dev) (q : QReq) (a : Resp) (h : Within my d0 d)
    (h1 : my.port q.req.port = true) (h2 : my.reg .hpPosted q.req.port = true) :
    Within my d0 (d.reply q a) := by
  unfold Dev.reply; simp (maxDischargeDepth := 60) [Lane.own, *]

@[simp] theorem Dev.latency_within {my : May} {d0 : Dev} (d : Dev) (q : QReq) (h : Within my d0 d) (h1 : my.bbx = true)
    (h2 : my.hlt = true) (h3 : ∀ k', my.port k' = true) (h4 : my.reg .bbxStat 0 = true) (h5 : my.reg .fwCnt 0 = true)
    (h6 : my.reg .hltStat 0 = true) (h7 : my.reg .hpQmax q.req.port = true) (h8 : my.staged = true) :
    Within my d0 (d.latency q) := by
  unfold Dev.latency; (try dsimp only); (repeat' split) <;> simp (maxDischargeDepth := 60) [Lane.own, *]

@[simp] theorem Dev.logAdmittedAct_within {my : May} {d0 : Dev} (d : Dev) (a : Act) (h : Within my d0 d)
    (h1 : my.bbx = true) (h2 : my.reg .bbxStat 0 = true) :
    Within my d0 (d.logAdmittedAct a) := by
  unfold Dev.logAdmittedAct; (try dsimp only); (repeat' split) <;> simp (maxDischargeDepth := 60) [Lane.own, *]

@[simp] theorem Dev.logAdmitted_within {my : May} {d0 : Dev} (d : Dev) (as : List Act) (h : Within my d0 d)
    (h1 : my.bbx = true) (h2 : my.reg .bbxStat 0 = true) :
    Within my d0 (d.logAdmitted as) := by
  unfold Dev.logAdmitted; simp_all (maxDischargeDepth := 60) [Lane.own]

@[simp] theorem Dev.noteRefusal_within {my : May} {d0 : Dev} (d : Dev) (q : QReq) (st : Nat) (h : Within my d0 d)
    (h1 : my.bbx = true) (h2 : my.port q.req.port = true) (h3 : my.reg .bbxStat 0 = true)
    (h4 : my.reg .hpTxBusy q.req.port = true) :
    Within my d0 (d.noteRefusal q st) := by
  simp (maxDischargeDepth := 60) [Dev.noteRefusal, Lane.own, *]

@[simp] theorem Dev.noteAccepted_within {my : May} {d0 : Dev} (d : Dev) (q : QReq) (h : Within my d0 d)
    (h1 : my.bbx = true) (h2 : my.port q.req.port = true) (h3 : my.reg .bbxStat 0 = true) :
    Within my d0 (d.noteAccepted q) := by
  simp (maxDischargeDepth := 60) [Dev.noteAccepted, Lane.own, *]

/-- A request in no group changes what its opcode changes, its port, and what counters, log and accounts of the management plane
show of it. -/
theorem Dev.serveSingle_within {my : May} {d0 : Dev} (d : Dev) (q : QReq) (hr : Within my d0 (d.runOp q.op q.req false).2)
    (h1 : my.bbx = true) (h2 : my.hlt = true) (h3 : ∀ k, my.port k = true) (h4 : my.reg .bbxStat 0 = true)
    (h5 : my.reg .fwCnt 0 = true) (h6 : my.reg .hltStat 0 = true) (h7 : my.reg .hpPosted q.req.port = true)
    (h8 : my.reg .hpQmax q.req.port = true) (h9 : my.reg .hpTxBusy q.req.port = true) (h10 : my.staged = true) :
    Within my d0 (d.serveSingle q) := by
  have hn : ∀ e, Within my d0 e → Within my d0 (e.noteAccepted q) := fun e he => by simp (maxDischargeDepth := 60) [*]
  have hx : ∀ e s, Within my d0 e → Within my d0 (e.noteRefusal q s) := fun e s he => by simp (maxDischargeDepth := 60) [*]
  have hl : ∀ e a, Within my d0 e → Within my d0 ((e.reply q a).latency q) := fun e a he => by simp (maxDischargeDepth := 60) [*]
  have ha : ∀ e l, Within my d0 e → Within my d0 (e.logAdmitted l) := fun e l he => by simp (maxDischargeDepth := 60) [*]
  unfold Dev.serveSingle
  dsimp only
  repeat' first | exact hr | apply hl | apply hn | apply hx | apply ha | refine Within.onPort ?_ _ _ (h3 _) | split

@[simp] theorem Dev.groupAct_within {my : May} {d0 : Dev} (d : Dev) (a : Act) (h : Within my d0 d) (h1 : my.bbx = true)
    (h2 : ∀ k', my.emu k' = true) (h3 : ∀ k', my.mls k' = true) (h4 : ∀ k', my.outputs d0 k')
    (h5 : ∀ k', my.port k' = true) (h6 : my.pwr = true) (h7 : ∀ i' k', my.reg i' k' = true) (h8 : my.time = true) :
    Within my d0 (d.groupAct a) := by
  unfold Dev.groupAct; (repeat' split) <;> simp_all (maxDischargeDepth := 60) [Lane.own]

@[simp] theorem Dev.acceptGroup_within {my : May} {d0 : Dev} (d : Dev) (p : Nat) (g : OpenGroup) (h : Within my d0 d)
    (h1 : my.bbx = true) (h2 : ∀ k', my.emu k' = true) (h3 : ∀ k', my.mls k' = true) (h4 : ∀ k', my.outputs d0 k')
    (h5 : ∀ k', my.port k' = true) (h6 : my.pwr = true) (h7 : ∀ i' k', my.reg i' k' = true) (h8 : my.staged = true)
    (h9 : my.time = true) :
    Within my d0 (d.acceptGroup p g) := by
  unfold Dev.acceptGroup; (try dsimp only); simp_all (maxDischargeDepth := 60) [Lane.own]

theorem Dev.serveMember_within {my : May} {d0 : Dev} (d : Dev) (q : QReq)
    (h : Within my d0 d) (h1 : my.bbx = true) (h2 : ∀ k, my.emu k = true) (h3 : my.hlt = true) (h4 : ∀ k, my.loop k = true)
    (h5 : ∀ k, my.mls k = true) (h6 : ∀ k, my.port k = true) (h7 : my.pwr = true) (h8 : ∀ i k, my.reg i k = true)
    (h9 : my.staged = true) (h10 : my.time = true) (h11 : my.trc = true) : Within my d0 (d.serveMember q) := by
  have hp : ∀ g : OpenGroup, Within my d0 (d.onPort q.req.port fun x => { x with group := some g }) :=
    fun g => Within.onPort h _ _ (h6 _)
  have hr : ∀ g : OpenGroup, Within my d0 ((d.onPort q.req.port fun x => { x with group := some g }).runOp q.op q.req true).2 :=
    fun g => Dev.runOp_within _ _ _ _ (hp g) h1 h2 h3 h4 h5 h6 h7 h8 h9 h10 h11
  have hn : ∀ e s, Within my d0 e → Within my d0 ((e.noteRefusal q s).countPosted q true) := fun e s he => by
    simp (maxDischargeDepth := 60) [*]
  have hl : ∀ e a, Within my d0 e → Within my d0 ((e.replyUnlessPosted q a).latency q) := fun e a he => by
    simp (maxDischargeDepth := 60) [*]
  have hR : ∀ e, Within my d0 e → Within my d0 (e.releaseGroup q.req.port) := fun e he => by
    simp (maxDischargeDepth := 60) [*]
  have hc : ∀ e, Within my d0 e → Within my d0 (e.countPosted q true) := fun e he => by
    simp (maxDischargeDepth := 60) [*]
  have ho : ∀ k, my.outputs d0 k := fun _ => .inl fun o => ⟨h2 o, h8 _ _, h8 _ _⟩
  have hA : ∀ e g, Within my d0 e → Within my d0 (e.acceptGroup q.req.port g) := fun e g he => by
    simp (maxDischargeDepth := 60) [*]
  unfold Dev.serveMember
  dsimp only
  repeat' first | exact hp _ | exact hr _ | apply hl | apply hR | apply hA | apply hn | apply hc | refine Within.onPort ?_ _ _ (h6 _) | split

theorem Dev.serve_within {my : May} {d0 : Dev} (d : Dev) (q : QReq)
    (h : Within my d0 d) (h1 : my.bbx = true) (h2 : ∀ k, my.emu k = true) (h3 : my.hlt = true) (h4 : ∀ k, my.loop k = true)
    (h5 : ∀ k, my.mls k = true) (h6 : ∀ k, my.port k = true) (h7 : my.pwr = true) (h8 : ∀ i k, my.reg i k = true)
    (h9 : my.staged = true) (h10 : my.time = true) (h11 : my.trc = true) : Within my d0 (d.serve q) := by
  unfold Dev.serve; dsimp only
  have ha : Within my d0 (d.addCnt .hpRxOk q.req.port 0 32) := by simp [*]
  have hb : ∀ e, Within my d0 e → Within my d0 (e.abandonGroup q.req.port 1) := fun e he => by
    simp (maxDischargeDepth := 60) [*]
  have hs : ∀ e, Within my d0 e → Within my d0 (e.serveSingle q) := fun e he =>
    Dev.serveSingle_within _ _ (Dev.runOp_within _ _ _ _ he h1 h2 h3 h4 h5 h6 h7 h8 h9 h10 h11) h1 h3 h6 (h8 _ _) (h8 _ _)
      (h8 _ _) (h8 _ _) (h8 _ _) (h8 _ _) h9
  have hm : ∀ e, Within my d0 e → Within my d0 (e.serveMember q) := fun e he =>
    Dev.serveMember_within _ _ he h1 h2 h3 h4 h5 h6 h7 h8 h9 h10 h11
  (repeat' split) <;> first | exact hs _ ha | exact hm _ ha | exact hs _ (hb _ ha) | exact hm _ (hb _ ha)

@[simp] theorem Dev.groupTimeout_within {my : May} {d0 : Dev} (d : Dev) (p : Nat) (h : Within my d0 d)
    (h1 : my.bbx = true) (h2 : my.port p = true) (h3 : my.reg .bbxStat 0 = true) (h4 : my.staged = true) :
    Within my d0 (d.groupTimeout p) := by
  simp (maxDischargeDepth := 60) [Dev.groupTimeout, Lane.own, *]

theorem Dev.packetServe_within {my : May} {d0 : Dev} (d : Dev)
    (h : Within my d0 d) (h1 : my.bbx = true) (h2 : ∀ k, my.emu k = true) (h3 : my.hlt = true) (h4 : ∀ k, my.loop k = true)
    (h5 : ∀ k, my.mls k = true) (h6 : ∀ k, my.port k = true) (h7 : my.pwr = true) (h8 : ∀ i k, my.reg i k = true)
    (h9 : my.staged = true) (h10 : my.time = true) (h11 : my.trc = true) (h12 : my.serve = true) : Within my d0 d.packetServe := by
  unfold Dev.packetServe
  split
  · exact h
  · split
    · exact h
    · split
      · exact h
      · exact Dev.serve_within _ _ (Within.onPort (Within.setServe h _ h12) _ _ (h6 _)) h1 h2 h3 h4 h5 h6 h7 h8 h9 h10 h11

theorem Dev.serveNow_within {my : May} {d0 : Dev} (d : Dev) (op : Nat) (r : Request)
    (h : Within my d0 d) (h1 : my.bbx = true) (h2 : ∀ k, my.emu k = true) (h3 : my.hlt = true) (h4 : ∀ k, my.loop k = true)
    (h5 : ∀ k, my.mls k = true) (h6 : ∀ k, my.port k = true) (h7 : my.pwr = true) (h8 : ∀ i k, my.reg i k = true)
    (h9 : my.staged = true) (h10 : my.time = true) (h11 : my.trc = true) : Within my d0 (d.serveNow op r) := by
  unfold Dev.serveNow; dsimp only
  split
  · exact Dev.serve_within _ _ (Within.at h _) h1 h2 h3 h4 h5 h6 h7 h8 h9 h10 h11
  · exact Within.at h _

@[simp] theorem Dev.send_within {my : May} {d0 : Dev} (d : Dev) (p : Nat) (f : List Byte) (h : Within my d0 d)
    (h1 : my.port p = true) :
    Within my d0 (d.send p f) := by
  simp (maxDischargeDepth := 60) [Dev.send, Lane.own, *]

@[simp] theorem Dev.replyTransmit_within {my : May} {d0 : Dev} (d : Dev) (p : Nat) (h : Within my d0 d)
    (h1 : my.port p = true) (h2 : my.reg .hpTxReply p = true) :
    Within my d0 (d.replyTransmit p) := by
  unfold Dev.replyTransmit; (repeat' split) <;> simp (maxDischargeDepth := 60) [Lane.own, *]

@[simp] theorem Dev.spiStatus_within {my : May} {d0 : Dev} (d : Dev) (h : Within my d0 d) (h1 : my.port 4 = true) :
    Within my d0 (d.spiStatus) := by
  simp (maxDischargeDepth := 60) [Dev.spiStatus, Lane.own, *]

@[simp] theorem Dev.spiWrite_within {my : May} {d0 : Dev} (d : Dev) (b : List Byte) (h : Within my d0 d)
    (h1 : my.bbx = true) (h2 : ∀ k', my.port k' = true) (h3 : my.reg .bbxStat 0 = true) (h4 : my.reg .hpQmax 4 = true)
    (h5 : my.reg .hpRxCrc 4 = true) (h6 : my.reg .hpRxGen 4 = true) (h7 : my.reg .hpTxBusy 4 = true) :
    Within my d0 (d.spiWrite b) := by
  simp (maxDischargeDepth := 60) [Dev.spiWrite, Lane.own, *]

@[simp] theorem Dev.spiRead_within {my : May} {d0 : Dev} (d : Dev) (n : Nat) (h : Within my d0 d) (h1 : my.port 4 = true)
    (h2 : my.reg .hpTxReply 4 = true) :
    Within my d0 (d.spiRead n) := by
  unfold Dev.spiRead; (try dsimp only); (repeat' split) <;> simp (maxDischargeDepth := 60) [Lane.own, *]

@[simp] theorem Dev.jobEnd_within {my : May} {d0 : Dev} (d : Dev) (j : BgJob) (ok : Bool) (h : Within my d0 d)
    (h1 : my.bbx = true) (h2 : my.hlt = true) (h3 : ∀ k', my.map k' = true) (h4 : my.pwr = true)
    (h5 : my.reg .bbxStat 0 = true) (h6 : my.staged = true) :
    Within my d0 (d.jobEnd j ok).2 := by
  unfold Dev.jobEnd; (try dsimp only); (repeat' split) <;> simp (maxDischargeDepth := 60) [Lane.own, *]

@[simp] theorem Dev.jobReply_within {my : May} {d0 : Dev} (d : Dev) (j : BgJob) (a : Resp) (h : Within my d0 d)
    (h1 : ∀ k', my.port k' = true) (h2 : ∀ k', my.reg .hpPosted k' = true) :
    Within my d0 (d.jobReply j a) := by
  simp (maxDischargeDepth := 60) [Dev.jobReply, Lane.own, *]

@[simp] theorem Dev.jobComplete_within {my : May} {d0 : Dev} (d : Dev) (p : Nat) (ok : Bool) (h : Within my d0 d)
    (h1 : my.bbx = true) (h2 : my.hlt = true) (h3 : ∀ k', my.map k' = true) (h4 : ∀ k', my.port k' = true)
    (h5 : my.pwr = true) (h6 : my.reg .bbxStat 0 = true) (h7 : ∀ k', my.reg .hpPosted k' = true) (h8 : my.staged = true) :
    Within my d0 (d.jobComplete p ok) := by
  unfold Dev.jobComplete; (try dsimp only); (repeat' split) <;> simp_all (maxDischargeDepth := 60) [Lane.own]

@[simp] theorem Dev.bbxComplete_within {my : May} {d0 : Dev} (d : Dev) (ok : Bool) (h : Within my d0 d)
    (h1 : my.bbx = true) (h2 : my.hlt = true) (h3 : ∀ k', my.port k' = true) (h4 : my.reg .bbxCommits 0 = true)
    (h5 : my.reg .bbxStat 0 = true) (h6 : my.reg .fwCnt 0 = true) (h7 : my.reg .hltStat 0 = true)
    (h8 : ∀ k', my.reg .hpPosted k' = true) (h9 : my.staged = true) :
    Within my d0 (d.bbxComplete ok) := by
  unfold Dev.bbxComplete; (try dsimp only)
  (repeat' split) <;> (try simp (maxDischargeDepth := 60) [Lane.own, *]) <;>
    (first | refine Within.forEach ?_ _ _ (fun n e he => ?_) | refine Within.foldl ?_ _ _ (fun e n he => ?_) | skip) <;> (try dsimp only) <;> (repeat' split) <;> simp (maxDischargeDepth := 60) [Lane.own, *]

@[simp] theorem Dev.linkStatusSend_within {my : May} {d0 : Dev} (d : Dev) (p : Nat) (h : Within my d0 d)
    (h1 : my.port p = true) :
    Within my d0 (d.linkStatusSend p) := by
  simp (maxDischargeDepth := 60) [Dev.linkStatusSend, Lane.own, *]

@[simp] theorem Dev.linkStatusTimeout_within {my : May} {d0 : Dev} (d : Dev) (p : Nat) (h : Within my d0 d)
    (h1 : my.bbx = true) (h2 : my.port p = true) (h3 : my.reg .bbxStat 0 = true) (h4 : my.reg .hpStat p = true) :
    Within my d0 (d.linkStatusTimeout p) := by
  simp (maxDischargeDepth := 60) [Dev.linkStatusTimeout, Lane.own, *]

@[simp] theorem Dev.linkSyncLoss_within {my : May} {d0 : Dev} (d : Dev) (p : Nat) (h : Within my d0 d)
    (h1 : my.bbx = true) (h2 : my.port p = true) (h3 : my.reg .bbxStat 0 = true) (h4 : my.reg .hpStat p = true) :
    Within my d0 (d.linkSyncLoss p) := by
  simp (maxDischargeDepth := 60) [Dev.linkSyncLoss, Lane.own, *]

@[simp] theorem Dev.linkUp_within {my : May} {d0 : Dev} (d : Dev) (p : Nat) (autoneg : Bool) (h : Within my d0 d)
    (h1 : my.bbx = true) (h2 : my.port p = true) (h3 : my.reg .bbxStat 0 = true) (h4 : my.reg .hpStat p = true) :
    Within my d0 (d.linkUp p autoneg) := by
  simp (maxDischargeDepth := 60) [Dev.linkUp, Lane.own, *]

end Sys2Proof.Machine
end

