-- ==== Sys2Proof/Laws/WithinFrame.lean ====
section
/-! SUPPORT. What the operations of the frame: commit, snapshot, work and output junction change: one lemma for each, which asks of
`May` just the places that the operation touches. -/
namespace Sys2Proof.Machine
open Sys2Proof
set_option linter.unusedSimpArgs false
set_option linter.unusedVariables false
set_option maxRecDepth 4000

/-! ### Commit -/

@[simp] theorem Dev.dropDue_within {my : May} {d0 : Dev} (d : Dev) (h : Within my d0 d) (h1 : my.staged = true) :
    Within my d0 (d.dropDue) := by
  simp (maxDischargeDepth := 60) [Dev.dropDue, Lane.own, *]

@[simp] theorem Dev.putWord_within {my : May} {d0 : Dev} (d : Dev) (s : Staged) (h : Within my d0 d)
    (h1 : ∀ i' k', my.reg i' k' = true) :
    Within my d0 (d.putWord s) := by
  unfold Dev.putWord; (repeat' split) <;> simp (maxDischargeDepth := 60) [Lane.own, *]

@[simp] theorem Dev.putWords_within {my : May} {d0 : Dev} (d : Dev) (es : List Staged) (h : Within my d0 d)
    (h1 : ∀ i' k', my.reg i' k' = true) :
    Within my d0 (d.putWords es) := by
  unfold Dev.putWords; simp_all (maxDischargeDepth := 60) [Lane.own]

@[simp] theorem Dev.commitFrame_within {my : May} {d0 : Dev} (d : Dev) (es : List Staged) (h : Within my d0 d)
    (h1 : my.bbx = true) (h2 : ∀ k', my.port k' = true) (h3 : ∀ i' k', my.reg i' k' = true) (h4 : my.time = true) :
    Within my d0 (d.commitFrame es) := by
  unfold Dev.commitFrame; (try dsimp only); (repeat' split) <;> simp_all (maxDischargeDepth := 60) [Lane.own]

theorem Dev.acqCfgApply_within {my : May} {d0 : Dev} (old d : Dev) (n : Nat) (h : Within my d0 d) (h1 : my.acq n = true) :
    Within my d0 (Dev.acqCfgApply old d n) := by
  unfold Dev.acqCfgApply; dsimp only; (repeat' split) <;> simp (maxDischargeDepth := 60) [*]

@[simp] theorem Dev.commitAcq_within {my : May} {d0 : Dev} (d : Dev) (n : Nat) (es : List Staged) (h : Within my d0 d)
    (h1 : my.acq n = true) (h2 : ∀ i k, my.reg i k = true) (h3 : my.staged = true) : Within my d0 (d.commitAcq n es) :=
  Dev.acqCfgApply_within _ _ _ (Dev.commitRegs_within _ _ _ _ _ h h2 h3 fun e he => by simp [*]) h1

@[simp] theorem Dev.rejudgeDetour_within {my : May} {d0 : Dev} (d : Dev) (n : Nat) (h : Within my d0 d)
    (h1 : my.bbx = true) (h2 : my.hlt = true) (h3 : my.lane n = true) (h4 : my.outputs d0 n)
    (h5 : my.reg .bbxStat 0 = true) (h6 : my.trk n = true) :
    Within my d0 (d.rejudgeDetour n) := by
  simp (maxDischargeDepth := 60) [Dev.rejudgeDetour, Lane.own, *]

@[simp] theorem Dev.commitTrk_within {my : May} {d0 : Dev} (d : Dev) (n : Nat) (es : List Staged) (h : Within my d0 d)
    (h1 : my.bbx = true) (h2 : my.hlt = true) (h3 : my.lane n = true) (h4 : my.map n = true) (h5 : my.outputs d0 n)
    (h6 : ∀ i' k', my.reg i' k' = true) (h7 : my.staged = true) (h8 : my.trk n = true) :
    Within my d0 (d.commitTrk n es) := by
  unfold Dev.commitTrk; (try dsimp only); (repeat' split) <;> simp_all (maxDischargeDepth := 60) [Lane.own]

@[simp] theorem Dev.commitLoop_within {my : May} {d0 : Dev} (d : Dev) (n : Nat) (es : List Staged) (h : Within my d0 d)
    (h1 : ∀ i' k', my.reg i' k' = true) (h2 : my.staged = true) :
    Within my d0 (d.commitLoop n es) := by
  unfold Dev.commitLoop; (try dsimp only); simp_all (maxDischargeDepth := 60) [Lane.own]

@[simp] theorem Dev.commitPin_within {my : May} {d0 : Dev} (d : Dev) (i : Nat) (es : List Staged) (h : Within my d0 d)
    (h1 : my.bbx = true) (h2 : my.detour d0 i) (h3 : my.hlt = true) (h4 : my.pin i = true)
    (h5 : ∀ i' k', my.reg i' k' = true) (h6 : my.staged = true) :
    Within my d0 (d.commitPin i es) := by
  unfold Dev.commitPin; (try dsimp only); (repeat' split) <;> simp_all (maxDischargeDepth := 60) [Lane.own]

@[simp] theorem Dev.commitEmu_within {my : May} {d0 : Dev} (d : Dev) (o : Nat) (es : List Staged) (h : Within my d0 d)
    (h1 : my.bbx = true) (h2 : my.emu o = true) (h3 : ∀ k', my.outputs d0 k') (h4 : ∀ i' k', my.reg i' k' = true)
    (h5 : my.staged = true) :
    Within my d0 (d.commitEmu o es) := by
  unfold Dev.commitEmu; (try dsimp only); (repeat' split) <;> simp_all (maxDischargeDepth := 60) [Lane.own]

@[simp] theorem Dev.commitTrkCmd_within {my : May} {d0 : Dev} (d : Dev) (n : Nat) (es : List Staged) (h : Within my d0 d)
    (h1 : my.bbx = true) (h2 : my.map n = true) (h3 : my.outputs d0 n) (h4 : my.reg .bbxStat 0 = true)
    (h5 : my.reg .trkStat n = true) (h6 : my.trk n = true) :
    Within my d0 (d.commitTrkCmd n es) := by
  unfold Dev.commitTrkCmd; (try dsimp only); simp_all (maxDischargeDepth := 60) [Lane.own]

@[simp] theorem Dev.commitPfeCmd_within {my : May} {d0 : Dev} (d : Dev) (c : Nat) (es : List Staged) (h : Within my d0 d)
    (h1 : my.pfe c = true) :
    Within my d0 (d.commitPfeCmd c es) := by
  simp (maxDischargeDepth := 60) [Dev.commitPfeCmd, Lane.own, *]

@[simp] theorem Dev.commitWords_within {my : May} {d0 : Dev} (d : Dev) (es : List Staged) (h : Within my d0 d)
    (h1 : ∀ k', my.acq k' = true) (h2 : my.bbx = true) (h3 : ∀ k', my.detour d0 k') (h4 : ∀ k', my.emu k' = true)
    (h5 : ∀ k', my.group k' = true) (h6 : my.hlt = true) (h7 : ∀ k', my.lane k' = true) (h8 : ∀ k', my.map k' = true)
    (h9 : ∀ k', my.outputs d0 k') (h10 : ∀ k', my.pfe k' = true) (h11 : ∀ k', my.pin k' = true)
    (h12 : ∀ i' k', my.reg i' k' = true) (h13 : my.staged = true) (h14 : ∀ k', my.trk k' = true) :
    Within my d0 (d.commitWords es) := by
  have hr : ∀ (b : Block) (count : Nat) (f : Dev → Nat → List Staged → Dev) (e : Dev),
      (∀ e n l, Within my d0 e → Within my d0 (f e n l)) → Within my d0 e →
      Within my d0 (e.forEach (blockUnits es b count) fun u d => f d u (unitWords es b u)) :=
    fun b count f e hf he => Within.forEach he _ _ fun n x hx => hf x n _ hx
  have hc : ∀ e (hold : RegId → Nat → Word → Word) (ok : Dev → Bool) (err : Dev → Dev) l, Within my d0 e →
      (∀ e, Within my d0 e → Within my d0 (err e)) → Within my d0 (e.commitRegs l hold ok err) :=
    fun e hold ok err l he herr => Dev.commitRegs_within _ _ _ _ _ he (by assumption) (by assumption) herr
  unfold Dev.commitWords; dsimp only
  refine hr .trkCmd 96 Dev.commitTrkCmd _ (fun e n l he => by simp (maxDischargeDepth := 60) [*]) ?_
  refine hr .pfeCmd 8 Dev.commitPfeCmd _ (fun e n l he => by simp (maxDischargeDepth := 60) [*]) ?_
  refine hr .pfe 8 Dev.pfeCommit _ (fun e n l he => by simp (maxDischargeDepth := 60) [*]) ?_
  refine hr .emu 24 Dev.commitEmu _ (fun e n l he => by simp (maxDischargeDepth := 60) [*]) ?_
  refine hr .mls 32 (fun d j es => d.commitRegs es noHold (fun e => e.mlsCfgOk j) (fun e => e.setFlag .mlsStat j 10)) _
    (fun e n l he => hc _ _ _ _ _ he fun x hx => by simp [*]) ?_
  refine hr .pin 32 Dev.commitPin _ (fun e n l he => by simp (maxDischargeDepth := 60) [*]) ?_
  refine hr .prf 96 (fun d n es => d.commitRegs es noHold (fun e => e.prfCfgOk n) (fun e => e.setFlag .prfStat n 11)) _
    (fun e n l he => hc _ _ _ _ _ he fun x hx => by simp [*]) ?_
  refine hr .loop 96 Dev.commitLoop _ (fun e n l he => by simp (maxDischargeDepth := 60) [*]) ?_
  refine hr .map 96 (fun d n es => d.commitRegs es noHold (fun e => e.mapCfgOk n) id) _
    (fun e n l he => hc _ _ _ _ _ he fun x hx => hx) ?_
  refine hr .trk 96 Dev.commitTrk _ (fun e n l he => by simp (maxDischargeDepth := 60) [*]) ?_
  refine hr .acq 96 Dev.commitAcq _ (fun e n l he => by simp (maxDischargeDepth := 60) [*]) ?_
  refine hr .exc 12 Dev.excCommit _ (fun e n l he => by simp (maxDischargeDepth := 60) [*]) ?_
  exact Dev.putWords_within _ _ h (by assumption)

@[simp] theorem Dev.noteRewritten_within {my : May} {d0 : Dev} (d : Dev) (es : List Staged) (h : Within my d0 d)
    (h1 : my.hlt = true) :
    Within my d0 (d.noteRewritten es) := by
  simp (maxDischargeDepth := 60) [Dev.noteRewritten, Lane.own, *]

@[simp] theorem Dev.commitStruct_within {my : May} {d0 : Dev} (d : Dev) (n : Nat) (s : LoopStruct) (h : Within my d0 d)
    (h1 : my.hlt = true) (h2 : my.loop n = true) (h3 : my.reg .loopCtrl n = true) (h4 : my.reg .loopDiv n = true)
    (h5 : my.reg .trmCtrl n = true) :
    Within my d0 (d.commitStruct n s) := by
  simp (maxDischargeDepth := 60) [Dev.commitStruct, Lane.own, *]

@[simp] theorem Dev.commitSwap_within {my : May} {d0 : Dev} (d : Dev) (s : Staged) (n : Nat) (back : Bool)
    (h : Within my d0 d) (h1 : my.bbx = true) (h2 : my.hlt = true) (h3 : my.loop n = true) (h4 : my.map n = true)
    (h5 : my.reg .bbxStat 0 = true) (h6 : my.reg .coefCnt n = true) (h7 : my.reg .coefStat n = true)
    (h8 : my.staged = true) :
    Within my d0 (d.commitSwap s n back) := by
  simp (maxDischargeDepth := 60) [Dev.commitSwap, Lane.own, *]

@[simp] theorem Dev.commitAct_within {my : May} {d0 : Dev} (d : Dev) (s : Staged) (h : Within my d0 d)
    (h1 : my.bbx = true) (h2 : ∀ k', my.detour d0 k') (h3 : ∀ k', my.emu k' = true) (h4 : my.hlt = true)
    (h5 : ∀ k', my.loop k' = true) (h6 : ∀ k', my.map k' = true) (h7 : ∀ k', my.mls k' = true)
    (h8 : ∀ k', my.outputs d0 k') (h9 : ∀ k', my.pin k' = true) (h10 : ∀ k', my.port k' = true)
    (h11 : my.reg .bbxStat 0 = true) (h12 : ∀ k', my.reg .coefCnt k' = true) (h13 : ∀ k', my.reg .coefStat k' = true)
    (h14 : ∀ k', my.reg .emuStat k' = true) (h15 : ∀ k', my.reg .mapSeg k' = true) (h16 : ∀ k', my.reg .mapStat k' = true)
    (h17 : my.staged = true) (h18 : my.trc = true) :
    Within my d0 (d.commitAct s) := by
  unfold Dev.commitAct; (repeat' split) <;> simp (maxDischargeDepth := 60) [Lane.own, *]

@[simp] theorem Dev.commitPower_within {my : May} {d0 : Dev} (d : Dev) (s : Staged) (h : Within my d0 d)
    (h1 : ∀ k', my.acq k' = true) (h2 : my.bbx = true) (h3 : my.crit = true) (h4 : ∀ k', my.emu k' = true)
    (h5 : ∀ k', my.group k' = true) (h6 : my.hlt = true) (h7 : ∀ k', my.lane k' = true) (h8 : ∀ k', my.loop k' = true)
    (h9 : ∀ k', my.map k' = true) (h10 : ∀ k', my.outputs d0 k') (h11 : ∀ k', my.pfe k' = true)
    (h12 : ∀ k', my.prf k' = true) (h13 : my.pwr = true) (h14 : my.reg .bbxStat 0 = true)
    (h15 : ∀ k', my.reg .emuStat k' = true) (h16 : ∀ k', my.reg .excCtrl k' = true)
    (h17 : ∀ k', my.reg .pfeStat k' = true) (h18 : ∀ k', my.reg .trkCnt k' = true) (h19 : my.saf = true)
    (h20 : ∀ k', my.safLane k' = true) (h21 : my.time = true) (h22 : ∀ k', my.trk k' = true) :
    Within my d0 (d.commitPower s) := by
  unfold Dev.commitPower; (try dsimp only); (repeat' split) <;> simp (maxDischargeDepth := 60) [Lane.own, *]

@[simp] theorem Dev.commitPowerOf_within {my : May} {d0 : Dev} (d : Dev) (parked : Bool) (s : Staged) (h : Within my d0 d)
    (h1 : ∀ k', my.acq k' = true) (h2 : my.bbx = true) (h3 : my.crit = true) (h4 : ∀ k', my.emu k' = true)
    (h5 : ∀ k', my.group k' = true) (h6 : my.hlt = true) (h7 : ∀ k', my.lane k' = true) (h8 : ∀ k', my.loop k' = true)
    (h9 : ∀ k', my.map k' = true) (h10 : ∀ k', my.outputs d0 k') (h11 : ∀ k', my.pfe k' = true)
    (h12 : ∀ k', my.prf k' = true) (h13 : my.pwr = true) (h14 : my.reg .bbxStat 0 = true)
    (h15 : ∀ k', my.reg .emuStat k' = true) (h16 : ∀ k', my.reg .excCtrl k' = true)
    (h17 : ∀ k', my.reg .pfeStat k' = true) (h18 : ∀ k', my.reg .trkCnt k' = true) (h19 : my.saf = true)
    (h20 : ∀ k', my.safLane k' = true) (h21 : my.time = true) (h22 : ∀ k', my.trk k' = true) :
    Within my d0 (d.commitPowerOf parked s) := by
  unfold Dev.commitPowerOf; simp_all (maxDischargeDepth := 60) [Lane.own]

@[simp] theorem Dev.commitPowers_within {my : May} {d0 : Dev} (d : Dev) (es : List Staged) (h : Within my d0 d)
    (h1 : ∀ k', my.acq k' = true) (h2 : my.bbx = true) (h3 : my.crit = true) (h4 : ∀ k', my.emu k' = true)
    (h5 : ∀ k', my.group k' = true) (h6 : my.hlt = true) (h7 : ∀ k', my.lane k' = true) (h8 : ∀ k', my.loop k' = true)
    (h9 : ∀ k', my.map k' = true) (h10 : ∀ k', my.outputs d0 k') (h11 : ∀ k', my.pfe k' = true)
    (h12 : ∀ k', my.prf k' = true) (h13 : my.pwr = true) (h14 : my.reg .bbxStat 0 = true)
    (h15 : ∀ k', my.reg .emuStat k' = true) (h16 : ∀ k', my.reg .excCtrl k' = true)
    (h17 : ∀ k', my.reg .pfeStat k' = true) (h18 : ∀ k', my.reg .trkCnt k' = true) (h19 : my.saf = true)
    (h20 : ∀ k', my.safLane k' = true) (h21 : my.time = true) (h22 : ∀ k', my.trk k' = true) :
    Within my d0 (d.commitPowers es) := by
  unfold Dev.commitPowers; (try dsimp only); simp_all (maxDischargeDepth := 60) [Lane.own]

@[simp] theorem Dev.entered_within {my : May} {d0 : Dev} (d : Dev) (n : Nat) (old : LaneState) (h : Within my d0 d)
    (h1 : my.acq n = true) (h2 : my.bbx = true) (h3 : my.lane n = true) (h4 : my.loop n = true) (h5 : my.map n = true)
    (h6 : my.outputs d0 n) (h7 : my.prf n = true) (h8 : my.reg .bbxStat 0 = true) (h9 : my.reg .mapSeg n = true)
    (h10 : my.reg .mapStat n = true) (h11 : my.trk n = true) :
    Within my d0 (d.entered n old) := by
  unfold Dev.entered; (try dsimp only); simp_all (maxDischargeDepth := 60) [Lane.own]

@[simp] theorem Dev.setLane_within {my : May} {d0 : Dev} (d : Dev) (n : Nat) (st : LaneState) (h : Within my d0 d)
    (h1 : my.acq n = true) (h2 : my.bbx = true) (h3 : my.lane n = true) (h4 : my.loop n = true) (h5 : my.map n = true)
    (h6 : my.outputs d0 n) (h7 : my.prf n = true) (h8 : my.reg .bbxStat 0 = true) (h9 : my.reg .mapSeg n = true)
    (h10 : my.reg .mapStat n = true) (h11 : my.reg .trkCnt n = true) (h12 : my.trk n = true) :
    Within my d0 (d.setLane n st) := by
  simp (maxDischargeDepth := 60) [Dev.setLane, Lane.own, *]

@[simp] theorem Dev.requestState_within {my : May} {d0 : Dev} (d : Dev) (n v : Nat) (h : Within my d0 d)
    (h1 : my.acq n = true) (h2 : my.bbx = true) (h3 : my.lane n = true) (h4 : my.loop n = true) (h5 : my.map n = true)
    (h6 : my.outputs d0 n) (h7 : my.prf n = true) (h8 : my.reg .bbxStat 0 = true) (h9 : my.reg .mapSeg n = true)
    (h10 : my.reg .mapStat n = true) (h11 : my.reg .trkCnt n = true) (h12 : my.trk n = true) :
    Within my d0 (d.requestState n v) := by
  unfold Dev.requestState; (repeat' split) <;> simp (maxDischargeDepth := 60) [Lane.own, *]

@[simp] theorem Dev.parkLane_within {my : May} {d0 : Dev} (d : Dev) (n : Nat) (h : Within my d0 d) (h1 : my.acq n = true)
    (h2 : my.bbx = true) (h3 : my.lane n = true) (h4 : my.loop n = true) (h5 : my.map n = true) (h6 : my.outputs d0 n)
    (h7 : my.prf n = true) (h8 : my.reg .bbxStat 0 = true) (h9 : my.reg .mapSeg n = true) (h10 : my.reg .mapStat n = true)
    (h11 : my.reg .trkCnt n = true) (h12 : my.trk n = true) :
    Within my d0 (d.parkLane n) := by
  unfold Dev.parkLane; (repeat' split) <;> simp (maxDischargeDepth := 60) [Lane.own, *]

@[simp] theorem Dev.commitRequests_within {my : May} {d0 : Dev} (d : Dev) (es : List Staged) (h : Within my d0 d)
    (h1 : ∀ k', my.acq k' = true) (h2 : my.bbx = true) (h3 : ∀ k', my.lane k' = true) (h4 : ∀ k', my.loop k' = true)
    (h5 : ∀ k', my.map k' = true) (h6 : ∀ k', my.outputs d0 k') (h7 : ∀ k', my.prf k' = true)
    (h8 : my.reg .bbxStat 0 = true) (h9 : ∀ k', my.reg .laneCtrl k' = true) (h10 : ∀ k', my.reg .mapSeg k' = true)
    (h11 : ∀ k', my.reg .mapStat k' = true) (h12 : ∀ k', my.reg .trkCnt k' = true) (h13 : ∀ k', my.trk k' = true) :
    Within my d0 (d.commitRequests es) := by
  unfold Dev.commitRequests; (try dsimp only); simp_all (maxDischargeDepth := 60) [Lane.own]

@[simp] theorem Dev.barrierConsequences_within {my : May} {d0 : Dev} (d : Dev) (h : Within my d0 d)
    (h1 : ∀ k', my.acq k' = true) (h2 : my.bbx = true) (h3 : ∀ k', my.lane k' = true) (h4 : ∀ k', my.loop k' = true)
    (h5 : ∀ k', my.map k' = true) (h6 : ∀ k', my.outputs d0 k') (h7 : ∀ k', my.prf k' = true)
    (h8 : my.reg .bbxStat 0 = true) (h9 : ∀ k', my.reg .mapSeg k' = true) (h10 : ∀ k', my.reg .mapStat k' = true)
    (h11 : ∀ k', my.reg .trkCnt k' = true) (h12 : ∀ k', my.trk k' = true) :
    Within my d0 (d.barrierConsequences) := by
  unfold Dev.barrierConsequences; simp_all (maxDischargeDepth := 60) [Lane.own]

@[simp] theorem Dev.commitMaster_within {my : May} {d0 : Dev} (d : Dev) (t : Time) (s : Staged) (h : Within my d0 d)
    (h1 : my.bbx = true) (h2 : ∀ k', my.prf k' = true) (h3 : my.reg .bbxStat 0 = true) (h4 : ∀ k', my.vm k' = true) :
    Within my d0 (d.commitMaster t s) := by
  unfold Dev.commitMaster; (repeat' split) <;> simp (maxDischargeDepth := 60) [Lane.own, *]

@[simp] theorem Dev.commitMasters_within {my : May} {d0 : Dev} (d : Dev) (es : List Staged) (h : Within my d0 d)
    (h1 : my.bbx = true) (h2 : ∀ k', my.prf k' = true) (h3 : my.reg .bbxStat 0 = true) (h4 : ∀ k', my.vm k' = true) :
    Within my d0 (d.commitMasters es) := by
  unfold Dev.commitMasters; (try dsimp only); simp_all (maxDischargeDepth := 60) [Lane.own]

@[simp] theorem Dev.missRequest_within {my : May} {d0 : Dev} (d : Dev) (n : Nat) (h : Within my d0 d)
    (h1 : my.acq n = true) (h2 : my.bbx = true) (h3 : my.lane n = true) (h4 : my.loop n = true) (h5 : my.map n = true)
    (h6 : my.outputs d0 n) (h7 : my.prf n = true) (h8 : my.reg .bbxStat 0 = true) (h9 : my.reg .mapSeg n = true)
    (h10 : my.reg .mapStat n = true) (h11 : my.reg .trkCnt n = true) (h12 : my.trk n = true) :
    Within my d0 (d.missRequest n) := by
  simp (maxDischargeDepth := 60) [Dev.missRequest, Lane.own, *]

@[simp] theorem Dev.commitAges_within {my : May} {d0 : Dev} (d : Dev) (es : List Staged) (h : Within my d0 d)
    (h1 : my.bbx = true) (h2 : ∀ k', my.lane k' = true) (h3 : my.reg .bbxStat 0 = true) :
    Within my d0 (d.commitAges es).2 := by
  unfold Dev.commitAges; (try dsimp only); simp_all (maxDischargeDepth := 60) [Lane.own]

@[simp] theorem Dev.reserveOf_within {my : May} {d0 : Dev} (d : Dev) (s : Staged) (h : Within my d0 d)
    (h1 : ∀ k', my.loop k' = true) :
    Within my d0 (d.reserveOf s) := by
  unfold Dev.reserveOf; (repeat' split) <;> simp (maxDischargeDepth := 60) [Lane.own, *]

@[simp] theorem Dev.commitStructOf_within {my : May} {d0 : Dev} (d : Dev) (s : Staged) (h : Within my d0 d)
    (h1 : my.hlt = true) (h2 : ∀ k', my.loop k' = true) (h3 : ∀ k', my.reg .loopCtrl k' = true)
    (h4 : ∀ k', my.reg .loopDiv k' = true) (h5 : ∀ k', my.reg .trmCtrl k' = true) :
    Within my d0 (d.commitStructOf s) := by
  unfold Dev.commitStructOf; (repeat' split) <;> simp (maxDischargeDepth := 60) [Lane.own, *]

@[simp] theorem Dev.commitConfig_within {my : May} {d0 : Dev} (d : Dev) (es : List Staged) (h : Within my d0 d)
    (h1 : ∀ k', my.acq k' = true) (h2 : my.bbx = true) (h3 : ∀ k', my.detour d0 k') (h4 : ∀ k', my.emu k' = true)
    (h5 : ∀ k', my.group k' = true) (h6 : my.hlt = true) (h7 : ∀ k', my.lane k' = true) (h8 : ∀ k', my.loop k' = true)
    (h9 : ∀ k', my.map k' = true) (h10 : ∀ k', my.mls k' = true) (h11 : ∀ k', my.outputs d0 k')
    (h12 : ∀ k', my.pfe k' = true) (h13 : ∀ k', my.pin k' = true) (h14 : ∀ k', my.port k' = true)
    (h15 : ∀ i' k', my.reg i' k' = true) (h16 : my.staged = true) (h17 : my.time = true) (h18 : my.trc = true)
    (h19 : ∀ k', my.trk k' = true) :
    Within my d0 (d.commitConfig es) := by
  unfold Dev.commitConfig; dsimp only
  refine Within.forEach (Dev.noteRewritten_within _ _ (Within.foldl ?_ _ _ fun e s he => ?_) ?_) _ _ fun n e he => ?_
  · apply Dev.commitWords_within
    · refine Within.foldl ?_ _ _ fun e s he => ?_
      · apply Dev.commitFrame_within
        · refine Within.foldl h _ _ fun e s he => ?_
          apply Dev.reserveOf_within <;> (first | assumption | (intros; simp only [*]) | simp (maxDischargeDepth := 60) [*])
        all_goals (first | assumption | (intros; simp only [*]) | simp (maxDischargeDepth := 60) [*])
      · apply Dev.commitStructOf_within <;> (first | assumption | (intros; simp only [*]) | simp (maxDischargeDepth := 60) [*])
    all_goals (first | assumption | (intros; simp only [*]) | simp (maxDischargeDepth := 60) [*])
  · apply Dev.commitAct_within <;> (first | assumption | (intros; simp only [*]) | simp (maxDischargeDepth := 60) [*])
  · assumption
  · apply Dev.mapCommit_within <;> (first | assumption | (intros; simp only [*]) | simp (maxDischargeDepth := 60) [*])

@[simp] theorem Dev.commitStates_within {my : May} {d0 : Dev} (d : Dev) (es : List Staged) (h : Within my d0 d)
    (h1 : ∀ k', my.acq k' = true) (h2 : my.bbx = true) (h3 : my.crit = true) (h4 : ∀ k', my.emu k' = true)
    (h5 : ∀ k', my.group k' = true) (h6 : my.hlt = true) (h7 : ∀ k', my.lane k' = true) (h8 : ∀ k', my.loop k' = true)
    (h9 : ∀ k', my.map k' = true) (h10 : ∀ k', my.outputs d0 k') (h11 : ∀ k', my.pfe k' = true)
    (h12 : ∀ k', my.prf k' = true) (h13 : my.pwr = true) (h14 : my.reg .bbxStat 0 = true)
    (h15 : ∀ k', my.reg .emuStat k' = true) (h16 : ∀ k', my.reg .excCtrl k' = true)
    (h17 : ∀ k', my.reg .laneCtrl k' = true) (h18 : ∀ k', my.reg .mapSeg k' = true)
    (h19 : ∀ k', my.reg .mapStat k' = true) (h20 : ∀ k', my.reg .pfeStat k' = true) (h21 : ∀ k', my.reg .trkCnt k' = true)
    (h22 : my.saf = true) (h23 : ∀ k', my.safLane k' = true) (h24 : my.time = true) (h25 : ∀ k', my.trk k' = true) :
    Within my d0 (d.commitStates es).2 := by
  unfold Dev.commitStates; (try dsimp only); simp_all (maxDischargeDepth := 60) [Lane.own]

@[simp] theorem Dev.commit_within {my : May} {d0 : Dev} (d : Dev) (h : Within my d0 d) (h1 : ∀ k', my.acq k' = true)
    (h2 : my.bbx = true) (h3 : my.crit = true) (h4 : ∀ k', my.detour d0 k') (h5 : ∀ k', my.emu k' = true)
    (h6 : ∀ k', my.group k' = true) (h7 : my.hlt = true) (h8 : ∀ k', my.lane k' = true) (h9 : ∀ k', my.loop k' = true)
    (h10 : ∀ k', my.map k' = true) (h11 : ∀ k', my.mls k' = true) (h12 : ∀ k', my.outputs d0 k')
    (h13 : ∀ k', my.pfe k' = true) (h14 : ∀ k', my.pin k' = true) (h15 : ∀ k', my.port k' = true)
    (h16 : ∀ k', my.prf k' = true) (h17 : my.pwr = true) (h18 : ∀ i' k', my.reg i' k' = true) (h19 : my.saf = true)
    (h20 : ∀ k', my.safLane k' = true) (h21 : my.staged = true) (h22 : my.time = true) (h23 : my.trc = true)
    (h24 : ∀ k', my.trk k' = true) :
    Within my d0 (d.commit).2.2 := by
  unfold Dev.commit; dsimp only
  apply Dev.commitStates_within
  · apply Dev.commitConfig_within
    · simp (maxDischargeDepth := 60) [*]
    all_goals (first | assumption | (intros; simp only [*]) | simp (maxDischargeDepth := 60) [*])
  all_goals (first | assumption | (intros; simp only [*]) | simp (maxDischargeDepth := 60) [*])

/-! ### Frame -/

@[simp] theorem Dev.detourOffset_within {my : May} {d0 : Dev} (d : Dev) (n : Nat) (h : Within my d0 d)
    (h1 : my.trk n = true) :
    Within my d0 (d.detourOffset n) := by
  simp (maxDischargeDepth := 60) [Dev.detourOffset, Lane.own, *]

@[simp] theorem Dev.snapLane_within {my : May} {d0 : Dev} (d : Dev) (n : Nat) (h : Within my d0 d)
    (h1 : my.reg .snapAcc n = true) (h2 : my.reg .snapFlags n = true) (h3 : ∀ k', my.reg .snapPos k' = true)
    (h4 : ∀ k', my.reg .snapT0 k' = true) (h5 : my.reg .snapVel n = true) (h6 : my.trk n = true) :
    Within my d0 (d.snapLane n) := by
  simp (maxDischargeDepth := 60) [Dev.snapLane, Lane.own, *]

@[simp] theorem Dev.snapEmu_within {my : May} {d0 : Dev} (d : Dev) (o : Nat) (h : Within my d0 d)
    (h1 : ∀ k', my.acq k' = true) (h2 : my.bbx = true) (h3 : my.emu o = true) (h4 : my.hlt = true)
    (h5 : ∀ k', my.lane k' = true) (h6 : ∀ k', my.loop k' = true) (h7 : ∀ k', my.map k' = true)
    (h8 : ∀ k', my.outputs d0 k') (h9 : ∀ k', my.prf k' = true) (h10 : my.reg .bbxStat 0 = true)
    (h11 : my.reg .emuBklg o = true) (h12 : my.reg .emuCnt o = true) (h13 : ∀ k', my.reg .emuCount k' = true)
    (h14 : ∀ k', my.reg .trkCnt k' = true) (h15 : ∀ k', my.trk k' = true) :
    Within my d0 (d.snapEmu o) := by
  simp (maxDischargeDepth := 60) [Dev.snapEmu, Lane.own, *]

@[simp] theorem Dev.snapshot_within {my : May} {d0 : Dev} (d : Dev) (h : Within my d0 d) (h1 : ∀ k', my.acq k' = true)
    (h2 : my.bbx = true) (h3 : my.crit = true) (h4 : ∀ k', my.emu k' = true) (h5 : my.hlt = true)
    (h6 : ∀ k', my.lane k' = true) (h7 : ∀ k', my.loop k' = true) (h8 : ∀ k', my.map k' = true)
    (h9 : ∀ k', my.mls k' = true) (h10 : ∀ k', my.outputs d0 k') (h11 : ∀ k', my.pfe k' = true)
    (h12 : ∀ k', my.pin k' = true) (h13 : ∀ k', my.prf k' = true) (h14 : my.reg .bbxStat 0 = true)
    (h15 : ∀ k', my.reg .emuBklg k' = true) (h16 : ∀ k', my.reg .emuCnt k' = true)
    (h17 : ∀ k', my.reg .emuCount k' = true) (h18 : ∀ k', my.reg .mlsCnt k' = true)
    (h19 : ∀ k', my.reg .mlsStat k' = true) (h20 : ∀ k', my.reg .pinCount k' = true)
    (h21 : ∀ k', my.reg .pinEdgeT k' = true) (h22 : ∀ k', my.reg .pinSpeed k' = true)
    (h23 : ∀ k', my.reg .snapAcc k' = true) (h24 : ∀ k', my.reg .snapFlags k' = true)
    (h25 : ∀ k', my.reg .snapPos k' = true) (h26 : ∀ k', my.reg .snapT0 k' = true) (h27 : ∀ k', my.reg .snapVel k' = true)
    (h28 : ∀ k', my.reg .trkCnt k' = true) (h29 : my.saf = true) (h30 : ∀ k', my.safLane k' = true)
    (h31 : ∀ k', my.trk k' = true) :
    Within my d0 (d.snapshot) := by
  unfold Dev.snapshot; (try dsimp only); simp_all (maxDischargeDepth := 60) [Lane.own]

@[simp] theorem Dev.aidPush_within {my : May} {d0 : Dev} (d : Dev) (n : Nat) (h : Within my d0 d) (h1 : my.trk n = true) :
    Within my d0 (d.aidPush n) := by
  simp (maxDischargeDepth := 60) [Dev.aidPush, Lane.own, *]

@[simp] theorem Dev.profileFrame_within {my : May} {d0 : Dev} (d : Dev) (es : List Staged) (ms : List (Nat × Nat))
    (n : Nat) (h : Within my d0 d) (h1 : my.acq n = true) (h2 : my.bbx = true) (h3 : my.lane n = true)
    (h4 : my.loop n = true) (h5 : my.map n = true) (h6 : my.outputs d0 n) (h7 : my.prf n = true)
    (h8 : my.reg .bbxStat 0 = true) (h9 : my.reg .mapSeg n = true) (h10 : my.reg .mapStat n = true)
    (h11 : my.reg .prfAp n = true) (h12 : my.reg .prfCnt n = true) (h13 : ∀ k', my.reg .prfPp k' = true)
    (h14 : my.reg .prfStat n = true) (h15 : ∀ k', my.reg .prfTarget k' = true) (h16 : my.reg .prfVp n = true)
    (h17 : my.reg .snapAcc n = true) (h18 : my.reg .snapFlags n = true) (h19 : ∀ k', my.reg .snapPos k' = true)
    (h20 : ∀ k', my.reg .snapT0 k' = true) (h21 : my.reg .snapVel n = true) (h22 : ∀ k', my.reg .supPos k' = true)
    (h23 : ∀ k', my.reg .supTgt k' = true) (h24 : my.reg .trkCnt n = true) (h25 : my.safLane n = true)
    (h26 : my.trk n = true) :
    Within my d0 (d.profileFrame es ms n).2 := by
  unfold Dev.profileFrame; (try dsimp only); (repeat' split) <;> simp_all (maxDischargeDepth := 60) [Lane.own]

@[simp] theorem Dev.engineFault_within {my : May} {d0 : Dev} (d : Dev) (n code ev : Nat) (data : List Byte)
    (h : Within my d0 d) (h1 : my.acq n = true) (h2 : my.bbx = true) (h3 : my.hlt = true) (h4 : my.lane n = true)
    (h5 : my.loop n = true) (h6 : my.map n = true) (h7 : my.outputs d0 n) (h8 : my.prf n = true)
    (h9 : my.reg .bbxStat 0 = true) (h10 : my.reg .safCnt n = true) (h11 : my.reg .trkCnt n = true)
    (h12 : my.trk n = true) :
    Within my d0 (d.engineFault n code ev data) := by
  simp (maxDischargeDepth := 60) [Dev.engineFault, Lane.own, *]

@[simp] theorem Dev.retryPassed_within {my : May} {d0 : Dev} (d : Dev) (n stage : Nat) (h : Within my d0 d)
    (h1 : my.bbx = true) (h2 : my.loop n = true) (h3 : my.reg .bbxStat 0 = true) (h4 : my.reg .coefCnt n = true)
    (h5 : my.reg .engRetry (clusterOf n) = true) :
    Within my d0 (d.retryPassed n stage) := by
  simp (maxDischargeDepth := 60) [Dev.retryPassed, Lane.own, *]

@[simp] theorem Dev.disturb_within {my : May} {d0 : Dev} (d : Dev) (x : Disturb) (h : Within my d0 d)
    (h1 : ∀ k', my.acq k' = true) (h2 : my.bbx = true) (h3 : my.hlt = true) (h4 : ∀ k', my.lane k' = true)
    (h5 : ∀ k', my.loop k' = true) (h6 : ∀ k', my.map k' = true) (h7 : ∀ k', my.outputs d0 k')
    (h8 : ∀ k', my.prf k' = true) (h9 : my.reg .bbxStat 0 = true) (h10 : ∀ k', my.reg .coefCnt k' = true)
    (h11 : ∀ k', my.reg .engFail k' = true) (h12 : ∀ k', my.reg .engRetry k' = true)
    (h13 : ∀ k', my.reg .safCnt k' = true) (h14 : ∀ k', my.reg .trkCnt k' = true) (h15 : ∀ k', my.trk k' = true) :
    Within my d0 (d.disturb x) := by
  unfold Dev.disturb; (try dsimp only); (repeat' split) <;> simp (maxDischargeDepth := 60) [Lane.own, *]

@[simp] theorem Dev.loopFrame_within {my : May} {d0 : Dev} (d : Dev) (n : Nat) (saved : Profile) (h : Within my d0 d)
    (h1 : my.acq n = true) (h2 : my.bbx = true) (h3 : my.hlt = true) (h4 : my.lane n = true) (h5 : my.loop n = true)
    (h6 : my.map n = true) (h7 : my.outputs d0 n) (h8 : my.prf n = true) (h9 : my.reg .bbxStat 0 = true)
    (h10 : ∀ k', my.reg .engOvf k' = true) (h11 : my.reg .safCnt n = true) (h12 : my.reg .trkCnt n = true)
    (h13 : my.trk n = true) :
    Within my d0 (d.loopFrame n saved) := by
  unfold Dev.loopFrame; (repeat' split) <;> simp (maxDischargeDepth := 60) [Lane.own, *]

@[simp] theorem Dev.compute_within {my : May} {d0 : Dev} (d : Dev) (es : List Staged) (ms : List (Nat × Nat))
    (ds : List Disturb) (h : Within my d0 d) (h1 : ∀ k', my.acq k' = true) (h2 : my.bbx = true) (h3 : my.hlt = true)
    (h4 : ∀ k', my.lane k' = true) (h5 : ∀ k', my.loop k' = true) (h6 : ∀ k', my.map k' = true)
    (h7 : ∀ k', my.outputs d0 k') (h8 : ∀ k', my.prf k' = true) (h9 : my.reg .bbxStat 0 = true)
    (h10 : ∀ k', my.reg .coefCnt k' = true) (h11 : ∀ k', my.reg .engFail k' = true) (h12 : ∀ k', my.reg .engOvf k' = true)
    (h13 : ∀ k', my.reg .engRetry k' = true) (h14 : ∀ k', my.reg .mapSeg k' = true)
    (h15 : ∀ k', my.reg .mapStat k' = true) (h16 : ∀ k', my.reg .prfAp k' = true) (h17 : ∀ k', my.reg .prfCnt k' = true)
    (h18 : ∀ k', my.reg .prfPp k' = true) (h19 : ∀ k', my.reg .prfStat k' = true)
    (h20 : ∀ k', my.reg .prfTarget k' = true) (h21 : ∀ k', my.reg .prfVp k' = true) (h22 : ∀ k', my.reg .safCnt k' = true)
    (h23 : ∀ k', my.reg .snapAcc k' = true) (h24 : ∀ k', my.reg .snapFlags k' = true)
    (h25 : ∀ k', my.reg .snapPos k' = true) (h26 : ∀ k', my.reg .snapT0 k' = true) (h27 : ∀ k', my.reg .snapVel k' = true)
    (h28 : ∀ k', my.reg .supPos k' = true) (h29 : ∀ k', my.reg .supTgt k' = true) (h30 : ∀ k', my.reg .trkCnt k' = true)
    (h31 : ∀ k', my.safLane k' = true) (h32 : ∀ k', my.trk k' = true) (h33 : ∀ k', my.vm k' = true) :
    Within my d0 (d.compute es ms ds) := by
  unfold Dev.compute; (try dsimp only); simp_all (maxDischargeDepth := 60) [Lane.own]

@[simp] theorem Dev.closeFrame_within {my : May} {d0 : Dev} (d : Dev) (h : Within my d0 d) (h1 : ∀ k', my.lane k' = true)
    (h2 : ∀ k', my.loop k' = true) (h3 : ∀ k', my.prf k' = true) :
    Within my d0 (d.closeFrame) := by
  unfold Dev.closeFrame; simp_all (maxDischargeDepth := 60) [Lane.own]

@[simp] theorem Dev.frameTick_within {my : May} {d0 : Dev} (d : Dev) (ds : List Disturb) (h : Within my d0 d)
    (h1 : ∀ k', my.acq k' = true) (h2 : my.bbx = true) (h3 : ∀ k', my.conn k' = true) (h4 : my.crit = true)
    (h5 : ∀ k', my.detour d0 k') (h6 : ∀ k', my.emu k' = true) (h7 : ∀ k', my.group k' = true) (h8 : my.hlt = true)
    (h9 : ∀ k', my.lane k' = true) (h10 : ∀ k', my.loop k' = true) (h11 : ∀ k', my.map k' = true)
    (h12 : ∀ k', my.mls k' = true) (h13 : ∀ k', my.outputs d0 k') (h14 : ∀ k', my.pfe k' = true)
    (h15 : ∀ k', my.pin k' = true) (h16 : ∀ k', my.port k' = true) (h17 : ∀ k', my.prf k' = true) (h18 : my.pwr = true)
    (h19 : ∀ i' k', my.reg i' k' = true) (h20 : my.saf = true) (h21 : ∀ k', my.safLane k' = true) (h22 : my.staged = true)
    (h23 : my.time = true) (h24 : my.trc = true) (h25 : ∀ k', my.trk k' = true) (h26 : ∀ k', my.vm k' = true) :
    Within my d0 (d.frameTick ds) := by
  have hb : Within my d0 ((d.traceEarly d.trcTake).closeFrame.issueTick.applyStep.takeSource).barrierConsequences := by
    have ha : Within my d0 (d.traceEarly d.trcTake) := by
      apply Dev.traceEarly_within <;> first | assumption | (intros; simp only [*])
    apply Dev.barrierConsequences_within
    · apply Dev.takeSource_within
      · apply Dev.applyStep_within
        · apply Dev.issueTick_within
          · apply Dev.closeFrame_within <;> first | assumption | (intros; simp only [*])
          all_goals first | assumption | (intros; simp only [*])
        all_goals first | assumption | (intros; simp only [*])
      all_goals first | assumption | (intros; simp only [*])
    all_goals first | assumption | (intros; simp only [*])
  have hc : ∀ e, Within my d0 e → Within my d0 e.commit.2.2 := fun e he => by
    apply Dev.commit_within <;> first | assumption | (intros; simp only [*])
  have hs : ∀ e x, Within my d0 e → Within my d0 (e.snapshot.traceLate x) := fun e x he => by
    apply Dev.traceLate_within
    · apply Dev.snapshot_within <;> first | assumption | (intros; simp only [*])
    all_goals first | assumption | (intros; simp only [*])
  have hk : ∀ e es ms, Within my d0 e → Within my d0 (e.compute es ms ds) := fun e es ms he => by
    apply Dev.compute_within <;> first | assumption | (intros; simp only [*])
  have ht : ∀ e k, Within my d0 e → Within my d0 (e.traceCapture k) := fun e k he => by
    apply Dev.traceCapture_within <;> first | assumption | (intros; simp only [*])
  unfold Dev.frameTick
  revert hb
  dsimp only
  generalize d.trcTake = y
  generalize ((d.traceEarly y).closeFrame.issueTick.applyStep.takeSource).barrierConsequences = e
  intro hb
  have hf := hc e hb
  revert hf
  generalize e.commit = c
  intro hf
  exact ht _ _ (hk _ _ _ (hs _ _ hf))

@[simp] theorem Dev.laneLate_within {my : May} {d0 : Dev} (d : Dev) (n : Nat) (h : Within my d0 d) (h1 : my.acq n = true)
    (h2 : my.bbx = true) (h3 : my.hlt = true) (h4 : my.lane n = true) (h5 : my.loop n = true) (h6 : my.map n = true)
    (h7 : my.outputs d0 n) (h8 : my.prf n = true) (h9 : my.reg .bbxStat 0 = true) (h10 : my.reg .frmLateAll 0 = true)
    (h11 : my.reg .frmLateCnt n = true) (h12 : my.reg .safCnt n = true) (h13 : my.reg .trkCnt n = true)
    (h14 : my.trk n = true) :
    Within my d0 (d.laneLate n) := by
  simp (maxDischargeDepth := 60) [Dev.laneLate, Lane.own, *]

@[simp] theorem Dev.laneOnTime_within {my : May} {d0 : Dev} (d : Dev) (n : Nat) (h : Within my d0 d)
    (h1 : my.acq n = true) (h2 : my.bbx = true) (h3 : my.hlt = true) (h4 : my.lane n = true) (h5 : my.loop n = true)
    (h6 : my.map n = true) (h7 : my.outputs d0 n) (h8 : my.prf n = true) (h9 : my.reg .bbxStat 0 = true)
    (h10 : my.reg .coefStat n = true) (h11 : my.reg .iP n = true) (h12 : my.reg .iT n = true) (h13 : my.reg .iV n = true)
    (h14 : my.reg .loopStat n = true) (h15 : my.reg .posErr n = true) (h16 : ∀ k', my.reg .stageExp k' = true)
    (h17 : my.reg .trkCnt n = true) (h18 : my.reg .trmOut n = true) (h19 : my.reg .velDem n = true)
    (h20 : my.reg .velErr n = true) (h21 : my.trk n = true) :
    Within my d0 (d.laneOnTime n) := by
  unfold Dev.laneOnTime; (try dsimp only); simp_all (maxDischargeDepth := 60) [Lane.own]

@[simp] theorem Dev.layBy_within {my : May} {d0 : Dev} (d : Dev) (n : Nat) (h : Within my d0 d) (h1 : my.prf n = true)
    (h2 : my.reg .dmdFf n = true) (h3 : my.reg .dmdOut n = true) (h4 : ∀ k', my.reg .posDem k' = true)
    (h5 : my.trk n = true) :
    Within my d0 (d.layBy n) := by
  unfold Dev.layBy; (try dsimp only); (repeat' split) <;> simp_all (maxDischargeDepth := 60) [Lane.own]

@[simp] theorem Dev.liveOutputs_within {my : May} {d0 : Dev} (d : Dev) (n : Nat) (w : LaneWork) (h : Within my d0 d)
    (h1 : my.bbx = true) (h2 : ∀ k', my.emu k' = true) (h3 : my.outputs d0 n) (h4 : my.reg .bbxStat 0 = true)
    (h5 : my.reg .dmdFf n = true) (h6 : my.reg .dmdOut n = true) (h7 : ∀ k', my.reg .posDem k' = true)
    (h8 : my.trk n = true) :
    Within my d0 (d.liveOutputs n w) := by
  unfold Dev.liveOutputs; (try dsimp only); simp_all (maxDischargeDepth := 60) [Lane.own]

@[simp] theorem Dev.laneOutputs_within {my : May} {d0 : Dev} (d : Dev) (n : Nat) (w : Option LaneWork) (late : Bool)
    (h : Within my d0 d) (h1 : my.bbx = true) (h2 : ∀ k', my.emu k' = true) (h3 : my.outputs d0 n) (h4 : my.prf n = true)
    (h5 : my.reg .bbxStat 0 = true) (h6 : my.reg .dmdFf n = true) (h7 : my.reg .dmdOut n = true)
    (h8 : ∀ k', my.reg .posDem k' = true) (h9 : my.trk n = true) :
    Within my d0 (d.laneOutputs n w late) := by
  unfold Dev.laneOutputs; (try dsimp only); (repeat' split) <;> simp (maxDischargeDepth := 60) [Lane.own, *]

@[simp] theorem Dev.publish_within {my : May} {d0 : Dev} (d : Dev) (h : Within my d0 d) (h1 : my.bbx = true)
    (h2 : ∀ k', my.conn k' = true) (h3 : ∀ k', my.port k' = true) (h4 : ∀ k', my.reg .laneStat k' = true)
    (h5 : my.ro = true) (h6 : ∀ k', my.safLane k' = true) (h7 : my.trc = true) :
    Within my d0 (d.publish) := by
  unfold Dev.publish; dsimp only
  refine Within.setRo (Within.onBbx (Within.forEach (Dev.traceStat_within _ (Within.forEach h _ _ fun n e he => ?_) ?_) _ _ fun n e he => ?_) _ ?_) _ ?_
  all_goals (first | assumption | (intros; simp only [*]) | simp (maxDischargeDepth := 60) [*])

@[simp] theorem Dev.outputJunction_within {my : May} {d0 : Dev} (d : Dev) (late : List Nat) (h : Within my d0 d)
    (h1 : ∀ k', my.acq k' = true) (h2 : my.bbx = true) (h3 : ∀ k', my.conn k' = true) (h4 : ∀ k', my.emu k' = true)
    (h5 : my.hlt = true) (h6 : ∀ k', my.lane k' = true) (h7 : ∀ k', my.loop k' = true) (h8 : ∀ k', my.map k' = true)
    (h9 : ∀ k', my.outputs d0 k') (h10 : ∀ k', my.port k' = true) (h11 : ∀ k', my.prf k' = true)
    (h12 : my.reg .bbxStat 0 = true) (h13 : ∀ k', my.reg .coefStat k' = true) (h14 : ∀ k', my.reg .dmdFf k' = true)
    (h15 : ∀ k', my.reg .dmdOut k' = true) (h16 : my.reg .frmLateAll 0 = true) (h17 : ∀ k', my.reg .frmLateCnt k' = true)
    (h18 : ∀ k', my.reg .iP k' = true) (h19 : ∀ k', my.reg .iT k' = true) (h20 : ∀ k', my.reg .iV k' = true)
    (h21 : ∀ k', my.reg .laneStat k' = true) (h22 : ∀ k', my.reg .loopStat k' = true)
    (h23 : ∀ k', my.reg .posDem k' = true) (h24 : ∀ k', my.reg .posErr k' = true) (h25 : ∀ k', my.reg .safCnt k' = true)
    (h26 : ∀ k', my.reg .stageExp k' = true) (h27 : ∀ k', my.reg .trkCnt k' = true) (h28 : ∀ k', my.reg .trmOut k' = true)
    (h29 : ∀ k', my.reg .velDem k' = true) (h30 : ∀ k', my.reg .velErr k' = true) (h31 : my.ro = true)
    (h32 : ∀ k', my.safLane k' = true) (h33 : my.time = true) (h34 : my.trc = true) (h35 : ∀ k', my.trk k' = true) :
    Within my d0 (d.outputJunction late) := by
  unfold Dev.outputJunction
  split
  · exact h
  · dsimp only
    apply Dev.publish_within
    · refine Within.foldl (Within.foldl ?_ _ _ fun e a he => ?_) _ _ fun e a he => ?_
      · simp (maxDischargeDepth := 60) [*]
      · split <;> simp (maxDischargeDepth := 60) [*]
      · simp (maxDischargeDepth := 60) [*]
    all_goals (first | assumption | (intros; simp only [*]) | simp (maxDischargeDepth := 60) [*])

@[simp] theorem Dev.lateComplete_within {my : May} {d0 : Dev} (d : Dev) (n : Nat) (h : Within my d0 d)
    (h1 : ∀ k', my.acq k' = true) (h2 : my.bbx = true) (h3 : my.hlt = true) (h4 : ∀ k', my.lane k' = true)
    (h5 : ∀ k', my.loop k' = true) (h6 : ∀ k', my.map k' = true) (h7 : ∀ k', my.outputs d0 k')
    (h8 : ∀ k', my.prf k' = true) (h9 : my.reg .bbxStat 0 = true) (h10 : ∀ k', my.reg .coefCnt k' = true)
    (h11 : my.reg .coefStat n = true) (h12 : ∀ k', my.reg .engFail k' = true) (h13 : ∀ k', my.reg .engRetry k' = true)
    (h14 : my.reg .iP n = true) (h15 : my.reg .iT n = true) (h16 : my.reg .iV n = true) (h17 : my.reg .loopStat n = true)
    (h18 : my.reg .posErr n = true) (h19 : ∀ k', my.reg .safCnt k' = true) (h20 : ∀ k', my.reg .stageExp k' = true)
    (h21 : ∀ k', my.reg .trkCnt k' = true) (h22 : my.reg .trmOut n = true) (h23 : my.reg .velDem n = true)
    (h24 : my.reg .velErr n = true) (h25 : ∀ k', my.trk k' = true) :
    Within my d0 (d.lateComplete n) := by
  unfold Dev.lateComplete; (try dsimp only); (repeat' split) <;> simp_all (maxDischargeDepth := 60) [Lane.own]

@[simp] theorem Dev.timedDue_within {my : May} {d0 : Dev} (d : Dev) (lane : Nat) (h : Within my d0 d)
    (h1 : ∀ k', my.acq k' = true) (h2 : my.bbx = true) (h3 : ∀ k', my.detour d0 k') (h4 : ∀ k', my.emu k' = true)
    (h5 : ∀ k', my.group k' = true) (h6 : my.hlt = true) (h7 : ∀ k', my.lane k' = true) (h8 : ∀ k', my.map k' = true)
    (h9 : ∀ k', my.outputs d0 k') (h10 : ∀ k', my.pfe k' = true) (h11 : ∀ k', my.pin k' = true)
    (h12 : ∀ k', my.prf k' = true) (h13 : ∀ i' k', my.reg i' k' = true) (h14 : my.staged = true)
    (h15 : ∀ k', my.trk k' = true) (h16 : ∀ k', my.vm k' = true) :
    Within my d0 (d.timedDue lane) := by
  unfold Dev.timedDue; dsimp only
  have hw : ∀ (l : List Staged) (es : List Staged), Within my d0 (({ d with staged := l } : Dev).commitWords es |>.commitMasters es) := by
    intro l es
    apply Dev.commitMasters_within
    · apply Dev.commitWords_within
      · exact Within.setStaged h _ (by assumption)
      all_goals (first | assumption | (intros; simp only [*]) | simp (maxDischargeDepth := 60) [*])
    all_goals (first | assumption | (intros; simp only [*]) | simp (maxDischargeDepth := 60) [*])
  split
  · exact h
  · split
    · exact hw _ _
    · apply Dev.prfCommands_within
      · exact hw _ _
      all_goals (first | assumption | (intros; simp only [*]) | simp (maxDischargeDepth := 60) [*])

/-! ### EvFrame -/

@[simp] theorem Dev.selfTest_within {my : May} {d0 : Dev} (d : Dev) (c : Nat) (started : Time) (failing : Option Nat)
    (h : Within my d0 d) (h1 : my.bbx = true) (h2 : my.cluster c = true) (h3 : my.hlt = true)
    (h4 : ∀ k, my.port k = true) (h5 : my.reg .bbxStat 0 = true) (h6 : my.reg .fwCnt 0 = true)
    (h7 : my.reg .hltStat 0 = true) (h8 : my.staged = true) : Within my d0 (d.selfTest c started failing) := by
  unfold Dev.selfTest; dsimp only; (repeat' split) <;> simp (maxDischargeDepth := 60) [*]

end Sys2Proof.Machine
end

