-- ==== Sys2Proof/Laws/Keeps.lean ====
section
/-! SUPPORT. Frames of the shared forms of a command: what `f` changes is what the command changes. -/
namespace Sys2Proof.Machine
open Sys2Proof

variable {m : May} {s : State} {f : Dev → Dev}

/-- The outcome keeps the queue and changes the device within `m`. -/
def Leaves (m : May) (s : State) (o : Host.Outcome State Fault Refusal) : Prop :=
  NextOr o fun t => t.pending = s.pending ∧ Within m s.dev t.dev

theorem keeps_iff (c : Instr) (s : State) (m : May) : Keeps c s m ↔ Leaves m s (Machine.exec c s) := .rfl

theorem Leaves.onDev (h : Within m s.dev (f s.dev)) : Leaves m s (onDev s f) := ⟨rfl, h⟩

theorem Leaves.onUnit (present : Dev → Bool) (h : Within m s.dev (f s.dev)) : Leaves m s (onUnit present s f) := by
  unfold Machine.onUnit
  split
  · exact Leaves.onDev h
  · trivial

theorem Leaves.onExpiry (present : Dev → Bool) (h : Within m s.dev (f s.dev)) : Leaves m s (onExpiry present s f) := by
  refine Leaves.onUnit _ ?_
  unfold Dev.when
  split
  · exact h
  · exact Within.refl _ _

theorem Leaves.onEvent (present : Dev → Bool) (t : Time) (h : Within m s.dev (f (s.dev.at t))) :
    Leaves m s (onEvent present s t f) := by
  unfold Machine.onEvent
  refine Leaves.onUnit _ ?_
  dsimp only
  split
  · exact h
  · exact (Within.refl _ _).at _

theorem Leaves.onMgmt (present : Dev → Bool) (t : Time) (h : Within m s.dev (f (s.dev.at t))) :
    Leaves m s (onMgmt present s t f) := by
  refine Leaves.onEvent _ _ ?_
  unfold Dev.when
  split
  · exact h
  · exact (Within.refl _ _).at _

theorem Leaves.onLaneEvent (t : Time) (n : Nat) (h : Within m s.dev ((f (s.dev.at t)).settleFault n)) :
    Leaves m s (onLaneEvent s t n f) := Leaves.onEvent _ _ h

theorem Leaves.onPinLevel (t : Time) (h : Within m s.dev (f (s.dev.at t))) : Leaves m s (onPinLevel s t f) :=
  Leaves.onDev h

/-- An event of a pulse input leaves the lanes alone that are not on their detour through it. -/
theorem Leaves.onPinEvent (t : Time) (i : Nat) (h : Within m s.dev (f (s.dev.at t)))
    (hs : ∀ n, (s.dev.lane n).trk.detour = true → s.dev.detSrc n = i → ∀ e, Within m s.dev e →
      Within m s.dev (e.settleFault n)) : Leaves m s (onPinEvent s t i f) := by
  refine Leaves.onEvent _ _ (Within.forEach_mem h _ _ fun n hn e he => ?_)
  have := (List.mem_filter.1 hn).2
  simp only [Bool.and_eq_true, decide_eq_true_eq] at this
  exact hs n this.1 this.2 e he

/-! ### The same for a command whose meaning has the form -/

variable {c : Instr}

theorem Keeps.of_dev (hc : Machine.exec c s = onDev s f) (h : Within m s.dev (f s.dev)) : Keeps c s m :=
  (keeps_iff c s m).2 (hc ▸ Leaves.onDev h)
theorem Keeps.of_unit {p : Dev → Bool} (hc : Machine.exec c s = onUnit p s f) (h : Within m s.dev (f s.dev)) : Keeps c s m :=
  (keeps_iff c s m).2 (hc ▸ Leaves.onUnit _ h)
theorem Keeps.of_expiry {p : Dev → Bool} (hc : Machine.exec c s = onExpiry p s f) (h : Within m s.dev (f s.dev)) : Keeps c s m :=
  (keeps_iff c s m).2 (hc ▸ Leaves.onExpiry _ h)
theorem Keeps.of_event {p : Dev → Bool} {t : Time} (hc : Machine.exec c s = onEvent p s t f)
    (h : Within m s.dev (f (s.dev.at t))) : Keeps c s m := (keeps_iff c s m).2 (hc ▸ Leaves.onEvent _ _ h)
theorem Keeps.of_mgmt {p : Dev → Bool} {t : Time} (hc : Machine.exec c s = onMgmt p s t f)
    (h : Within m s.dev (f (s.dev.at t))) : Keeps c s m := (keeps_iff c s m).2 (hc ▸ Leaves.onMgmt _ _ h)
theorem Keeps.of_lane {t : Time} {n : Nat} (hc : Machine.exec c s = onLaneEvent s t n f)
    (h : Within m s.dev ((f (s.dev.at t)).settleFault n)) : Keeps c s m := (keeps_iff c s m).2 (hc ▸ Leaves.onLaneEvent _ _ h)
theorem Keeps.of_level {t : Time} (hc : Machine.exec c s = onPinLevel s t f) (h : Within m s.dev (f (s.dev.at t))) :
    Keeps c s m := (keeps_iff c s m).2 (hc ▸ Leaves.onPinLevel _ h)
theorem Keeps.of_pin {t : Time} {i : Nat} (hc : Machine.exec c s = onPinEvent s t i f) (h : Within m s.dev (f (s.dev.at t)))
    (hs : ∀ n, (s.dev.lane n).trk.detour = true → s.dev.detSrc n = i → ∀ e, Within m s.dev e →
      Within m s.dev (e.settleFault n)) : Keeps c s m := (keeps_iff c s m).2 (hc ▸ Leaves.onPinEvent _ _ h hs)

/-- The outputs of a lane of `p` may change where those of all lanes of `p` may and the assignments stand. -/
theorem May.outputs_of {m : May} {d : Dev} {p : Nat → Bool} {n : Nat} (hp : p n = true) (hl : ∀ o, m.reg .emuLane o = false)
    (he : ∀ o, p (d.emuLane o) = true → m.emu o = true ∧ m.reg .emuStat o = true ∧ m.reg .emuCnt o = true) :
    m.outputs d n := .inr ⟨hl, fun o ho => he o (by rw [ho]; exact hp)⟩

/-! ### The outputs, detours and milestone units that a frame names, for `simp` -/

theorem May.outputs_iff (m : May) (d : Dev) (n : Nat) : m.outputs d n ↔
    (∀ o, m.emu o = true ∧ m.reg .emuStat o = true ∧ m.reg .emuCnt o = true) ∨ ((∀ o, m.reg .emuLane o = false) ∧
      ∀ o, d.emuLane o = n → m.emu o = true ∧ m.reg .emuStat o = true ∧ m.reg .emuCnt o = true) := ⟨id, id⟩

theorem May.detour_iff (m : May) (d : Dev) (i : Nat) : m.detour d i ↔
    (∀ n, m.trk n = true ∧ m.lane n = true ∧ m.acq n = true ∧ m.loop n = true ∧ m.map n = true ∧ m.outputs d n) ∨
    ((∀ n, m.reg .detCtrl n = false) ∧ ∀ n, (d.lane n).trk.detour = true ∧ d.detSrc n = i ∨ m.trk n = true →
      m.trk n = true ∧ m.lane n = true ∧ m.acq n = true ∧ m.loop n = true ∧ m.map n = true ∧ m.outputs d n) := ⟨id, id⟩

theorem May.mlsOf_iff (m : May) (d : Dev) (i : Nat) : m.mlsOf d i ↔
    (∀ j, m.mls j = true ∧ m.reg .mlsCnt j = true ∧ m.reg .mlsStat j = true) ∨ ((∀ j, m.reg .mlsCtrl j = false) ∧
      ∀ j, d.mlsSrc j = i → m.mls j = true ∧ m.reg .mlsCnt j = true ∧ m.reg .mlsStat j = true) := ⟨id, id⟩

end Sys2Proof.Machine
end

