-- ==== Sys2Proof/Laws/Log.lean ====
section
/-! SUPPORT. What the black box's event, commit trigger and a lane fault leave of each field. -/
namespace Sys2Proof.Machine

/-- An event is dropped and counted, or put into the ring. -/
theorem Dev.logEvent_cases (d : Dev) (code kind idx : Nat) (data : List Byte) :
    (∃ f : BlackBox → BlackBox, d.logEvent code kind idx data = (d.onBbx f).addCnt .bbxStat 0 16 16 ∧
      ∀ b, f b = { b with dropRun := b.dropRun + 1 }) ∨
    ∃ f : BlackBox → BlackBox, d.logEvent code kind idx data = d.onBbx f ∧
      ∀ b, (f b).snaps = b.snaps ∧ (f b).running = b.running ∧ (f b).lastStart = b.lastStart ∧ (f b).waiting = b.waiting ∧
        (f b).commit = b.commit := by
  unfold Dev.logEvent; dsimp only; split
  · exact .inl ⟨_, rfl, fun _ => rfl⟩
  · exact .inr ⟨_, rfl, fun b => by unfold BlackBox.push; dsimp only; split <;> exact ⟨rfl, rfl, rfl, rfl, rfl⟩⟩

@[simp] theorem Dev.logEvent_now (d : Dev) (code kind idx : Nat) (data : List Byte) : (d.logEvent code kind idx data).now = d.now := by
  obtain ⟨f, e, -⟩ | ⟨f, e, -⟩ := d.logEvent_cases code kind idx data <;> rw [e] <;> rfl
@[simp] theorem Dev.logEvent_crit (d : Dev) (code kind idx : Nat) (data : List Byte) : (d.logEvent code kind idx data).crit = d.crit := by
  obtain ⟨f, e, -⟩ | ⟨f, e, -⟩ := d.logEvent_cases code kind idx data <;> rw [e] <;> rfl
@[simp] theorem Dev.logEvent_staged (d : Dev) (code kind idx : Nat) (data : List Byte) : (d.logEvent code kind idx data).staged = d.staged := by
  obtain ⟨f, e, -⟩ | ⟨f, e, -⟩ := d.logEvent_cases code kind idx data <;> rw [e] <;> rfl
@[simp] theorem Dev.logEvent_freeCtr (d : Dev) (code kind idx : Nat) (data : List Byte) : (d.logEvent code kind idx data).freeCtr = d.freeCtr := by
  obtain ⟨f, e, -⟩ | ⟨f, e, -⟩ := d.logEvent_cases code kind idx data <;> rw [e] <;> rfl
@[simp] theorem Dev.logEvent_variant (d : Dev) (code kind idx : Nat) (data : List Byte) : (d.logEvent code kind idx data).variant = d.variant := by
  obtain ⟨f, e, -⟩ | ⟨f, e, -⟩ := d.logEvent_cases code kind idx data <;> rw [e] <;> rfl
@[simp] theorem Dev.logEvent_time (d : Dev) (code kind idx : Nat) (data : List Byte) : (d.logEvent code kind idx data).time = d.time := by
  obtain ⟨f, e, -⟩ | ⟨f, e, -⟩ := d.logEvent_cases code kind idx data <;> rw [e] <;> rfl
@[simp] theorem Dev.logEvent_lanes (d : Dev) (code kind idx : Nat) (data : List Byte) : (d.logEvent code kind idx data).lanes = d.lanes := by
  obtain ⟨f, e, -⟩ | ⟨f, e, -⟩ := d.logEvent_cases code kind idx data <;> rw [e] <;> rfl
@[simp] theorem Dev.logEvent_groups (d : Dev) (code kind idx : Nat) (data : List Byte) : (d.logEvent code kind idx data).groups = d.groups := by
  obtain ⟨f, e, -⟩ | ⟨f, e, -⟩ := d.logEvent_cases code kind idx data <;> rw [e] <;> rfl
@[simp] theorem Dev.logEvent_hlt (d : Dev) (code kind idx : Nat) (data : List Byte) : (d.logEvent code kind idx data).hlt = d.hlt := by
  obtain ⟨f, e, -⟩ | ⟨f, e, -⟩ := d.logEvent_cases code kind idx data <;> rw [e] <;> rfl
@[simp] theorem Dev.logEvent_ports (d : Dev) (code kind idx : Nat) (data : List Byte) : (d.logEvent code kind idx data).ports = d.ports := by
  obtain ⟨f, e, -⟩ | ⟨f, e, -⟩ := d.logEvent_cases code kind idx data <;> rw [e] <;> rfl
@[simp] theorem Dev.logEvent_serveNext (d : Dev) (code kind idx : Nat) (data : List Byte) : (d.logEvent code kind idx data).serveNext = d.serveNext := by
  obtain ⟨f, e, -⟩ | ⟨f, e, -⟩ := d.logEvent_cases code kind idx data <;> rw [e] <;> rfl
@[simp] theorem Dev.logEvent_pwr (d : Dev) (code kind idx : Nat) (data : List Byte) : (d.logEvent code kind idx data).pwr = d.pwr := by
  obtain ⟨f, e, -⟩ | ⟨f, e, -⟩ := d.logEvent_cases code kind idx data <;> rw [e] <;> rfl
@[simp] theorem Dev.logEvent_pins (d : Dev) (code kind idx : Nat) (data : List Byte) : (d.logEvent code kind idx data).pins = d.pins := by
  obtain ⟨f, e, -⟩ | ⟨f, e, -⟩ := d.logEvent_cases code kind idx data <;> rw [e] <;> rfl
@[simp] theorem Dev.logEvent_mls (d : Dev) (code kind idx : Nat) (data : List Byte) : (d.logEvent code kind idx data).mls = d.mls := by
  obtain ⟨f, e, -⟩ | ⟨f, e, -⟩ := d.logEvent_cases code kind idx data <;> rw [e] <;> rfl
@[simp] theorem Dev.logEvent_emus (d : Dev) (code kind idx : Nat) (data : List Byte) : (d.logEvent code kind idx data).emus = d.emus := by
  obtain ⟨f, e, -⟩ | ⟨f, e, -⟩ := d.logEvent_cases code kind idx data <;> rw [e] <;> rfl
@[simp] theorem Dev.logEvent_clusters (d : Dev) (code kind idx : Nat) (data : List Byte) : (d.logEvent code kind idx data).clusters = d.clusters := by
  obtain ⟨f, e, -⟩ | ⟨f, e, -⟩ := d.logEvent_cases code kind idx data <;> rw [e] <;> rfl
@[simp] theorem Dev.logEvent_vms (d : Dev) (code kind idx : Nat) (data : List Byte) : (d.logEvent code kind idx data).vms = d.vms := by
  obtain ⟨f, e, -⟩ | ⟨f, e, -⟩ := d.logEvent_cases code kind idx data <;> rw [e] <;> rfl
@[simp] theorem Dev.logEvent_pfe (d : Dev) (code kind idx : Nat) (data : List Byte) : (d.logEvent code kind idx data).pfe = d.pfe := by
  obtain ⟨f, e, -⟩ | ⟨f, e, -⟩ := d.logEvent_cases code kind idx data <;> rw [e] <;> rfl
@[simp] theorem Dev.logEvent_trc (d : Dev) (code kind idx : Nat) (data : List Byte) : (d.logEvent code kind idx data).trc = d.trc := by
  obtain ⟨f, e, -⟩ | ⟨f, e, -⟩ := d.logEvent_cases code kind idx data <;> rw [e] <;> rfl
@[simp] theorem Dev.logEvent_saf (d : Dev) (code kind idx : Nat) (data : List Byte) : (d.logEvent code kind idx data).saf = d.saf := by
  obtain ⟨f, e, -⟩ | ⟨f, e, -⟩ := d.logEvent_cases code kind idx data <;> rw [e] <;> rfl
@[simp] theorem Dev.logEvent_ro (d : Dev) (code kind idx : Nat) (data : List Byte) : (d.logEvent code kind idx data).ro = d.ro := by
  obtain ⟨f, e, -⟩ | ⟨f, e, -⟩ := d.logEvent_cases code kind idx data <;> rw [e] <;> rfl
@[simp] theorem Dev.logEvent_bbx_snaps (d : Dev) (code kind idx : Nat) (data : List Byte) : (d.logEvent code kind idx data).bbx.snaps = d.bbx.snaps := by
  obtain ⟨f, e, h⟩ | ⟨f, e, h⟩ := d.logEvent_cases code kind idx data <;> rw [e] <;> simp [h]
@[simp] theorem Dev.logEvent_bbx_running (d : Dev) (code kind idx : Nat) (data : List Byte) : (d.logEvent code kind idx data).bbx.running = d.bbx.running := by
  obtain ⟨f, e, h⟩ | ⟨f, e, h⟩ := d.logEvent_cases code kind idx data <;> rw [e] <;> simp [h]
@[simp] theorem Dev.logEvent_bbx_lastStart (d : Dev) (code kind idx : Nat) (data : List Byte) : (d.logEvent code kind idx data).bbx.lastStart = d.bbx.lastStart := by
  obtain ⟨f, e, h⟩ | ⟨f, e, h⟩ := d.logEvent_cases code kind idx data <;> rw [e] <;> simp [h]
@[simp] theorem Dev.logEvent_bbx_waiting (d : Dev) (code kind idx : Nat) (data : List Byte) : (d.logEvent code kind idx data).bbx.waiting = d.bbx.waiting := by
  obtain ⟨f, e, h⟩ | ⟨f, e, h⟩ := d.logEvent_cases code kind idx data <;> rw [e] <;> simp [h]
@[simp] theorem Dev.logEvent_bbx_commit (d : Dev) (code kind idx : Nat) (data : List Byte) : (d.logEvent code kind idx data).bbx.commit = d.bbx.commit := by
  obtain ⟨f, e, h⟩ | ⟨f, e, h⟩ := d.logEvent_cases code kind idx data <;> rw [e] <;> simp [h]
/-- Of the registers, an event counts in `BBX_STAT` when it is dropped. -/
theorem Dev.logEvent_reg (d : Dev) (code kind idx : Nat) (data : List Byte) {i : RegId} {k : Nat} (h : i ≠ .bbxStat) :
    (d.logEvent code kind idx data).reg i k = d.reg i k := by
  unfold Dev.logEvent; dsimp only; split
  · exact Dev.reg_setReg_ne _ _ fun e => h e.1
  · rfl

/-- A commit trigger starts the commit, or moves only what the black box keeps of one that runs or waits. -/
theorem Dev.bbxTrigger_cases (d : Dev) (kind : Nat) :
    (∃ f : BlackBox → BlackBox, d.bbxTrigger kind = d.onBbx f ∧ ((f d.bbx).running.isSome = true ∨ (f d.bbx).waiting.isSome = true)) ∨
    d.bbxTrigger kind = d.startCommit kind d.now 0 := by
  unfold Dev.bbxTrigger
  split
  · rename_i r hr
    repeat' split
    all_goals exact .inl ⟨_, rfl, by simp [hr]⟩
  · split
    · split
      · exact .inl ⟨_, rfl, by simp⟩
      · rename_i hk _ _; subst hk; dsimp only; repeat' split
        all_goals first | exact .inr rfl | exact .inl ⟨_, rfl, by simp⟩
    · split
      · exact .inr rfl
      · exact .inl ⟨_, rfl, by simp⟩

/-- A lane fault changes the lane, and triggers a commit where the lane enters FAULT. -/
theorem Dev.laneFault_cases (d : Dev) (n code arg : Nat) : d.laneFault n code arg = d ∨ (∃ f, d.laneFault n code arg = d.onLane n f) ∨
    ∃ f, d.laneFault n code arg = (d.onLane n f).bbxTrigger 5 := by
  unfold Dev.laneFault; dsimp only; split
  · exact .inl rfl
  · split
    · exact .inr (.inl ⟨_, rfl⟩)
    · exact .inr (.inr ⟨_, rfl⟩)

@[simp] theorem Dev.bbxTrigger_now (d : Dev) (kind : Nat) : (d.bbxTrigger kind).now = d.now := by
  obtain ⟨f, e, -⟩ | e := d.bbxTrigger_cases kind <;> rw [e]
  · rfl
  · simp [Dev.startCommit, Dev.saveOdo, Dev.mramWrite, Dev.countHours]
@[simp] theorem Dev.bbxTrigger_crit (d : Dev) (kind : Nat) : (d.bbxTrigger kind).crit = d.crit := by
  obtain ⟨f, e, -⟩ | e := d.bbxTrigger_cases kind <;> rw [e]
  · rfl
  · simp [Dev.startCommit, Dev.saveOdo, Dev.mramWrite, Dev.countHours]
@[simp] theorem Dev.bbxTrigger_staged (d : Dev) (kind : Nat) : (d.bbxTrigger kind).staged = d.staged := by
  obtain ⟨f, e, -⟩ | e := d.bbxTrigger_cases kind <;> rw [e]
  · rfl
  · simp [Dev.startCommit, Dev.saveOdo, Dev.mramWrite, Dev.countHours]
@[simp] theorem Dev.bbxTrigger_freeCtr (d : Dev) (kind : Nat) : (d.bbxTrigger kind).freeCtr = d.freeCtr := by
  obtain ⟨f, e, -⟩ | e := d.bbxTrigger_cases kind <;> rw [e]
  · rfl
  · simp [Dev.startCommit, Dev.saveOdo, Dev.mramWrite, Dev.countHours]
@[simp] theorem Dev.bbxTrigger_variant (d : Dev) (kind : Nat) : (d.bbxTrigger kind).variant = d.variant := by
  obtain ⟨f, e, -⟩ | e := d.bbxTrigger_cases kind <;> rw [e]
  · rfl
  · simp [Dev.startCommit, Dev.saveOdo, Dev.mramWrite, Dev.countHours]
@[simp] theorem Dev.bbxTrigger_time (d : Dev) (kind : Nat) : (d.bbxTrigger kind).time = d.time := by
  obtain ⟨f, e, -⟩ | e := d.bbxTrigger_cases kind <;> rw [e]
  · rfl
  · simp [Dev.startCommit, Dev.saveOdo, Dev.mramWrite, Dev.countHours]
@[simp] theorem Dev.bbxTrigger_lanes (d : Dev) (kind : Nat) : (d.bbxTrigger kind).lanes = d.lanes := by
  obtain ⟨f, e, -⟩ | e := d.bbxTrigger_cases kind <;> rw [e]
  · rfl
  · simp [Dev.startCommit, Dev.saveOdo, Dev.mramWrite, Dev.countHours]
@[simp] theorem Dev.bbxTrigger_groups (d : Dev) (kind : Nat) : (d.bbxTrigger kind).groups = d.groups := by
  obtain ⟨f, e, -⟩ | e := d.bbxTrigger_cases kind <;> rw [e]
  · rfl
  · simp [Dev.startCommit, Dev.saveOdo, Dev.mramWrite, Dev.countHours]
@[simp] theorem Dev.bbxTrigger_ports (d : Dev) (kind : Nat) : (d.bbxTrigger kind).ports = d.ports := by
  obtain ⟨f, e, -⟩ | e := d.bbxTrigger_cases kind <;> rw [e]
  · rfl
  · simp [Dev.startCommit, Dev.saveOdo, Dev.mramWrite, Dev.countHours]
@[simp] theorem Dev.bbxTrigger_serveNext (d : Dev) (kind : Nat) : (d.bbxTrigger kind).serveNext = d.serveNext := by
  obtain ⟨f, e, -⟩ | e := d.bbxTrigger_cases kind <;> rw [e]
  · rfl
  · simp [Dev.startCommit, Dev.saveOdo, Dev.mramWrite, Dev.countHours]
@[simp] theorem Dev.bbxTrigger_pwr (d : Dev) (kind : Nat) : (d.bbxTrigger kind).pwr = d.pwr := by
  obtain ⟨f, e, -⟩ | e := d.bbxTrigger_cases kind <;> rw [e]
  · rfl
  · simp [Dev.startCommit, Dev.saveOdo, Dev.mramWrite, Dev.countHours]
@[simp] theorem Dev.bbxTrigger_pins (d : Dev) (kind : Nat) : (d.bbxTrigger kind).pins = d.pins := by
  obtain ⟨f, e, -⟩ | e := d.bbxTrigger_cases kind <;> rw [e]
  · rfl
  · simp [Dev.startCommit, Dev.saveOdo, Dev.mramWrite, Dev.countHours]
@[simp] theorem Dev.bbxTrigger_mls (d : Dev) (kind : Nat) : (d.bbxTrigger kind).mls = d.mls := by
  obtain ⟨f, e, -⟩ | e := d.bbxTrigger_cases kind <;> rw [e]
  · rfl
  · simp [Dev.startCommit, Dev.saveOdo, Dev.mramWrite, Dev.countHours]
@[simp] theorem Dev.bbxTrigger_emus (d : Dev) (kind : Nat) : (d.bbxTrigger kind).emus = d.emus := by
  obtain ⟨f, e, -⟩ | e := d.bbxTrigger_cases kind <;> rw [e]
  · rfl
  · simp [Dev.startCommit, Dev.saveOdo, Dev.mramWrite, Dev.countHours]
@[simp] theorem Dev.bbxTrigger_clusters (d : Dev) (kind : Nat) : (d.bbxTrigger kind).clusters = d.clusters := by
  obtain ⟨f, e, -⟩ | e := d.bbxTrigger_cases kind <;> rw [e]
  · rfl
  · simp [Dev.startCommit, Dev.saveOdo, Dev.mramWrite, Dev.countHours]
@[simp] theorem Dev.bbxTrigger_vms (d : Dev) (kind : Nat) : (d.bbxTrigger kind).vms = d.vms := by
  obtain ⟨f, e, -⟩ | e := d.bbxTrigger_cases kind <;> rw [e]
  · rfl
  · simp [Dev.startCommit, Dev.saveOdo, Dev.mramWrite, Dev.countHours]
@[simp] theorem Dev.bbxTrigger_pfe (d : Dev) (kind : Nat) : (d.bbxTrigger kind).pfe = d.pfe := by
  obtain ⟨f, e, -⟩ | e := d.bbxTrigger_cases kind <;> rw [e]
  · rfl
  · simp [Dev.startCommit, Dev.saveOdo, Dev.mramWrite, Dev.countHours]
@[simp] theorem Dev.bbxTrigger_trc (d : Dev) (kind : Nat) : (d.bbxTrigger kind).trc = d.trc := by
  obtain ⟨f, e, -⟩ | e := d.bbxTrigger_cases kind <;> rw [e]
  · rfl
  · simp [Dev.startCommit, Dev.saveOdo, Dev.mramWrite, Dev.countHours]
@[simp] theorem Dev.bbxTrigger_saf (d : Dev) (kind : Nat) : (d.bbxTrigger kind).saf = d.saf := by
  obtain ⟨f, e, -⟩ | e := d.bbxTrigger_cases kind <;> rw [e]
  · rfl
  · simp [Dev.startCommit, Dev.saveOdo, Dev.mramWrite, Dev.countHours]
@[simp] theorem Dev.bbxTrigger_ro (d : Dev) (kind : Nat) : (d.bbxTrigger kind).ro = d.ro := by
  obtain ⟨f, e, -⟩ | e := d.bbxTrigger_cases kind <;> rw [e]
  · rfl
  · simp [Dev.startCommit, Dev.saveOdo, Dev.mramWrite, Dev.countHours]
@[simp] theorem Dev.bbxTrigger_hlt_corrHour (d : Dev) (kind : Nat) : (d.bbxTrigger kind).hlt.corrHour = d.hlt.corrHour := by
  obtain ⟨f, e, -⟩ | e := d.bbxTrigger_cases kind <;> rw [e]
  · rfl
  · simp [Dev.startCommit, Dev.saveOdo, Dev.mramWrite, Dev.countHours]
@[simp] theorem Dev.bbxTrigger_hlt_turning (d : Dev) (kind : Nat) : (d.bbxTrigger kind).hlt.turning = d.hlt.turning := by
  obtain ⟨f, e, -⟩ | e := d.bbxTrigger_cases kind <;> rw [e]
  · rfl
  · simp [Dev.startCommit, Dev.saveOdo, Dev.mramWrite, Dev.countHours]
@[simp] theorem Dev.bbxTrigger_hlt_days (d : Dev) (kind : Nat) : (d.bbxTrigger kind).hlt.days = d.hlt.days := by
  obtain ⟨f, e, -⟩ | e := d.bbxTrigger_cases kind <;> rw [e]
  · rfl
  · simp [Dev.startCommit, Dev.saveOdo, Dev.mramWrite, Dev.countHours]
@[simp] theorem Dev.bbxTrigger_hlt_dayCount (d : Dev) (kind : Nat) : (d.bbxTrigger kind).hlt.dayCount = d.hlt.dayCount := by
  obtain ⟨f, e, -⟩ | e := d.bbxTrigger_cases kind <;> rw [e]
  · rfl
  · simp [Dev.startCommit, Dev.saveOdo, Dev.mramWrite, Dev.countHours]
@[simp] theorem Dev.bbxTrigger_hlt_eolWarn (d : Dev) (kind : Nat) : (d.bbxTrigger kind).hlt.eolWarn = d.hlt.eolWarn := by
  obtain ⟨f, e, -⟩ | e := d.bbxTrigger_cases kind <;> rw [e]
  · rfl
  · simp [Dev.startCommit, Dev.saveOdo, Dev.mramWrite, Dev.countHours]
@[simp] theorem Dev.bbxTrigger_hlt_dieT (d : Dev) (kind : Nat) : (d.bbxTrigger kind).hlt.dieT = d.hlt.dieT := by
  obtain ⟨f, e, -⟩ | e := d.bbxTrigger_cases kind <;> rw [e]
  · rfl
  · simp [Dev.startCommit, Dev.saveOdo, Dev.mramWrite, Dev.countHours]
@[simp] theorem Dev.bbxTrigger_hlt_dieAt (d : Dev) (kind : Nat) : (d.bbxTrigger kind).hlt.dieAt = d.hlt.dieAt := by
  obtain ⟨f, e, -⟩ | e := d.bbxTrigger_cases kind <;> rw [e]
  · rfl
  · simp [Dev.startCommit, Dev.saveOdo, Dev.mramWrite, Dev.countHours]
@[simp] theorem Dev.bbxTrigger_hlt_badWords (d : Dev) (kind : Nat) : (d.bbxTrigger kind).hlt.badWords = d.hlt.badWords := by
  obtain ⟨f, e, -⟩ | e := d.bbxTrigger_cases kind <;> rw [e]
  · rfl
  · simp [Dev.startCommit, Dev.saveOdo, Dev.mramWrite, Dev.countHours]
@[simp] theorem Dev.bbxTrigger_hlt_rebuilding (d : Dev) (kind : Nat) : (d.bbxTrigger kind).hlt.rebuilding = d.hlt.rebuilding := by
  obtain ⟨f, e, -⟩ | e := d.bbxTrigger_cases kind <;> rw [e]
  · rfl
  · simp [Dev.startCommit, Dev.saveOdo, Dev.mramWrite, Dev.countHours]
@[simp] theorem Dev.bbxTrigger_hlt_regions (d : Dev) (kind : Nat) : (d.bbxTrigger kind).hlt.regions = d.hlt.regions := by
  obtain ⟨f, e, -⟩ | e := d.bbxTrigger_cases kind <;> rw [e]
  · rfl
  · simp [Dev.startCommit, Dev.saveOdo, Dev.mramWrite, Dev.countHours]
@[simp] theorem Dev.bbxTrigger_hlt_slotVer (d : Dev) (kind : Nat) : (d.bbxTrigger kind).hlt.slotVer = d.hlt.slotVer := by
  obtain ⟨f, e, -⟩ | e := d.bbxTrigger_cases kind <;> rw [e]
  · rfl
  · simp [Dev.startCommit, Dev.saveOdo, Dev.mramWrite, Dev.countHours]
@[simp] theorem Dev.bbxTrigger_hlt_recSlot (d : Dev) (kind : Nat) : (d.bbxTrigger kind).hlt.recSlot = d.hlt.recSlot := by
  obtain ⟨f, e, -⟩ | e := d.bbxTrigger_cases kind <;> rw [e]
  · rfl
  · simp [Dev.startCommit, Dev.saveOdo, Dev.mramWrite, Dev.countHours]
@[simp] theorem Dev.bbxTrigger_hlt_runSlot (d : Dev) (kind : Nat) : (d.bbxTrigger kind).hlt.runSlot = d.hlt.runSlot := by
  obtain ⟨f, e, -⟩ | e := d.bbxTrigger_cases kind <;> rw [e]
  · rfl
  · simp [Dev.startCommit, Dev.saveOdo, Dev.mramWrite, Dev.countHours]
@[simp] theorem Dev.bbxTrigger_hlt_probation (d : Dev) (kind : Nat) : (d.bbxTrigger kind).hlt.probation = d.hlt.probation := by
  obtain ⟨f, e, -⟩ | e := d.bbxTrigger_cases kind <;> rw [e]
  · rfl
  · simp [Dev.startCommit, Dev.saveOdo, Dev.mramWrite, Dev.countHours]
@[simp] theorem Dev.bbxTrigger_hlt_oldSlot (d : Dev) (kind : Nat) : (d.bbxTrigger kind).hlt.oldSlot = d.hlt.oldSlot := by
  obtain ⟨f, e, -⟩ | e := d.bbxTrigger_cases kind <;> rw [e]
  · rfl
  · simp [Dev.startCommit, Dev.saveOdo, Dev.mramWrite, Dev.countHours]
@[simp] theorem Dev.bbxTrigger_hlt_recRetry (d : Dev) (kind : Nat) : (d.bbxTrigger kind).hlt.recRetry = d.hlt.recRetry := by
  obtain ⟨f, e, -⟩ | e := d.bbxTrigger_cases kind <;> rw [e]
  · rfl
  · simp [Dev.startCommit, Dev.saveOdo, Dev.mramWrite, Dev.countHours]
@[simp] theorem Dev.bbxTrigger_hlt_probMark (d : Dev) (kind : Nat) : (d.bbxTrigger kind).hlt.probMark = d.hlt.probMark := by
  obtain ⟨f, e, -⟩ | e := d.bbxTrigger_cases kind <;> rw [e]
  · rfl
  · simp [Dev.startCommit, Dev.saveOdo, Dev.mramWrite, Dev.countHours]
@[simp] theorem Dev.bbxTrigger_hlt_pause (d : Dev) (kind : Nat) : (d.bbxTrigger kind).hlt.pause = d.hlt.pause := by
  obtain ⟨f, e, -⟩ | e := d.bbxTrigger_cases kind <;> rw [e]
  · rfl
  · simp [Dev.startCommit, Dev.saveOdo, Dev.mramWrite, Dev.countHours]
@[simp] theorem Dev.bbxTrigger_regs (d : Dev) (kind : Nat) : (d.bbxTrigger kind).regs = d.regs := by
  obtain ⟨f, e, -⟩ | e := d.bbxTrigger_cases kind <;> rw [e]
  · rfl
  · simp [Dev.startCommit, Dev.saveOdo, Dev.mramWrite, Dev.countHours]
@[simp] theorem Dev.bbxTrigger_reg (d : Dev) (kind : Nat) (i : RegId) (k : Nat) : (d.bbxTrigger kind).reg i k = d.reg i k := by
  simp [Dev.reg]

@[simp] theorem Dev.laneFault_now (d : Dev) (n code arg : Nat) : (d.laneFault n code arg).now = d.now := by
  obtain e | ⟨f, e⟩ | ⟨f, e⟩ := d.laneFault_cases n code arg <;> rw [e] <;> simp
@[simp] theorem Dev.laneFault_crit (d : Dev) (n code arg : Nat) : (d.laneFault n code arg).crit = d.crit := by
  obtain e | ⟨f, e⟩ | ⟨f, e⟩ := d.laneFault_cases n code arg <;> rw [e] <;> simp
@[simp] theorem Dev.laneFault_staged (d : Dev) (n code arg : Nat) : (d.laneFault n code arg).staged = d.staged := by
  obtain e | ⟨f, e⟩ | ⟨f, e⟩ := d.laneFault_cases n code arg <;> rw [e] <;> simp
@[simp] theorem Dev.laneFault_freeCtr (d : Dev) (n code arg : Nat) : (d.laneFault n code arg).freeCtr = d.freeCtr := by
  obtain e | ⟨f, e⟩ | ⟨f, e⟩ := d.laneFault_cases n code arg <;> rw [e] <;> simp
@[simp] theorem Dev.laneFault_variant (d : Dev) (n code arg : Nat) : (d.laneFault n code arg).variant = d.variant := by
  obtain e | ⟨f, e⟩ | ⟨f, e⟩ := d.laneFault_cases n code arg <;> rw [e] <;> simp
@[simp] theorem Dev.laneFault_time (d : Dev) (n code arg : Nat) : (d.laneFault n code arg).time = d.time := by
  obtain e | ⟨f, e⟩ | ⟨f, e⟩ := d.laneFault_cases n code arg <;> rw [e] <;> simp
@[simp] theorem Dev.laneFault_groups (d : Dev) (n code arg : Nat) : (d.laneFault n code arg).groups = d.groups := by
  obtain e | ⟨f, e⟩ | ⟨f, e⟩ := d.laneFault_cases n code arg <;> rw [e] <;> simp
@[simp] theorem Dev.laneFault_ports (d : Dev) (n code arg : Nat) : (d.laneFault n code arg).ports = d.ports := by
  obtain e | ⟨f, e⟩ | ⟨f, e⟩ := d.laneFault_cases n code arg <;> rw [e] <;> simp
@[simp] theorem Dev.laneFault_serveNext (d : Dev) (n code arg : Nat) : (d.laneFault n code arg).serveNext = d.serveNext := by
  obtain e | ⟨f, e⟩ | ⟨f, e⟩ := d.laneFault_cases n code arg <;> rw [e] <;> simp
@[simp] theorem Dev.laneFault_pwr (d : Dev) (n code arg : Nat) : (d.laneFault n code arg).pwr = d.pwr := by
  obtain e | ⟨f, e⟩ | ⟨f, e⟩ := d.laneFault_cases n code arg <;> rw [e] <;> simp
@[simp] theorem Dev.laneFault_pins (d : Dev) (n code arg : Nat) : (d.laneFault n code arg).pins = d.pins := by
  obtain e | ⟨f, e⟩ | ⟨f, e⟩ := d.laneFault_cases n code arg <;> rw [e] <;> simp
@[simp] theorem Dev.laneFault_mls (d : Dev) (n code arg : Nat) : (d.laneFault n code arg).mls = d.mls := by
  obtain e | ⟨f, e⟩ | ⟨f, e⟩ := d.laneFault_cases n code arg <;> rw [e] <;> simp
@[simp] theorem Dev.laneFault_emus (d : Dev) (n code arg : Nat) : (d.laneFault n code arg).emus = d.emus := by
  obtain e | ⟨f, e⟩ | ⟨f, e⟩ := d.laneFault_cases n code arg <;> rw [e] <;> simp
@[simp] theorem Dev.laneFault_clusters (d : Dev) (n code arg : Nat) : (d.laneFault n code arg).clusters = d.clusters := by
  obtain e | ⟨f, e⟩ | ⟨f, e⟩ := d.laneFault_cases n code arg <;> rw [e] <;> simp
@[simp] theorem Dev.laneFault_vms (d : Dev) (n code arg : Nat) : (d.laneFault n code arg).vms = d.vms := by
  obtain e | ⟨f, e⟩ | ⟨f, e⟩ := d.laneFault_cases n code arg <;> rw [e] <;> simp
@[simp] theorem Dev.laneFault_pfe (d : Dev) (n code arg : Nat) : (d.laneFault n code arg).pfe = d.pfe := by
  obtain e | ⟨f, e⟩ | ⟨f, e⟩ := d.laneFault_cases n code arg <;> rw [e] <;> simp
@[simp] theorem Dev.laneFault_trc (d : Dev) (n code arg : Nat) : (d.laneFault n code arg).trc = d.trc := by
  obtain e | ⟨f, e⟩ | ⟨f, e⟩ := d.laneFault_cases n code arg <;> rw [e] <;> simp
@[simp] theorem Dev.laneFault_saf (d : Dev) (n code arg : Nat) : (d.laneFault n code arg).saf = d.saf := by
  obtain e | ⟨f, e⟩ | ⟨f, e⟩ := d.laneFault_cases n code arg <;> rw [e] <;> simp
@[simp] theorem Dev.laneFault_ro (d : Dev) (n code arg : Nat) : (d.laneFault n code arg).ro = d.ro := by
  obtain e | ⟨f, e⟩ | ⟨f, e⟩ := d.laneFault_cases n code arg <;> rw [e] <;> simp
@[simp] theorem Dev.laneFault_hlt_corrHour (d : Dev) (n code arg : Nat) : (d.laneFault n code arg).hlt.corrHour = d.hlt.corrHour := by
  obtain e | ⟨f, e⟩ | ⟨f, e⟩ := d.laneFault_cases n code arg <;> rw [e] <;> simp
@[simp] theorem Dev.laneFault_hlt_turning (d : Dev) (n code arg : Nat) : (d.laneFault n code arg).hlt.turning = d.hlt.turning := by
  obtain e | ⟨f, e⟩ | ⟨f, e⟩ := d.laneFault_cases n code arg <;> rw [e] <;> simp
@[simp] theorem Dev.laneFault_hlt_days (d : Dev) (n code arg : Nat) : (d.laneFault n code arg).hlt.days = d.hlt.days := by
  obtain e | ⟨f, e⟩ | ⟨f, e⟩ := d.laneFault_cases n code arg <;> rw [e] <;> simp
@[simp] theorem Dev.laneFault_hlt_dayCount (d : Dev) (n code arg : Nat) : (d.laneFault n code arg).hlt.dayCount = d.hlt.dayCount := by
  obtain e | ⟨f, e⟩ | ⟨f, e⟩ := d.laneFault_cases n code arg <;> rw [e] <;> simp
@[simp] theorem Dev.laneFault_hlt_eolWarn (d : Dev) (n code arg : Nat) : (d.laneFault n code arg).hlt.eolWarn = d.hlt.eolWarn := by
  obtain e | ⟨f, e⟩ | ⟨f, e⟩ := d.laneFault_cases n code arg <;> rw [e] <;> simp
@[simp] theorem Dev.laneFault_hlt_dieT (d : Dev) (n code arg : Nat) : (d.laneFault n code arg).hlt.dieT = d.hlt.dieT := by
  obtain e | ⟨f, e⟩ | ⟨f, e⟩ := d.laneFault_cases n code arg <;> rw [e] <;> simp
@[simp] theorem Dev.laneFault_hlt_dieAt (d : Dev) (n code arg : Nat) : (d.laneFault n code arg).hlt.dieAt = d.hlt.dieAt := by
  obtain e | ⟨f, e⟩ | ⟨f, e⟩ := d.laneFault_cases n code arg <;> rw [e] <;> simp
@[simp] theorem Dev.laneFault_hlt_badWords (d : Dev) (n code arg : Nat) : (d.laneFault n code arg).hlt.badWords = d.hlt.badWords := by
  obtain e | ⟨f, e⟩ | ⟨f, e⟩ := d.laneFault_cases n code arg <;> rw [e] <;> simp
@[simp] theorem Dev.laneFault_hlt_rebuilding (d : Dev) (n code arg : Nat) : (d.laneFault n code arg).hlt.rebuilding = d.hlt.rebuilding := by
  obtain e | ⟨f, e⟩ | ⟨f, e⟩ := d.laneFault_cases n code arg <;> rw [e] <;> simp
@[simp] theorem Dev.laneFault_hlt_regions (d : Dev) (n code arg : Nat) : (d.laneFault n code arg).hlt.regions = d.hlt.regions := by
  obtain e | ⟨f, e⟩ | ⟨f, e⟩ := d.laneFault_cases n code arg <;> rw [e] <;> simp
@[simp] theorem Dev.laneFault_hlt_slotVer (d : Dev) (n code arg : Nat) : (d.laneFault n code arg).hlt.slotVer = d.hlt.slotVer := by
  obtain e | ⟨f, e⟩ | ⟨f, e⟩ := d.laneFault_cases n code arg <;> rw [e] <;> simp
@[simp] theorem Dev.laneFault_hlt_recSlot (d : Dev) (n code arg : Nat) : (d.laneFault n code arg).hlt.recSlot = d.hlt.recSlot := by
  obtain e | ⟨f, e⟩ | ⟨f, e⟩ := d.laneFault_cases n code arg <;> rw [e] <;> simp
@[simp] theorem Dev.laneFault_hlt_runSlot (d : Dev) (n code arg : Nat) : (d.laneFault n code arg).hlt.runSlot = d.hlt.runSlot := by
  obtain e | ⟨f, e⟩ | ⟨f, e⟩ := d.laneFault_cases n code arg <;> rw [e] <;> simp
@[simp] theorem Dev.laneFault_hlt_probation (d : Dev) (n code arg : Nat) : (d.laneFault n code arg).hlt.probation = d.hlt.probation := by
  obtain e | ⟨f, e⟩ | ⟨f, e⟩ := d.laneFault_cases n code arg <;> rw [e] <;> simp
@[simp] theorem Dev.laneFault_hlt_oldSlot (d : Dev) (n code arg : Nat) : (d.laneFault n code arg).hlt.oldSlot = d.hlt.oldSlot := by
  obtain e | ⟨f, e⟩ | ⟨f, e⟩ := d.laneFault_cases n code arg <;> rw [e] <;> simp
@[simp] theorem Dev.laneFault_hlt_recRetry (d : Dev) (n code arg : Nat) : (d.laneFault n code arg).hlt.recRetry = d.hlt.recRetry := by
  obtain e | ⟨f, e⟩ | ⟨f, e⟩ := d.laneFault_cases n code arg <;> rw [e] <;> simp
@[simp] theorem Dev.laneFault_hlt_probMark (d : Dev) (n code arg : Nat) : (d.laneFault n code arg).hlt.probMark = d.hlt.probMark := by
  obtain e | ⟨f, e⟩ | ⟨f, e⟩ := d.laneFault_cases n code arg <;> rw [e] <;> simp
@[simp] theorem Dev.laneFault_hlt_pause (d : Dev) (n code arg : Nat) : (d.laneFault n code arg).hlt.pause = d.hlt.pause := by
  obtain e | ⟨f, e⟩ | ⟨f, e⟩ := d.laneFault_cases n code arg <;> rw [e] <;> simp
@[simp] theorem Dev.laneFault_regs (d : Dev) (n code arg : Nat) : (d.laneFault n code arg).regs = d.regs := by
  obtain e | ⟨f, e⟩ | ⟨f, e⟩ := d.laneFault_cases n code arg <;> rw [e] <;> simp

end Sys2Proof.Machine
end

