-- ==== Sys2Proof/Laws/Mem.lean ====
section
/-! SUPPORT. The laws of byte memories in canonical form: a write keeps the form, reads back, and leaves every other address
alone; equal contents are equal lists. -/
namespace Sys2Proof.Machine

theorem memRead_below {m : List Host.Cell} {lo a : Nat} (h : memWfFrom lo m = true) (ha : a < lo) : memRead m a = memBlank := by
  induction m generalizing lo with
  | nil => rfl
  | cons c rest ih =>
    obtain ⟨k, b⟩ := c
    simp only [memWfFrom, Bool.and_eq_true, decide_eq_true_eq] at h
    have : k ≠ a := by omega
    simp only [memRead, this, if_false]
    exact ih h.2 (by omega)

theorem memWfFrom_mono {m : List Host.Cell} {lo lo' : Nat} (h : memWfFrom lo m = true) (hl : lo' ≤ lo) : memWfFrom lo' m = true := by
  cases m with
  | nil => rfl
  | cons c rest =>
    obtain ⟨k, b⟩ := c
    simp only [memWfFrom, Bool.and_eq_true, decide_eq_true_eq] at h ⊢
    exact ⟨⟨by omega, h.1.2⟩, h.2⟩

theorem memWrite_wfFrom {m : List Host.Cell} {lo a : Nat} {v : Byte} (h : memWfFrom lo m = true) (ha : lo ≤ a) :
    memWfFrom lo (memWrite m a v) = true := by
  induction m generalizing lo with
  | nil => by_cases hv : v = memBlank <;> simp [memWrite, memWfFrom, hv, ha]
  | cons c rest ih =>
    obtain ⟨k, b⟩ := c
    simp only [memWfFrom, Bool.and_eq_true, decide_eq_true_eq] at h
    obtain ⟨⟨h1, h2⟩, h3⟩ := h
    simp only [memWrite]
    split
    · split
      · simp [memWfFrom, h1, h2, h3]
      · next hv => simp only [memWfFrom, Bool.and_eq_true, decide_eq_true_eq]; exact ⟨⟨ha, hv⟩, ⟨by omega, h2⟩, h3⟩
    · split
      · split
        · exact memWfFrom_mono h3 (by omega)
        · next hv => simp only [memWfFrom, Bool.and_eq_true, decide_eq_true_eq]; exact ⟨⟨ha, hv⟩, by simp [*]⟩
      · simp only [memWfFrom, Bool.and_eq_true, decide_eq_true_eq]
        exact ⟨⟨h1, h2⟩, ih h3 (by omega)⟩

/-- A write keeps the canonical form. -/
theorem memWrite_wf {m : List Host.Cell} {a : Nat} {v : Byte} (h : memWf m = true) : memWf (memWrite m a v) = true :=
  memWrite_wfFrom h (Nat.zero_le a)

theorem memRead_memWrite_from {m : List Host.Cell} {lo a : Nat} {v : Byte} (h : memWfFrom lo m = true) (b : Nat) :
    memRead (memWrite m a v) b = if b = a then v else memRead m b := by
  induction m generalizing lo with
  | nil => by_cases hv : v = memBlank <;> by_cases hb : b = a <;> simp [memWrite, memRead, hv, hb, Ne.symm]
  | cons c rest ih =>
    obtain ⟨k, x⟩ := c
    simp only [memWfFrom, Bool.and_eq_true, decide_eq_true_eq] at h
    obtain ⟨⟨h1, h2⟩, h3⟩ := h
    simp only [memWrite]
    split
    · next hk =>
      split
      · next hv =>
        subst hv
        by_cases hb : b = a
        · subst hb
          have : k ≠ b := by omega
          simp [memRead, this, memRead_below h3 (show b < k + 1 by omega)]
        · simp [hb]
      · by_cases hb : b = a
        · simp [memRead, hb]
        · have : a ≠ b := fun e => hb e.symm
          simp [memRead, hb, this]
    · split
      · next _ hk =>
        subst hk
        split
        · next hv =>
          subst hv
          by_cases hb : b = a
          · subst hb; simp [memRead_below h3 (Nat.lt_succ_self b)]
          · have : a ≠ b := fun e => hb e.symm
            simp [memRead, hb, this]
        · by_cases hb : b = a
          · simp [memRead, hb]
          · have : a ≠ b := fun e => hb e.symm
            simp [memRead, hb, this]
      · next _ hk =>
        by_cases hkb : k = b
        · subst hkb
          simp [memRead, Ne.symm hk]
        · simp only [memRead, hkb, if_false]
          exact ih h3

/-- A read after a write: the address written gives the value, every other address what it gave. -/
theorem memRead_memWrite {m : List Host.Cell} {a : Nat} {v : Byte} (h : memWf m = true) (b : Nat) :
    memRead (memWrite m a v) b = if b = a then v else memRead m b := memRead_memWrite_from h b

/-- Writing a byte string keeps the canonical form. -/
theorem memWrites_wf {m : List Host.Cell} {a : Nat} {vs : List Byte} (h : memWf m = true) : memWf (memWrites m a vs) = true := by
  induction vs generalizing m a with
  | nil => exact h
  | cons v rest ih => exact ih (memWrite_wf h)

/-- Bytes outside a byte string that was written stand. -/
theorem memRead_memWrites_of_outside {m : List Host.Cell} {a b : Nat} {vs : List Byte} (h : memWf m = true)
    (hb : b < a ∨ a + vs.length ≤ b) : memRead (memWrites m a vs) b = memRead m b := by
  induction vs generalizing m a with
  | nil => rfl
  | cons v rest ih =>
    simp only [List.length_cons] at hb
    rw [memWrites, ih (memWrite_wf h) (by omega), memRead_memWrite h, if_neg (by omega)]

/-- The byte at an offset of a byte string that was written. -/
theorem memRead_memWrites_of_inside {m : List Host.Cell} {a i : Nat} {vs : List Byte} (h : memWf m = true) (hi : i < vs.length) :
    memRead (memWrites m a vs) (a + i) = vs[i] := by
  induction vs generalizing m a i with
  | nil => simp at hi
  | cons v rest ih =>
    cases i with
    | zero => rw [memWrites, memRead_memWrites_of_outside (memWrite_wf h) (by omega), memRead_memWrite h]; simp
    | succ i =>
      have := ih (m := memWrite m a v) (a := a + 1) (i := i) (memWrite_wf h) (by simpa using hi)
      rw [memWrites, show a + (i + 1) = a + 1 + i by omega, this]; rfl

/-- A byte string that was written reads back. -/
theorem memReads_memWrites {m : List Host.Cell} {a : Nat} {vs : List Byte} (h : memWf m = true) :
    memReads (memWrites m a vs) a vs.length = vs := by
  apply List.ext_getElem
  · simp [memReads]
  · intro i h1 h2
    simp only [memReads, List.getElem_map, List.getElem_range]
    exact memRead_memWrites_of_inside h h2

theorem memWfFrom_ext {m n : List Host.Cell} {lo : Nat} (hm : memWfFrom lo m = true) (hn : memWfFrom lo n = true)
    (h : ∀ a, memRead m a = memRead n a) : m = n := by
  induction m generalizing n lo with
  | nil =>
    cases n with
    | nil => rfl
    | cons c rest =>
      obtain ⟨k, b⟩ := c
      simp only [memWfFrom, Bool.and_eq_true, decide_eq_true_eq] at hn
      have := h k
      simp only [memRead, if_true] at this
      exact absurd this.symm hn.1.2
  | cons c m ih =>
    obtain ⟨k, b⟩ := c
    cases n with
    | nil =>
      simp only [memWfFrom, Bool.and_eq_true, decide_eq_true_eq] at hm
      have := h k
      simp only [memRead, if_true] at this
      exact absurd this hm.1.2
    | cons e n =>
      obtain ⟨j, x⟩ := e
      simp only [memWfFrom, Bool.and_eq_true, decide_eq_true_eq] at hm hn
      obtain ⟨⟨hm1, hm2⟩, hm3⟩ := hm
      obtain ⟨⟨hn1, hn2⟩, hn3⟩ := hn
      have hk : k = j := by
        rcases Nat.lt_trichotomy k j with hlt | heq | hgt
        · have := h k
          have hne : j ≠ k := by omega
          simp only [memRead, if_true, hne, if_false, memRead_below hn3 (show k < j + 1 by omega)] at this
          exact absurd this hm2
        · exact heq
        · have := h j
          have hne : k ≠ j := by omega
          simp only [memRead, if_true, hne, if_false, memRead_below hm3 (show j < k + 1 by omega)] at this
          exact absurd this.symm hn2
      subst hk
      have hb : b = x := by simpa [memRead] using h k
      subst hb
      rw [ih hm3 hn3 fun a => ?_]
      by_cases ha : k = a
      · subst ha; rw [memRead_below hm3 (Nat.lt_succ_self k), memRead_below hn3 (Nat.lt_succ_self k)]
      · simpa [memRead, ha] using h a

/-- Memories in canonical form with equal contents are equal. -/
theorem mem_ext {m n : List Host.Cell} (hm : memWf m = true) (hn : memWf n = true) (h : ∀ a, memRead m a = memRead n a) : m = n :=
  memWfFrom_ext hm hn h

/-- The memories of the reset state list nothing. -/
theorem reset_memWf : memWf State.reset.dev.trc.mem = true ∧ (∀ r ∈ State.reset.dev.hlt.regions, memWf r.mem = true) ∧
    memWf State.reset.dev.pwr.image = true := by decide

end Sys2Proof.Machine
end

