-- ==== Sys2Proof/Laws/Requests.lean ====
section
/-! SUPPORT. Frames of requests outside a group: the service around the opcode, and the words that a write or a read names. -/
namespace Sys2Proof.Machine
open Sys2Proof

variable {my : May} {d0 d : Dev}

/-- What a write of word `k` of `r` needs of `May`. -/
structure Writes (my : May) (r : RegId) (k : Nat) : Prop where
  bbx    : my.bbx = true
  stat   : my.reg .bbxStat 0 = true
  staged : my.staged = true
  reg    : r.info.sw = 0 → my.reg r k = true
  time   : r = .timeSet ∨ r = .timeCtrl ∨ r = .hpCtrl → my.time = true
  mls    : r = .mlsPop ∨ r = .mlsAssign → my.mls k = true
  emu    : r = .emuLane → ∀ o, my.emu o = true ∧ my.reg .emuStat o = true ∧ my.reg .emuCnt o = true
  port   : r = .hpCtrl → my.port k = true ∧ my.reg .hpStat k = true

theorem Dev.writeNow_within_of (r : RegId) (k : Nat) (v : Word) (h : Within my d0 d) (hw : Writes my r k)
    (hs : r.info.sw = 0) : Within my d0 (d.writeNow r k v) := by
  have h1 := hw.bbx
  have h2 := hw.stat
  have hr := hw.reg hs
  have he : Within my d0 (d.setReg r k ((d.reg r k &&& ~~~r.info.rw &&& ~~~(v &&& r.info.w1c)) ||| (v &&& r.info.rw) |||
      (d.freshWord r k &&& r.info.w1c))) := h.setReg hr
  unfold Dev.writeNow
  dsimp only
  split
  · have ht := hw.time (.inl rfl)
    split <;> simp [*]
  · have hm := hw.mls (.inl rfl)
    (repeat' split) <;> simp (maxDischargeDepth := 60) [*]
  · have hm := hw.mls (.inr rfl)
    exact he.onMls _ _ hm
  · have ho := hw.emu rfl
    have h3 := (ho k).1
    have h4 := (ho k).2.1
    have h5 : ∀ n, my.outputs d0 n := fun _ => .inl ho
    simp (maxDischargeDepth := 60) [*]
  · obtain ⟨h3, h4⟩ := hw.port rfl
    have ht := hw.time (.inr (.inr rfl))
    split <;> simp (maxDischargeDepth := 60) [*]
  · have ht := hw.time (.inr (.inl rfl))
    exact Dev.asCheck_within _ he ht
  · exact he

theorem Dev.writeOne_within_of (p : Nat) (g : Bool) (r : RegId) (k : Nat) (v : Word) (h : Within my d0 d)
    (hw : Writes my r k) : Within my d0 (d.writeOne p g r k v) := by
  have h3 := hw.staged
  unfold Dev.writeOne
  split
  · exact h
  · split
    · simp [*]
    · rename_i hs
      split
      · simp [*]
      · exact Dev.writeNow_within_of _ _ _ h hw (by simpa using hs)

/-- A write of a word acts on the words of its value. -/
theorem Dev.writeReg_within_of (p : Nat) (g : Bool) (r : RegId) (k : Nat) (v : Word) (h : Within my d0 d)
    (hp : my.port p = true) (hw : ∀ j, j / r.valueWords = k / r.valueWords → Writes my r j) :
    Within my d0 (d.writeReg p g r k v) := by
  unfold Dev.writeReg
  dsimp only
  split
  · exact Dev.writeOne_within_of _ _ _ _ _ h (hw _ rfl)
  · split
    · exact h.onPort _ _ hp
    · rename_i hn hk
      refine Dev.writeOne_within_of _ _ _ _ _ (Within.onPort ?_ _ _ hp) (hw _ rfl)
      have hm : ∀ c ∈ (d.port p).lowHeld.filter fun c => (decide (c.id = r) && decide (k - (r.valueWords - 1) ≤ c.idx)) &&
          decide (c.idx < k), Writes my r c.idx := by
        intro c hc
        have := (List.mem_filter.1 hc).2
        simp only [Bool.and_eq_true, decide_eq_true_eq] at this
        refine hw _ ?_
        obtain ⟨⟨-, hb⟩, ha⟩ := this
        have h0 : 0 < r.valueWords := by cases r <;> decide
        have hd := Nat.div_add_mod k r.valueWords
        have hr := Nat.mod_lt k h0
        refine (Nat.div_eq_iff h0).2 ⟨?_, ?_⟩ <;> rw [Nat.mul_comm] at hd <;> omega
      revert hm
      generalize (d.port p).lowHeld.filter _ = l
      intro hm
      induction l generalizing d with
      | nil => exact h
      | cons c l ih =>
        exact ih (Dev.writeOne_within_of _ _ _ _ _ h (hm c (by simp))) fun x hx => hm x (by simp [hx])

theorem Dev.writeAt_within_of (p : Nat) (g : Bool) (a : Nat) (v : Word) (h : Within my d0 d) (hp : my.port p = true)
    (hw : ∀ r k, targetOf a = .reg r k → ∀ j, j / r.valueWords = k / r.valueWords → Writes my r j) :
    Within my d0 (d.writeAt p g a v) := by
  unfold Dev.writeAt
  split
  · rename_i r k hr
    exact Dev.writeReg_within_of _ _ _ _ _ h hp (hw _ _ hr)
  · exact h

/-- The words that a list of addresses names. -/
theorem Dev.foldl_writeAt_within {α : Type} (p : Nat) (g : Bool) (l : List α) (a : α → Nat) (v : α → Word) (h : Within my d0 d)
    (hp : my.port p = true)
    (hw : ∀ x ∈ l, ∀ r k, targetOf (a x) = .reg r k → ∀ j, j / r.valueWords = k / r.valueWords → Writes my r j) :
    Within my d0 (l.foldl (fun d x => d.writeAt p g (a x) (v x)) d) := by
  induction l generalizing d with
  | nil => exact h
  | cons x l ih =>
    exact ih (Dev.writeAt_within_of _ _ _ _ h hp (hw x (by simp))) fun y hy => hw y (by simp [hy])

/-- What `writing h` allows is what the words of `h` need. -/
theorem writes_of {m : May} {h : RegId → Nat → Bool} {r : RegId} {k : Nat} (hm : ∀ i k, (writing h).reg i k = true → m.reg i k = true)
    (ht : (writing h).time = true → m.time = true) (hj : ∀ k, (writing h).mls k = true → m.mls k = true)
    (he : ∀ k, (writing h).emu k = true → m.emu k = true) (hb : m.bbx = true) (hs : m.reg .bbxStat 0 = true)
    (hg : m.staged = true) (hp : ∀ k, m.port k = true) (hh : h r k = true)
    (h0 : r.valueWords = 1 → k < r.count) : Writes m r k where
  bbx := hb
  stat := hs
  staged := hg
  reg e := hm _ _ (by simp [writing, hh, e])
  time e := ht (by
    rcases e with rfl | rfl | rfl
    · have : k < 2 := h0 rfl
      rcases (by omega : k = 0 ∨ k = 1) with rfl | rfl <;> simp [writing, hh]
    · have : k < 1 := h0 rfl
      obtain rfl : k = 0 := by omega
      simp [writing, hh]
    · have hk : k < 5 := h0 rfl
      simp only [writing, Bool.or_eq_true, List.any_eq_true, List.mem_range]
      exact .inr ⟨k, hk, hh⟩)
  mls e := hj _ (by rcases e with rfl | rfl <;> simp [writing, hh])
  emu e o := by
    subst e
    have hk : k < 24 := h0 rfl
    have hl : (List.range 24).any (h .emuLane) = true := List.any_eq_true.2 ⟨k, List.mem_range.2 hk, hh⟩
    exact ⟨he _ (by simp only [writing, hl]), hm _ _ (by simp [writing, hl]), hm _ _ (by simp [writing, hl])⟩
  port e := by subst e; exact ⟨hp _, hm _ _ (by simp [writing, hh])⟩

theorem hit_of {a n i k} {x : RegId} {y : Nat} (hi : i < n) (ht : targetOf (a + 4 * i) = .reg x y)
    (hk : k / x.valueWords = y / x.valueWords) : hit a n x k = true := by
  simp only [hit, List.any_eq_true, List.mem_range]
  exact ⟨i, hi, by simp [ht, hk]⟩

theorem indexAt_lt {r : RegId} {a k : Nat} (h : r.indexAt a = some k) : k < r.count := by
  have hlt : ∀ {u j : Nat}, u < r.info.units → j < r.info.subs → u * r.info.subs + j < r.count := fun {u j} hu hj =>
    calc u * r.info.subs + j < u * r.info.subs + r.info.subs := Nat.add_lt_add_left hj _
      _ = (u + 1) * r.info.subs := (Nat.succ_mul _ _).symm
      _ ≤ r.count := Nat.mul_le_mul_right _ hu
  unfold RegId.indexAt at h
  dsimp only at h
  generalize (if r.info.stride = 0 then 0 else (a - r.info.base) / r.info.stride) = u at h
  split at h
  · cases h
  · split at h
    · rename_i hc
      injection h with h
      rw [← h]
      exact hlt hc.1 hc.2.1
    · cases h

/-- A word that an address names is one of its register's. -/
theorem targetOf_lt {a k : Nat} {r : RegId} (h : targetOf a = .reg r k) : k < r.count := by
  unfold targetOf at h
  split at h
  · cases h
  · split at h
    · rename_i rs _
      revert h
      generalize rs = l
      intro h
      induction l with
      | nil => cases h
      | cons x xs ih =>
        unfold findReg at h
        split at h
        · rename_i hi
          cases h
          exact indexAt_lt hi
        · exact ih h
    · cases h

/-- The words from an address on. -/
theorem Dev.writeWords_within_of (p : Nat) (g : Bool) (a : Nat) (ws : List Word) (h : Within my d0 d) (hp : my.port p = true)
    (hw : ∀ r k, hit a ws.length r k = true → (r.valueWords = 1 → k < r.count) → Writes my r k) :
    Within my d0 (d.writeWords p g a ws).2 := by
  have hf : Within my d0 ((((List.range ws.length).map fun i => a + 4 * i).zip ws).foldl
      (fun d x => d.writeAt p g x.1 x.2) d) := by
    refine Dev.foldl_writeAt_within _ _ _ _ _ h hp fun x hx r k ht j hj => ?_
    obtain ⟨i, hi, he⟩ := List.mem_map.1 (List.of_mem_zip hx).1
    rw [← he] at ht
    refine hw r j (hit_of (List.mem_range.1 hi) ht hj) fun e => ?_
    rw [e, Nat.div_one, Nat.div_one] at hj
    rw [hj]
    exact targetOf_lt ht
  unfold Dev.writeWords
  dsimp only
  (repeat' split) <;> first | exact h | exact hf

/-- A read clears what a read clears. -/
theorem Dev.readWords_within_of (p a n : Nat) (h : Within my d0 d) (hp : my.port p = true)
    (hr : ∀ r k, hit a n r k = true → r.info.rc ≠ 0 → my.reg r k = true) : Within my d0 (d.readWords p a n).2 := by
  induction n generalizing d a with
  | zero => exact h
  | succ n ih =>
    have hc : Within my d0 (d.readWord p a).2 := by
      have hl : Within my d0 (d.clearRc a) := by
        unfold Dev.clearRc
        split
        · split
          · exact h
          · rename_i ht hz
            exact h.setReg (hr _ _ (hit_of (Nat.succ_pos n) (i := 0) (by simpa using ht) rfl) hz)
        · exact h
      unfold Dev.readWord
      (repeat' split) <;> first | exact h | exact hl | exact h.onPort _ _ hp
    unfold Dev.readWords
    refine ih (a + 4) hc fun r k hk hz => hr r k ?_ hz
    simp only [hit, List.any_eq_true, List.mem_range] at hk ⊢
    obtain ⟨j, hj, hx⟩ := hk
    exact ⟨j + 1, by omega, by rw [show a + 4 * (j + 1) = a + 4 + 4 * j by omega]; exact hx⟩

/-- The service of a request outside a group: what its opcode changes, and `serving`. -/
theorem Leaves.onRequest {m : May} {s : State} {op : Nat} {r : Request} (hg : (s.dev.port r.port).group = none)
    (hf : r.flags.getLsbD 2 = false)
    (hi : ∀ i, opInfo op = some i → ∀ e, Within m s.dev e → Within m s.dev (i.run e r false).2)
    (hs : m.bbx = true ∧ m.hlt = true ∧ (∀ k, m.port k = true) ∧ m.reg .bbxStat 0 = true ∧ m.reg .fwCnt 0 = true ∧
      m.reg .hltStat 0 = true ∧ m.reg .hpPosted r.port = true ∧ m.reg .hpQmax r.port = true ∧ m.reg .hpTxBusy r.port = true ∧
      m.reg .hpRxOk r.port = true ∧ m.staged = true) : Leaves m s (onRequest s op r) := by
  obtain ⟨h1, h2, h3, h4, h5, h6, h7, h8, h9, h10, h11⟩ := hs
  refine Leaves.onUnit _ ?_
  unfold Dev.serveNow
  dsimp only
  split
  · unfold Dev.serve
    dsimp only
    have ha : Within m s.dev ((s.dev.at r.t).addCnt .hpRxOk r.port 0 32) := by simp [*]
    have hp : ((s.dev.at r.t).addCnt .hpRxOk r.port 0 32).port r.port = s.dev.port r.port := rfl
    have hn : ((s.dev.at r.t).addCnt .hpRxOk r.port 0 32).groupLate r.port = false := by simp [Dev.groupLate, hp, hg]
    simp only [hn, Bool.false_eq_true, if_false]
    rw [if_neg (by rw [hp, hg, hf]; simp)]
    exact Dev.serveSingle_within _ _ (Dev.runOp_within_of _ _ _ _ ha fun i h => hi i h _ ha) h1 h2 h3 h4 h5 h6 h7 h8 h9 h11
  · exact (Within.refl _ _).at _

end Sys2Proof.Machine
end

