-- ==== Sys2Proof/Tests/Slice0.lean ====
section
/-! SUPPORT. Tests of the model: each check of WellFormed refuses an ill-formed command, single steps of the commands against
values worked out from the spec, and for each statement of Certificates/Slice0 that has hypotheses a state and operands that meet
them together, at the boundaries of their ranges. -/
namespace Sys2Proof.Machine
set_option Elab.async false
open Sys2Proof

/-! ### States for the tests -/

/-- A device that has booted and is ACTIVE, changed by `f`. -/
def mk (f : Dev → Dev) : State :=
  { pending := [], dev := f { State.reset.dev with pwr := { State.reset.dev.pwr with booted := true, st := .active } } }

/-- `Dev.Sized` as a check. -/
def sizedB (d : Dev) : Bool := d.shape = State.reset.dev.shape

theorem sized_of {d : Dev} (h : sizedB d = true) : d.Sized := by
  have h := of_decide_eq_true h
  simp only [Dev.shape, Saf.shape, State.reset, List.length_replicate, List.cons_append, List.nil_append, List.cons.injEq, List.length_cons, List.length_nil] at h
  unfold Dev.Sized
  omega

/-- `Admits` as a check, but for the right. -/
def admitsB (d : Dev) (r : Request) (g : Nat) (u : LaneUse) (right : Bool) : Bool :=
  decide (r.port < d.ports.length) && decide (d.ports.length = 5) && d.mgmtUp && (d.port r.port).group.isNone && decide (r.flags = 0) &&
    d.hlt.probation.isNone && !d.pwr.recovery && decide (g ≤ r.gen) && decide (r.payload.length ≤ payloadLimit r.gen) &&
    d.laneOk u r.lane && right

theorem admits_any {d : Dev} {r : Request} {g : Nat} {u : LaneUse} (h : admitsB d r g u true = true) : Admits d r g u .any := by
  simpa [admitsB, Admits, and_assoc] using h

theorem admits_owner {d : Dev} {r : Request} {g : Nat} {u : LaneUse}
    (h : admitsB d r g u (decide (r.lane = 0xFFFF) || d.owns r.port r.lane) = true) : Admits d r g u .owner := by
  simpa [admitsB, Admits, and_assoc] using h

theorem admits_lead {d : Dev} {r : Request} {g : Nat} {u : LaneUse} (h : admitsB d r g u (d.leads r.port) = true) :
    Admits d r g u .lead := by
  simpa [admitsB, Admits, and_assoc] using h

/-- The reset device as UNSEALED hardware leaves it after boot, in the state that each test names. -/
theorem sized_mk : (mk id).dev.Sized := sized_of (by decide +kernel)

/-! ### Witnesses: steps, time, schedule, safety outputs, packets -/

theorem witness_StepRunsTheFrontCommand :
    ({ State.reset with pending := [.boot 0, .syncOutPulse] } : State).pending = .boot 0 :: [.syncOutPulse] := rfl

theorem witness_TimeAdvancesByTheCycle : State.reset.pending = [] ∧ State.reset.dev.pwr.wakeKept ≠ some 0 ∧ 1 ≠ 0 := by decide +kernel

def wTicks : Dev := (mk fun d => (d.onTime fun t => { t with k := some 4294967295 }).onLane 95 fun l => { l with faultCode := 255 }).dev
theorem witness_TicksLieOnTheSchedule :
    wTicks.time.k = some 4294967295 ∧ (wTicks.lane 95).faultCode < 256 ∧ wTicks.reg64 .frmEpoch 0 = wTicks.reg64 .frmEpoch 0 ∧
      wTicks.reg .frmPeriod 0 = wTicks.reg .frmPeriod 0 := by decide +kernel

/-- A device whose SO 11 is on. -/
def wSo : Dev := (mk fun d => { d with crit := { d.crit with sealed := true, soLatch := 0x7FF }, saf := { d.saf with params := some [] } }).dev
theorem witness_SafeOutputsNeedEveryCondition :
    wSo.soOn 11 = true ∧ (mk id).dev.crit.soLatch.getLsbD 11 = true ∧ (∀ t w, (Instr.boot 0) ≠ .safeRstEdge t w) := by
  refine ⟨by decide +kernel, by decide +kernel, fun _ _ => nofun⟩

/-- A request of the maintenance port. -/
def rq (gen lane : Nat) (b : List Byte) : Request := { t := 9, port := 4, gen := gen, lane := lane, payload := b }
theorem witness_PingEchoesItsPayload :
    (∀ g n, (g, n) ∈ [(1, 252), (1, 253), (1, 256), (2, 1020), (3, 1021), (3, 1024)] →
      (rq g 0 (zeros n)).port < 5 ∧ Admits (mk id).dev (rq g 0 (zeros n)) 1 .ignored .any ∧ 1 ≤ g ∧ g ≤ 3) := by
  intro g n h
  simp only [List.mem_cons, Prod.mk.injEq, List.not_mem_nil, or_false] at h
  obtain ⟨rfl, rfl⟩ | ⟨rfl, rfl⟩ | ⟨rfl, rfl⟩ | ⟨rfl, rfl⟩ | ⟨rfl, rfl⟩ | ⟨rfl, rfl⟩ := h <;>
    exact ⟨by decide, admits_any (by decide +kernel), by decide, by decide⟩

/-- A REG_WR of one word at `a`. -/
def rqWr (a : Nat) (v : Word) : Request := rq 1 0 (leBytes 4 a ++ leBytes 2 1 ++ [0, 0] ++ wordBytes v)
theorem witness_SafetyRegistersAreReadOnly (a : Nat)
    (h : a = 0x80000 ∨ a = 0x80000 + 0x100 + 0x10 * 15 ∨ a = 0x100000 + 0x300 ∨ a = 0x100000 + 0x400 * 95 + 0x300) :
    Admits (mk id).dev (rqWr a 5) 1 .ignored .any ∧ a % 4 = 0 ∧ 1 ≤ writeMax (rqWr a 5).gen ∧ a + 4 * 1 ≤ 2 ^ 32 ∧
      targetOf (a + 4 * 0) ≠ .outside ∧ ((0x80000 ≤ a + 4 * 0 ∧ a + 4 * 0 < 0x90000) ∨
        (0x100000 ≤ a + 4 * 0 ∧ a + 4 * 0 < 0x118000 ∧ 0x300 ≤ (a + 4 * 0 - 0x100000) % 0x400)) := by
  obtain rfl | rfl | rfl | rfl := h <;> exact ⟨admits_any (by decide +kernel), by decide +kernel⟩
theorem witness_SafetyRegistersAreReadOnly_rmw :
    Admits (mk id).dev (rq 1 0 (leBytes 4 0x80000 ++ wordBytes 1 ++ wordBytes 5)) 1 .ignored .any := admits_any (by decide +kernel)

theorem witness_OnlyTheDeliberateResetLiftsBarriers :
    (11 ∈ [11] ∧ 95 ∈ lanesOfGroup 11) ∧ (5 ∉ (mk id).dev.saf.causes ∧ 95 < (mk id).dev.laneCount) ∧
      (∀ t w, (Instr.boot 0) ≠ .safeRstEdge t w) := ⟨by decide +kernel, by decide +kernel, fun _ _ => nofun⟩

theorem witness_StepKeepsSizesAndMemories : State.reset.dev.Sized ∧ (mk id).dev.Sized := ⟨sized_of (by decide +kernel), sized_mk⟩

theorem witness_WellFormedCommandsRun : (Instr.lockLoss 0 95).wf = true ∧ (mk id).dev.variant = 0 := by decide +kernel

theorem witness_PacketsRoundTrip : (rq 1 65535 [1, 2, 3]).wf = true ∧ (65535 < 2 ^ 16) ∧ (mk fun d => d.setFlag .hpCtrl 4 4).dev.portUp 4 = true ∧
    (mk id).dev.hlt.pause = none ∧ ((mk id).dev.port 4).rx.length < 4 ∧ 4 < (mk id).dev.ports.length ∧ 1 ≤ (mk id).dev.portGen 4 := by
  decide +kernel

/-! ### Witnesses: time and frame -/

def as1 (d : Dev) : Dev :=
  (((d.setFlag .hpCtrl 0 4).setFld .hpCtrl 0 0 2 2).onPort 0 fun x => { x with link := true }).onTime fun t => { t with src := 1 }
def wTwo := mk fun d => (as1 d).onTime fun t => { t with syncPend := some 1000 }
def wGm := mk fun d => (as1 d).setReg64 .timeGmId 0 77
def wPd := mk fun d => (as1 d).onTime fun t => { t with pdelayT1 := some 100, pdelayPrev := some (50, 60) }
def wHold := mk fun d => d.onTime fun t => { t with src := 1, srcValid := true, syncInterval := 31250000, lastSync := 5 }
def wIn := mk fun d => d.onTime fun t => { t with src := 2 }
def wMiss (n : Nat) := mk fun d => d.onTime fun t => { t with src := 3, locked := true, missed := n }
def wOut := mk fun d => d.setFld .timeSyncout 0 0 2 3
def wOutEnd := mk fun d => d.onTime fun t => { t with syncOutEnd := some 900 }

theorem witness_TimeSourceEvents :
    ((mk as1).dev.alive = true ∧ (mk as1).dev.asActive 0 = true ∧ 0 = (mk as1).dev.fld .timeCtrl 0 16 7 ∧ 0 < (mk as1).dev.ports.length ∧
      31250000 ≤ 31250000 ∧ 4000000000 ≤ 4000000000) ∧
    wTwo.dev.time.syncPend = some 1000 ∧ (wGm.dev.reg64 .timeGmId 0 ≠ 0 ∧ wGm.dev.reg64 .timeGmId 0 ≠ 99) ∧
    ((mk as1).dev.asActive ((mk as1).dev.fld .timeCtrl 0 4 2) = true ∧ wPd.dev.asActive 0 = true ∧ wPd.dev.time.pdelayT1 = some 100) ∧
    (wHold.dev.time.src = 1 ∧ wHold.dev.time.srcValid = true ∧ wHold.dev.time.holdover = false ∧
      wHold.dev.time.lastSync + 3 * wHold.dev.time.syncInterval ≤ instant wHold.dev.now 93750005) ∧
    (2 ≤ wIn.dev.time.src ∧ wIn.dev.time.locked = false ∧ wIn.dev.time.setPend = none) ∧
    (2 ≤ (wMiss 3).dev.time.src ∧ (wMiss 3).dev.time.locked = true) ∧
    (wOut.dev.pwr.st = .active ∧ wOut.dev.time.syncOutEnd = none ∧ wOut.dev.syncOutNext = some (0, 0)) ∧
    wOutEnd.dev.time.syncOutEnd = some 900 := by decide +kernel

theorem witness_FrameTickIssuesTheNextTick :
    (mk id).dev.alive = true ∧ (mk id).dev.time.setPend = none ∧ (mk id).dev.time.stepPend = none := by decide +kernel

def wDue := mk fun d => d.onTime fun t => { t with outDue := true, k := some 7 }
theorem witness_OutputJunctionPublishes : wDue.dev.alive = true ∧ wDue.dev.time.outDue = true := by decide +kernel

def vals0 : LoopVals :=
  { pp := 0, vp := 0, ap := 0, posDem := 0, eP := 0, uP := 0, velDem := 0x3F800000, velErr := 0, uV := 0, dmd := 0, dff := 0,
    trm := 0, proc := none, iV := 0, iP := 0, iT := 0, secOut := [] }
def work0 : LaneWork :=
  { run := {}, vals := vals0, dmd := 0, dff := 0, posDem := 0, kbits := 0, feOver := false, kerb := false, bcClamp := false, saved := {} }
def wLate := mk fun d => d.onLane 95 fun l => { l with st := .run, work := some work0 }
def workBad : LaneWork := { work0 with found := [.resFail 95 3] }
def wLateBad := mk fun d => d.onLane 95 fun l => { l with st := .run, work := some workBad }
def wTimed := mk fun d => { d.onTime (fun t => { t with k := some 7 }) with
  staged := [{ port := 0, acc := 0, inGroup := false, act := .prf 95 (.stop 0 0) false (some 7) }] }
def wFe := mk fun d =>
  (d.onLane 95 fun l => { l with st := .run, loop := { l.loop with run := { l.loop.run with feCnt := 255 } } }).setFlag .loopStat 95 10
def wTrm := mk fun d => (d.onLane 95 fun l => { l with st := .run, loop := { l.loop with trmHold := true, trmBad := 255 } }).setFlag .trmCtrl 95 9
def gear0 : Gear := { kind := 0, idx := 0, num := 1, den := 1, mPrev := 0, r := 0, bp := 0, bv := 0, ba := 0, t := 0, lost := 65535 }
def wGear := mk fun d => d.onLane 95 fun l =>
  { l with st := .run, prf := { l.prf with gen := { l.prf.gen with kind := .gear, gear := some gear0 } } }
def wTrc := mk fun d => { d with trc := { d.trc with st := 2 } }

theorem witness_FrameEventsAct :
    ((mk id).dev.Sized ∧ wLate.dev.Sized ∧ wLateBad.dev.Sized ∧ wFe.dev.Sized ∧ wTrm.dev.Sized ∧ wGear.dev.Sized ∧ wTimed.dev.Sized) ∧
    ((mk id).dev.alive = true ∧ hasLane 95 wLate.dev = true ∧ (wLate.dev.lane 95).work = some work0 ∧ wLate.dev.time.outDue = false ∧
      (wLate.dev.lane 95).st = .run ∧ work0.found = [] ∧ (wLateBad.dev.lane 95).work = some workBad ∧
      workBad.found = [.resFail 95 3] ∧ (wLateBad.dev.lane 95).st = .run ∧ wLateBad.dev.time.outDue = false) ∧
    (∃ x ∈ wTimed.dev.staged, x.inGroup = false ∧ x.act = .prf 95 (.stop 0 0) false (some 7) ∧ 7 ≤ wTimed.dev.time.k.getD 0) ∧
    ((wFe.dev.lane 95).st = .run ∧ wFe.dev.regBit .loopStat 95 10 = true ∧ wFe.dev.fld .feN 95 0 8 ≤ (wFe.dev.loop 95).run.feCnt) ∧
    ((wTrm.dev.lane 95).st = .run ∧ wTrm.dev.regBit .trmCtrl 95 9 = true ∧ (wTrm.dev.loop 95).trmHold = true ∧
      wTrm.dev.fld .trmCtrl 95 16 8 ≤ (wTrm.dev.loop 95).trmBad) ∧
    ((wGear.dev.gen 95).gear = some gear0 ∧ wGear.dev.fld .prfCtrl 95 16 16 < gear0.lost) ∧ hasCluster 3 (mk id).dev = true ∧
    (wTrc.dev.trc.st = 2 ∧ wTrc.dev.trcRoll = false ∧ wTrc.dev.trc.left = 0) :=
  ⟨⟨sized_mk, sized_of (by decide +kernel), sized_of (by decide +kernel), sized_of (by decide +kernel),
    sized_of (by decide +kernel), sized_of (by decide +kernel), sized_of (by decide +kernel)⟩, by decide +kernel⟩

/-! ### Witnesses: excitation, acquisition, tracker, learner -/

def wRamp := mk fun d => d.onGroup 11 fun g => { g with gen := .ramping, rampT := 5 }
def wRun (f : Group → Group) := mk fun d => (d.setReg .excIxs 11 0x00400010).onGroup 11 fun g => f { g with gen := .running }
theorem witness_ExcitationEventsAct :
    (wRamp.dev.Sized ∧ (wRun id).dev.Sized) ∧ (mk id).dev.alive = true ∧ hasGroup 11 (mk id).dev = true ∧
    ((wRamp.dev.group 11).gen = .ramping ∧ 16 * wRamp.dev.carrierPeriod 11 < ((instant wRamp.dev.now 40000000 + 1 - (wRamp.dev.group 11).rampT : Nat) : Rat)) ∧
    (((wRun id).dev.group 11).gen = .running ∧ 65535 < 65536 ∧ (wRun id).dev.fld .excIxs 11 16 16 < 65 ∧
      64 ≤ (wRun id).dev.fld .excIxs 11 16 16 ∧ 0 < (wRun id).dev.fld .excIxs 11 0 16 ∧ 15 < (wRun id).dev.fld .excIxs 11 0 16) :=
  ⟨⟨sized_of (by decide +kernel), sized_of (by decide +kernel)⟩, by decide +kernel⟩

/-- Lane 95 tracks; its group runs where `r` says so. -/
def wAcq (r : Bool) (a : Acq → Acq) (k : Tracker → Tracker) := mk fun d =>
  (d.onLane 95 fun l => { l with st := .track, acq := a l.acq, trk := k { l.trk with tracking := true } }).onGroup 11 fun g =>
    { g with gen := if r then .running else .stopped }
theorem witness_AcquisitionSamplesAct :
    ((wAcq true id id).dev.Sized ∧ (wAcq false id id).dev.Sized) ∧ (wAcq true id id).dev.alive = true ∧
    hasLane 95 (wAcq true id id).dev = true ∧ (wAcq true id id).dev.acqOn 95 = true ∧ ((wAcq true id id).dev.lane 95).trk.tracking = true ∧
    (wAcq true id id).dev.suspect 95 { s := 8000000, c := 0 } = false ∧
    (wAcq true (fun a => { a with coast := true, coastT := 5 }) id).dev.coastOver 95 4000000 = true ∧
    ((wAcq true id id).dev.suspect 95 { s := 0, c := 0 } = true ∧ (wAcq true id id).dev.coastOver 95 9 = false ∧
      (wAcq true id id).dev.los 95 = false) ∧
    ((wAcq false id id).dev.acqOn 95 = true ∧ (wAcq false id id).dev.suspect 95 { s := 0, c := 0 } = true ∧
      (wAcq false id id).dev.coastOver 95 9 = false ∧ (wAcq false id id).dev.los 95 = true) ∧
    (wAcq true id id).dev.groupRunning 95 = true :=
  ⟨⟨sized_of (by decide +kernel), sized_of (by decide +kernel)⟩, by decide +kernel⟩

def wDec (a : Acq → Acq) : State := { wAcq true a id with dev := (wAcq true a id).dev.setReg .excAmp 11 4000 }
theorem witness_AcquisitionDecisionsAct :
    (∀ f, (f = id ∨ f = fun a : Acq => { a with magLow := true }) → (wDec f).dev.Sized) ∧
    ((wDec id).dev.alive = true ∧ hasLane 95 (wDec id).dev = true ∧ (wDec id).dev.acqOn 95 = true ∧ (wDec id).dev.groupRunning 95 = true) ∧
    (((wDec fun a => { a with fastEnd := some 9 }).dev.lane 95).acq.fastEnd = some 9 ∧ 9 ≤ instant (wDec id).dev.now 9) ∧
    (((wDec fun a => { a with magLow := true }).dev.lane 95).acq.magLow = true ∧ ((wDec id).dev.group (groupOf 95)).isOpen = false ∧
      1 ∉ ((wDec fun a => { a with magLow := true }).dev.lane 95).acq.causes) ∧
    (((wDec fun a => { a with dcOpen := some (1, 200000) }).dev.lane 95).acq.dcOpen = some (1, 200000) ∧
      2 ∉ ((wDec fun a => { a with dcOpen := some (1, 200000) }).dev.lane 95).acq.causes ∧
      ((wDec fun a => { a with dcOpen := some (1, 200000) }).dev.lane 95).acq.magLow = false) ∧
    (((wDec fun a => { a with causes := [1], passCnt := 16 }).dev.lane 95).acq.causes ≠ [] ∧
      16 ≤ ((wDec fun a => { a with causes := [1], passCnt := 16 }).dev.lane 95).acq.passCnt) ∧
    (1 < 2 ∧ 2 ≤ ((((wDec fun a => { a with resets := [8, 7] }).dev.lane 95).acq.resets.filter
      fun r => decide (9 < r + 100000 * unitsPerUs)).length)) ∧
    (16 ≤ ((wDec fun a => { a with narrowCnt := 16, range := 2 }).dev.lane 95).acq.narrowCnt ∧
      ((wDec fun a => { a with narrowCnt := 16, range := 2 }).dev.lane 95).acq.rangePend = none ∧
      ((wDec fun a => { a with narrowCnt := 16, range := 2 }).dev.lane 95).acq.range < 3 ∧
      ((wDec fun a => { a with narrowCnt := 16, range := 2 }).dev.lane 95).acq.coast = false ∧ (wDec id).dev.fld .acqCtrl 95 2 3 = 0) ∧
    (((wDec fun a => { a with rangePend := some 3 }).dev.lane 95).acq.rangePend = some 3 ∧
      ((wDec fun a => { a with rangePend := some 3 }).dev.lane 95).acq.coast = false) ∧
    (64 ≤ ((wDec fun a => { a with ratioCnt := 64 }).dev.lane 95).acq.ratioCnt ∧ (wDec id).dev.fld .excAmp (groupOf 95) 0 12 ≠ 0) := by
  refine ⟨?_, by decide +kernel⟩
  rintro f (rfl | rfl) <;> exact sized_of (by decide +kernel)

def wTrk (k : Tracker → Tracker) := wAcq true id k
theorem witness_LockEventsAct :
    ((wTrk fun k => { k with errCnt := 4, lockCause := 0 }).dev.Sized ∧ (wTrk fun k => { k with spdCnt := 4, lockCause := 0 }).dev.Sized ∧
      (wTrk fun k => { k with goodCnt := 256 }).dev.Sized) ∧
    ((wTrk id).dev.alive = true ∧ hasLane 95 (wTrk id).dev = true ∧ (wTrk id).dev.stepFb 95 = none ∧
      ((wTrk id).dev.lane 95).trk.tracking = true ∧ (wTrk id).dev.los 95 = false) ∧
    (4 ≤ ((wTrk fun k => { k with errCnt := 4, lockCause := 0 }).dev.lane 95).trk.errCnt ∧
      ((wTrk fun k => { k with errCnt := 4, lockCause := 0 }).dev.lane 95).trk.lockCause = 0 ∧
      4 ≤ ((wTrk fun k => { k with spdCnt := 4, lockCause := 0 }).dev.lane 95).trk.spdCnt ∧
      ((wTrk fun k => { k with spdCnt := 4, lockCause := 0 }).dev.lane 95).trk.spdSeen = false) ∧
    (4 ≤ ((wTrk fun k => { k with spdCnt := 4, lockCause := 1 }).dev.lane 95).trk.spdCnt ∧
      ((wTrk fun k => { k with spdCnt := 4, lockCause := 1 }).dev.lane 95).trk.spdSeen = false ∧
      ((wTrk fun k => { k with spdCnt := 4, lockCause := 1 }).dev.lane 95).trk.lockCause ≠ 0) ∧
    (((wTrk fun k => { k with fastEnd := some 9 }).dev.lane 95).trk.fastEnd = some 9 ∧ 9 ≤ instant (wTrk id).dev.now 9) ∧
    (((wTrk fun k => { k with goodCnt := 256 }).dev.lane 95).trk.lockCause ≠ 0 ∧
      256 ≤ ((wTrk fun k => { k with goodCnt := 256 }).dev.lane 95).trk.goodCnt) :=
  ⟨⟨sized_of (by decide +kernel), sized_of (by decide +kernel), sized_of (by decide +kernel)⟩, by decide +kernel⟩
/-- The same in RUN, off its detour and with none available: the lane faults. -/
theorem witness_LockEventsAct_run :
    let s := mk fun d => d.onLane 95 fun l => { l with st := .run, trk := { l.trk with tracking := true, errCnt := 4, spdCnt := 4, lockCause := 0 } }
    (s.dev.lane 95).st = .run ∧ (s.dev.lane 95).trk.detour = false ∧ s.dev.detAvail 95 = false ∧ 4 ≤ (s.dev.lane 95).trk.errCnt ∧
      4 ≤ (s.dev.lane 95).trk.spdCnt ∧ (s.dev.lane 95).trk.lockCause = 0 ∧ s.dev.stepFb 95 = none := by decide +kernel

def wMap (m : MapSt → MapSt) := mk fun d => d.onMap 95 m
theorem witness_LearnerEventsAct :
    ((wMap fun m => { m with segBad := true }).dev.Sized ∧ (wMap fun m => { m with segDone := true }).dev.Sized ∧
      (wMap fun m => { m with st := .evaluating }).dev.Sized ∧ (wMap fun m => { m with driftCnt := 64 }).dev.Sized) ∧
    ((wMap id).dev.alive = true ∧ (wMap id).dev.mgmtUp = true ∧ hasLane 95 (wMap id).dev = true) ∧
    ((wMap fun m => { m with segBad := true }).dev.lane 95).map.segBad = true ∧
    (let m := ((wMap fun m => { m with segDone := true }).dev.lane 95).map
     m.segBad = false ∧ m.segDone = true ∧ m.learning = false ∧
      ¬((if m.sigmas.length ≥ 32 then 4 * medianRat m.sigmas else 1800 / arcsecTurn) <
        (estimate ((wMap id).dev.poles 95) m.segMech m.seg.reverse).2)) ∧
    ((wMap fun m => { m with st := .evaluating, mode := 1 }).dev.lane 95).map.st = .evaluating ∧
    ((wMap fun m => { m with st := .evaluating, mode := 2 }).dev.lane 95).map.mode = 2 ∧
    (64 ≤ ((wMap fun m => { m with driftCnt := 64 }).dev.lane 95).map.driftCnt ∧
      ((wMap fun m => { m with driftCnt := 64 }).dev.lane 95).map.learning = false) ∧
    (((wMap fun m => { m with fade := some ⟨1, 8, {}⟩ }).dev.lane 95).map.fade = some ⟨1, 8, {}⟩ ∧ 1 + 8 ≤ instant (wMap id).dev.now 9) :=
  ⟨⟨sized_of (by decide +kernel), sized_of (by decide +kernel), sized_of (by decide +kernel), sized_of (by decide +kernel)⟩,
    by decide +kernel⟩

/-! ### Witnesses: pulse inputs, outputs, process channels -/

/-- Pulse input 31 in mode `m`. -/
def wPin (m : Nat) (f : PulseIn → PulseIn) := mk fun d => ({ d with pins := d.pins.modify 31 f }).setFld .pinCtrl 31 0 4 m
theorem witness_PulseEdgesAct :
    ((wPin 2 id).dev.Sized ∧ (wPin 2 fun p => { p with b := true }).dev.Sized ∧ (wPin 4 fun p => { p with bounce := [⟨2, true, 5⟩] }).dev.Sized) ∧
    ((wPin 2 id).dev.alive = true ∧ hasPin 31 (wPin 2 id).dev = true) ∧
    ((wPin 2 id).dev.pinMode 31 = 2 ∧ (wPin 2 id).dev.regBit .pinCtrl 31 9 = false ∧ ((wPin 2 id).dev.pin 31).a = false ∧
      ((wPin 2 id).dev.pin 31).b = false ∧ ((wPin 2 fun p => { p with b := true }).dev.pin 31).b = true ∧
      ((wPin 2 id).dev.pin 31).setT ≠ some (7 / 5 * 5) ∧ ((wPin 2 fun p => { p with setT := some 5 }).dev.pin 31).setT = some (7 / 5 * 5)) ∧
    ((wPin 1 id).dev.pinMode 31 = 1 ∧ (wPin 1 id).dev.regBit .pinCtrl 31 9 = false) ∧
    ((wPin 4 fun p => { p with bounce := [⟨2, true, 5⟩] }).dev.pinMode 31 = 4 ∧ 2 < 3 ∧
      ((wPin 4 fun p => { p with bounce := [⟨2, true, 5⟩] }).dev.pin 31).bounce.find? (·.wire = 2) = some ⟨2, true, 5⟩ ∧
      5 + (wPin 4 id).dev.minEdge 31 ≤ 2000000) :=
  ⟨⟨sized_of (by decide +kernel), sized_of (by decide +kernel), sized_of (by decide +kernel)⟩, by decide +kernel⟩

def wEdge : PulseEdge := ⟨5, 100000, false⟩
def wDrift := mk fun d => (({ d with pins := d.pins.modify 31 fun p => { p with idxPend := some wEdge, refPos := some 7 } }).setFld .pinCtrl 31 0 4 2).setFld
  .pinCpt 31 0 24 9999
def wWire := mk fun d => (d.setFld .pinCtrl 31 0 4 3).setFlag .pinCtrl 31 11
def wStill := wPin 3 fun p => { p with lastEdge := some wEdge }
def wSer (st : Option Time) := mk fun d => (({ d with pins := d.pins.modify 31 fun p => { p with serStart := st } }).setFld .pinCtrl 31 0 4 6).onTime
  fun t => { t with k := some 3 }
/-- SSI of 8 bits, all of a turn, without an error bit. -/
def wSsi : State := { wSer (some 5) with
  dev := ((wSer (some 5)).dev.setFld .pinCtrl 31 0 4 5).setReg .serFmt 31 (at_ 24 63 ||| at_ 12 8 ||| at_ 0 8) }
theorem witness_PulseChecksAct :
    ((wDrift.dev.Sized ∧ wWire.dev.Sized ∧ wStill.dev.Sized) ∧ (wSer none).dev.Sized) ∧
    ((mk id).dev.alive = true ∧ hasPin 31 (mk id).dev = true) ∧
    (((wPin 2 fun p => { p with idxPend := some wEdge }).dev.pin 31).idxPend = some wEdge ∧ wEdge.neg = false ∧
      ((wPin 2 fun p => { p with idxPend := some wEdge }).dev.pin 31).refPos = none) ∧
    ((wDrift.dev.pin 31).idxPend = some wEdge ∧ (wDrift.dev.pin 31).refPos = some 7 ∧
      wDrift.dev.fld .pinWin 31 0 16 < (indexDrift wEdge.count 7 (wDrift.dev.pinCpt 31)).natAbs ∧ (wDrift.dev.pin 31).alignPend = false) ∧
    (wWire.dev.regBit .pinCtrl 31 11 = true ∧ wWire.dev.pairUsed 31 1 = true ∧ (wWire.dev.pin 31).wire 1 = false) ∧
    ((wStill.dev.pin 31).lastEdge = some wEdge ∧ wStill.dev.pinCounts 31 = true ∧
      wEdge.t + 400000 * wStill.dev.fld .pinWin 31 16 16 ≤ 400000 * 65536 ∧
      (wStill.dev.pin 31).unused = []) ∧
    ((wSer none).dev.pinSerial 31 = true ∧ (wSer none).dev.time.k.isSome = true ∧ ((wSer none).dev.pin 31).serFrame ≠ (wSer none).dev.time.k) ∧
    (((wSer (some 5)).dev.pin 31).serStart.isSome = true ∧ (wSer (some 5)).dev.serBad 31 { data := 0, started := false } = some 3) ∧
    (wSsi.dev.pinSerial 31 = true ∧ (wSsi.dev.pin 31).serStart = some 5 ∧ wSsi.dev.serBad 31 { data := 5 } = none ∧
      wSsi.dev.serWord 31 { data := 5 } = 5 ∧ wSsi.dev.serAdvance 31 5 = some 5) :=
  ⟨⟨⟨sized_of (by decide +kernel), sized_of (by decide +kernel), sized_of (by decide +kernel)⟩, sized_of (by decide +kernel)⟩,
    by decide +kernel⟩

def wEmu (src : Nat) (f : EmuOut → EmuOut) := mk fun d =>
  ({ (d.onLane 95 fun l => { l with st := .run }) with
      emus := d.emus.modify 23 f, crit := { d.crit with barrierUp := BitVec.allOnes 96 } }).setFld .emuCtrl 23 0 2 src |>.setFld .emuLane 23 0 7 95
def wStall := mk fun d => (((d.onLane 95 fun l => { l with st := .run }).setFld .emuStall 23 16 8 255).setFlag .emuCtrl 23 12).setFld .emuLane 23 0 7 95
  |> fun d => { d with emus := d.emus.modify 23 fun x => { x with stallRun := 255 } }
theorem witness_OutputEventsAct :
    ((wEmu 1 id).dev.Sized ∧ (wEmu 2 id).dev.Sized ∧ wStall.dev.Sized) ∧ (wEmu 1 id).dev.alive = true ∧ 23 < 24 ∧
    (let s := wEmu 1 fun x => { x with een := true, queue := [(7, true, -1)], lastT := some 3 }
     s.dev.emuSrc 23 = 1 ∧ (s.dev.emu 23).een = true ∧ (s.dev.emu 23).queue = [(7, true, -1)] ∧ (s.dev.emu 23).lastT = some 3) ∧
    (let s := wEmu 2 fun x => { x with een := true, on := true, queue := [(7, true, 1)], lastT := some 3 }
     s.dev.emuSrc 23 = 2 ∧ s.dev.emuLive 23 = true ∧ (s.dev.emu 23).een = true ∧ (s.dev.emu 23).queue = [(7, true, 1)]) ∧
    (let s := wEmu 2 fun x => { x with een := true, on := true, x := 5 }
     s.dev.emuLive 23 = true ∧ (s.dev.emu 23).een = true ∧ (s.dev.emu 23).queue = [] ∧ (s.dev.emu 23).x ≠ (s.dev.emu 23).e) ∧
    (wStall.dev.fld .emuStall 23 16 8 ≠ 0 ∧ wStall.dev.fld .emuStall 23 16 8 ≤ (wStall.dev.emu 23).stallRun ∧
      (wStall.dev.emu 23).stall = false ∧ wStall.dev.regBit .emuCtrl 23 12 = true ∧ wStall.dev.emuLane 23 < 96 ∧
      (wStall.dev.lane (wStall.dev.emuLane 23)).st = .run) :=
  ⟨⟨sized_of (by decide +kernel), sized_of (by decide +kernel), sized_of (by decide +kernel)⟩, by decide +kernel⟩

def wCh (ty : Nat) (f : PfeCh → PfeCh) := mk fun d => ({ d with pfe := d.pfe.modify 7 f }).setReg .pfeCtrl 7 (BitVec.ofNat 32 ty)
theorem witness_ProcessChannelEventsAct :
    ((wCh 4 fun y => { y with conv := 2 }).dev.Sized ∧ (wCh 0x17 id).dev.Sized) ∧ (wCh 4 id).dev.alive = true ∧ 7 < 8 ∧
    ((wCh 4 id).dev.pfePowered = true ∧ (wCh 4 id).dev.pfeType 7 ≠ 0 ∧ (wCh 4 id).dev.pfeType 7 ≠ 7 ∧
      ((wCh 4 fun y => { y with conv := 2 }).dev.ch 7).conv = 2 ∧
      (((wCh 4 fun y => { y with conv := 2 }).dev.at 4000000000).pfeEndsAt 7).isSome = true) ∧
    (((wCh 0x17 id).dev.at 4000000000).pfeEndsAt 7).isSome = true ∧ ((wCh 4 id).dev.at 0).pfeEndsAt 7 = none ∧
    ((wCh 0x17 id).dev.pfePowered = true ∧ (wCh 0x17 id).dev.pfeType 7 = 7 ∧ (wCh 0x17 id).dev.fld .pfeCtrl 7 4 4 ≠ 0 ∧
      ((wCh 0x17 id).dev.ch 7).conv = 0 ∧ ({ v := 12 } : Conversion).v = 12) ∧
    (((wCh 1 fun y => { y with pend := some (9, {}) }).dev.ch 7).pend = some (9, {}) ∧ 9 ≤ 9) ∧
    instant (mk id).dev.now 5 < (mk id).dev.hlt.dieAt + unitsPerSec :=
  ⟨⟨sized_of (by decide +kernel), sized_of (by decide +kernel)⟩, by decide +kernel⟩

/-! ### Witnesses: packets, links, SPI, records -/

/-- Every port is enabled, the links of the host ports are up. -/
def linksUp (d : Dev) : Dev :=
  (List.range 5).foldl (fun d p => (d.setFlag .hpCtrl p 4).onPort p fun x => { x with link := true, sync := true }) d
def wLine (f : Dev → Dev) := mk fun d => f (linksUp d)
/-- PING in a packet of generation 1 with tag 5. -/
def wPing : List Byte := packet 1 0 0 2 5 0 [9]
def wQ : QReq := { op := 2, arr := 1, req := { rq 1 0 [9] with port := 3 } }
def wJob (p : Nat) : QReq := { op := 0x0D00, arr := 1, req := { rq 2 0 [] with port := p } }
theorem witness_PacketEventsAct :
    ((wLine id).dev.Sized ∧ (wLine fun d => d.onPort 3 fun x => { x with tx := [⟨[1], 0, none, 2⟩] }).dev.Sized) ∧ (wLine id).dev.alive = true ∧
    ((wLine id).dev.portUp 4 = true ∧ (wLine id).dev.hlt.pause = none ∧ wPing.length = 16 + u16At wPing 6 ∧
      crc32 (wPing.take (wPing.length - 4)) = u32At wPing (wPing.length - 4) ∧ byteAt wPing 0 / 16 = 1 ∧ wPing.getD 1 0 &&& 0xF3 = 0 ∧
      zeroAt wPing 10 2 = true ∧ ((wLine id).dev.port 4).rx.length < 4) ∧
    (let s := wLine fun d => d.onPort 0 fun x => { x with rx := [wQ] }
     s.dev.mgmtUp = true ∧ (s.dev.port 0).rx = [wQ] ∧ s.dev.serveNext = 0) ∧
    (let s := wLine fun d => d.onPort 3 fun x => { x with tx := [⟨[1], 0, none, 2⟩] }
     3 < 4 ∧ s.dev.portUp 3 = true ∧ (s.dev.at 9).lineFree 3 = true ∧ (s.dev.port 3).tx = [⟨[1], 0, none, 2⟩]) ∧
    (let s := wLine fun d => d.onPort 4 fun x => { x with bg := some ⟨wJob 4, .fwLoad 1 0 [1]⟩ }
     4 < 5 ∧ s.dev.mgmtUp = true ∧ (s.dev.port 4).bg = some ⟨wJob 4, .fwLoad 1 0 [1]⟩ ∧ (wJob 4).req.port = 4 ∧ (wJob 4).req.flags = 0) ∧
    (let s := wLine fun d => d.onPort 4 fun x => { x with group := some { count := 1, last := 0 } }
     (s.dev.port 4).group = some { count := 1, last := 0 } ∧
      (0 + 10 * 1000 * unitsPerUs) / 20 < instant s.dev.now (10 * 1000 * unitsPerUs + 20) / 20) :=
  ⟨⟨sized_of (by decide +kernel), sized_of (by decide +kernel)⟩, by decide +kernel⟩

/-- Port 3 as a Worost link. -/
def wWorost (f : Port → Port) := wLine fun d => (d.setFld .hpCtrl 3 0 2 1).onPort 3 f
theorem witness_LinkEventsAct :
    ((wWorost id).dev.Sized ∧ (wLine id).dev.Sized) ∧ (wWorost id).dev.alive = true ∧ 3 < 4 ∧ (wWorost id).dev.portOn 3 = true ∧
    (wWorost id).dev.worost 3 = true ∧ 2 ≤ ((wWorost fun x => { x with ready := 2 }).dev.port 3).ready ∧
    ((wWorost id).dev.at 9).lineFree 3 = true ∧
    ((wWorost id).dev.port 3).statusT + 1000 * unitsPerUs ≤ instant (wWorost id).dev.now (1000 * unitsPerUs) ∧
    ((wWorost id).dev.port 3).link = true ∧
    (let s := mk fun d => (d.setFlag .hpCtrl 3 4).setFld .hpCtrl 3 0 2 2
     s.dev.portOn 3 = true ∧ s.dev.worost 3 = false) :=
  ⟨⟨sized_of (by decide +kernel), sized_of (by decide +kernel)⟩, by decide +kernel⟩

theorem witness_SpiEventsAct :
    (wLine id).dev.Sized ∧ (wLine id).dev.portUp 4 = true ∧ (zeros 15).length < 16 ∧
    ((wLine id).dev.hlt.pause = none ∧ wPing.length = 16 + u16At wPing 6 ∧
      crc32 (wPing.take (wPing.length - 4)) = u32At wPing (wPing.length - 4) ∧ byteAt wPing 0 / 16 = 1 ∧ wPing.getD 1 0 &&& 0xF3 = 0 ∧
      zeroAt wPing 10 2 = true ∧ ((wLine id).dev.port 4).rx.length < 4) ∧
    ((wLine fun d => d.onPort 4 fun x => { x with tx := [⟨[1, 2], 0, none, 2⟩] }).dev.port 4).tx = [⟨[1, 2], 0, none, 2⟩] :=
  ⟨sized_of (by decide +kernel), by decide +kernel⟩

def wIn95 := wLine fun d => (d.setFlag .hpImap (3 * 3 + 2) 31).setFld .hpMiss 3 8 8 255 |>.onLane 95 fun l => { l with inAge := 255 }
/-- Part 0 of a block for lane 95 alone: one record with a set-point. -/
def wPart : List Byte := let h := [1, 4, 1, 0] ++ zeros 12 ++ [95, 1] ++ zeros 14; h ++ leBytes 4 (crc32 h)
theorem witness_RecordEventsAct :
    ((wLine id).dev.Sized ∧ wIn95.dev.Sized) ∧ (wLine id).dev.alive = true ∧ 3 < 4 ∧ (wLine id).dev.portUp 3 = true ∧
    (let s := wLine fun d => d.onPort 3 fun x => { x with inParts := [(5, [1, 2])] }
     (s.dev.port 3).inParts = [(5, [1, 2])] ∧ s.dev.partSound 3 [1, 2] = false) ∧
    (wIn95.dev.partSound 3 wPart = true ∧ seqFresh ((wIn95.dev.port 3).inSeq.getD 0 none) (u32At wPart 4) = true ∧
      (wIn95.dev.inShares 3)[byteAt wPart 1 % 2]? = some ([95], []) ∧ (byteAt wPart 17).testBit 0 = true) ∧
    (hasLane 95 wIn95.dev = true ∧ wIn95.dev.inPort 95 = some 3 ∧ wIn95.dev.fld .hpMiss 3 8 8 ≠ 0 ∧
      (wIn95.dev.lane 95).inLost = false ∧ wIn95.dev.fld .hpMiss 3 8 8 ≤ (wIn95.dev.lane 95).inAge) ∧
    (let s := wLine fun d => (d.onTime fun t => { t with k := some 8 }).onPort 3 fun x => { x with block := some (7, [[1], [2]], 0) }
     (s.dev.port 3).block = some (7, [[1], [2]], 0) ∧ 7 < s.dev.time.k.getD 0 ∧ s.dev.portUp 3 = true) :=
  ⟨⟨sized_of (by decide +kernel), sized_of (by decide +kernel)⟩, by decide +kernel⟩

/-! ### Witnesses: opcodes and register writes. After boot H0 leads and owns every lane. -/

/-- A request of H0. -/
def r0 (gen lane : Nat) (b : List Byte) : Request := { t := 9, port := 0, gen := gen, lane := lane, payload := b }

theorem witness_DeviceReadsAnswer :
    Admits (mk id).dev (rq 1 0 []) 1 .ignored .any ∧ Admits (mk id).dev (rq 1 0 (zeros 252)) 1 .ignored .any ∧
    (rq 1 0 (zeros 252)).payload.length ≤ payloadLimit 1 - 4 ∧ Admits (mk id).dev (rq 2 0 []) 2 .ignored .any ∧
    (mk id).dev.pwr.imageOk = false ∧
    (let r := rq 1 0 (leBytes 4 (RegId.excCtrl.addr 11) ++ [1, 0, 0, 0])
     Admits (mk id).dev r 1 .ignored .any ∧
     targetOf (RegId.excCtrl.addr 11) = .reg .excCtrl 11 ∧ RegId.excCtrl.addr 11 % 4 = 0 ∧ RegId.excCtrl.addr 11 < 2 ^ 32 ∧
     groupAt (RegId.excCtrl.addr 11) = none ∧ ((mk id).dev.port r.port).capture = none ∧
     (mk id).dev.absentAt (RegId.excCtrl.addr 11) = false) := by
  exact ⟨admits_any (by decide +kernel), admits_any (by decide +kernel), by decide +kernel, admits_any (by decide +kernel),
    by decide +kernel, admits_any (by decide +kernel), by decide +kernel⟩

/-- REG_WR and REG_RMW of one word from H0. -/
def wr0 (a : Nat) (v : Word) : Request := r0 1 0 (leBytes 4 a ++ [1, 0, 0, 0] ++ wordBytes v)
def rmw0 (a : Nat) (m v : Word) : Request := r0 1 0 (leBytes 4 a ++ wordBytes m ++ wordBytes v)
theorem witness_RegisterWritesAct (x : RegId) (k : Nat) (h : (x, k) = (.excCtrl, 11) ∨ (x, k) = (.laneCtrl, 95) ∨ (x, k) = (.timeCtrl, 0)) :
    let d := (mk id).dev
    let a := x.addr k
    (targetOf a = .reg x k ∧ a % 4 = 0 ∧ a < 2 ^ 32 ∧ x.valueWords = 1 ∧ d.wordCheck 0 a = stOk ∧ d.regPresent x k = true ∧
      x.traceSetting = false ∧ d.valueCheck a 3 = stOk) ∧
    Admits d (wr0 a 3) 1 .ignored .any ∧ Admits d (rmw0 a 1 1) 1 .ignored .any ∧
    (x = .timeCtrl → x.info.sw = 0 ∧ x ∉ [.timeSet, .mlsPop, .mlsAssign, .emuLane, .hpCtrl, .hpRxOk, .hpQmax, .bbxStat]) ∧
    (x ≠ .timeCtrl → x.info.sw ≠ 0 ∧ 1#32 &&& ~~~(x.info.rw ||| x.info.sw) = 0 ∧
      d.valueCheck a ((((d.counted (rmw0 a 1 1)).rmwOld 0 a &&& ~~~1) ||| 1) &&& ~~~x.info.w1c) = stOk) := by
  simp only [Prod.mk.injEq] at h
  obtain ⟨rfl, rfl⟩ | ⟨rfl, rfl⟩ | ⟨rfl, rfl⟩ := h <;>
    exact ⟨by decide +kernel, admits_any (by decide +kernel), admits_any (by decide +kernel), by decide +kernel, by decide +kernel⟩

/-- A register write of H0. -/
def w0 : RegWrite := { t := 9, port := 0 }
theorem witness_FieldWritesAct :
    Admits (mk id).dev (fieldRequest w0) 1 .ignored .any ∧ (mk id).dev.Sized ∧
    ((mk id).dev.regPresent .excCtrl 11 = true ∧ 11 < 12 ∧ (mk id).dev.mayWrite 0 .excCtrl 11 = true) ∧ (mk id).dev.owns 0 95 = true ∧
    (7 < 8 ∧ (mk id).dev.mayWrite 0 .pfeCmd 7 = true) ∧
    ((mk id).dev.mayWrite 0 .timeSet 0 = true ∧ (mk id).dev.timeSetRefused = false) ∧
    ((mk id).dev.regPresent .mlsPop 31 = true ∧ 31 < 32 ∧ (mk id).dev.mayWrite 0 .mlsPop 31 = true) :=
  ⟨admits_any (by decide +kernel), sized_mk, by decide +kernel⟩

theorem witness_LaneOpcodesAct :
    (mk id).dev.Sized ∧
    (Admits (mk id).dev (r0 1 95 ([1, 0, 1, 0] ++ leBytes 2 4 ++ [0, 0] ++ wordBytes 3)) 1 .one .owner ∧
      stageOffsetOk 4 = true ∧ 4 < 2 ^ 16 ∧
      targetOf (0x100000 + 0x400 * 95 + 4) = .reg .laneCtrl 95 ∧ RegId.laneCtrl.valueWords = 1) ∧
    (Admits (mk id).dev (r0 1 95 []) 1 .one .owner ∧ (mk id).dev.laneUp 95 = false ∧ ((mk id).dev.stagedStruct 0 95).ok = true ∧
      ((mk id).dev.admission 95 ((mk id).dev.stagedStruct 0 95)).1 = true) ∧
    Admits (mk id).dev (r0 1 95 []) 1 .one .any ∧
    (Admits (mk id).dev (r0 1 95 []) 1 .oneOrAll .owner ∧ Admits (mk id).dev (r0 1 0xFFFF []) 1 .oneOrAll .owner) ∧
    (Admits (mk id).dev (r0 1 95 (leBytes 2 0x3FC ++ leBytes 2 1)) 1 .one .any ∧ 0x3FC % 4 = 0 ∧ 0x3FC + 4 * 1 ≤ 0x400) ∧
    (Admits (mk id).dev (r0 1 95 (leBytes 2 0 ++ leBytes 2 62)) 1 .one .any ∧ 62 ≤ readMax 1 - 1) :=
  ⟨sized_mk, ⟨admits_owner (by decide +kernel), by decide +kernel⟩, ⟨admits_owner (by decide +kernel), by decide +kernel⟩,
    admits_any (by decide +kernel), ⟨admits_owner (by decide +kernel), admits_owner (by decide +kernel)⟩,
    ⟨admits_any (by decide +kernel), by decide +kernel⟩, ⟨admits_any (by decide +kernel), by decide +kernel⟩⟩

/-- Lane 95 in TRACK, with learning parameters 0.5 to 2 turns/s. -/
def wLearn := mk fun d => ((d.onLane 95 fun l => { l with st := .track }).setReg .mapVmin 95 0x3F000000).setReg .mapVmax 95 0x40000000
theorem witness_MapOpcodesAct :
    (Admits wLearn.dev (r0 2 95 [1, 7, 0, 0]) 2 .one .owner ∧ (wLearn.dev.lane 95).map.learning = false ∧
      (wLearn.dev.lane 95).st ≠ .off ∧ (wLearn.dev.lane 95).st ≠ .fault ∧ wLearn.dev.learnParamsOk 0 95 7 = true) ∧
    Admits wLearn.dev (r0 2 95 [3, 0, 0, 0]) 2 .one .owner ∧ Admits (mk id).dev (r0 2 95 []) 2 .one .any ∧
    (Admits (mk id).dev (r0 2 95 [1]) 2 .one .owner ∧ ((mk id).dev.port 0).bg = none) ∧ Admits (mk id).dev (r0 2 95 [0]) 2 .one .owner ∧
    (let b := (mk id).dev.mapBlob 95
     Admits (mk id).dev (r0 2 95 ([1, 0, 0, 0] ++ b)) 2 .one .owner ∧ b.length = 256 ∧
       ∃ m, (mk id).dev.readBlob 95 b = .ok m) := by
  refine ⟨⟨admits_owner (by decide +kernel), by decide +kernel⟩, admits_owner (by decide +kernel), admits_any (by decide +kernel),
    ⟨admits_owner (by decide +kernel), by decide +kernel⟩, admits_owner (by decide +kernel), admits_owner (by decide +kernel),
    by decide +kernel, ?_⟩
  have h : ((mk id).dev.readBlob 95 ((mk id).dev.mapBlob 95)).toOption.isSome = true := by decide +kernel
  cases e : (mk id).dev.readBlob 95 ((mk id).dev.mapBlob 95) with
  | ok m => exact ⟨m, rfl⟩
  | error x => rw [e] at h; simp [Except.toOption] at h

theorem witness_PulseOpcodesAct :
    let d := (wPin 2 id).dev
    d.Sized ∧ Admits d (r0 1 0 ([31, 3, 0, 0] ++ leBytes 8 (unsigned 64 (-1)))) 1 .ignored .any ∧
    (hasPin 31 d = true ∧ d.ownsUnit 0 (d.fld .pinAssign 31 0 7) = true ∧ d.pinMode 31 ≠ 0 ∧ d.pinMode 31 ≠ 4 ∧
      ¬(d.pinSerial 31 = true ∧ (3 = 1 ∨ 3 = 3))) ∧
    (Admits d (r0 1 0 [31, 7, 1]) 1 .ignored .any ∧ Admits d (r0 2 0 [31, 16, 1]) 1 .ignored .any ∧ d.ownsUnit 0 (d.fld .mlsAssign 31 0 7) = true) ∧
    Admits d (r0 1 0 [31, 1, 0]) 1 .ignored .any ∧ Admits d (r0 1 0 [31, 1]) 1 .ignored .any ∧
    (Admits d (r0 1 0 [23, 1, 0, 0]) 1 .ignored .any ∧ 23 < 24 ∧ d.ownsUnit 0 (d.emuLane 23) = true) :=
  ⟨sized_of (by decide +kernel), admits_any (by decide +kernel), by decide +kernel,
    ⟨admits_any (by decide +kernel), admits_any (by decide +kernel), by decide +kernel⟩, admits_any (by decide +kernel),
    admits_any (by decide +kernel), admits_any (by decide +kernel), by decide +kernel⟩

theorem witness_CoefTraceOpcodesAct :
    let d := (mk id).dev
    let g : List Word := List.replicate 15 0
    d.Sized ∧
    (Admits d (r0 1 95 ([1, 0, 15, 0] ++ g.flatMap wordBytes)) 1 .one .owner ∧ g.length = 15 ∧ gainsOk g = true ∧
      ((d.loop 95).banks.getD (1 - (d.loop 95).live) {}).gains.length = 15 ∧
      ({ ((d.loop 95).banks.getD (1 - (d.loop 95).live) {}) with gains := g } : Bank).secs.all SectionCoef.ok = true ∧
      (d.loop 95).live < 2 ∧ (d.loop 95).banks.length = 2 ∧ d.swapAwaits 0 95 = false) ∧
    Admits d (r0 1 95 [0, 1, 0, 15]) 1 .one .any ∧ Admits d (r0 1 95 [1, 0, 0, 0]) 1 .one .owner ∧
    (Admits d (r0 1 0 []) 1 .ignored .lead ∧ Admits d (r0 1 0 [0]) 1 .ignored .lead) ∧
    (Admits d (r0 1 0 (leBytes 4 (1048576 - 240) ++ leBytes 2 240)) 1 .ignored .any ∧ (1048576 - 240) % 4 = 0 ∧ 240 % 4 = 0 ∧
      1048576 - 240 + 240 ≤ 1048576) ∧ Admits d (r0 2 0 (leBytes 4 0 ++ leBytes 2 1000)) 1 .ignored .any :=
  ⟨sized_mk, ⟨admits_owner (by decide +kernel), by decide +kernel⟩, admits_any (by decide +kernel), admits_owner (by decide +kernel),
    ⟨admits_lead (by decide +kernel), admits_lead (by decide +kernel)⟩, ⟨admits_any (by decide +kernel), by decide +kernel⟩,
    admits_any (by decide +kernel)⟩

theorem witness_ProfileOpcodesAct :
    let d := (mk id).dev
    (Admits d (r0 1 95 ([1, 0, 0, 0, 0, 0, 0, 0] ++ leBytes 8 (unsigned 64 (2 ^ 63 - 1)) ++ wordBytes 0x3F800000 ++ [0, 0, 0, 0])) 1 .one .owner ∧
      speedOk 0x3F800000 = true ∧ (-2 ^ 63 : Int) ≤ 2 ^ 63 - 1 ∧ (2 ^ 63 - 1 : Int) < 2 ^ 63) ∧
    (Admits d (r0 1 95 ([2, 0, 0, 0, 0, 0, 0, 0] ++ wordBytes 0xBF800000 ++ zeros 12)) 1 .one .owner ∧ f32Finite 0xBF800000 = true) ∧
    (Admits d (r0 1 95 ([2, 0, 0, 0, 0, 0, 0, 0] ++ wordBytes 0 ++ wordBytes 0 ++ wordBytes 0x3F800000 ++ wordBytes 0x3F800000)) 1 .one .owner ∧
      limitsOk 2 0 0 0x3F800000 0x3F800000 = true ∧ limitsOk 0 0x3F800000 0x3F800000 0x3F800000 0x3F800000 = true) ∧
    (Admits d (r0 2 95 ([BitVec.ofNat 8 3, BitVec.ofNat 8 31, BitVec.ofNat 8 2, 0, 0, 0, 0, 0] ++ leBytes 4 (unsigned 32 (-1)) ++ leBytes 4 1 ++
        leBytes 8 (unsigned 64 0) ++ leBytes 8 (unsigned 64 0))) 2 .one .owner ∧ d.gearIndexOk 95 3 31 = true ∧ d.gearIndexOk 95 2 94 = true ∧
      d.gearIndexOk 95 1 7 = true ∧ d.gearIndexOk 95 0 255 = true) ∧
    Admits d (r0 1 95 ([2, 0, 0, 0, 0, 0, 0, 0] ++ leBytes 8 (unsigned 64 (-5)))) 1 .one .owner ∧
    (Admits d (r0 1 95 ([2, 0, 0, 0, 0, 0, 0, 0] ++ leBytes 4 7 ++ [0, 0, 0, 0])) 1 .oneOrAll .owner ∧
      Admits d (r0 1 0xFFFF ([2, 0, 0, 0, 0, 0, 0, 0] ++ leBytes 4 7 ++ [0, 0, 0, 0])) 1 .oneOrAll .owner) ∧
    (Admits d (r0 2 95 ([0, 1, 0, 0] ++ wordBytes 0x3F800000 ++ leBytes 8 (unsigned 64 (-5)))) 2 .one .owner ∧ d.wpFill 0 95 < 16) ∧
    (Admits d (r0 2 0xFFFF ([7, 0, 0, 0, 0, 0, 0, 0] ++ wordBytes 0x447A0000 ++ zeros 8)) 2 .allOnly .lead ∧
      f32Finite 0x447A0000 = true ∧ absRat (f32 0x447A0000) ≤ 1000) :=
  ⟨⟨admits_owner (by decide +kernel), by decide +kernel⟩, ⟨admits_owner (by decide +kernel), by decide +kernel⟩,
    ⟨admits_owner (by decide +kernel), by decide +kernel⟩, ⟨admits_owner (by decide +kernel), by decide +kernel⟩,
    admits_owner (by decide +kernel), ⟨admits_owner (by decide +kernel), admits_owner (by decide +kernel)⟩,
    ⟨admits_owner (by decide +kernel), by decide +kernel⟩, ⟨admits_lead (by decide +kernel), by decide +kernel⟩⟩

theorem witness_ChannelBlackBoxOpcodesAct :
    let d := (mk id).dev
    (Admits d (r0 1 0 ([BitVec.ofNat 8 7, 0, 0, 0] ++ (List.replicate 8 (0 : Word)).flatMap wordBytes)) 1 .ignored .any ∧ 7 < 8 ∧
      (List.replicate 8 (0 : Word)).length = 8 ∧ d.ownsUnit 0 (d.fld .pfeLane 7 0 7) = true) ∧
    Admits d (r0 1 0 [7]) 1 .ignored .any ∧ Admits d (r0 2 0 ([0, 31] ++ leBytes 2 65535)) 2 .ignored .any ∧
    (Admits d (r0 2 0 []) 2 .ignored .lead ∧ d.bbx.running = none ∧ (d.port 0).bg = none) :=
  ⟨⟨admits_any (by decide +kernel), by decide +kernel⟩, admits_any (by decide +kernel), admits_any (by decide +kernel),
    admits_lead (by decide +kernel), by decide +kernel⟩

/-- Slot B verified, slot A running. -/
def wFw := mk fun d => d.onHlt fun h => { h with runSlot := 0, regions := [{ st := 3, factory := true }, { st := 3 }, {}] }
theorem witness_FirmwareOpcodesAct :
    wFw.dev.hlt.regions.length = 3 ∧
    (Admits wFw.dev (r0 2 0 ([2, 1, 0, 0] ++ leBytes 4 4088 ++ zeros 8)) 2 .ignored .lead ∧ 4088 % 8 = 0 ∧ zeros 8 ≠ [] ∧ (zeros 8).length % 8 = 0 ∧
      4088 + (zeros 8).length ≤ regionSize 2 ∧ 4088 < 2 ^ 32 ∧ (wFw.dev.port 0).bg = none) ∧
    (Admits wFw.dev (r0 2 0 ([1, 1, 0, 0] ++ leBytes 4 1048568 ++ zeros 8)) 2 .ignored .lead ∧
      1048568 + (zeros 8).length ≤ regionSize 1 ∧ 1 ≠ wFw.dev.hlt.runSlot) ∧
    Admits wFw.dev (r0 2 0 [2, 0, 0, 0]) 2 .ignored .lead ∧
    (Admits wFw.dev (r0 3 0 [1, 0, 0, 0]) 3 .ignored .lead ∧ (wFw.dev.region 1).st = 3 ∧ 1 ≠ wFw.dev.hlt.runSlot ∧ wFw.dev.pwr.dbg ≠ .openDbg ∧
      wFw.dev.pwr.pfailLow = false ∧ wFw.dev.jobsRun = false) :=
  ⟨by decide +kernel, ⟨admits_lead (by decide +kernel), by decide +kernel⟩, ⟨admits_lead (by decide +kernel), by decide +kernel⟩,
    admits_lead (by decide +kernel), admits_lead (by decide +kernel), by decide +kernel⟩

/-- Booted, PARKED, the image in force verified. -/
def wParked := mk fun d => d.onPwr fun x => { x with st := .parked, imageOk := true }
theorem witness_PowerDebugOpcodesAct :
    (Admits wParked.dev (r0 2 0 [3, 0, 0, 0]) 2 .ignored .lead ∧ 3 ≤ 3 ∧ wParked.dev.powerFails 3 = 0 ∧ wParked.dev.powerFails 0 = 0) ∧
    (Admits wParked.dev (r0 2 0 []) 2 .ignored .lead ∧ (wParked.dev.port 0).bg = none ∧ wParked.dev.pwr.dbg ≠ .openDbg) ∧
    (wParked.dev.crit.sealed = false ∧ wParked.dev.pwr.st = .parked ∧ wParked.dev.pwr.imageOk = true ∧
      Admits wParked.dev (r0 2 0 (digest (imgRoot wParked.dev.pwr.image))) 2 .ignored .lead ∧
      (digest (imgRoot wParked.dev.pwr.image)).length = 32) ∧
    Admits wParked.dev (r0 2 0 [2]) 2 .ignored .lead ∧
    (Admits wParked.dev (r0 2 0 ([3, 0, 0, 0] ++ zeros 64)) 2 .ignored .lead ∧ (zeros 64).length = 64) :=
  ⟨⟨admits_lead (by decide +kernel), by decide +kernel⟩, ⟨admits_lead (by decide +kernel), by decide +kernel⟩,
    ⟨by decide +kernel, by decide +kernel, by decide +kernel, admits_lead (by decide +kernel), by decide +kernel⟩,
    admits_lead (by decide +kernel), admits_lead (by decide +kernel), by decide +kernel⟩

/-! ### Witnesses: the safety monitor -/

/-- A safety parameter set that gives parameters 2 and 12 of lane 95. -/
def wSet : ParamSet := [(laneParam 95 2, 1), (laneParam 95 12, 100)]
def wMon (f : SafLane → SafLane) := mk fun d => (d.onSaf fun s => { s with params := some wSet }).onSafLane 95 f
theorem witness_WatchEventsAct (fn : Nat) (h : fn = 1 ∨ fn = 2 ∨ fn = 3) :
    let f : SafLane → SafLane := fun x => { x with sto := false, sos := true, sls := 1, sdi := true, cnt := [1, 1, 1] }
    (wMon f).dev.alive = true ∧ sizedB (wMon f).dev = true ∧ hasLane 95 (wMon f).dev = true ∧ (wMon f).dev.recordUsed 95 = true ∧
    satNat 16 (isqrt (60 * 60 + 79 * 79)) < ((wMon f).dev.laneP 95 12).toNat ∧
    (1 ≤ fn ∧ fn ≤ 3 ∧ (wMon f).dev.fnActive 95 (fn - 1) = true ∧ ((wMon f).dev.safLane 95).caused.getD (fn - 1) false = false ∧
      ((wMon f).dev.laneP 95 2).toNat ≤ ((wMon f).dev.safLane 95).cnt.getD (fn - 1) 0) ∧
    ((wMon fun x => { x with xRun := 3 }).dev.safLane 95).xFail = false ∧ 3 ≤ ((wMon fun x => { x with xRun := 3 }).dev.safLane 95).xRun := by
  obtain rfl | rfl | rfl := h <;> decide +kernel

def wConn (f : Dev → Dev) := mk fun d => f ((d.setFlag .hpCmap 0 15).onConn 15 fun c => { c with st := .ok })
theorem witness_SafetyTimersAct :
    (wMon fun x => { x with armed := some 5, ss1T := some 6 }).dev.alive = true ∧
    (wMon fun x => { x with armed := some 5, ss1T := some 6 }).dev.Sized ∧ (wConn id).dev.Sized ∧
    hasLane 95 (mk id).dev = true ∧ ((wMon fun x => { x with armed := some 5, ss1T := some 6 }).dev.safLane 95).armed = some 5 ∧
    ((wMon fun x => { x with armed := some 5, ss1T := some 6 }).dev.safLane 95).ss1T = some 6 ∧ 15 < 16 ∧ ((wConn id).dev.conn 15).st = .ok :=
  ⟨by decide +kernel, sized_of (by decide +kernel), sized_of (by decide +kernel), by decide +kernel⟩

/-- Pair 1 with mode 2 and function `func`, on group 11; channels 2 and 3 at the level given. -/
def wSi (func : Nat) (a b : Bool) := mk fun d => d.onSaf fun s => { s with
  params := some [(devParam 3, BitVec.ofNat 32 (2 + 256 * func)), (devParam 7, 0x800)]
  levels := [false, false, a, b] }
theorem witness_SafetyInputsAct :
    let late := 1000 * unitsPerUs * 500 + 1
    ((wSi 2 false true).dev.alive = true ∧ (wSi 1 false true).dev.Sized ∧ (wSi 2 false true).dev.Sized ∧ (wSi 1 true true).dev.Sized) ∧ 3 < 4 ∧
    (1 < 2 ∧ (wSi 1 false true).dev.siMode 1 ≠ 0 ∧ ((wSi 1 false true).dev.siPair 1).demand = false ∧
      (wSi 1 false true).dev.siAtDemand 1 1 = true ∧ (wSi 1 false true).dev.siFunc 1 ≠ 2 ∧ (wSi 2 false true).dev.siFunc 1 = 2 ∧
      (wSi 1 false true).dev.saf.levelT.getD (2 * 1 + 1) 0 + 500 * unitsPerUs ≤ instant (wSi 1 false true).dev.now (500 * unitsPerUs) ∧
      11 ∈ (wSi 1 false true).dev.siGroups 1) ∧
    ((wSi 1 true true).dev.siMode 1 ≠ 0 ∧ ((wSi 1 true true).dev.siPair 1).disc = false ∧
      (wSi 1 true true).dev.siAtDemand 1 0 ≠ (wSi 1 true true).dev.siAtDemand 1 1 ∧
      max ((wSi 1 true true).dev.saf.levelT.getD 2 0) ((wSi 1 true true).dev.saf.levelT.getD 3 0) + 1000 * unitsPerUs * (wSi 1 true true).dev.devP 5 <
        instant (wSi 1 true true).dev.now late) :=
  ⟨⟨by decide +kernel, sized_of (by decide +kernel), sized_of (by decide +kernel), sized_of (by decide +kernel)⟩, by decide +kernel⟩

def wSo11 (f : Saf → Saf) := mk fun d =>
  ({ d with crit := { d.crit with sealed := true, soLatch := 0x7FF } }).onSaf fun s => f { s with params := some [] }
theorem witness_SafetyOutputsAct :
    ((wSo11 id).dev.alive = true ∧ (wSo11 id).dev.Sized ∧ hasGroup 11 (wSo11 id).dev = true) ∧
    ((wSo11 id).dev.soOn 11 = true ∧ (wSo11 id).dev.saf.pulse.getD 11 none = none ∧ (wSo11 id).dev.saf.readback.getD 11 0 = 0) ∧
    ((wSo11 fun s => { s with pulse := s.pulse.set 11 (some 7) }).dev.Sized ∧
      (wSo11 fun s => { s with pulse := s.pulse.set 11 (some 7) }).dev.saf.pulse.getD 11 none = some 7) ∧
    ((mk id).dev.soOn 11 = false ∧ (mk id).dev.saf.readback.getD 11 0 ≠ 2) ∧
    (wSo11 fun s => { s with readback := s.readback.set 11 1 }).dev.saf.readback.getD 11 0 = 1 ∧
    (wSo11 fun s => { s with readback := s.readback.set 11 1 }).dev.Sized ∧
    (wSo11 id).dev.saf.chainCause.getD 11 false = false ∧ (1 ∉ (wSo11 id).dev.saf.causes ∧ 2 ∉ (wSo11 id).dev.saf.causes) :=
  ⟨⟨by decide +kernel, sized_of (by decide +kernel), by decide +kernel⟩, by decide +kernel,
    ⟨sized_of (by decide +kernel), by decide +kernel⟩, by decide +kernel, by decide +kernel, sized_of (by decide +kernel), by decide +kernel⟩

/-- The connection with a lane list that does not name lane 95, which no cause holds. -/
def wAck := wConn fun d => ({ d with crit := { d.crit with soLatch := 0x7FF } }).onSafLane 95 (fun x => { x with sto := false }) |>.onSaf
  fun s => { s with params := some wSet }
/-- A CRC-32C fits a word. -/
theorem crc32c_lt (bs : List Byte) : crc32c bs < 2 ^ 32 := by
  have step (c : Nat) (h : c < 2 ^ 32) : crcStepR 0x82F63B78 c < 2 ^ 32 := by
    unfold crcStepR
    split
    · exact Nat.xor_lt_two_pow (by omega) (by decide)
    · omega
  have all (bs : List Byte) : ∀ c < 2 ^ 32, bs.foldl (crcByteR 0x82F63B78) c < 2 ^ 32 := by
    induction bs with
    | nil => exact fun c h => h
    | cons b bs ih =>
      intro c h
      refine ih _ (step _ (step _ (step _ (step _ (step _ (step _ (step _ (step _ ?_))))))))
      exact Nat.xor_lt_two_pow h (lt_of_lt_of_le b.isLt (by decide))
  exact Nat.xor_lt_two_pow (all bs _ (by decide)) (by decide)

theorem crc_ofNat (p : ParamSet) : p.crc = (BitVec.ofNat 32 p.crc).toNat := by
  rw [BitVec.toNat_ofNat, Nat.mod_eq_of_lt]
  exact crc32c_lt p.bytes

theorem witness_SafetyCommandsAct :
    ((wAck.dev.alive = true ∧ wAck.dev.Sized ∧ 15 < 16 ∧ (wAck.dev.conn 15).st = .ok ∧ (255#8).toNat ≠ (wAck.dev.conn 15).refTag) ∧
      wAck.dev.saf.params.isSome = true ∧ hasLane 95 wAck.dev = true ∧ wAck.dev.connOf 95 = none ∧ wAck.dev.armable 95 = true) ∧
    (wConn id).dev.Sized ∧ (wConn id).dev.paramWriter 15 = true ∧
    (wConn id).dev.saf.staged.crc = (BitVec.ofNat 32 (ParamSet.crc [])).toNat ∧ ((List.range 96).all (wConn id).dev.saf.staged.laneOk = true ∧
      ((List.range 16).flatMap (wConn id).dev.saf.staged.connLanes).any (wConn id).dev.saf.staged.unused = false ∧
      (wConn id).dev.saf.commitBy = none) :=
  ⟨⟨⟨by decide +kernel, sized_of (by decide +kernel), by decide +kernel⟩, by decide +kernel⟩, sized_of (by decide +kernel), by decide +kernel,
    by rw [show (wConn id).dev.saf.staged = [] by decide +kernel]; exact crc_ofNat [], by decide +kernel⟩
theorem witness_SafetyCommandsAct_word (target index : Byte) (i : Nat) (v : Word)
    (h : (target, index, i, v) ∈ [(95#8, 13#8, 1533, 0xFFFF#32), (0xCF#8, 2#8, 1598, 50000#32), (0xFF#8, 7#8, 1607, 0xFFF#32)]) :
    let d := (wConn id).dev
    d.paramWord target.toNat index.toNat = some i ∧
      (if target.toNat < 0xC0 then d.paramHeld target.toNat
        else if target.toNat < 0xFF then (d.params.connLanes (target.toNat - 0xC0)).any d.paramHeld
        else (List.range 96).any d.barrierUp) = false ∧
      d.paramOk target.toNat index.toNat v (d.saf.staged.put i v) = true := by
  simp only [List.mem_cons, Prod.mk.injEq, List.not_mem_nil, or_false] at h
  obtain ⟨rfl, rfl, rfl, rfl⟩ | ⟨rfl, rfl, rfl, rfl⟩ | ⟨rfl, rfl, rfl, rfl⟩ := h <;> decide +kernel

theorem witness_SafetyResetAct :
    (wConn fun d => d.onSaf fun s => { s with commitBy := some (15, wSet) }).dev.alive = true ∧
    (wConn fun d => d.onSaf fun s => { s with commitBy := some (15, wSet) }).dev.Sized ∧
    (wConn fun d => d.onSaf fun s => { s with commitBy := some (15, wSet) }).dev.saf.commitBy = some (15, wSet) ∧ 15 < 16 ∧
    (50000 * unitsPerUs ≤ 500000 * unitsPerUs ∧ 500000 * unitsPerUs ≤ 500000 * unitsPerUs) ∧
    (50000 * unitsPerUs - 1 < 50000 * unitsPerUs ∧ 500000 * unitsPerUs < 500000 * unitsPerUs + 1) ∧
    hasLane 95 (mk id).dev = true :=
  ⟨by decide +kernel, sized_of (by decide +kernel), by decide +kernel⟩

/-! ### Witnesses: boot, power, debug, health, update -/

/-- The booted device, with its boot, power and debug state changed. -/
def wPwr (f : Power → Power) := mk fun d => d.onPwr f
theorem witness_BootEventsAct :
    (State.reset.dev.pwr.booted = false ∧ State.reset.dev.pwr.booting = false ∧ State.reset.dev.pwr.st ≠ .dormant) ∧
    (let s : State := { State.reset with dev := State.reset.dev.onPwr fun x => { x with sealFuse := true, booting := true } }
     s.dev.pwr.booting = true) ∧
    (wPwr fun x => { x with restartAt := some 9 }).dev.alive = true ∧ (wPwr fun x => { x with restartAt := some 9 }).dev.pwr.restartAt = some 9 ∧
    9 ≤ instant (wPwr fun x => { x with restartAt := some 9 }).dev.now 9 := by decide +kernel

theorem witness_PowerEventsAct :
    (mk id).dev.alive = true ∧
    (let s := wPwr fun x => { x with st := .parked, dormantPend := true }
     s.dev.alive = true ∧ s.dev.pwr.dormantPend = true ∧ s.dev.bbx.running = none ∧ s.dev.bbx.waiting = none ∧ s.dev.pwr.wakeKept = none ∧
       s.dev.pwr.st ≠ .dormant) ∧
    (let s := mk fun d => ((((d.onPwr fun x => { x with st := .dormant }).setFlag .pwrWake 0 3).setFlag .pwrWake 0 8).setReg64 .pwrWakeT 0 9)
     s.dev.pwr.st = .dormant ∧ (s.dev.at 9).wakeEnabled 2 3 = true ∧ (s.dev.at 9).wakeEnabled 3 0 = true ∧ (s.dev.at 0).wakeEnabled 0 0 = true) := by
  decide +kernel

def wDbg (policy : Nat) (f : Power → Power) := mk fun d => (d.onPwr f).setFld .protDbg 0 0 2 policy
def wNonce : Nonce := { value := [7], target := 2, expires := 9 }
theorem witness_DebugEventsAct :
    ((wDbg 2 id).dev.alive = true ∧ (wDbg 2 id).dev.fld .protDbg 0 0 2 = 2 ∧ (wDbg 2 id).dev.pwr.dbg = .closed) ∧
    (wDbg 1 id).dev.fld .protDbg 0 0 2 = 1 ∧
    (let s := wPwr fun x => { x with st := .parked }
     s.dev.alive = true ∧ s.dev.crit.sealed = false ∧ s.dev.pwr.st = .parked ∧ s.dev.pwr.dbg ≠ .openDbg ∧ s.dev.crit.barrierUp = 0) ∧
    wSo.crit.sealed = true ∧ (mk id).dev.pwr.st ≠ .parked ∧
    (wPwr fun x => { x with nonce := some wNonce }).dev.pwr.nonce = some wNonce ∧ wNonce.expires ≤ instant (mk id).dev.now 9 ∧
    (wPwr fun x => { x with dbg := .observe }).dev.pwr.dbg = .observe ∧
    ((wPwr fun x => { x with dbg := .openDbg }).dev.alive = true ∧ (wPwr fun x => { x with dbg := .openDbg }).dev.pwr.dbg = .openDbg) := by
  decide +kernel

def wCommit : CommitRec :=
  { kind := 1, merged := 0, t := 5, frmSeq := 0, fwVer := 0, slot := 0, power := 2, newest := 0, hours := 0, dieT := 0, events := [], snaps := [] }
def wWaits : CommitWait := { kind := 3, t := 5, merged := 2, due := 9 }
theorem witness_HealthEventsAct :
    (mk id).dev.alive = true ∧ (mk id).dev.mgmtUp = true ∧ hasCluster 3 (mk id).dev = true ∧ (8 < 9 ∧ 1 ≤ 2 ∧ 2 ≤ 2 ∧ 100 ≤ 100) ∧
    (let s := mk fun d => { d with trc := { d.trc with mem := [(7, 1), (8, 2), (16, 3)] } }
     s.dev.alive = true ∧ memWf s.dev.trc.mem = true) ∧
    (let s := mk fun d => d.onHlt fun h => { h with corrHour := h.corrHour.set 9 101 }
     s.dev.mgmtUp = true ∧ ∃ m < 10, 100 < s.dev.hlt.corrHour.getD m 0) ∧
    (let s := mk fun d => { d with bbx := { d.bbx with waiting := some wWaits } }
     s.dev.mgmtUp = true ∧ s.dev.bbx.waiting = some wWaits ∧ wWaits.due ≤ instant s.dev.now 9 ∧ s.dev.bbx.running = none) ∧
    (let s := mk fun d => { d with bbx := { d.bbx with running := some wCommit } }
     s.dev.bbx.running = some wCommit ∧ s.dev.bbx.waiting = none ∧ s.dev.hlt.probation = none) := by
  decide +kernel

def wHlt (f : Health → Health) := mk fun d => d.onHlt f
def wPause (why : Nat) (late : Bool) : Pause := { start := 1, old := 0, new := 1, why := why, reloading := late }
theorem witness_UpdateEventsAct :
    (let s := wHlt fun h => { h with pause := some (wPause 0 false) }
     s.dev.alive = true ∧ s.dev.hlt.pause = some (wPause 0 false) ∧ instant s.dev.now (readyBy (wPause 0 false)) ≤ readyBy (wPause 0 false) ∧
       readyBy (wPause 0 false) ≤ instant s.dev.now (readyBy (wPause 0 false))) ∧
    (wHlt fun h => { h with pause := some (wPause 0 true) }).dev.hlt.pause = some (wPause 0 true) ∧
    (wHlt fun h => { h with pause := some (wPause 2 true) }).dev.hlt.pause = some (wPause 2 true) ∧
    ((mk id).dev.hlt.probation = none ∧ (mk id).dev.hlt.pause = none ∧ (mk id).dev.pwr.recovery = false) ∧
    (let s := wHlt fun h => { h with probation := some 9, recRetry := true }
     s.dev.mgmtUp = true ∧ s.dev.hlt.probation = some 9 ∧ s.dev.hlt.pause = none ∧ 9 ≤ instant s.dev.now 9 ∧ s.dev.hlt.recRetry = true) := by
  decide +kernel

/-! ### Witnesses: frames -/

theorem witness_TimeCommandsKeep : wIn.dev.time.src ≠ 3 ∧ (wMiss 3).dev.time.setPend = none := by decide +kernel
theorem witness_DeviceEventsKeep : 2 ≤ 2 ∧ 100 ≤ 100 := by decide
theorem witness_SingleRequestsKeep : ((mk id).dev.port (rq 1 95 [0]).port).group = none ∧ (rq 1 95 [0]).flags.getLsbD 2 = false := by
  decide +kernel
theorem witness_RegisterRequestsKeep :
    ((mk id).dev.port (wr0 0x80000 5).port).group = none ∧ (wr0 0x80000 5).flags.getLsbD 2 = false ∧ ((mk id).dev.port w0.port).group = none := by
  decide +kernel

/-! ### WellFormed refuses -/

/-- Lane 96 is no lane; `timedCommandDue` also takes 96 for the virtual masters. -/
def badlyLane : List Instr :=
  ([
    .frameTick [.retry 96 0], .frameTick [.resFail 96 0], .frameTick [.signature 96 0 0],
    .frameTick [.retry 0 0, .signature 96 0 0], .outputJunction [96], .outputJunction [0, 96],
    .demodSample 0 96 { s := 0, c := 0 }, .carrierPeriod 0 96 { iS := 0, iC := 0 }, .modulatorReset 0 96 0,
    .modulatorResetEnd 0 96 0, .posArm w0 96, .detReturn w0 96, .reqState w0 96 0, .timedCommandDue 0 97,
    .watchSample 0 96 0 0, .safetyViolation 0 96 1, .ss1Expiry 96, .armingExpiry 96, .lateWorkComplete 0 96, .phaseFastEnd 0 96] : List Instr) ++
  ([
    .losConfirm 0 96, .losClear 0 96, .rangeNarrowCount 0 96, .rangeChange 0 96, .ratioEval 0 96, .lockLoss 0 96,
    .overspeed 0 96, .reacqFastEnd 0 96, .lockRegained 0 96, .segmentEnd 0 96, .mapEvaluate 0 96, .mapDriftCheck 0 96,
    .fadeComplete 0 96, .followingError 0 96, .trimSourceFault 0 96, .masterTimeout 0 96, .inboundMiss 0 96, .xcmpFail 0 96] : List Instr)
theorem test_wf_refuses_lane : badlyLane.all (fun c => !c.wf) = true := by decide +kernel

/-- Group 12 is no group. -/
def badlyGroup : List Instr :=
  ([
    .generatorRun w0 12, .generatorStop w0 12, .rampComplete 0 12, .excHalfPeriod 0 12 0, .safetySelfTest 0 1 12 true,
    .soTestPulse 0 12, .soReadbackFault 0 12 0, .soTestPulseEnd 0 12 true] : List Instr)
theorem test_wf_refuses_group : badlyGroup.all (fun c => !c.wf) = true := by decide +kernel

/-- Ports end at 4, the links at 3; a domain is a byte. -/
def badlyPort : List Instr :=
  ([
    .syncMessage 0 4 0 0 0 0 false false, .syncMessage 0 0 256 0 0 0 false false, .announceMessage 0 4 0 0,
    .announceMessage 0 0 256 0, .pdelayReqReceive 0 4, .pdelayResponse 0 4 0 0 0, .packetReceive 0 5 [] false,
    .replyTransmit 0 5, .backgroundJobComplete 0 5 true, .groupTimeout 0 5, .writeLogSummary 0 5, .linkStatusFrame 0 4 0,
    .linkStatusSend 0 4, .linkStatusTimeout 0 4, .linkSyncLoss 0 4, .linkUp 0 4 true, .inboundPartReceive 0 4 [],
    .inboundPartAccept 4, .recordTransmit 4, .wake 0 2 4] : List Instr) ++
  ([
    .wake 0 4 0] : List Instr)
theorem test_wf_refuses_port : badlyPort.all (fun c => !c.wf) = true := by decide +kernel

/-- The other units: windings, inputs with their wires and pairs, milestone units, outputs, clusters, channels, SI pairs and channels, connections, memories. -/
def badlyUnit : List Instr :=
  ([
    .modulatorReset 0 0 2, .modulatorResetEnd 0 0 2, .pulseEdge 0 32 none none none, .indexEvent 0 32, .switchDebounce 0 32 0,
    .switchDebounce 0 0 3, .wireFault 0 32 0, .wireFault 0 0 3, .wireFaultClear 0 32, .pulseStill 0 32, .serTransferStart 32,
    .serTransferEnd 0 32 { data := 0 }, .mlsPop w0 32, .mlsFlush w0 32, .emuEdgeEmit 0 24, .stepEmit 24, .stallDetect 0 24,
    .clusterSelfTest 0 4 0 none, .pfeConversionEnd 0 8 { v := 0 }, .pfeValueAvailable 0 8] : List Instr) ++
  ([
    .pfeTare w0 8, .pfeForceRst w0 8, .siDemand 0 2, .siDiscrepancy 0 2, .siLevelChange 0 4 true, .connectionWatchdog 16,
    .safeResetAck 0 16 0 0, .safeParamWr 0 16 0 0 0 0, .safeParamCommit 0 16 0 0, .safeParamRd 0 16 0 0 0 0,
    .tableRebuildComplete 0 4, .scrubStep 0 10 0 0 0 0] : List Instr)
theorem test_wf_refuses_unit : badlyUnit.all (fun c => !c.wf) = true := by decide +kernel

/-- Values outside their field: a stage, a test case, a serial word and its CRC, a safety function, a kind, a debug state. -/
def badlyValue : List Instr :=
  ([
    .frameTick [.retry 0 256], .frameTick [.resFail 0 256], .clusterSelfTest 0 0 0 (some 256),
    .serTransferEnd 0 0 { data := 2 ^ 64 }, .serTransferEnd 0 0 { data := 0, crc := 64 }, .safetyViolation 0 0 0,
    .safetyViolation 0 0 4, .safetySelfTest 0 0 0 true, .safetySelfTest 0 5 0 true, .soReadbackFault 0 0 3,
    .debugPortRequest 0 0 none, .debugPortRequest 0 3 none] : List Instr)
theorem test_wf_refuses_value : badlyValue.all (fun c => !c.wf) = true := by decide +kernel

/-- The requests. -/
def requests (r : Request) : List Instr :=
  ([
    .mapLearn r, .mapStatus r, .mapSave r, .mapLoad r, .pinAdjust r, .mlsRead r, .mlsArm r, .emuAlign r, .laneStage r,
    .laneCommit r, .laneAdmit r, .lanePark r] : List Instr) ++
  ([
    .laneRead r, .coefStage r, .coefRead r, .coefSwap r, .traceArm r, .traceForce r, .traceRead r, .move r, .limits r, .gear r,
    .trim r, .stop r] : List Instr) ++
  ([
    .waypoint r, .vmaster r, .chConfig r, .chRead r, .identify r, .ping r, .regRd r, .regWr r, .regRmw r, .powerState r,
    .detach r, .dbgChallenge r] : List Instr) ++
  ([
    .dbgResponse r, .dbgClose r, .dbgOpenFree r, .seal r, .protStatus r, .bbxRead r, .bbxCommit r, .fwLoad r, .fwVerify r,
    .fwSwitch r] : List Instr)
/-- Each field of a request has its check. -/
theorem test_wf_refuses_request :
    ([rq 1 0 [], rq 3 65535 []] : List Request).all (fun r => (requests r).all Instr.wf) = true ∧
    ([{ rq 1 0 [] with port := 5 }, rq 0 0 [], rq 4 0 [], { rq 1 0 [] with minor := 16 }, { rq 1 0 [] with flags := 1 },
      { rq 1 0 [] with flags := 0x10 }, rq 1 65536 []] : List Request).all
      (fun r => (requests r).all fun c => !c.wf) = true := by decide +kernel
theorem test_wf_refuses_long_payload (n : Nat) (h : 65536 ≤ n) : (rq 1 0 (zeros n)).wf = false := by
  simp [Request.wf, rq, zeros, h]
/-- A register write names a port and a generation. -/
def writes (w : RegWrite) : List Instr :=
  [
    .timeSet w 0, .generatorRun w 0, .generatorStop w 0, .posArm w 0, .detReturn w 0, .mlsPop w 0, .mlsFlush w 0,
    .reqState w 0 0, .pfeTare w 0, .pfeForceRst w 0]
theorem test_wf_refuses_write :
    (writes w0).all Instr.wf = true ∧
    ([{ w0 with port := 5 }, { w0 with gen := 0 }, { w0 with gen := 4 }] : List RegWrite).all
      (fun w => (writes w).all fun c => !c.wf) = true := by decide +kernel
/-- The last unit of each kind is one. -/
theorem test_wf_accepts :
    ([.lockLoss 0 95, .timedCommandDue 0 96, .rampComplete 0 11, .replyTransmit 0 4, .linkStatusSend 0 3, .switchDebounce 0 31 2,
      .emuEdgeEmit 0 23, .pfeValueAvailable 0 7, .connectionWatchdog 15, .siDemand 0 1, .siLevelChange 0 3 true,
      .clusterSelfTest 0 3 0 (some 255), .scrubStep 0 9 0 0 0 0, .wake 0 3 9, .debugPortRequest 0 2 none] : List Instr).all
      Instr.wf = true := by decide +kernel

/-! ### Values the spec works out -/

/-- The ASCII string "123456789". -/
def nine : List Byte := (List.range 9).map fun i => BitVec.ofNat 8 (0x31 + i)
/-- The check values of R262, R315 and Table 16-4. -/
theorem test_crc_check_values : crc32 nine = 0xCBF43926 ∧ crc32c nine = 0xE3069283 ∧ crc16 nine = 0x29B1 := by decide +kernel

/-- Example 0-1: lane 61 is served by cluster C2 and group G7; its block starts at 0x0010_F400. -/
theorem test_lane61_place : clusterOf 61 = 2 ∧ groupOf 61 = 7 ∧ targetOf 0x10F404 = .reg .laneCtrl 61 := by decide +kernel

/-- Example 18-1: the other words of lane 61. -/
theorem test_lane61_words :
    targetOf 0x104F4 = .reg .frmLateCnt 61 ∧ targetOf 0x217A0 = .reg .acqCtrl 61 ∧ targetOf 0xB08F4 = .reg .hpInStat 61 ∧
    targetOf 0x10F680 = .reg .snapPos (2 * 61) ∧ targetOf 0x34 = .reg .devRun 1 := by decide +kernel

/-- The request of Table 12-8 (Example 12-1), from H1. -/
def trim18 : Request :=
  { t := 9, port := 1, gen := 2, minor := 2, flags := 4, tag := 0x41, lane := 18
    payload := [0, 0, 0, 0, 0, 0, 0, 0, 0x9C, 0xC4, 0x20, 0x00, 0, 0, 0, 0] }
/-- Table 12-8: the bytes of the request. -/
theorem test_packet_of_example_12_1 :
    let f := packet 2 2 4 0x0503 0x41 18 trim18.payload
    f.take 28 = [0x22, 0x04, 0x03, 0x05, 0x41, 0x00, 0x10, 0x00, 0x12, 0x00, 0x00, 0x00] ++ [0, 0, 0, 0] ++ [0, 0, 0, 0] ++
      [0x9C, 0xC4, 0x20, 0x00, 0, 0, 0, 0] ∧ f.length = 32 ∧ packetRequest 1 9 f = trim18 := by decide +kernel
/-- Example 12-1: the header, status and count of the single reply. -/
theorem test_reply_of_example_12_1 :
    (replyBytes 0x0503 { trim18 with flags := 0, tag := 0x42, lane := 0x13 } ⟨stStaged, [2, 0]⟩).take 16 =
      [0x22, 0x01, 0x03, 0x05, 0x42, 0x00, 0x04, 0x00, 0x13, 0x00, 0x00, 0x00, 0x02, 0x00, 2, 0] := by decide +kernel
/-- What port `p` sends next, after the 12-byte header. -/
def replyOf (p : Nat) (o : Host.Outcome State Fault Refusal) : List Byte :=
  match o with
  | .next s => match ((s.dev.port p).tx.getLast?) with
    | some m => m.bytes.drop 12 |>.take (u16At m.bytes 6)
    | none => []
  | _ => []
/-- What holds of the device where the command runs. -/
def after (c : Instr) (s : State) (p : Dev → Bool) : Bool :=
  match Machine.exec c s with
  | .next t => decide (t.pending = s.pending) && p t.dev
  | _ => false
/-- Example 12-1: a TRIM for a lane that another port owns is answered NOT_OWNER and counted. -/
theorem test_trim_not_owner :
    replyOf 1 (Machine.exec (.trim { trim18 with flags := 0 }) (mk id)) = [0x20, 0x00] ∧
    after (.trim { trim18 with flags := 0 }) (mk id) (fun d => d.staged = []) = true := by decide +kernel
/-- R35: with the reset period of 6,250 cyc, tick k lies at the epoch + k × 125,000 units. -/
theorem test_tick_schedule : State.reset.dev.tickAt 3 = 375000 := by decide +kernel
/-- R270: PING answers OK, two zero bytes and the payload. -/
theorem test_ping : replyOf 4 (Machine.exec (.ping (rq 1 0 [7, 8])) (mk id)) = [0, 0, 0, 0, 7, 8] := by decide +kernel
/-- R263, Table 12-4: a payload of 257 bytes is too long for generation 1. -/
theorem test_ping_too_long : (replyOf 4 (Machine.exec (.ping (rq 1 0 (zeros 257))) (mk id))).length = 2 := by decide +kernel
/-- R329: a write of the safety block is answered SAFETY_HELD (0x0040). -/
theorem test_safety_held : replyOf 4 (Machine.exec (.regWr (rqWr 0x80000 5)) (mk id)) = [0x40, 0x00] := by decide +kernel
/-- R398: an address outside every extent is answered RANGE (0x0031). -/
theorem test_reg_range :
    replyOf 4 (Machine.exec (.regRd (rq 1 0 (leBytes 4 0x70000 ++ [1, 0, 0, 0]))) (mk id)) = [0x31, 0x00] := by decide +kernel
/-- R278, R338: POWER_STATE from a port that does not lead is answered NOT_OWNER. -/
theorem test_power_not_lead : replyOf 4 (Machine.exec (.powerState (rq 2 0 [2, 0, 0, 0])) (mk id)) = [0x20, 0x00] := by decide +kernel
/-- R2, Table 0-1: the smaller variant has groups 0–5; an event that names group 6 is none of its events. -/
theorem test_absent_group (s : State) (h : s.dev.variant = 1) : Machine.exec (.rampComplete 0 6) s = .fault .absentUnit := by
  simp [Machine.exec, execRampComplete, onEvent, onUnit, hasGroup, Dev.groupCount, h]
/-- R321: a pulse on SAFE_RST shorter than 50 ms lifts no barrier. -/
theorem test_short_reset_pulse :
    after (.safeRstEdge 9 (50000 * unitsPerUs - 1))
      (wConn fun d => (({ d with crit := { d.crit with soLatch := 0x7FF } }).onSafLane 95
        (fun x => { x with sto := false, armed := some 99 })).onSaf fun s => { s with params := some wSet })
      (fun d => d.crit.barrierUp = 0) = true ∧
    after (.safeRstEdge 9 (50000 * unitsPerUs))
      (wConn fun d => (({ d with crit := { d.crit with soLatch := 0x7FF } }).onSafLane 95
        (fun x => { x with sto := false, armed := some 99 })).onSaf fun s => { s with params := some wSet })
      (fun d => d.crit.barrierUp = 1#96 <<< 95) = true := by decide +kernel
/-- The queue: the front command runs, the rest waits; a table word spells no command. -/
theorem test_step_queue :
    (match Machine.step { (mk id) with pending := [.pfailNFall 9, .syncOutPulse] } with
      | .next s => decide (s.pending = [.syncOutPulse]) && s.dev.pwr.pfailLow
      | _ => false) = true ∧ decodeTableWord 32 0 = none ∧ (mk id).withFetchWord 32 0 = mk id := by decide +kernel

end Sys2Proof.Machine
end

section
/-! SUPPORT. What brings a barrier down and what lifts one: the barriers after each reaction of the safety monitor (R308), after
the deliberate reset (R321) and after a restart (R335). -/
namespace Sys2Proof.Machine
open Sys2Proof

/-! ### The frame that allows everything but a raise -/

/-- Everything may change, but no barrier comes up, no SO latch clears and the SEALED fuse reads as before. -/
def May.noRaise : May where
  reg _ _ := true
  lane := every
  acq := every
  trk := every
  map := every
  loop := every
  prf := every
  group := every
  port := every
  pin := every
  mls := every
  emu := every
  cluster := every
  vm := every
  pfe := every
  safLane := every
  conn := every
  saf := true
  crit := true
  raise := false
  time := true
  bbx := true
  hlt := true
  pwr := true
  trc := true
  staged := true
  ro := true
  serve := true

/-- Everything may change but the state that decides safety. -/
def May.noCrit : May := { May.noRaise with crit := false }

@[simp] theorem May.noRaise_reg (i : RegId) (k : Nat) : noRaise.reg i k = true := (rfl)

@[simp] theorem May.noRaise_unit (n : Nat) :
    noRaise.lane n = true ∧ noRaise.acq n = true ∧ noRaise.trk n = true ∧ noRaise.map n = true ∧ noRaise.loop n = true ∧
      noRaise.prf n = true ∧ noRaise.group n = true ∧ noRaise.port n = true ∧ noRaise.pin n = true ∧ noRaise.mls n = true ∧
      noRaise.emu n = true ∧ noRaise.cluster n = true ∧ noRaise.vm n = true ∧ noRaise.pfe n = true ∧
      noRaise.safLane n = true ∧ noRaise.conn n = true := by
  simp [noRaise, every]

@[simp] theorem May.noRaise_block :
    noRaise.saf = true ∧ noRaise.crit = true ∧ noRaise.time = true ∧ noRaise.bbx = true ∧ noRaise.hlt = true ∧
      noRaise.pwr = true ∧ noRaise.trc = true ∧ noRaise.staged = true ∧ noRaise.ro = true ∧ noRaise.serve = true := by
  simp [noRaise]

@[simp] theorem May.noRaise_outputs (d : Dev) (n : Nat) : noRaise.outputs d n := .inl fun _ => ⟨rfl, rfl, rfl⟩

@[simp] theorem May.noRaise_detour (d : Dev) (i : Nat) : noRaise.detour d i :=
  .inl fun _ => ⟨rfl, rfl, rfl, rfl, rfl, noRaise_outputs _ _⟩

@[simp] theorem May.noRaise_mlsOf (d : Dev) (i : Nat) : noRaise.mlsOf d i := .inl fun _ => ⟨rfl, rfl, rfl⟩

/-! ### Operations that leave the barriers alone -/

@[simp] theorem Dev.onSaf_crit (d : Dev) (f : Saf → Saf) : (d.onSaf f).crit = d.crit := (rfl)
@[simp] theorem Dev.onSaf_variant (d : Dev) (f : Saf → Saf) : (d.onSaf f).variant = d.variant := (rfl)
@[simp] theorem Dev.onSafLane_crit (d : Dev) (n : Nat) (f : SafLane → SafLane) : (d.onSafLane n f).crit = d.crit := (rfl)

@[simp] theorem Dev.safLog_crit (d : Dev) (code kind idx : Nat) (data : List Byte) :
    (d.safLog code kind idx data).crit = d.crit := Dev.logEvent_crit _ _ _ _ _

@[simp] theorem Dev.safLog_variant (d : Dev) (code kind idx : Nat) (data : List Byte) :
    (d.safLog code kind idx data).variant = d.variant := Dev.logEvent_variant _ _ _ _ _

@[simp] theorem Dev.emuRefreshLane_crit (d : Dev) (n : Nat) : (d.emuRefreshLane n).crit = d.crit :=
  (Dev.emuRefreshLane_within (my := .noCrit) d n (.refl _ _) rfl (.inl fun _ => ⟨rfl, rfl, rfl⟩) rfl).crit rfl

@[simp] theorem Dev.bootRom_crit (d : Dev) : d.bootRom.crit = d.crit :=
  (Dev.bootRom_within (my := .noCrit) d (.refl _ _) rfl rfl rfl fun _ _ => rfl).crit rfl

@[simp] theorem Dev.bbxTrigger_barrierUp (d : Dev) (kind n : Nat) : (d.bbxTrigger kind).barrierUp n = d.barrierUp n := by
  simp [Dev.barrierUp]

theorem Dev.forEach_crit (d : Dev) (l : List Nat) {f : Nat → Dev → Dev} (hf : ∀ n e, (f n e).crit = e.crit) :
    (d.forEach l f).crit = d.crit := by
  unfold Dev.forEach
  induction l generalizing d with
  | nil => rfl
  | cons n l ih => exact (ih _).trans (hf n d)

/-! ### Masks of lanes -/

/-- The mask of a list of numbers has the bits of its members. -/
theorem getLsbD_foldl_or_bit {w : Nat} (ns : List Nat) (m : BitVec w) {k : Nat} (hk : k < w) :
    (ns.foldl (fun m n => m ||| (1#w <<< n)) m).getLsbD k = (m.getLsbD k || decide (k ∈ ns)) := by
  induction ns generalizing m with
  | nil => simp
  | cons a ns ih =>
    have hbit : (1#w <<< a).getLsbD k = decide (k = a) := by
      simp only [BitVec.getLsbD_shiftLeft, BitVec.getLsbD_one]
      rw [Bool.eq_iff_iff]
      simp only [Bool.and_eq_true, Bool.not_eq_true', decide_eq_true_eq, decide_eq_false_iff_not]
      omega
    simp only [List.foldl_cons, ih, BitVec.getLsbD_or, hbit, List.mem_cons, Bool.decide_or, Bool.or_assoc]

theorem Dev.barrierUp_of_ge (d : Dev) {n : Nat} (h : 96 ≤ n) : d.barrierUp n = false := BitVec.getLsbD_of_ge _ _ h

/-! ### Reactions (R308) -/

theorem Dev.lowerBarriers_barrierUp (d : Dev) (ns : List Nat) (n : Nat) :
    (d.lowerBarriers ns).barrierUp n = (d.barrierUp n && decide (n ∉ ns)) := by
  by_cases hn : n < 96
  · unfold Dev.lowerBarriers Dev.barrierUp
    dsimp only
    rw [Dev.forEach_crit _ _ fun n e => by simp]
    rw [BitVec.getLsbD_and, BitVec.getLsbD_not, getLsbD_foldl_or_bit ns 0 hn]
    simp [hn]
  · rw [Dev.barrierUp_of_ge _ (by omega), Dev.barrierUp_of_ge _ (by omega), Bool.false_and]

theorem Dev.laneReaction_barrierUp (d : Dev) (n k : Nat) :
    (d.laneReaction n).barrierUp k = (d.barrierUp k && decide (k ≠ n)) := by
  simp [Dev.laneReaction, Dev.lowerBarriers_barrierUp]

theorem Dev.groupOff_barrierUp (d : Dev) (g n : Nat) :
    (d.groupOff g).barrierUp n = (d.barrierUp n && decide (n / 8 ≠ g)) := by
  unfold Dev.groupOff
  rw [Dev.lowerBarriers_barrierUp]
  simp [mem_lanesOfGroup, Dev.barrierUp]

theorem Dev.groupReaction_barrierUp (d : Dev) (gs : List Nat) (n : Nat) :
    (d.groupReaction gs).barrierUp n = (d.barrierUp n && decide (n / 8 ∉ gs)) := by
  unfold Dev.groupReaction Dev.forEach
  rw [Dev.bbxTrigger_barrierUp]
  induction gs generalizing d with
  | nil => simp
  | cons g gs ih => simp [List.foldl_cons, ih, Dev.groupOff_barrierUp, Bool.and_assoc]

theorem Dev.groupCount_of_variant {d e : Dev} (h : e.variant = d.variant) : e.groupCount = d.groupCount := by
  unfold Dev.groupCount
  rw [h]

/-- A new device cause brings down every barrier of the groups present. -/
theorem Dev.deviceReaction_barrierUp (d : Dev) {cause : Nat} (hc : cause ∉ d.saf.causes) (n : Nat) :
    (d.deviceReaction cause).barrierUp n = (d.barrierUp n && !hasGroup (n / 8) d) := by
  unfold Dev.deviceReaction
  rw [if_neg (by simpa using hc)]
  dsimp only
  rw [Dev.groupReaction_barrierUp, Dev.groupCount_of_variant (d := d) (by simp)]
  simp [Dev.barrierUp, hasGroup, ← decide_not]

theorem hasGroup_of_lt_laneCount {d : Dev} {n : Nat} (h : n < d.laneCount) : hasGroup (n / 8) d = true := by
  unfold Dev.laneCount at h
  unfold hasGroup Dev.groupCount
  split at h <;> simp [*] <;> omega

/-! ### The deliberate reset (R321) -/

theorem Dev.mem_laneList {d : Dev} {n : Nat} : n ∈ d.laneList ↔ hasLane n d = true := by simp [Dev.laneList, hasLane]

/-- The edge lifts the barriers of the lanes present that are armed, with no cause of a reaction. -/
theorem Dev.liftBarriers_barrierUp (d : Dev) {n : Nat} (hn : n < 96) :
    d.liftBarriers.barrierUp n = (d.barrierUp n ||
      (hasLane n d && (d.safLane n).armed.any (fun e => decide (d.now < e)) && !d.causePresent n)) := by
  unfold Dev.liftBarriers
  dsimp only
  rw [apply_ite (fun e : Dev => e.barrierUp n)]
  simp only [Dev.barrierUp, Dev.safLog_crit, ite_self]
  rw [Dev.forEach_crit _ _ fun n e => by simp]
  rw [BitVec.getLsbD_or, getLsbD_foldl_or_bit _ _ hn]
  cases he : (d.safLane n).armed <;> simp [Dev.mem_laneList, he, Bool.and_assoc]

/-- A barrier that is up after the edge was up, or the pulse has its width and the lane is armed. -/
theorem Dev.safeRst_barrierUp (d : Dev) (width n : Nat) (h : (d.safeRst width).barrierUp n = true) :
    d.barrierUp n = true ∨ (50000 * unitsPerUs ≤ width ∧ width ≤ 500000 * unitsPerUs ∧
      ∃ e, (d.safLane n).armed = some e ∧ d.now < e) := by
  unfold Dev.safeRst at h
  split at h
  next hw =>
    have hn : n < 96 := by
      by_contra hn
      simp [Dev.barrierUp_of_ge _ (Nat.not_lt.1 hn)] at h
    rw [Dev.liftBarriers_barrierUp d hn] at h
    simp only [Bool.or_eq_true, Bool.and_eq_true, Option.any_eq_true, decide_eq_true_eq] at h
    rcases h with hb | ⟨⟨-, e, ha, hl⟩, -⟩
    · exact .inl hb
    · exact .inr ⟨hw.1, hw.2, e, ha, hl⟩
  next => exact .inl (by simpa [Dev.barrierUp] using h)

/-! ### Restarts (R335, R338, R343, R388) -/

@[simp] theorem Dev.coldStart_crit (d : Dev) (cause : Nat) : (d.coldStart cause).crit = { sealed := d.pwr.sealFuse } := (rfl)

theorem Dev.resetN_barrierUp (d : Dev) (n : Nat) : d.resetN.barrierUp n = false := by simp [Dev.barrierUp, Dev.resetN]

theorem Dev.wakeUp_barrierUp (d : Dev) (source n : Nat) : (d.wakeUp source).barrierUp n = false := by
  unfold Dev.wakeUp
  dsimp only
  split <;> simp [Dev.barrierUp, Dev.resetN]

theorem Dev.dormant_barrierUp (d : Dev) (n : Nat) : d.dormant.barrierUp n = false := by simp [Dev.dormant, Dev.barrierUp]

/-- Every barrier that is up in `e` was up in `d`. -/
def Dev.LiftsNone (d e : Dev) : Prop := ∀ n, e.barrierUp n = true → d.barrierUp n = true

theorem Dev.LiftsNone.refl (d : Dev) : d.LiftsNone d := fun _ h => h

theorem Dev.LiftsNone.of_down {d e : Dev} (h : ∀ n, e.barrierUp n = false) : d.LiftsNone e := fun n hn => by simp [h n] at hn

theorem Within.liftsNone {m : May} {d e : Dev} (h : Within m d e) (hm : m.raise = false) : d.LiftsNone e := (h.tight hm).barrier

theorem Dev.recoveryRestart_liftsNone (d : Dev) : d.LiftsNone d.recoveryRestart := by
  unfold Dev.recoveryRestart
  split
  · split
    · exact .of_down fun n => by simp [Dev.barrierUp]
    · exact .refl d
  · exact .refl d

theorem Dev.dormantEntry_liftsNone (d : Dev) : d.LiftsNone d.dormantEntry := by
  unfold Dev.dormantEntry
  split
  · split
    · exact .of_down (Dev.wakeUp_barrierUp _ _)
    · exact .of_down d.dormant_barrierUp
  · exact .refl d

/-- A wake boots a device in DORMANT; else it is at most noted. -/
theorem Dev.wake_liftsNone (d : Dev) (source port : Nat) : d.LiftsNone (d.wake source port) := by
  unfold Dev.wake
  dsimp only
  split
  · exact .refl d
  · split
    · exact .of_down (Dev.wakeUp_barrierUp _ _)
    · refine Within.liftsNone (m := .noRaise) ?_ rfl
      (repeat' split) <;> simp

end Sys2Proof.Machine
end

section
/-! Which commands can lift a barrier (R22): every command but SAFE_RST_EDGE either runs an operation that raises nothing, or
starts the device anew with every barrier down. -/
namespace Sys2Proof.Machine
open Sys2Proof

/-! ### Operations that raise nothing, and the forms of a command that run them -/

/-- The operation raises no barrier, clears no SO latch and leaves the SEALED fuse. -/
def RaisesNone (f : Dev → Dev) : Prop := ∀ d, Within .noRaise d (f d)

theorem RaisesNone.ite {c : Dev → Bool} {f g : Dev → Dev} (hf : RaisesNone f) (hg : RaisesNone g) :
    RaisesNone fun d => if c d then f d else g d := fun d => Within.ite (hf d) (hg d)

theorem RaisesNone.when {c : Dev → Bool} {f : Dev → Dev} (hf : RaisesNone f) : RaisesNone fun d => d.when (c d) f :=
  hf.ite (Within.refl _)

theorem RaisesNone.serveNow (op : Nat) (r : Request) : RaisesNone fun d => d.serveNow op r := fun d => by
  apply Dev.serveNow_within <;> simp

theorem RaisesNone.packetServe : RaisesNone Dev.packetServe := fun d => by
  apply Dev.packetServe_within <;> simp

section
variable {s : State} {f : Dev → Dev} {p : Dev → Bool} {t : Time}

theorem RaisesNone.at (h : RaisesNone f) (t : Time) (d : Dev) : Within .noRaise d (f (d.at t)) :=
  ((Within.refl _ _).at t).trans (h _)
theorem RaisesNone.onDev (h : RaisesNone f) : Leaves .noRaise s (onDev s f) := Leaves.onDev (h _)
theorem RaisesNone.onUnit (h : RaisesNone f) : Leaves .noRaise s (onUnit p s f) := Leaves.onUnit _ (h _)
theorem RaisesNone.onExpiry (h : RaisesNone f) : Leaves .noRaise s (onExpiry p s f) := Leaves.onExpiry _ (h _)
theorem RaisesNone.onEvent (h : RaisesNone f) : Leaves .noRaise s (onEvent p s t f) := Leaves.onEvent _ _ (h.at t _)
theorem RaisesNone.onMgmt (h : RaisesNone f) : Leaves .noRaise s (onMgmt p s t f) := Leaves.onMgmt _ _ (h.at t _)
theorem RaisesNone.onPinLevel (h : RaisesNone f) : Leaves .noRaise s (onPinLevel s t f) := Leaves.onPinLevel _ (h.at t _)
theorem RaisesNone.onLaneEvent {n : Nat} (h : RaisesNone f) : Leaves .noRaise s (onLaneEvent s t n f) :=
  Leaves.onLaneEvent _ _ ((h.at t _).trans (by simp))
theorem RaisesNone.onPinEvent {i : Nat} (h : RaisesNone f) : Leaves .noRaise s (onPinEvent s t i f) :=
  Leaves.onPinEvent _ _ (h.at t _) fun n _ _ e he => by simp [he]

theorem onRequest_raisesNone {op : Nat} {r : Request} : Leaves .noRaise s (onRequest s op r) := (RaisesNone.serveNow _ _).onUnit
theorem onRegWr_raisesNone {w : RegWrite} {r : RegId} {u : Nat} {vs : List Word} : Leaves .noRaise s (onRegWr s w r u vs) :=
  (RaisesNone.serveNow _ _).onUnit
theorem onRegRmw_raisesNone {w : RegWrite} {r : RegId} {u : Nat} {mask v : Word} :
    Leaves .noRaise s (onRegRmw s w r u mask v) := (RaisesNone.serveNow _ _).onUnit

/-- What holds after the event acted, and where only the clock moved, holds of its next state. -/
theorem nextOr_onEvent {P : State → Prop} (hs : P { s with dev := s.dev.at t }) (hf : P { s with dev := f (s.dev.at t) }) :
    NextOr (onEvent p s t f) P := by
  rw [onEvent_eq, Machine.onUnit]
  split
  · unfold Machine.onDev NextOr
    dsimp only
    split
    · exact hf
    · exact hs
  · trivial
end

theorem Leaves.liftsNone {m : May} {s : State} {o : Host.Outcome State Fault Refusal} (h : Leaves m s o)
    (hm : m.raise = false) : NextOr o fun u => s.dev.LiftsNone u.dev := by
  cases o with
  | next u => exact h.2.liftsNone hm
  | fault | refused => trivial

/-! ### The commands -/

/-- The command can start the device anew, which sets every SO latch and reads the SEALED fuse again. -/
def restarts : Instr → Bool
  | .recoveryRestart _ | .resetNAssert _ | .supplyMonitorReset _ | .dormantEntry _ | .wake .. => true
  | _ => false

/-- A command that is neither a restart nor SAFE_RST_EDGE lifts no barrier and clears no SO latch; the commands are taken by the
form of their meaning. -/
theorem exec_keeps_noRaise (c : Instr) (s : State) (hr : restarts c = false) (he : ∀ t w, c ≠ .safeRstEdge t w) :
    Keeps c s .noRaise := by
  rw [keeps_iff]
  unfold Machine.exec
  cases c with
  | safeRstEdge t w => exact absurd rfl (he t w)
  | recoveryRestart | resetNAssert | supplyMonitorReset | dormantEntry | wake => cases hr
  | mapLearn | mapStatus | mapSave | mapLoad | pinAdjust | mlsRead | mlsArm | emuAlign | laneStage | laneCommit | laneAdmit
  | lanePark | laneRead | coefStage | coefRead | coefSwap | traceArm | traceForce | traceRead | move | limits | gear | trim
  | stop | waypoint | vmaster | chConfig | chRead | identify | ping | regRd | regWr | regRmw | powerState | detach
  | dbgChallenge | dbgResponse | dbgClose | dbgOpenFree | protStatus | bbxRead | bbxCommit | fwLoad | fwVerify
  | fwSwitch => exact onRequest_raisesNone
  | timeSet | mlsPop | mlsFlush => exact onRegWr_raisesNone
  | generatorRun | generatorStop | posArm | detReturn | reqState | pfeTare | pfeForceRst => exact onRegRmw_raisesNone
  | frameTick | outputJunction => exact RaisesNone.onDev (.when fun d => by simp)
  | syncOutPulse | syncOutPulseEnd => exact RaisesNone.onDev fun d => by simp
  | serTransferStart | stepEmit => exact RaisesNone.onUnit (.when fun d => by simp)
  | inboundPartAccept | recordTransmit | connectionWatchdog | ss1Expiry | armingExpiry =>
    exact RaisesNone.onExpiry fun d => by simp
  | demodSample | losConfirm | modulatorReset | lockLoss | overspeed | lateWorkComplete | followingError | trimSourceFault =>
    exact RaisesNone.onLaneEvent fun d => by simp
  | pulseEdge | indexEvent | switchDebounce | wireFault | wireFaultClear | pulseStill | serTransferEnd =>
    exact RaisesNone.onPinEvent fun d => by simp
  | mapEvaluate | mapDriftCheck | eccHourlyCheck | odometerUpdate | eolPredict | probationPass | slotRecordRetry =>
    exact RaisesNone.onMgmt fun d => by simp
  | boot | bootComplete | presentNFall => exact RaisesNone.onPinLevel fun d => by simp
  | presentNRise | pfailNFall | pfailNRise => exact RaisesNone.onPinLevel (.ite (fun d => by simp) fun d => by simp)
  | packetServe => exact RaisesNone.packetServe.onEvent
  | excHalfPeriod => exact RaisesNone.onEvent fun d => Within.forEach (by simp) _ _ fun n e he => by simp [he]
  | syncMessage | announceMessage | pdelayReqReceive | pdelayReqSend | pdelayResponse | syncTimeout | syncInEdge
  | syncInMissing | rampComplete | carrierPeriod | phaseFastEnd | losClear | modulatorResetEnd | rangeNarrowCount
  | rangeChange | ratioEval | reacqFastEnd | lockRegained | segmentEnd | fadeComplete | emuEdgeEmit | stallDetect
  | timedCommandDue | masterTimeout | clusterSelfTest | traceDone | pfeConversionEnd | pfeValueAvailable | dieTempUpdate
  | inboundPartReceive | inboundMiss | watchSample | safetyViolation | xcmpFail | safetySelfTest | soTestPulse
  | soTestPulseEnd | soReadbackFault | siLevelChange | siDemand | siDiscrepancy | safeResetAck | safeParamWr
  | safeParamCommit | safeParamCommitComplete | safeParamRd | safeRstHeld | analogSettled | debugPortRequest
  | debugPortRelease | extestLoad | extestLeave | nonceExpiry | coreHalt | coreResume | tableRebuildComplete | scrubStep
  | bbxDeferredCommit | bbxCommitComplete | fwReady | fwReadyTimeout | firmwareReloaded | heartbeatMissed | packetReceive
  | replyTransmit | backgroundJobComplete | groupTimeout | writeLogSummary | linkStatusFrame | linkStatusSend
  | linkStatusTimeout | linkSyncLoss | linkUp | spiWrite | spiRead | spiStatus =>
    exact RaisesNone.onEvent fun d => by simp
  -- The request SEAL: the name of its constructor is a keyword of Lean's, which no alternative can write.
  | _ => exact onRequest_raisesNone

/-- A command that starts the device anew leaves every barrier down; any other runs an operation that raises nothing. -/
theorem exec_liftsNone (s : State) (c : Instr) (he : ∀ t w, c ≠ .safeRstEdge t w) :
    NextOr (Machine.exec c s) fun u => s.dev.LiftsNone u.dev := by
  cases c with
  | resetNAssert t | supplyMonitorReset t => exact Dev.LiftsNone.of_down (s.dev.at t).resetN_barrierUp
  | recoveryRestart t =>
    unfold Machine.exec
    exact nextOr_onEvent (Dev.LiftsNone.refl _) (s.dev.at t).recoveryRestart_liftsNone
  | dormantEntry t =>
    unfold Machine.exec
    exact nextOr_onEvent (Dev.LiftsNone.refl _) (s.dev.at t).dormantEntry_liftsNone
  | wake t source port => exact (s.dev.at t).wake_liftsNone source port
  | _ => exact Leaves.liftsNone (exec_keeps_noRaise _ s rfl he) rfl

/-- Settles O9: each reaction and each restart clears the bits of its lanes, `exec_liftsNone` takes every command but
SAFE_RST_EDGE, and `Dev.safeRst_barrierUp` takes that one. -/
theorem onlyTheDeliberateResetLiftsBarriers : Obligations.OnlyTheDeliberateResetLiftsBarriers := by
  refine ⟨fun n => by simp [State.reset, Dev.barrierUp], fun s t => ⟨_, rfl, (s.dev.at t).resetN_barrierUp⟩,
    fun d n => by simp [Dev.laneReaction_barrierUp], ?group, ?device, exec_liftsNone, ?edge⟩
  case group =>
    intro d gs g hg n hn
    simp [Dev.groupReaction_barrierUp, mem_lanesOfGroup.1 hn, hg]
  case device =>
    intro d cause hc n hn
    simp [Dev.deviceReaction_barrierUp d hc, hasGroup_of_lt_laneCount hn]
  case edge =>
    intro s t width
    unfold Machine.exec
    exact nextOr_onEvent (fun n h => .inl h) ((s.dev.at t).safeRst_barrierUp width)

end Sys2Proof.Machine
end

section
/-! The frame schedule and the index of the frame as it reads (R35): `LANE_STAT` carries the low byte of `FRM_SEQ` above its
other fields. -/
namespace Sys2Proof.Machine

/-! ### Words built of fields -/

/-- A field that was placed in a word reads back, modulo its width. -/
theorem extractLsb'_at_ (v : Nat) {lo n : Nat} (h : lo + n ≤ 32) : (at_ lo v).extractLsb' lo n = BitVec.ofNat n v := by
  apply BitVec.eq_of_getLsbD_eq
  intro i hi
  have hlt : lo + i < 32 := by omega
  simp only [at_, BitVec.getLsbD_extractLsb', BitVec.getLsbD_ofNat, Nat.testBit_mul_two_pow]
  simp [hi, hlt]

/-- A word below `2 ^ lo` has no bit at `lo` or above. -/
theorem extractLsb'_eq_zero_of_lt {w : Word} {lo : Nat} (n : Nat) (h : w.toNat < 2 ^ lo) : w.extractLsb' lo n = 0#n := by
  apply BitVec.eq_of_toNat_eq
  simp [BitVec.extractLsb'_toNat, Nat.shiftRight_eq_div_pow, Nat.div_eq_of_lt h]

/-- A field that ends below bit `hi`. -/
theorem at_lt {lo v n hi : Nat} (hv : v < 2 ^ n) (h : lo + n ≤ hi) : (at_ lo v).toNat < 2 ^ hi := by
  have hle : 2 ^ (lo + n) ≤ 2 ^ hi := Nat.pow_le_pow_right (by decide) h
  have hlt : v * 2 ^ lo < 2 ^ (lo + n) := by
    rw [Nat.pow_add, Nat.mul_comm]
    exact Nat.mul_lt_mul_of_pos_left hv (Nat.two_pow_pos lo)
  exact (Nat.mod_le _ _).trans_lt (hlt.trans_le hle)

theorem b2n_lt_two (b : Bool) : b2n b < 2 := by cases b <;> decide

/-- Flags that all lie below bit `hi`. -/
theorem bits_lt {l : List (Nat × Bool)} {hi : Nat} (h : ∀ b ∈ l, b.1 < hi) : (bits l).toNat < 2 ^ hi := by
  have key (w : Word) (hw : w.toNat < 2 ^ hi) : (l.foldl (fun w b => w ||| bitAt b.1 b.2) w).toNat < 2 ^ hi := by
    induction l generalizing w with
    | nil => exact hw
    | cons b l ih =>
      have hb : (bitAt b.1 b.2).toNat < 2 ^ hi := at_lt (n := 1) (b2n_lt_two b.2) (h b List.mem_cons_self)
      exact ih (fun c hc => h c (List.mem_cons_of_mem b hc)) _ (BitVec.toNat_or .. ▸ Nat.or_lt_two_pow hw hb)
  exact key 0 (Nat.two_pow_pos hi)

/-! ### What the index of the frame reads as -/

theorem LaneState.code_lt (s : LaneState) : s.code < 2 ^ 3 := by cases s <;> decide

theorem Dev.frmSeq_of_ticked {d : Dev} {k : Nat} (h : d.time.k = some k) : d.frmSeq = k % 2 ^ 32 := by simp [Dev.frmSeq, h]

/-- `FRM_SEQ` holds no bit that a write or an event sets, so it reads as the model gives it. -/
theorem Dev.readReg_frmSeq (d : Dev) (p : Nat) : d.readReg p .frmSeq 0 = BitVec.ofNat 32 d.frmSeq := by
  have hp : d.regPresent .frmSeq 0 = true := by simp [Dev.regPresent, RegId.info]
  calc d.readReg p .frmSeq 0 = BitVec.ofNat 32 d.frmSeq &&& 0xFFFFFFFF := by simp [Dev.readReg, hp, Dev.roWord, RegId.info]
    _ = BitVec.ofNat 32 d.frmSeq := BitVec.and_allOnes

/-- SEQ of `LANE_STAT` (Table 1-7): the fault code, the state and the flags lie below it. -/
theorem Dev.laneStatWord_seq (d : Dev) {n : Nat} (h : (d.lane n).faultCode < 2 ^ 8) :
    (d.laneStatWord n).extractLsb' 24 8 = BitVec.ofNat 8 d.frmSeq := by
  have hfault : (at_ 16 (d.lane n).faultCode).extractLsb' 24 8 = 0 := extractLsb'_eq_zero_of_lt 8 (at_lt h (by decide))
  have hstate : (at_ 0 (d.lane n).st.code).extractLsb' 24 8 = 0 :=
    extractLsb'_eq_zero_of_lt 8 (at_lt (d.lane n).st.code_lt (by decide))
  rw [Dev.laneStatWord, BitVec.extractLsb'_or, BitVec.extractLsb'_or, BitVec.extractLsb'_or, extractLsb'_at_ _ (by decide), hfault,
    hstate, extractLsb'_eq_zero_of_lt 8 (bits_lt (hi := 24) (by simp))]
  apply BitVec.eq_of_toNat_eq
  simp

/-- The schedule depends on `FRM_EPOCH` and `FRM_PERIOD` alone. -/
theorem Dev.tickAt_congr {d e : Dev} (he : e.reg64 .frmEpoch 0 = d.reg64 .frmEpoch 0)
    (hp : e.reg .frmPeriod 0 = d.reg .frmPeriod 0) (k : Nat) : e.tickAt k = d.tickAt k := by
  simp only [Dev.tickAt, Dev.period, Dev.fld, he, hp]

/-- Settles O3: the schedule by its definition, `FRM_SEQ` by `Dev.readReg_frmSeq` and SEQ by `Dev.laneStatWord_seq`. -/
theorem ticksLieOnTheSchedule : Obligations.TicksLieOnTheSchedule := by
  intro d e k
  refine ⟨rfl, fun p hk => ?word, fun n hf hk => ?byte, fun he hp => Dev.tickAt_congr he hp k⟩
  case word =>
    rw [d.readReg_frmSeq, Dev.frmSeq_of_ticked hk]
    exact BitVec.eq_of_toNat_eq (by simp)
  case byte =>
    rw [d.laneStatWord_seq hf, Dev.frmSeq_of_ticked hk]
    exact BitVec.eq_of_toNat_eq (by simp)

end Sys2Proof.Machine
end

section
/-! The service of a request outside a group on a device that admits it (steps 6 to 11 of Table 12-4, R263, R264, R282), and PING
(R270). -/
namespace Sys2Proof.Machine
open Sys2Proof

/-! ### The device as the handler finds it -/

theorem Dev.counted_fld (d : Dev) (r : Request) {i : RegId} (hi : i ≠ .hpRxOk) (k lo n : Nat) :
    (d.counted r).fld i k lo n = d.fld i k lo n := by
  simp only [Dev.fld, Dev.counted]
  rw [Dev.reg_addCnt_ne _ fun h => hi h.1, Dev.at_reg]

@[simp] theorem Dev.counted_port (d : Dev) (r : Request) (p : Nat) : (d.counted r).port p = d.port p := (rfl)
@[simp] theorem Dev.counted_pwr (d : Dev) (r : Request) : (d.counted r).pwr = d.pwr := (rfl)
@[simp] theorem Dev.counted_laneOk (d : Dev) (r : Request) (u : LaneUse) (lane : Nat) :
    (d.counted r).laneOk u lane = d.laneOk u lane := by cases u <;> rfl
@[simp] theorem Dev.counted_leadPort (d : Dev) (r : Request) : (d.counted r).leadPort = d.leadPort :=
  d.counted_fld r (by decide) _ _ _
@[simp] theorem Dev.counted_owner (d : Dev) (r : Request) (n : Nat) : (d.counted r).owner n = d.owner n :=
  d.counted_fld r (by decide) _ _ _
@[simp] theorem Dev.counted_laneCount (d : Dev) (r : Request) : (d.counted r).laneCount = d.laneCount := (rfl)
@[simp] theorem Dev.counted_leads (d : Dev) (r : Request) (p : Nat) : (d.counted r).leads p = d.leads p := by
  simp only [Dev.leads, Dev.counted_leadPort]
@[simp] theorem Dev.counted_owns (d : Dev) (r : Request) (p n : Nat) : (d.counted r).owns p n = d.owns p n := by
  simp only [Dev.owns, Dev.counted_owner, Dev.counted_laneCount]

/-! ### From the port to the opcode -/

section
variable {d : Dev} {s : State} {r : Request} {g op : Nat} {u : LaneUse} {w : Right}

/-- What `Admits` says of the rights is step 10 of Table 12-4. -/
theorem Admits.rightOk (h : Admits d r g u w) (run : Dev → Request → Bool → Served) :
    d.rightOk ⟨g, u, w, run⟩ r = true := by
  obtain ⟨-, -, -, -, -, -, -, -, -, -, hr⟩ := h
  cases w with
  | any => simp [Dev.rightOk]
  | owner => simpa [Dev.rightOk] using .inr hr
  | lead => simpa [Dev.rightOk] using .inr hr

theorem Dev.counted_rightOk (d : Dev) (i : OpInfo) (r : Request) : (d.counted r).rightOk i r = d.rightOk i r := by
  simp [Dev.rightOk]

/-- Steps 6 to 10 let the request through to the handler of its opcode. -/
theorem Admits.runOp (h : Admits d r g u w) {run : Dev → Request → Bool → Served} (hi : opInfo op = some ⟨g, u, w, run⟩)
    (hs : safetyOp op = false) (b : Bool) : (d.counted r).runOp op r b = run (d.counted r) r b := by
  have hright := h.rightOk run
  obtain ⟨-, -, -, -, -, -, hrec, hgen, hlen, hlane, -⟩ := h
  simp [Dev.runOp, hs, hi, Dev.counted_rightOk, hright, hrec, hlane, Nat.not_lt.2 hgen, Nat.not_lt.2 hlen]

/-- A request without flags on a port without an open group is counted in `RX_OK` and served on its own. -/
theorem Dev.serve_ungrouped {d : Dev} {q : QReq} (hg : (d.port q.req.port).group = none) (hf : q.req.flags = 0) :
    d.serve q = (d.addCnt .hpRxOk q.req.port 0 32).serveSingle q := by
  have hgroup : ((d.addCnt .hpRxOk q.req.port 0 32).port q.req.port).group = none := hg
  simp [Dev.serve, Dev.groupLate, hgroup, hf]

/-- A request that is served at its instant, as `serveNow` queues it. -/
def queued (op : Nat) (r : Request) : QReq := { op := op, arr := r.t, req := r }

/-- A request without flags is not posted (R265). -/
theorem posted_queued (op : Nat) (r : Request) (hf : r.flags = 0) : (queued op r).posted = false := by
  simp [queued, QReq.posted, hf]

/-- An admitted request is served on its own at its instant. -/
theorem Admits.onRequest (h : Admits s.dev r g u w) (op : Nat) :
    onRequest s op r = .next { s with dev := (s.dev.counted r).serveSingle (queued op r) } := by
  obtain ⟨hp, h5, hup, hgroup, hflags, -⟩ := h
  rw [onRequest_up (h5 ▸ hp) hup, Dev.serve_ungrouped hgroup hflags]
  rfl

end

/-! ### From the opcode to the reply -/

theorem Dev.reply_of_unposted {d : Dev} {q : QReq} (hq : q.posted = false) (a : Resp) : d.reply q a = d.pushReply q a := by
  simp [Dev.reply, Dev.countPosted, Dev.when, Dev.replyUnlessPosted, hq]

/-- Outside probation the service time only enters `QMAX` (R282). -/
theorem Dev.latency_of_settled {d : Dev} (h : d.hlt.probation = none) (q : QReq) :
    d.latency q = d.maxFld .hpQmax q.req.port 0 16 (satNat 16 ((d.now - q.arr) / unitsPerUs)) := by
  have hm : ∀ v, (d.maxFld .hpQmax q.req.port 0 16 v).hlt.probation = none := fun _ => h
  simp only [Dev.latency, hm]

/-- An answer that is no breach of rights, to an opcode that only reads, is not logged (R281). -/
theorem Dev.serveSingle_of_read {d e : Dev} {q : QReq} {a : Resp} (ha : d.runOp q.op q.req false = (some a, e))
    (hq : readsOnly q.op q.req.payload = true) (ho : a.status ≠ stNotOwner) (hl : a.status ≠ stLocked) :
    d.serveSingle q = (e.reply q a).latency q := by
  have hop : q.op ≠ 0x101 := by
    intro h
    simp [readsOnly, h] at hq
  simp [Dev.serveSingle, ha, Dev.noteAccepted, hq, Dev.noteRefusal, ho, hl, hop]

theorem Dev.pushReply_tx {d : Dev} {q : QReq} (hp : q.req.port < d.ports.length) (a : Resp) :
    ((d.pushReply q a).port q.req.port).tx =
      (d.port q.req.port).tx ++ [{ bytes := replyBytes q.op q.req a, dst := q.src, vlan := q.vlan, arr := q.arr }] := by
  simp [Dev.pushReply, Dev.port, Dev.onPort, hp]

/-- A request that only reads, whose handler answers and leaves the device as it found it, is answered with that and no more. -/
theorem answers_of_read {s : State} {c : Instr} {op g : Nat} {u : LaneUse} {w : Right} {r : Request} {st : Nat}
    {data : List Byte} {run : Dev → Request → Bool → Served} (hc : Machine.exec c s = onRequest s op r)
    (h : Admits s.dev r g u w) (hi : opInfo op = some ⟨g, u, w, run⟩) (hs : safetyOp op = false) (hq : readsOnly op r.payload = true)
    (ha : run (s.dev.counted r) r false = (s.dev.counted r).answer st data) (ho : st ≠ stNotOwner) (hl : st ≠ stLocked) :
    Answers c op r s ⟨st, data⟩ fun d => d.staged = s.dev.staged ∧ d.lanes = s.dev.lanes := by
  have hserve := Dev.serveSingle_of_read (q := queued op r) ((h.runOp hi hs false).trans ha) hq ho hl
  have hnext := h.onRequest op
  obtain ⟨hp, -, -, -, hflags, hprob, -⟩ := h
  rw [hserve, Dev.reply_of_unposted (posted_queued op r hflags),
    Dev.latency_of_settled (d := (s.dev.counted r).pushReply (queued op r) ⟨st, data⟩) hprob] at hnext
  exact runs_of (hc.trans hnext) ⟨Dev.pushReply_tx (d := s.dev.counted r) (q := queued op r) hp _, rfl, rfl⟩

/-! ### PING (R270) -/

theorem Dev.opPing_of_fits (d : Dev) {r : Request} (h : r.payload.length ≤ payloadLimit r.gen - 4) (b : Bool) :
    d.opPing r b = d.answer stOk (zeros 2 ++ r.payload) := if_neg (Nat.not_lt.2 h)

theorem Dev.opPing_of_long (d : Dev) {r : Request} (h : payloadLimit r.gen - 4 < r.payload.length) (b : Bool) :
    d.opPing r b = d.answer stRange := if_pos h

/-- What the limit of a generation leaves for the payload of PING, whose reply puts a status and two zero bytes before it. -/
theorem payloadLimit_sub_four (gen : Nat) : payloadLimit gen - 4 = if gen = 1 then 252 else 1020 := by
  unfold payloadLimit
  split <;> rfl

/-- PING is answered as its handler answers. -/
theorem answers_ping {s : State} {r : Request} {st : Nat} {data : List Byte} (h : Admits s.dev r 1 .ignored .any)
    (ha : (s.dev.counted r).opPing r false = (s.dev.counted r).answer st data) (ho : st ≠ stNotOwner) (hl : st ≠ stLocked) :
    Answers (.ping r) 0x0002 r s ⟨st, data⟩ fun d => d.staged = s.dev.staged ∧ d.lanes = s.dev.lanes :=
  answers_of_read rfl h rfl rfl rfl ha ho hl

/-- Settles O5: `Dev.opPing_of_fits` and `Dev.opPing_of_long` give the two answers, `answers_ping` their way to the port. -/
theorem pingEchoesItsPayload : Obligations.PingEchoesItsPayload := by
  intro s r _ h _ _
  rw [← payloadLimit_sub_four]
  exact ⟨fun hfits => answers_ping h (Dev.opPing_of_fits _ hfits false) (by decide) (by decide),
    fun hlong => answers_ping h (Dev.opPing_of_long _ hlong false) (by decide) (by decide)⟩

end Sys2Proof.Machine
end

section
/-! SO outputs (R311): an output that is on has every condition, and no command but SAFE_RST_EDGE turns one on whose latch is
set. A command that starts the device anew sets every latch. -/
namespace Sys2Proof.Machine
open Sys2Proof

theorem Dev.conditions_of_soOn {d : Dev} {g : Nat} (h : d.soOn g = true) :
    d.crit.sealed = true ∧ d.pwr.dbg ≠ .openDbg ∧ d.saf.params.isSome = true ∧ d.crit.devLatch = false ∧
      d.crit.soLatch.getLsbD g = false := by
  simp only [Dev.soOn, Bool.and_eq_true, Bool.not_eq_true', decide_eq_true_eq] at h
  obtain ⟨⟨⟨⟨⟨⟨⟨⟨-, hseal⟩, hdbg⟩, hparams⟩, hdev⟩, hlatch⟩, -⟩, -⟩, -⟩ := h
  exact ⟨hseal, hdbg, hparams, hdev, hlatch⟩

theorem Dev.soOn_of_latched {d : Dev} {g : Nat} (h : d.crit.soLatch.getLsbD g = true) : d.soOn g = false := by
  simp [Dev.soOn, h]

/-! ### Restarts -/

/-- After a cold start every latch is set (R311). -/
theorem Crit.coldStart_latched (b : Bool) {g : Nat} (hg : g < 12) : ({ sealed := b } : Crit).soLatch.getLsbD g = true :=
  (BitVec.getLsbD_allOnes (v := 12)).trans (decide_eq_true hg)

@[simp] theorem Dev.wakeUp_crit (d : Dev) (source : Nat) : (d.wakeUp source).crit = { sealed := d.pwr.sealFuse } := by
  unfold Dev.wakeUp
  dsimp only
  split <;> simp [Dev.resetN]

@[simp] theorem Dev.dormant_crit (d : Dev) : d.dormant.crit = { sealed := d.pwr.sealFuse } := by
  unfold Dev.dormant
  dsimp only
  split <;> simp

@[simp] theorem Dev.dormant_sealFuse (d : Dev) : d.dormant.pwr.sealFuse = d.pwr.sealFuse := by
  unfold Dev.dormant Dev.coldStart
  dsimp only
  split <;> simp

/-- The state that decides safety stands, or a cold start made it. -/
def Dev.CritStands (d e : Dev) : Prop := e.crit = d.crit ∨ e.crit = { sealed := d.pwr.sealFuse }

theorem Dev.recoveryRestart_critStands (d : Dev) : d.CritStands d.recoveryRestart := by
  unfold Dev.recoveryRestart
  split
  · split
    · exact .inr (by simp)
    · exact .inl rfl
  · exact .inl rfl

theorem Dev.dormantEntry_critStands (d : Dev) : d.CritStands d.dormantEntry := by
  unfold Dev.dormantEntry
  split
  · split
    · exact .inr (by simp)
    · exact .inr d.dormant_crit
  · exact .inl rfl

theorem Dev.wake_critStands (d : Dev) (source port : Nat) : d.CritStands (d.wake source port) := by
  unfold Dev.wake
  dsimp only
  split
  · exact .inl rfl
  · split
    · exact .inr (d.wakeUp_crit source)
    · exact .inl (by (repeat' split) <;> rfl)

theorem exec_restart_critStands {s : State} {c : Instr} (hc : restarts c = true) :
    NextOr (Machine.exec c s) fun u => s.dev.CritStands u.dev := by
  cases c with
  | resetNAssert t | supplyMonitorReset t => exact .inr rfl
  | recoveryRestart t =>
    unfold Machine.exec
    exact nextOr_onEvent (.inl rfl) (s.dev.at t).recoveryRestart_critStands
  | dormantEntry t =>
    unfold Machine.exec
    exact nextOr_onEvent (.inl rfl) (s.dev.at t).dormantEntry_critStands
  | wake t source port => exact (s.dev.at t).wake_critStands source port
  | _ => cases hc

/-! ### The latches under every command -/

/-- Every SO latch that is set in `d` is set in `e`. -/
def Dev.ClearsNone (d e : Dev) : Prop := ∀ g, d.crit.soLatch.getLsbD g = true → e.crit.soLatch.getLsbD g = true

theorem Dev.CritStands.clearsNone {d e : Dev} (h : d.CritStands e) : d.ClearsNone e := by
  intro g hg
  rcases h with h | h
  · rwa [h]
  · rw [h]
    exact Crit.coldStart_latched _ (BitVec.lt_of_getLsbD hg)

theorem NextOr.mono {o : Host.Outcome State Fault Refusal} {P Q : State → Prop} (h : NextOr o P) (hpq : ∀ u, P u → Q u) :
    NextOr o Q := by
  cases o with
  | next u => exact hpq u h
  | fault | refused => trivial

theorem exec_clearsNone (s : State) (c : Instr) (he : ∀ t w, c ≠ .safeRstEdge t w) :
    NextOr (Machine.exec c s) fun u => s.dev.ClearsNone u.dev := by
  cases hc : restarts c with
  | true => exact (exec_restart_critStands hc).mono fun _ h => h.clearsNone
  | false => exact NextOr.mono (exec_keeps_noRaise c s hc he) fun _ h => (h.2.tight rfl).latch

/-- Settles O4: the conditions are those of `Dev.soOn`; a cold start sets every latch; `exec_clearsNone` takes every command but
SAFE_RST_EDGE, and a latch that is set holds its output off. -/
theorem safeOutputsNeedEveryCondition : Obligations.SafeOutputsNeedEveryCondition := by
  refine ⟨fun d g => Dev.conditions_of_soOn, fun g hg => Crit.coldStart_latched _ hg, fun s t => ⟨_, rfl, fun g hg => ?reset⟩,
    fun s c he => (exec_clearsNone s c he).mono fun u hu g hg => Dev.soOn_of_latched (hu g hg)⟩
  case reset =>
    have hlatch := Crit.coldStart_latched (s.dev.at t).pwr.sealFuse hg
    exact ⟨hlatch, Dev.soOn_of_latched hlatch⟩

end Sys2Proof.Machine
end

section
/-! Byte strings that a packet carries (R4): a number is read back from its bytes, wherever they stand. -/
namespace Sys2Proof.Machine
open Sys2Proof

@[simp] theorem length_leBytes (n v : Nat) : (leBytes n v).length = n := by
  induction n generalizing v with
  | zero => rfl
  | succ n ih => simp [leBytes, ih]

theorem length_flatMap_wordBytes (ws : List Word) : (ws.flatMap wordBytes).length = 4 * ws.length := by
  induction ws with
  | nil => rfl
  | cons w ws ih => simp [wordBytes, ih]; omega

theorem leNat_leBytes (n v : Nat) : leNat (leBytes n v) = v % 256 ^ n := by
  induction n generalizing v with
  | zero => simp [leBytes, leNat, Nat.mod_one]
  | succ n ih => simp [leBytes, leNat, ih, Nat.pow_succ', Nat.mod_mul]

/-- A slice finds the bytes that follow those before its offset. -/
theorem slice_append {pre mid post : List Byte} {o n : Nat} (ho : pre.length = o) (hn : mid.length = n) :
    slice (pre ++ (mid ++ post)) o n = mid := by
  subst ho hn
  simp [slice]

theorem u32At_append {pre post : List Byte} {o v : Nat} (ho : pre.length = o) (hv : v < 2 ^ 32) :
    u32At (pre ++ (leBytes 4 v ++ post)) o = v := by
  rw [u32At, slice_append ho (length_leBytes 4 v), leNat_leBytes]
  exact Nat.mod_eq_of_lt hv

theorem u16At_append {pre post : List Byte} {o v : Nat} (ho : pre.length = o) (hv : v < 2 ^ 16) :
    u16At (pre ++ (leBytes 2 v ++ post)) o = v := by
  rw [u16At, slice_append ho (length_leBytes 2 v), leNat_leBytes]
  exact Nat.mod_eq_of_lt hv

end Sys2Proof.Machine
end

section
/-! What an address names (R397, R398), and the words that only the safety monitor writes (R329). -/
namespace Sys2Proof.Machine
open Sys2Proof

theorem mem_of_findReg {a k : Nat} {x : RegId} {rs : List RegId} (h : findReg a rs = .reg x k) : x ∈ rs := by
  induction rs with
  | nil => cases h
  | cons r rs ih =>
    unfold findReg at h
    split at h
    · cases h
      exact List.mem_cons_self
    · exact List.mem_cons_of_mem _ (ih h)

/-- A register word is found in the block of Table 18-1 that holds its address. -/
theorem block_of_targetOf {a k : Nat} {x : RegId} (h : targetOf a = .reg x k) :
    ∃ b ∈ blocks, b.1 ≤ a ∧ a < b.1 + b.2.1 ∧ x ∈ b.2.2 := by
  unfold targetOf at h
  split at h
  · cases h
  · split at h
    next lo len rs hb =>
      have hin := List.find?_some hb
      simp only [decide_eq_true_eq] at hin
      exact ⟨_, List.mem_of_find?_eq_some hb, hin.1, hin.2, mem_of_findReg h⟩
    next => cases h

/-- The word at `a` lies in the safety block or in a lane's safety view (R329). -/
def SafetyWord (a : Nat) : Prop :=
  (0x80000 ≤ a ∧ a < 0x90000) ∨ (0x100000 ≤ a ∧ a < 0x118000 ∧ 0x300 ≤ (a - 0x100000) % 0x400)

/-- Only the block of the host ports holds the counters that the service of a request moves. -/
theorem blocks_serviceCounters :
    ∀ b ∈ blocks, (.hpRxOk ∈ b.2.2 ∨ .hpQmax ∈ b.2.2) → b.1 = 0xB0000 ∧ b.2.1 = 0x10000 := by decide +kernel

theorem SafetyWord.not_serviceCounter {a k : Nat} {x : RegId} (ha : SafetyWord a) (h : targetOf a = .reg x k) :
    x ≠ .hpRxOk ∧ x ≠ .hpQmax := by
  obtain ⟨b, hb, hlo, hhi, hx⟩ := block_of_targetOf h
  have hport := blocks_serviceCounters b hb
  unfold SafetyWord at ha
  constructor <;> rintro rfl
  · have := hport (.inl hx)
    omega
  · have := hport (.inr hx)
    omega

/-- The registers of the safety block have their bases in it. -/
theorem blocks_safety : ∀ b ∈ blocks, 0x80000 < b.1 + b.2.1 → b.1 < 0x90000 →
    ∀ x ∈ b.2.2, 0x80000 ≤ x.info.base ∧ x.info.base < 0x90000 := by decide +kernel

/-- Every register of the safety block is present on both variants. -/
theorem Dev.regPresent_of_safetyBlock (d : Dev) {x : RegId} (k : Nat) (hlo : 0x80000 ≤ x.info.base)
    (hhi : x.info.base < 0x90000) : d.regPresent x k = true := by
  have hx : ¬(x = .frmLateCnt ∨ x = .hpInStat) := by
    rintro (rfl | rfl)
    · exact absurd hlo (by decide)
    · exact absurd hhi (by decide)
  unfold Dev.regPresent
  dsimp only
  rw [if_neg (by omega), if_neg (by omega), if_neg (by omega), if_neg (by omega), if_neg (by omega), if_neg hx]

theorem SafetyWord.absentAt {a : Nat} (ha : SafetyWord a) (d : Dev) : d.absentAt a = false := by
  unfold Dev.absentAt
  split
  next x k h =>
    rcases ha with ⟨hlo, hhi⟩ | ⟨hlane, -, -⟩
    · obtain ⟨b, hb, hblo, hbhi, hx⟩ := block_of_targetOf h
      obtain ⟨hxlo, hxhi⟩ := blocks_safety b hb (by omega) (by omega) x hx
      simp [d.regPresent_of_safetyBlock k hxlo hxhi]
    · simp [Nat.not_lt.2 hlane]
  next => rfl

/-- The check that a safety word fails comes after the address and the image, before the rights (R272). -/
theorem SafetyWord.wordCheck {a : Nat} (ha : SafetyWord a) (h : targetOf a ≠ .outside) (d : Dev) (p : Nat) :
    d.wordCheck p a = stSafetyHeld := by
  have hprot : ¬(0xA0000 ≤ a ∧ a < 0xB0000) := by
    unfold SafetyWord at ha
    omega
  unfold Dev.wordCheck
  rw [if_neg (by simp [h, ha.absentAt d]), if_neg hprot]
  exact if_pos ha

end Sys2Proof.Machine
end

section
/-! A register write that a word check refuses (R272, R273): the first status that is not OK answers, and nothing is written. -/
namespace Sys2Proof.Machine
open Sys2Proof

/-! ### The checks of the words -/

@[simp] theorem Dev.counted_mayWrite (d : Dev) (r : Request) (p : Nat) (x : RegId) (k : Nat) :
    (d.counted r).mayWrite p x k = d.mayWrite p x k := by
  have howns : (d.counted r).owns p = d.owns p := funext (d.counted_owns r p)
  have hfld {i : RegId} (hi : i ≠ .hpRxOk) (j : Nat) : (d.counted r).fld i j 0 7 = d.fld i j 0 7 := d.counted_fld r hi j 0 7
  simp only [Dev.mayWrite, Dev.ownsUnit, Dev.counted_leads, howns, hfld (i := .pinAssign) (by decide),
    hfld (i := .mlsAssign) (by decide), hfld (i := .emuLane) (by decide), hfld (i := .pfeLane) (by decide)]

@[simp] theorem Dev.counted_mayWriteAt (d : Dev) (r : Request) (p a : Nat) :
    (d.counted r).mayWriteAt p a = d.mayWriteAt p a := by
  unfold Dev.mayWriteAt
  cases targetOf a <;> simp

@[simp] theorem Dev.counted_absentAt (d : Dev) (r : Request) (a : Nat) : (d.counted r).absentAt a = d.absentAt a := (rfl)

/-- Counting a request changes no check of a word. -/
@[simp] theorem Dev.counted_wordCheck (d : Dev) (r : Request) (p a : Nat) : (d.counted r).wordCheck p a = d.wordCheck p a := by
  simp [Dev.wordCheck]

theorem firstFail_eq {l : List Nat} {j st : Nat} (hst : st ≠ stOk) (hj : l[j]? = some st) (h : ∀ i < j, l[i]? = some stOk) :
    firstFail l = st := by
  induction l generalizing j with
  | nil => cases hj
  | cons x l ih =>
    cases j with
    | zero =>
      obtain rfl : x = st := by simpa using hj
      exact if_neg hst
    | succ j =>
      obtain rfl : x = stOk := by simpa using h 0 (Nat.succ_pos j)
      exact ih (by simpa using hj) fun i hi => by simpa using h (i + 1) (Nat.succ_lt_succ hi)

/-- The first word that fails its check refuses the write. -/
theorem Dev.writeWords_of_fail {d : Dev} {p a j st : Nat} {ws : List Word} (hj : j < ws.length)
    (hfail : d.wordCheck p (a + 4 * j) = st) (hst : st ≠ stOk) (hok : ∀ i < j, d.wordCheck p (a + 4 * i) = stOk) (g : Bool) :
    d.writeWords p g a ws = (st, d) := by
  have hfirst : firstFail (((List.range ws.length).map fun i => a + 4 * i).map (d.wordCheck p)) = st := by
    refine firstFail_eq hst (j := j) (by simp [hj, hfail]) fun i hi => ?_
    simp [hi.trans hj, hok i hi]
  unfold Dev.writeWords
  dsimp only
  rw [hfirst, if_pos hst, if_pos hst]

/-! ### The handlers -/

@[simp] theorem length_wordsAt (b : List Byte) (o n : Nat) : (wordsAt b o n).length = n := by simp [wordsAt]

/-- A refusal is neither OK nor STAGED (R277). -/
theorem Resp.not_accepted_iff {st : Nat} {data : List Byte} :
    (⟨st, data⟩ : Resp).accepted = false ↔ ¬(st = stOk ∨ st = stStaged) := by
  simp [Resp.accepted]

/-- REG_WR answers the status that refuses its words. -/
theorem Dev.opRegWr_of_refused {d : Dev} {r : Request} {a n st : Nat} {ws : List Word} {g : Bool}
    (hp : r.payload = leBytes 4 a ++ leBytes 2 n ++ [0, 0] ++ ws.flatMap wordBytes) (ha : a % 4 = 0) (ha32 : a < 2 ^ 32)
    (hn : 1 ≤ n) (hmost : n ≤ writeMax r.gen) (hlen : ws.length = n)
    (hw : ∀ us : List Word, us.length = n → d.writeWords r.port g a us = (st, d)) (hst : Resp.accepted ⟨st, []⟩ = false) :
    d.opRegWr r g = d.answer st := by
  have hn16 : n < 2 ^ 16 := hmost.trans_lt (by unfold writeMax; split <;> decide)
  have haddr : u32At r.payload 0 = a := by
    rw [hp, List.append_assoc, List.append_assoc]
    exact u32At_append (pre := []) rfl ha32
  have hcount : u16At r.payload 4 = n := by
    rw [hp, List.append_assoc, List.append_assoc]
    exact u16At_append (length_leBytes 4 a) hn16
  have hzero : zeroAt r.payload 6 2 = true := by
    rw [hp, List.append_assoc, zeroAt, slice_append (mid := [0, 0]) (o := 6) (n := 2) (by simp) rfl]
    rfl
  have hlength : r.payload.length = 8 + 4 * n := by
    rw [hp, ← hlen]
    simp only [List.length_append, length_leBytes, List.length_cons, List.length_nil, length_flatMap_wordBytes]
  have hhead : badHead r.payload (writeMax r.gen) = false := by
    simp only [badHead, haddr, hcount, hzero]
    simp [ha, hmost]
    omega
  unfold Dev.opRegWr
  dsimp only
  rw [hcount, haddr, hw _ (length_wordsAt _ _ _), if_neg (by omega), hhead, if_neg Bool.false_ne_true, if_neg (by omega),
    if_neg (Resp.not_accepted_iff.1 hst)]

/-- REG_RMW answers the check that its word fails. -/
theorem Dev.opRegRmw_of_refused {d : Dev} {r : Request} {a : Nat} {mask v : Word}
    (hp : r.payload = leBytes 4 a ++ wordBytes mask ++ wordBytes v) (ha : a % 4 = 0) (ha32 : a < 2 ^ 32)
    (hfail : d.wordCheck r.port a ≠ stOk) (g : Bool) : d.opRegRmw r g = d.answer (d.wordCheck r.port a) := by
  have haddr : u32At r.payload 0 = a := by
    rw [hp, List.append_assoc]
    exact u32At_append (pre := []) rfl ha32
  have hlength : r.payload.length = 12 := by simp [hp, wordBytes]
  unfold Dev.opRegRmw
  dsimp only
  rw [haddr, if_neg (not_not.2 hlength), if_neg (not_not.2 ha), if_pos hfail]

/-! ### The answer to a refused request -/

theorem Dev.counted_reg (d : Dev) (r : Request) {i : RegId} (hi : i ≠ .hpRxOk) (k : Nat) :
    (d.counted r).reg i k = d.reg i k := Dev.reg_addCnt_ne _ fun e => hi e.1

@[simp] theorem Dev.pushReply_reg (d : Dev) (q : QReq) (a : Resp) (i : RegId) (k : Nat) :
    (d.pushReply q a).reg i k = d.reg i k := (rfl)

theorem Dev.reg_maxFld_ne (d : Dev) {i j : RegId} {k l lo n v : Nat} (h : ¬(j = i ∧ l = k)) :
    (d.maxFld i k lo n v).reg j l = d.reg j l := Dev.reg_setReg_ne _ _ h

/-- A refusal that is no breach of rights logs nothing (R263, R281). -/
theorem Dev.serveSingle_of_refused {d : Dev} {q : QReq} {st : Nat} (ha : d.runOp q.op q.req false = d.answer st)
    (hst : Resp.accepted ⟨st, []⟩ = false) (ho : st ≠ stNotOwner) (hl : st ≠ stLocked) :
    d.serveSingle q = (d.reply q ⟨st, []⟩).latency q := by
  simp [Dev.serveSingle, ha, Dev.answer, hst, Dev.noteRefusal, ho, hl]

/-- A request whose handler refuses it is answered with the status alone; only the counters of its service move. -/
theorem answers_of_refused {s : State} {c : Instr} {op gen st : Nat} {u : LaneUse} {w : Right} {r : Request}
    {run : Dev → Request → Bool → Served} (hc : Machine.exec c s = onRequest s op r) (h : Admits s.dev r gen u w)
    (hi : opInfo op = some ⟨gen, u, w, run⟩) (hs : safetyOp op = false)
    (ha : run (s.dev.counted r) r false = (s.dev.counted r).answer st)
    (hst : Resp.accepted ⟨st, []⟩ = false) (ho : st ≠ stNotOwner) (hl : st ≠ stLocked) :
    Answers c op r s ⟨st, []⟩ fun d => d.staged = s.dev.staged ∧
      ∀ x k, x ≠ .hpRxOk → x ≠ .hpQmax → d.reg x k = s.dev.reg x k := by
  have hserve := Dev.serveSingle_of_refused (q := queued op r) ((h.runOp hi hs false).trans ha) hst ho hl
  have hnext := h.onRequest op
  obtain ⟨hp, -, -, -, hflags, hprob, -⟩ := h
  rw [hserve, Dev.reply_of_unposted (posted_queued op r hflags),
    Dev.latency_of_settled (d := (s.dev.counted r).pushReply (queued op r) ⟨st, []⟩) hprob] at hnext
  have htx := Dev.pushReply_tx (d := s.dev.counted r) (q := queued op r) hp ⟨st, []⟩
  refine runs_of (hc.trans hnext) ⟨htx, rfl, fun x k hok hmax => ?_⟩
  rw [Dev.reg_maxFld_ne _ fun e => hmax e.1, Dev.pushReply_reg, Dev.counted_reg _ _ hok]

/-! ### Safety words (R329) -/

/-- Connection `c` occupies `0x100 + 0x10 × c` of the safety block. -/
theorem targetOf_connState : ∀ c < 16, targetOf (0x80000 + 0x100 + 0x10 * c) = .reg .connState c := by decide +kernel

/-- Settles O6: `SafetyWord.wordCheck` is the first check that fails, so the handlers answer it with the device as they found
it, and `answers_of_refused` takes that answer to the port. -/
theorem safetyRegistersAreReadOnly : Obligations.SafetyRegistersAreReadOnly := by
  refine ⟨fun s r a n j ws h ha hj hn hmost hbound hlen hout hword hok => ⟨fun hp => ?wr, fun mask v hj0 hp => ?rmw⟩,
    targetOf_connState⟩
  case wr =>
    have hfail : (s.dev.counted r).wordCheck r.port (a + 4 * j) = stSafetyHeld := SafetyWord.wordCheck hword hout _ _
    have hrun : (s.dev.counted r).opRegWr r false = (s.dev.counted r).answer stSafetyHeld :=
      Dev.opRegWr_of_refused hp ha (by omega) hn hmost hlen (fun us hus =>
        Dev.writeWords_of_fail (hus ▸ hj) hfail (by decide) (fun i hi => by simp [hok i hi]) false) (by decide)
    obtain ⟨d, hd, htx, hstaged, hreg⟩ :=
      answers_of_refused (c := .regWr r) (op := 0x0011) rfl h rfl rfl hrun (by decide) (by decide) (by decide)
    exact ⟨d, hd, htx, hstaged, fun i x k _ hx => hreg x k (by rintro rfl; simp at hx) (by rintro rfl; simp at hx)⟩
  case rmw =>
    subst hj0
    have hfail : (s.dev.counted r).wordCheck r.port a = stSafetyHeld := SafetyWord.wordCheck hword hout _ _
    have hrun : (s.dev.counted r).opRegRmw r false = (s.dev.counted r).answer stSafetyHeld :=
      hfail ▸ Dev.opRegRmw_of_refused hp ha (by omega) (by rw [hfail]; decide) false
    obtain ⟨d, hd, htx, hstaged, hreg⟩ :=
      answers_of_refused (c := .regRmw r) (op := 0x0012) rfl h rfl rfl hrun (by decide) (by decide) (by decide)
    exact ⟨d, hd, htx, hstaged, fun x k hx =>
      have hne := SafetyWord.not_serviceCounter hword hx
      hreg x k hne.1 hne.2⟩

end Sys2Proof.Machine
end

section
/-! One step of the machine and the state that reset leaves (R22, R27, R311, R335). -/
namespace Sys2Proof.Machine
open Sys2Proof

/-- Settles O1: the definition of a step at a queue that is not empty. -/
theorem stepRunsTheFrontCommand : Obligations.StepRunsTheFrontCommand := by
  intro c rest s h
  unfold Machine.step
  rw [h]

/-- Right after reset no barrier is up. -/
theorem reset_barrierUp (n : Nat) : State.reset.dev.barrierUp n = false := by simp [State.reset, Dev.barrierUp]

theorem reset_sized : State.reset.dev.Sized := by simp [Dev.Sized, State.reset]

/-- Settles O7: the fields of the reset state; its memories list nothing (`reset_memWf`). -/
theorem resetState : Obligations.ResetState := by
  refine ⟨rfl, reset_barrierUp, rfl, rfl, rfl, rfl, rfl, ?lanes, rfl, rfl, reset_memWf, reset_sized⟩
  case lanes => decide

end Sys2Proof.Machine
end

section
/-! What the shared forms of a command reach, for `Runs`. -/
namespace Sys2Proof.Machine
open Sys2Proof

variable {s : State} {f : Dev → Dev} {p : Dev → Bool} {t : Time} {P : Dev → Prop}

/-- The outcome is a next state in which the queue stands and the device satisfies `P`. -/
def Reaches (s : State) (P : Dev → Prop) (o : Host.Outcome State Fault Refusal) : Prop := ∃ d, o = .next { s with dev := d } ∧ P d

theorem runs_iff (c : Instr) (s : State) (P : Dev → Prop) : Runs c s P ↔ Reaches s P (Machine.exec c s) := .rfl

theorem Reaches.onDev (h : P (f s.dev)) : Reaches s P (Machine.onDev s f) := ⟨_, rfl, h⟩

theorem Reaches.onUnit (hp : p s.dev = true) (h : P (f s.dev)) : Reaches s P (Machine.onUnit p s f) := by
  rw [Machine.onUnit, if_pos hp]
  exact .onDev h

/-- An event acts on a device that runs. -/
theorem Reaches.onEvent (hp : p s.dev = true) (ha : s.dev.alive = true) (h : P (f (s.dev.at t))) : Reaches s P (Machine.onEvent p s t f) :=
  ⟨_, onEvent_alive hp ha t f, h⟩

/-- An event acts, or only moves the clock. -/
theorem Reaches.onEvent_cases (hp : p s.dev = true) (h : P (f (s.dev.at t))) (h0 : P (s.dev.at t)) :
    Reaches s P (Machine.onEvent p s t f) := by
  rcases ha : s.dev.alive with _ | _
  · exact ⟨_, onEvent_still hp ha t f, h0⟩
  · exact .onEvent hp ha h

theorem Reaches.onExpiry (hp : p s.dev = true) (ha : s.dev.alive = true) (h : P (f s.dev)) : Reaches s P (Machine.onExpiry p s f) :=
  ⟨_, onExpiry_alive hp ha f, h⟩

theorem Reaches.onMgmt (hp : p s.dev = true) (hm : s.dev.mgmtUp = true) (h : P (f (s.dev.at t))) :
    Reaches s P (Machine.onMgmt p s t f) := ⟨_, onMgmt_up hp hm t f, h⟩

theorem Reaches.onLaneEvent {n : Nat} (hp : hasLane n s.dev = true) (ha : s.dev.alive = true)
    (h : P ((f (s.dev.at t)).settleFault n)) : Reaches s P (Machine.onLaneEvent s t n f) := .onEvent hp ha h

theorem Reaches.onPinLevel (h : P (f (s.dev.at t))) : Reaches s P (Machine.onPinLevel s t f) := .onDev h

end Sys2Proof.Machine
end

section
/-! The clock (R27): one cycle of it, what it reads as, and that a boot and DORMANT leave it running. -/
namespace Sys2Proof.Machine
open Sys2Proof

/-! ### One cycle -/

/-- A cycle advances `DTIME` and its fraction, as one count of 10^-9 units, by 20 units scaled by the rate. -/
theorem Dev.clockCycle_count (d : Dev) : ∃ n, n * 1000000000 + d.clockCycle.time.frac = d.now * 1000000000 + d.time.frac +
    20 * (1000000000 + signed 32 (d.reg .timeRate 0).toNat).toNat ∧ d.clockCycle.now = n % 2 ^ 64 := by
  refine ⟨d.now + (d.time.frac + 20 * (1000000000 + signed 32 (d.reg .timeRate 0).toNat).toNat) / 1000000000, ?_, rfl⟩
  simp only [Dev.clockCycle]
  omega

theorem Dev.clockCycle_frac_lt (d : Dev) : d.clockCycle.time.frac < 1000000000 := Nat.mod_lt _ (by decide)

/-- `TIME_NOW` holds no bit that a write or an event sets, so it reads as the clock stands. -/
theorem Dev.readReg_timeNow (d : Dev) (p k : Nat) : d.readReg p .timeNow k = half d.now k := by
  have hp : d.regPresent .timeNow k = true := by simp [Dev.regPresent, RegId.info]
  have hr : d.readReg p .timeNow k = half d.now k &&& 0xFFFFFFFF := by simp [Dev.readReg, hp, Dev.roWord, RegId.info]
  exact hr.trans BitVec.and_allOnes

/-! ### What keeps the instant -/

theorem Dev.foldl_now {α : Type} (f : Dev → α → Dev) (hf : ∀ d a, (f d a).now = d.now) (l : List α) (d : Dev) :
    (l.foldl f d).now = d.now := by
  induction l generalizing d with
  | nil => rfl
  | cons a l ih => exact (ih _).trans (hf d a)

@[simp] theorem Dev.mramWrite_now (d : Dev) (r : Nat) : (d.mramWrite r).now = d.now := (rfl)
@[simp] theorem Dev.onRegion_now (d : Dev) (i : Nat) (f : Region → Region) : (d.onRegion i f).now = d.now := (rfl)

@[simp] theorem Dev.chooseImage_now (d : Dev) : d.chooseImage.now = d.now := by
  unfold Dev.chooseImage
  dsimp only
  (repeat' split) <;> simp

theorem Dev.loadProtWord_now (d : Dev) (m : List Host.Cell) (i : Nat) : (d.loadProtWord m i).now = d.now := by
  unfold Dev.loadProtWord
  split <;> simp

@[simp] theorem Dev.writeProt_now (d : Dev) : d.writeProt.now = d.now := by
  unfold Dev.writeProt
  dsimp only
  rw [Dev.setReg_now]
  split
  · exact Dev.foldl_now _ (fun d i => d.loadProtWord_now _ i) _ _
  · exact Dev.foldl_now _ (fun d i => Dev.setReg_now ..) _ _

@[simp] theorem Dev.loadOdo_now (d : Dev) : d.loadOdo.now = d.now := by
  unfold Dev.loadOdo
  split <;> simp

@[simp] theorem Dev.chooseSlot_now (d : Dev) : d.chooseSlot.2.now = d.now := by
  unfold Dev.chooseSlot
  dsimp only
  (repeat' split) <;> simp

@[simp] theorem Dev.bootRom_now (d : Dev) : d.bootRom.now = d.now := by
  simp [Dev.bootRom, apply_ite Dev.now]

/-- Everything may change but the time unit. -/
def May.noTime : May := { May.noRaise with time := false }

@[simp] theorem Dev.bootRom_time (d : Dev) : d.bootRom.time = d.time :=
  (Dev.bootRom_within (my := .noTime) d (.refl _ _) rfl rfl rfl fun _ _ => rfl).time rfl

theorem Dev.dormant_clock (d : Dev) : d.dormant.now = d.now ∧ d.dormant.time.frac = d.time.frac := by
  unfold Dev.dormant
  dsimp only
  split <;> simp

/-- A wake other than by RESET_N lets the clock run on. -/
theorem Dev.wakeUp_clock (d : Dev) {source : Nat} (h : source ≠ 0) :
    (d.wakeUp source).now = d.now ∧ (d.wakeUp source).time.frac = d.time.frac := by
  simp [Dev.wakeUp, h]

theorem Dev.dormantEntry_clock (d : Dev) (h : d.pwr.wakeKept ≠ some 0) :
    d.dormantEntry.now = d.now ∧ d.dormantEntry.time.frac = d.time.frac := by
  unfold Dev.dormantEntry
  split
  · split
    · rename_i source hk
      have hw := d.dormant.wakeUp_clock (source := source) fun e => h (e ▸ hk)
      exact ⟨hw.1.trans d.dormant_clock.1, hw.2.trans d.dormant_clock.2⟩
    · exact d.dormant_clock
  · exact ⟨rfl, rfl⟩

theorem Dev.wake_clock (d : Dev) {source : Nat} (port : Nat) (h : source ≠ 0) :
    (d.wake source port).now = d.now ∧ (d.wake source port).time.frac = d.time.frac := by
  unfold Dev.wake
  dsimp only
  split
  · exact ⟨rfl, rfl⟩
  · split
    · exact d.wakeUp_clock h
    · (repeat' split) <;> exact ⟨rfl, rfl⟩

/-- Settles O2: `Dev.clockCycle_count` is the step on an empty queue; a reset starts the clock from zero, and DORMANT and the
wakes keep it. -/
theorem timeAdvancesByTheCycle : Obligations.TimeAdvancesByTheCycle := by
  intro s
  refine ⟨fun hq => ?step, rfl, fun t => ⟨_, rfl, rfl⟩,
    fun p => ⟨(s.dev.readReg_timeNow p 0).trans ?low, s.dev.readReg_timeNow p 1⟩, fun t hk => ?dormant, fun t source port h => ?wake⟩
  case step =>
    unfold Machine.step
    rw [hq]
    exact ⟨s.dev.clockCycle_count, s.dev.clockCycle_frac_lt, rfl⟩
  case low => simp [half]
  case dormant =>
    rw [runs_iff, Machine.exec]
    exact .onEvent_cases rfl ((s.dev.at t).dormantEntry_clock hk) ⟨rfl, rfl⟩
  case wake => exact runs_of rfl ((s.dev.at t).wake_clock port h)

end Sys2Proof.Machine
end

section
/-! What either of two frames allows, field by field. -/
namespace Sys2Proof.Machine

variable (a b : May)

@[simp] theorem May.or_reg (i : RegId) (k : Nat) : (a.or b).reg i k = (a.reg i k || b.reg i k) := (rfl)
@[simp] theorem May.or_lane (n : Nat) : (a.or b).lane n = (a.lane n || b.lane n) := (rfl)
@[simp] theorem May.or_acq (n : Nat) : (a.or b).acq n = (a.acq n || b.acq n) := (rfl)
@[simp] theorem May.or_trk (n : Nat) : (a.or b).trk n = (a.trk n || b.trk n) := (rfl)
@[simp] theorem May.or_map (n : Nat) : (a.or b).map n = (a.map n || b.map n) := (rfl)
@[simp] theorem May.or_loop (n : Nat) : (a.or b).loop n = (a.loop n || b.loop n) := (rfl)
@[simp] theorem May.or_prf (n : Nat) : (a.or b).prf n = (a.prf n || b.prf n) := (rfl)
@[simp] theorem May.or_group (n : Nat) : (a.or b).group n = (a.group n || b.group n) := (rfl)
@[simp] theorem May.or_port (n : Nat) : (a.or b).port n = (a.port n || b.port n) := (rfl)
@[simp] theorem May.or_pin (n : Nat) : (a.or b).pin n = (a.pin n || b.pin n) := (rfl)
@[simp] theorem May.or_mls (n : Nat) : (a.or b).mls n = (a.mls n || b.mls n) := (rfl)
@[simp] theorem May.or_emu (n : Nat) : (a.or b).emu n = (a.emu n || b.emu n) := (rfl)
@[simp] theorem May.or_cluster (n : Nat) : (a.or b).cluster n = (a.cluster n || b.cluster n) := (rfl)
@[simp] theorem May.or_vm (n : Nat) : (a.or b).vm n = (a.vm n || b.vm n) := (rfl)
@[simp] theorem May.or_pfe (n : Nat) : (a.or b).pfe n = (a.pfe n || b.pfe n) := (rfl)
@[simp] theorem May.or_safLane (n : Nat) : (a.or b).safLane n = (a.safLane n || b.safLane n) := (rfl)
@[simp] theorem May.or_conn (n : Nat) : (a.or b).conn n = (a.conn n || b.conn n) := (rfl)
@[simp] theorem May.or_saf : (a.or b).saf = (a.saf || b.saf) := (rfl)
@[simp] theorem May.or_crit : (a.or b).crit = (a.crit || b.crit) := (rfl)
@[simp] theorem May.or_raise : (a.or b).raise = (a.raise || b.raise) := (rfl)
@[simp] theorem May.or_time : (a.or b).time = (a.time || b.time) := (rfl)
@[simp] theorem May.or_bbx : (a.or b).bbx = (a.bbx || b.bbx) := (rfl)
@[simp] theorem May.or_hlt : (a.or b).hlt = (a.hlt || b.hlt) := (rfl)
@[simp] theorem May.or_pwr : (a.or b).pwr = (a.pwr || b.pwr) := (rfl)
@[simp] theorem May.or_trc : (a.or b).trc = (a.trc || b.trc) := (rfl)
@[simp] theorem May.or_staged : (a.or b).staged = (a.staged || b.staged) := (rfl)
@[simp] theorem May.or_ro : (a.or b).ro = (a.ro || b.ro) := (rfl)
@[simp] theorem May.or_serve : (a.or b).serve = (a.serve || b.serve) := (rfl)

end Sys2Proof.Machine
end

section
/-! The frame of the time commands (R27–R34, R44). -/
namespace Sys2Proof.Machine
open Sys2Proof

/-- The frame of an edge of SYNC_IN that takes over no armed `TIME_SET`. -/
def syncEdgeFrame : May := logs.or { time := true, reg := words 0 [.timeCnt, .timeOffset, .timeRate, .timeStat] }

/-- An exchange is sent by the port that runs 802.1AS alone. -/
theorem Dev.pdelaySend_within_of {m : May} {d0 d : Dev} (h : Within m d0 d) (ht : m.time = true)
    (hp : m.port (d.fld .timeCtrl 0 4 2) = true) : Within m d0 d.pdelaySend := by
  unfold Dev.pdelaySend
  exact Within.ite ((h.onTime _ ht).onPort _ _ hp) h

/-- Where no armed `TIME_SET` is taken over, an edge changes the servo alone. -/
theorem Dev.syncInEdge_within_of (d : Dev) (at_ : Time) (width : Nat) (hs : d.time.src ≠ 3 ∨ d.time.setPend = none) :
    Within syncEdgeFrame d (d.syncInEdge at_ width) := by
  have hservo (f : TimeSt → TimeSt) (e : Int) : Within syncEdgeFrame d ((d.onTime f).servoUpdate e) := by
    apply Dev.servoUpdate_within <;> simp [syncEdgeFrame, logs, words]
  unfold Dev.syncInEdge
  dsimp only
  split
  · exact .refl _ _
  · split
    · apply Dev.missEdge_within <;> simp [syncEdgeFrame, logs, words]
    · split
      · rename_i hsrc hset
        exact absurd hs (not_or.2 ⟨not_not.2 hsrc, fun e => Option.some_ne_none _ (hset.symm.trans e)⟩)
      · exact hservo _ _

/-- Settles O51: one law of `Laws/WithinSignal` for each operation; the edge and the exchange by the two lemmas above. -/
theorem timeCommandsKeep : Obligations.TimeCommandsKeep := by
  intro s t port domain interval rx gm u v w two followUp id
  simp only [keeps_iff, Machine.exec]
  refine ⟨.onEvent _ _ ?_, .onEvent _ _ ?_, .onEvent _ _ ?_, .onEvent _ _ ?send, .onEvent _ _ ?_, .onEvent _ _ ?_,
    fun hs => .onEvent _ _ ?edge, .onEvent _ _ ?_, .onEvent _ _ ?_, .onDev ?_, .onDev ?_⟩
  case send => exact Dev.pdelaySend_within_of (by simp) rfl (by simp)
  case edge => exact ((Within.refl _ _).at t).trans (Dev.syncInEdge_within_of _ t interval hs)
  all_goals simp [logs, words, every]

end Sys2Proof.Machine
end

section
/-! The frame of the events of excitation, acquisition and tracker (R46–R104). -/
namespace Sys2Proof.Machine
open Sys2Proof

/-- The outputs of a lane of `p` may change where the frame holds what `outputsOf` allows. -/
theorem May.outputs_laneWork {d : Dev} {p : Nat → Bool} {n : Nat} (m : May) (hp : p n = true) (hl : ∀ o, m.reg .emuLane o = false) :
    ((laneWork d p).or m).outputs d n :=
  .inr ⟨fun o => by simp [laneWork, logs, outputsOf, words, hl], fun o ho => by
    simp [laneWork, logs, outputsOf, words, ho, hp]⟩

/-- The consequences of a fault of a lane of `p` lie within the work of the lanes of `p`. -/
theorem Dev.settleFault_within_laneWork {d0 d : Dev} {p : Nat → Bool} {n : Nat} {m : May}
    (h : Within ((laneWork d0 p).or m) d0 d) (hp : p n = true) (hl : ∀ o, m.reg .emuLane o = false) :
    Within ((laneWork d0 p).or m) d0 (d.settleFault n) := by
  apply Dev.settleFault_within _ _ h
  case h6 => exact May.outputs_laneWork m hp hl
  all_goals simp [laneWork, logs, outputsOf, words, hp]

/-- An event of lane `n` changes the work of the lane, and what else its operation changes. -/
theorem Leaves.laneEvent {s : State} {t : Time} {n : Nat} {f : Dev → Dev} {m : May}
    (h : Within ((laneWork s.dev (· = n)).or m) s.dev (f (s.dev.at t))) (hl : ∀ o, m.reg .emuLane o = false) :
    Leaves ((laneWork s.dev (· = n)).or m) s (Machine.onLaneEvent s t n f) :=
  .onLaneEvent _ _ (Dev.settleFault_within_laneWork h (decide_eq_true rfl) hl)

/-- Settles O52: one law of `Laws/WithinSignal` for each operation. -/
theorem signalEventsKeep : Obligations.SignalEventsKeep := by
  intro s t g n w
  simp only [keeps_iff, exec]
  refine ⟨.onEvent _ _ ?_, .onEvent _ _ ?half, fun x => .laneEvent ?sample ?_, fun x => .onEvent _ _ ?_, .onEvent _ _ ?_,
    .laneEvent ?_ ?_, .onEvent _ _ ?_, .laneEvent ?_ ?_, .onEvent _ _ ?_, .onEvent _ _ ?_, .onEvent _ _ ?_,
    .onEvent _ _ ?_, .laneEvent ?_ ?_, .laneEvent ?_ ?_, .onEvent _ _ ?_, .onEvent _ _ ?_, .onEvent _ _ ?_,
    .onMgmt _ _ ?_, .onMgmt _ _ ?_, .onEvent _ _ ?_⟩
  case half =>
    refine Within.forEach_mem ?_ _ _ fun k hk e he => 
      Dev.settleFault_within_laneWork he (by simpa using mem_lanesOfGroup.1 hk) fun o => by simp [words]
    apply Dev.excHalfPeriod_within
    case h6 => exact fun k hk => May.outputs_laneWork _ (decide_eq_true hk) fun o => by simp [words]
    case h => simp
    case h2 | h3 | h4 | h7 | h8 => simp [logs, words, laneWork]
    all_goals
      rintro k rfl
      simp [logs, words, laneWork]
  case sample =>
    apply Dev.mapSample_within
    · apply Dev.demodSample_within <;> simp [logs, words, laneWork, outputsOf, May.outputs_iff]
    · simp [laneWork]
  all_goals simp [logs, words, laneWork, outputsOf, May.outputs_iff]

end Sys2Proof.Machine
end

section
/-! The frame of the events of pulse inputs, of outputs and of process channels (R116–R160, R239–R247). -/
namespace Sys2Proof.Machine
open Sys2Proof

/-- Lane `n` is on its detour through pulse input `i`. -/
def Dev.onDetour (d : Dev) (i n : Nat) : Bool := (d.lane n).trk.detour && d.detSrc n = i

/-- What an event of pulse input `i` may change: the input and the lanes on their detour through it. -/
def pinFrame (d : Dev) (i : Nat) : May := (laneWork d (d.onDetour i)).or { pin := (· = i), hlt := true }

/-- `m` allows what `pinFrame` allows of lanes and the log, and moves neither a detour's source nor an output's lane. -/
structure May.Pin (m : May) (d : Dev) (i : Nat) : Prop where
  lane : ∀ n, d.onDetour i n = true → m.trk n = true ∧ m.lane n = true ∧ m.acq n = true ∧ m.loop n = true ∧ m.map n = true ∧
    m.prf n = true ∧ m.reg .trkCnt n = true
  trk : ∀ n, m.trk n = true → d.onDetour i n = true
  out : ∀ o, d.onDetour i (d.emuLane o) = true → m.emu o = true ∧ m.reg .emuStat o = true ∧ m.reg .emuCnt o = true
  stands : ∀ k, m.reg .emuLane k = false ∧ m.reg .detCtrl k = false
  log : m.bbx = true ∧ m.reg .bbxStat 0 = true
  unit : m.hlt = true ∧ m.pin i = true

theorem pinFrame_pin (d : Dev) (i : Nat) : (pinFrame d i).Pin d i := by
  constructor <;> simp +contextual [pinFrame, laneWork, logs, outputsOf, words]

/-- More registers and milestone units do not matter to a frame of a pulse input. -/
theorem May.Pin.or {m k : May} {d : Dev} {i : Nat} (h : m.Pin d i) (ht : ∀ n, k.trk n = false)
    (hr : ∀ j, k.reg .emuLane j = false ∧ k.reg .detCtrl j = false) : (m.or k).Pin d i where
  lane n hn := by simp [h.lane n hn]
  trk n hn := h.trk n (by simpa [ht] using hn)
  out o ho := by simp [h.out o ho]
  stands j := by simp [h.stands j, hr j]
  log := by simp [h.log]
  unit := by simp [h.unit]

theorem May.Pin.outputs {m : May} {d : Dev} {i n : Nat} (h : m.Pin d i) (hn : d.onDetour i n = true) : m.outputs d n :=
  .inr ⟨fun o => (h.stands o).1, fun o ho => h.out o (ho ▸ hn)⟩

theorem May.Pin.detour {m : May} {d : Dev} {i : Nat} (h : m.Pin d i) : m.detour d i := by
  refine .inr ⟨fun n => (h.stands n).2, fun n hn => ?_⟩
  have hd : d.onDetour i n = true := by
    rcases hn with hn | hn
    · simpa [Dev.onDetour] using hn
    · exact h.trk n hn
  obtain ⟨htrk, hlane, hacq, hloop, hmap, -, -⟩ := h.lane n hd
  exact ⟨htrk, hlane, hacq, hloop, hmap, h.outputs hd⟩

theorem Leaves.pinEvent {s : State} {t : Time} {i : Nat} {f : Dev → Dev} {m : May} (hm : m.Pin s.dev i)
    (h : Within m s.dev (f (s.dev.at t))) : Leaves m s (Machine.onPinEvent s t i f) := by
  refine .onPinEvent _ _ h fun n hd hs e he => ?_
  have hn : s.dev.onDetour i n = true := by simp [Dev.onDetour, hd, hs]
  obtain ⟨htrk, hlane, hacq, hloop, hmap, hprf, hcnt⟩ := hm.lane n hn
  exact Dev.settleFault_within _ _ he hacq hm.log.1 hlane hloop hmap (hm.outputs hn) hprf hm.log.2 hcnt htrk

theorem Within.when_self {m : May} {d : Dev} {c : Bool} {f : Dev → Dev} (h : Within m d (f d)) : Within m d (d.when c f) := by
  unfold Dev.when
  split
  · exact h
  · exact .refl _ _

/-- Settles O53: one law of `Laws/WithinSignal` or `Laws/WithinMotion` for each operation; an event of a pulse input reaches the
lanes on their detour through it, a step the outputs of a lane whose feedback it is. -/
theorem pulseEventsKeep : Obligations.PulseEventsKeep := by
  intro s t i on mls pin
  have hpin : pin.Pin s.dev i := pinFrame_pin s.dev i
  have hboth : (pin.or mls).Pin s.dev i := hpin.or (by simp [mls]) (by simp [mls])
  have hmls : (pin.or mls).mlsOf s.dev i := .inr ⟨by simp [pin, mls, laneWork, logs, outputsOf, words], by simp +contextual [mls]⟩
  have hmlsOr (l : List RegId) (hl : .mlsCtrl ∉ l) : ((pin.or mls).or { reg := words i l }).mlsOf s.dev i :=
    .inr ⟨by simp [pin, mls, laneWork, logs, outputsOf, words, hl], by simp +contextual [mls]⟩
  simp only [keeps_iff, Machine.exec]
  refine ⟨fun a b z => ?edge, ?index, fun w => .pinEvent hboth ?_, fun w => .pinEvent hpin ?_, .pinEvent hpin ?_,
    .pinEvent hpin ?_, .onUnit _ (.when_self ?_), fun x => ?ser, .onEvent _ _ ?_, .onUnit _ (.when_self ?step),
    .onEvent _ _ ?stall, fun x => .onEvent _ _ ?_, .onEvent _ _ ?_, fun v => .onEvent _ _ ?_⟩
  case edge =>
    have hm := hboth.or (k := { reg := words i [.pinErr, .pinStat] }) (by simp) (by simp [words])
    refine .pinEvent hm ?_
    apply Dev.pulseEdge_within <;> simp [hm.detour, hpin.log, hpin.unit, hmlsOr, words]
  case index =>
    have hm := hboth.or (k := { reg := words i [.pinStat, .pinZdrift] }) (by simp) (by simp [words])
    refine .pinEvent hm ?_
    apply Dev.indexEvent_within <;> simp [hm.detour, hpin.log, hpin.unit, hmlsOr, words]
  case ser =>
    have hm := hpin.or (k := { reg := words i [.pinErr, .pinStat] }) (by simp) (by simp [words])
    refine .pinEvent hm ?_
    apply Dev.serEnd_within <;> simp [hm.detour, hpin.log, hpin.unit, words]
  case step =>
    apply Dev.stepEmit_within
    case h3 => exact fun hfb => .inr ⟨by simp [logs, outputsOf, words], fun o ho => by simp [outputsOf, ho, hfb]⟩
    all_goals simp [logs, words]
  case stall =>
    refine Dev.settleFault_within_laneWork (n := s.dev.emuLane i) ?_ (by simp) (by simp [words])
    apply Dev.stallDetect_within
    case h5 => exact May.outputs_laneWork _ (by simp [Dev.emuLane]) (by simp [words])
    all_goals simp [laneWork, logs, words, Dev.emuLane]
  all_goals simp [hpin.detour, hpin.log, hpin.unit, hmls, logs, words, every]

end Sys2Proof.Machine
end

section
/-! The frame of the events of the frame (R10, R11, R42, R173–R230). -/
namespace Sys2Proof.Machine
open Sys2Proof

/-- What the late work of lane `n` may change (R42, R188, R191, R192). -/
def lateFrame (d : Dev) (n : Nat) : May := (laneWork d (· = n)).or
  { hlt := true
    reg := fun i k => i = .stageExp || words (clusterOf n) [.engFail, .engRetry] i k ||
      words n [.coefCnt, .safCnt, .coefStat, .iP, .iT, .iV, .loopStat, .posErr, .trmOut, .velDem, .velErr] i k }

section
variable {d0 d : Dev} {n : Nat} (h : Within (lateFrame d0 n) d0 d)
include h

theorem Dev.settleFault_within_late : Within (lateFrame d0 n) d0 (d.settleFault n) :=
  Dev.settleFault_within_laneWork h (decide_eq_true rfl) fun _ => by simp [words]

theorem Dev.engineFault_within_late (code ev : Nat) (data : List Byte) :
    Within (lateFrame d0 n) d0 (d.engineFault n code ev data) := by
  apply Dev.engineFault_within _ _ _ _ _ h
  case h7 => exact May.outputs_laneWork _ (decide_eq_true rfl) fun _ => by simp [words]
  all_goals simp [lateFrame, laneWork, logs, outputsOf, words]

/-- A disturbance meets its own lane and the counters of its cluster. -/
theorem Dev.disturb_within_late {x : Disturb} (hx : disturbLane x = n) : Within (lateFrame d0 n) d0 (d.disturb x) := by
  unfold Dev.disturb
  rw [hx]
  dsimp only
  split
  · exact h
  · split
    case h_1 => apply Dev.retryPassed_within _ _ _ h <;> simp [lateFrame, laneWork, logs, words]
    case h_2 =>
      refine Dev.engineFault_within_late (Dev.addCnt_within _ _ _ _ _ _ (Dev.addCnt_within _ _ _ _ _ _ h ?_) ?_) _ _ _ <;>
        simp [lateFrame, words]
    case h_3 =>
      exact Dev.engineFault_within_late (Dev.addCnt_within _ _ _ _ _ _ h (by simp [lateFrame, words])) _ _ _
    case h_4 => exact h.onLane _ _ (by simp [lateFrame, laneWork])

theorem Dev.lateComplete_within_late : Within (lateFrame d0 n) d0 (d.lateComplete n) := by
  unfold Dev.lateComplete
  split
  · rename_i w _ hw
    have hfound : Within (lateFrame d0 n) d0 ((w.found.filter fun x => disturbLane x = n).foldl Dev.disturb d) := by
      have key (l : List Disturb) (hl : ∀ x ∈ l, disturbLane x = n) : ∀ e, Within (lateFrame d0 n) d0 e →
          Within (lateFrame d0 n) d0 (l.foldl Dev.disturb e) := by
        induction l with
        | nil => exact fun e he => he
        | cons x l ih =>
          exact fun e he => ih (fun y hy => hl y (List.mem_cons_of_mem _ hy)) _ (Dev.disturb_within_late he (hl x List.mem_cons_self))
      exact key _ (fun x hx => by simpa using (List.mem_filter.1 hx).2) d h
    dsimp only
    refine Dev.settleFault_within_late (Dev.followingError_within _ _ (Dev.completeWork_within _ _ _ hfound ?_ ?_ ?_ ?_ ?_ ?_ ?_ ?_
      ?_ ?_ ?_ ?_) ?_ ?_ ?_ ?_) <;> simp [lateFrame, laneWork, logs, words]
  · exact h

end

/-- Settles O54: one law of `Laws/WithinFrame` for each operation; the late work by `Dev.lateComplete_within_late`. -/
theorem frameEventsKeep : Obligations.FrameEventsKeep := by
  intro s t n
  simp only [keeps_iff, Machine.exec]
  refine ⟨fun ds => .onDev (.when_self ?tick), fun late => .onDev (.when_self ?junction),
    .laneEvent (Dev.lateComplete_within_late ((Within.refl _ _).at t)) (by simp [words]), .onEvent _ _ ?timed, .laneEvent ?_ ?_,
    .laneEvent ?_ ?_, .onEvent _ _ ?_, fun started failing => .onEvent _ _ ?_, .onEvent _ _ ?_⟩
  case tick => apply Dev.frameTick_within <;> simp [every, May.outputs_iff, May.detour_iff]
  case junction => apply Dev.outputJunction_within <;> simp [every, May.outputs_iff]
  case timed => apply Dev.timedDue_within <;> simp [every, May.outputs_iff, May.detour_iff]
  all_goals simp [logs, words, every, laneWork]

end Sys2Proof.Machine
end

section
/-! The frame of packets, links, SPI and records (R257–R298). -/
namespace Sys2Proof.Machine
open Sys2Proof

/-- Settles O55: one law of `Laws/WithinRequest` or `Laws/WithinSafety` for each operation. -/
theorem portEventsKeep : Obligations.PortEventsKeep := by
  intro s t p
  simp only [keeps_iff, Machine.exec]
  refine ⟨fun f bad => .onEvent _ _ ?_, .onEvent _ _ ?_, fun ok => .onEvent _ _ ?_, .onEvent _ _ ?_, .onEvent _ _ ?_,
    fun b => .onEvent _ _ ?_, .onEvent _ _ ?_, .onEvent _ _ ?_, .onEvent _ _ ?_, fun b => .onEvent _ _ ?_,
    fun b => .onEvent _ _ ?_, fun n => .onEvent _ _ ?_, .onEvent _ _ ?_, fun b => .onEvent _ _ ?_, .onExpiry _ ?_,
    fun n => .onEvent _ _ ?_, .onExpiry _ ?_⟩
  all_goals simp [logs, words, every, reaction, outputsOf, May.outputs_iff]

end Sys2Proof.Machine
end

section
/-! The frame of the safety monitor (R300–R326): a reaction reaches the lanes of its groups and their outputs. -/
namespace Sys2Proof.Machine
open Sys2Proof

theorem May.outputs_reaction {d : Dev} {p : Nat → Bool} {n : Nat} (hp : p n = true) : (reaction d p).outputs d n :=
  .inr ⟨fun o => by simp [reaction, logs, outputsOf, words], fun o ho => by simp [reaction, outputsOf, ho, hp]⟩

theorem May.outputs_reaction_or {d : Dev} {p : Nat → Bool} {n : Nat} (m : May) (hp : p n = true)
    (hl : ∀ o, m.reg .emuLane o = false) : ((reaction d p).or m).outputs d n :=
  .inr ⟨fun o => by simp [reaction, logs, outputsOf, words, hl], fun o ho => by simp [reaction, outputsOf, ho, hp]⟩

/-- The groups mapped to an SI pair depend on the parameter set in force alone. -/
theorem Dev.siGroups_congr {d e : Dev} (hv : e.variant = d.variant) (hp : e.saf.params = d.saf.params) (i : Nat) :
    e.siGroups i = d.siGroups i := by
  simp only [Dev.siGroups, Dev.groupCount, Dev.devP, Dev.params, hv, hp]

@[simp] theorem Dev.safLog_params (d : Dev) (code kind idx : Nat) (data : List Byte) :
    (d.safLog code kind idx data).saf.params = d.saf.params := by simp [Dev.safLog, Dev.onSaf]

@[simp] theorem Dev.onPair_params (d : Dev) (i : Nat) (f : SiPair → SiPair) : (d.onPair i f).saf.params = d.saf.params := (rfl)
@[simp] theorem Dev.onPair_variant (d : Dev) (i : Nat) (f : SiPair → SiPair) : (d.onPair i f).variant = d.variant := (rfl)

section
variable {d0 d : Dev} {p : Nat → Bool} (h : Within (reaction d0 p) d0 d)
include h

theorem Dev.safLog_within_reaction (code kind idx : Nat) (data : List Byte) :
    Within (reaction d0 p) d0 (d.safLog code kind idx data) := by
  apply Dev.safLog_within _ _ _ _ _ h <;> simp [reaction, logs, words]

theorem Dev.groupReaction_within_reaction {gs : List Nat} (hg : ∀ g ∈ gs, ∀ n, n / 8 = g → p n = true) :
    Within (reaction d0 p) d0 (d.groupReaction gs) := by
  apply Dev.groupReaction_within_of _ _ h
  case h1 => exact fun g hgs n hn => ⟨by simp [reaction, hg g hgs n hn], May.outputs_reaction (hg g hgs n hn)⟩
  all_goals simp [reaction, logs, words]

/-- The reaction of a pair stays in the groups mapped to it. -/
theorem Dev.siReact_within_reaction (i : Nat) (hg : ∀ g ∈ d.siGroups i, ∀ n, n / 8 = g → p n = true) :
    Within (reaction d0 p) d0 (d.siReact i) := by
  have hns : ∀ n ∈ ((d.siGroups i).flatMap lanesOfGroup).filter d.recordUsed, p n = true := by
    intro n hn
    obtain ⟨g, hgs, hmem⟩ := List.mem_flatMap.1 (List.mem_filter.1 hn).1
    exact hg g hgs n (mem_lanesOfGroup.1 hmem)
  unfold Dev.siReact
  dsimp only
  split
  · refine Within.forEach_mem (Dev.onPair_within _ _ _ h (by simp [reaction])) _ _ fun n hn e he => ?_
    exact Dev.safLog_within_reaction (he.onSafLane _ _ (by simp [reaction, hns n hn])) ..
  · exact Dev.groupReaction_within_reaction (Within.forEach h _ _ fun n e he => Dev.safLog_within_reaction he ..) hg

end

theorem mem_group_of_contains {gs : List Nat} : ∀ g ∈ gs, ∀ n, n / 8 = g → gs.contains (n / 8) = true := by
  rintro g hg n rfl
  simpa using hg

/-- A demand of pair `i` acts on the groups that the pair is mapped to. -/
theorem Dev.siDemand_within_reaction {d0 d : Dev} (h : Within (reaction d0 fun n => (d0.siGroups i).contains (n / 8)) d0 d)
    (hs : d.siGroups i = d0.siGroups i) :
    Within (reaction d0 fun n => (d0.siGroups i).contains (n / 8)) d0 (d.siDemand i) := by
  unfold Dev.siDemand
  dsimp only
  split
  · exact h
  · refine Dev.siReact_within_reaction (Dev.safLog_within_reaction (Dev.onPair_within _ _ _ h (by simp [reaction])) ..) i ?_
    rw [Dev.siGroups_congr (d := d) (by simp) (by simp), hs]
    exact mem_group_of_contains

/-- A discrepancy of pair `i` acts on the groups that the pair is mapped to. -/
theorem Dev.siDiscrepancy_within_reaction {d0 d : Dev} (h : Within (reaction d0 fun n => (d0.siGroups i).contains (n / 8)) d0 d)
    (hs : d.siGroups i = d0.siGroups i) :
    Within (reaction d0 fun n => (d0.siGroups i).contains (n / 8)) d0 (d.siDiscrepancy i) := by
  unfold Dev.siDiscrepancy
  dsimp only
  split
  · exact h
  · refine Dev.groupReaction_within_reaction
      (Dev.safLog_within_reaction (Dev.onPair_within _ _ _ h (by simp [reaction])) ..) ?_
    rw [Dev.siGroups_congr (d := d) (by simp) (by simp), hs]
    exact mem_group_of_contains

/-- What the failure of connection `c` may change (R318). -/
def connFrame (d : Dev) (c : Nat) : May := (reaction d fun n => ((d.params.connLanes c).map groupOf).contains (n / 8)).or
  { conn := (· = c), reg := words c [.connCnt] }

/-- A connection that fails brings the groups of its lanes off. -/
theorem Dev.connFail_within_conn {d0 d : Dev} {c : Nat} (h : Within (connFrame d0 c) d0 d) (hp : d.params = d0.params)
    (cause : Nat) : Within (connFrame d0 c) d0 (d.connFail c cause) := by
  have hlog : Within (connFrame d0 c) d0 (((d.onConn c fun x => { x with st := .fail, failed := true }).addCnt .connCnt c 0 16).safLog
      0x0B06 kConn c (ev4 cause)) := by
    refine Dev.safLog_within _ _ _ _ _ (Dev.addCnt_within _ _ _ _ _ _ (h.onConn _ _ ?_) ?_) ?_ ?_ ?_ <;>
      simp [connFrame, reaction, logs, words]
  unfold Dev.connFail
  dsimp only
  refine Within.ite hlog (Dev.groupReaction_within_of _ _ hlog ?_ ?_ ?_ ?_ ?_)
  · intro g hg n hn
    have hlanes : ((d0.params.connLanes c).map groupOf).contains (n / 8) = true := by
      refine mem_group_of_contains g ?_ n hn
      rw [← hp]
      simpa [Dev.params, Dev.onConn, Dev.onSaf] using hg
    exact ⟨by simp only [connFrame, reaction, May.or_safLane, hlanes, Bool.or_true, Bool.true_or], May.outputs_reaction_or _ hlanes (by simp [words])⟩
  all_goals simp [connFrame, reaction, logs, words]

/-- A command of a connection other than the acknowledgement of a reset leaves the monitor's lanes. -/
theorem Dev.connExec_within_saf {m : May} {d0 d : Dev} {c op : Nat} (h : Within m d0 d) (hop : op ≠ 0) (tag : Nat) (args : List Byte)
    (hb : m.bbx = true) (hc : m.conn c = true) (hr : m.reg .bbxStat 0 = true) (hs : m.saf = true) :
    Within m d0 (d.connExec c op tag args) := by
  unfold Dev.connExec
  refine Within.ite ?_ h
  unfold Dev.connCommand
  split
  · exact absurd rfl hop
  · exact (Dev.paramWr_within _ _ _ _ _ h hs).onConn _ _ hc
  · exact (Dev.paramCommit_within _ _ _ h hb hr hs).onConn _ _ hc
  · exact h.onConn _ _ hc
  · exact h.onConn _ _ hc

/-- Settles O56: one law of `Laws/WithinSafety` for each operation; the demands, the watchdog and the commands of a connection by
the lemmas above, which name the groups concerned. -/
theorem safetyEventsKeep : Obligations.SafetyEventsKeep := by
  intro s t k
  simp only [keeps_iff, Machine.exec]
  have hat : ∀ m : May, Within m s.dev (s.dev.at t) := fun m => (Within.refl m s.dev).at t
  refine ⟨fun a b => .onEvent _ _ ?_, fun fn => .onEvent _ _ ?violation, .onEvent _ _ ?xcmp, fun g ok => .onEvent _ _ ?_,
    .onEvent _ _ ?_, fun low => .onEvent _ _ ?_, fun kind => .onEvent _ _ ?_, fun level => .onEvent _ _ ?_,
    .onEvent _ _ (Dev.siDemand_within_reaction (hat _) rfl),
    .onEvent _ _ (Dev.siDiscrepancy_within_reaction (hat _) rfl),
    .onExpiry _ ?watchdog, .onExpiry _ ?_, .onExpiry _ ?_, fun tag mask => .onEvent _ _ ?_,
    fun tag target index v => .onEvent _ _ (Dev.connExec_within_saf (hat _) (by decide) _ _ ?_ ?_ ?_ ?_),
    fun tag crc => .onEvent _ _ (Dev.connExec_within_saf (hat _) (by decide) _ _ ?_ ?_ ?_ ?_),
    fun tag target index which => .onEvent _ _ (Dev.connExec_within_saf (hat _) (by decide) _ _ ?_ ?_ ?_ ?_),
    fun ok => .onEvent _ _ ?_, fun width => .onEvent _ _ ?_, .onEvent _ _ ?_⟩
  case violation =>
    apply Dev.safetyViolation_within
    case h4 => exact fun n hn => May.outputs_reaction_or _ (decide_eq_true hn) (by simp [words])
    all_goals simp +contextual [reaction, logs, words]
  case xcmp =>
    apply Dev.xcmpFail_within
    case h4 => exact fun n hn => May.outputs_reaction (decide_eq_true hn)
    all_goals simp +contextual [reaction, logs, words]
  case watchdog => exact Within.ite (Dev.connFail_within_conn ((Within.refl _ _).at _) rfl 1) (.refl _ _)
  all_goals simp [logs, words, every, reaction, outputsOf, May.outputs_iff]

end Sys2Proof.Machine
end

section
/-! The frame of boot, power, debug, memory protection and update (R331–R375). -/
namespace Sys2Proof.Machine
open Sys2Proof

/-- Settles O57: one law of `Laws/WithinDevice` for each operation; a pin level acts on a device that runs and else is noted. -/
theorem deviceEventsKeep : Obligations.DeviceEventsKeep := by
  intro s t
  simp only [keeps_iff, Machine.exec]
  refine ⟨.onPinLevel _ ?_, fun x => .onPinLevel _ ?_, .onEvent _ _ ?_, .onPinLevel _ (.ite ?_ ?_), .onPinLevel _ ?_,
    .onPinLevel _ (.ite ?_ ?_), .onPinLevel _ (.ite ?_ ?_), fun target x => .onEvent _ _ ?_, .onEvent _ _ ?_, .onEvent _ _ ?_,
    .onEvent _ _ ?_, .onEvent _ _ ?_, .onEvent _ _ ?_, .onEvent _ _ ?_, fun c => .onEvent _ _ ?_,
    fun m a errs owner late he hl => .onEvent _ _ ?scrub, .onMgmt _ _ ?_, fun x => .onMgmt _ _ ?_, .onMgmt _ _ ?_,
    .onEvent _ _ ?_, fun ok => .onEvent _ _ ?_, .onEvent _ _ ?_, .onEvent _ _ ?_, .onEvent _ _ ?_, .onEvent _ _ ?_,
    fun ok => .onMgmt _ _ ?_, fun ok => .onMgmt _ _ ?_⟩
  case scrub =>
    simp only [Dev.scrubStep, he, hl, if_true]
    refine Within.ite ?_ ?_ <;> simp [words]
  all_goals simp [logs, words, every, reaction, outputsOf, May.outputs_iff]

end Sys2Proof.Machine
end

section
/-! The frame of every request, in a group or not (R264, R268). -/
namespace Sys2Proof.Machine
open Sys2Proof

/-- A request leaves what no opcode touches: it answers, stages, and keeps the accounts of its port. -/
theorem Leaves.anyRequest {m : May} (s : State) (op : Nat) (r : Request) (hb : m.bbx = true) (he : ∀ k, m.emu k = true)
    (hh : m.hlt = true) (hl : ∀ k, m.loop k = true) (hm : ∀ k, m.mls k = true) (hp : ∀ k, m.port k = true) (hw : m.pwr = true)
    (hr : ∀ i k, m.reg i k = true) (hs : m.staged = true) (ht : m.time = true) (hc : m.trc = true) :
    Leaves m s (Machine.onRequest s op r) :=
  .onUnit _ (Dev.serveNow_within _ _ _ (.refl _ _) hb he hh hl hm hp hw hr hs ht hc)

/-- Settles O58: every opcode's row is `onRequest`, and PACKET_SERVE runs the same service. -/
theorem requestsKeep : Obligations.RequestsKeep := by
  intro s r t m
  refine ⟨?opcodes, ?serve⟩
  case opcodes =>
    intro c hc
    fin_cases hc <;>
    exact Leaves.anyRequest s _ r rfl (fun _ => rfl) rfl (fun _ => rfl) (fun _ => rfl) (fun _ => rfl) rfl (fun _ _ => rfl) rfl rfl rfl
  case serve =>
    simp only [keeps_iff, Machine.exec]
    apply Leaves.onEvent
    apply Dev.packetServe_within
    all_goals simp [m, every]

end Sys2Proof.Machine
end

section
/-! The frames of the requests outside a group that read or stage (R264, R281). -/
namespace Sys2Proof.Machine
open Sys2Proof

section
variable {s : State} {r : Request} {op gen : Nat} {u : LaneUse} {w : Right} {run : Dev → Request → Bool → Served}

/-- Outside a group a request changes what its service changes, and what its handler changes. -/
theorem Leaves.handled {x : May} (hg : (s.dev.port r.port).group = none) (hf : r.flags.getLsbD 2 = false)
    (hi : opInfo op = some ⟨gen, u, w, run⟩)
    (hr : ∀ e, Within ((serving r.port).or x) s.dev e → Within ((serving r.port).or x) s.dev (run e r false).2) :
    Leaves ((serving r.port).or x) s (Machine.onRequest s op r) := by
  refine .onRequest hg hf (fun i h e he => ?_) (by simp [serving, logs, words, every])
  obtain rfl : _ = i := Option.some.inj (hi.symm.trans h)
  exact hr e he

/-- Outside a group a request whose handler needs no more than the service changes no more than the service. -/
theorem Leaves.served (hg : (s.dev.port r.port).group = none) (hf : r.flags.getLsbD 2 = false)
    (hi : opInfo op = some ⟨gen, u, w, run⟩)
    (hr : ∀ e, Within (serving r.port) s.dev e → Within (serving r.port) s.dev (run e r false).2) :
    Leaves (serving r.port) s (Machine.onRequest s op r) := by
  refine .onRequest hg hf (fun i h e he => ?_) (by simp [serving, logs, words, every])
  obtain rfl : _ = i := Option.some.inj (hi.symm.trans h)
  exact hr e he

end

/-! ### What the service allows, for `simp` -/

@[simp] theorem serving_bbx (p : Nat) : (serving p).bbx = true := (rfl)
@[simp] theorem serving_hlt (p : Nat) : (serving p).hlt = true := (rfl)
@[simp] theorem serving_staged (p : Nat) : (serving p).staged = true := (rfl)
@[simp] theorem serving_port (p k : Nat) : (serving p).port k = true := (rfl)
@[simp] theorem serving_bbxStat (p : Nat) : (serving p).reg .bbxStat 0 = true := (rfl)

/-! ### The two handlers that change a unit which the request names -/

/-- COEF_STAGE writes the standby bank of its lane (R195). -/
theorem Dev.opCoefStage_within_lane {m : May} {d0 d : Dev} {r : Request} (h : Within m d0 d) (g : Bool) (hh : m.hlt = true)
    (hl : m.loop r.lane = true) : Within m d0 (d.opCoefStage r g).2 := by
  unfold Dev.opCoefStage
  dsimp only
  repeat' split
  all_goals
    refine Dev.answer_within _ _ _ ?_
    simp [h, hh, hl]

/-- MLS_READ removes the records that it returns from its unit (R141). -/
theorem Dev.opMlsRead_within_unit {m : May} {d0 d : Dev} {r : Request} (h : Within m d0 d) (g : Bool)
    (hm : m.mls (byteAt r.payload 0) = true) : Within m d0 (d.opMlsRead r g).2 := by
  unfold Dev.opMlsRead
  dsimp only
  repeat' split
  all_goals simp [h, hm]

/-- Settles O59: each opcode by the frame of its handler. -/
theorem singleRequestsKeep : Obligations.SingleRequestsKeep := by
  intro s r hg hf
  simp only [keeps_iff]
  refine ⟨fun c hc => ?answering, Leaves.handled hg hf rfl fun e he => ?coefStage, Leaves.handled hg hf rfl fun e he => ?mlsRead,
    Leaves.handled hg hf rfl fun e he => ?traceForce, fun c hc => ?power, Leaves.handled hg hf rfl fun e he => ?dbgResponse⟩
  case answering => fin_cases hc <;> refine Leaves.served hg hf rfl fun e he => ?_ <;> simp [he]
  case coefStage => exact Dev.opCoefStage_within_lane he false (by simp) (by simp)
  case mlsRead => exact Dev.opMlsRead_within_unit he false (by simp)
  case traceForce => simp [he]
  case power => fin_cases hc <;> refine Leaves.handled hg hf rfl fun e he => ?_ <;> simp [he]
  case dbgResponse => simp [he, words]

end Sys2Proof.Machine
end

section
/-! The frames of reads and writes of registers outside a group (R271–R274). -/
namespace Sys2Proof.Machine
open Sys2Proof

/-! ### The words that a handler writes -/

section
variable {m : May} {d0 d : Dev} {r : Request}

/-- REG_RD clears what a read clears of the words that it names (R271). -/
theorem Dev.opRegRd_within_of (h : Within m d0 d) (g : Bool) (hp : m.port r.port = true)
    (hr : ∀ i k, hit (u32At r.payload 0) (u16At r.payload 4) i k = true → i.info.rc ≠ 0 → m.reg i k = true) :
    Within m d0 (d.opRegRd r g).2 := by
  unfold Dev.opRegRd
  dsimp only
  repeat' split
  case isFalse.isFalse.isFalse => exact Dev.answer_within _ _ _ (Dev.readWords_within_of _ _ _ h hp hr)
  all_goals exact Dev.answer_within _ _ _ h

/-- REG_WR writes its words from its address on (R272). -/
theorem Dev.opRegWr_within_words (h : Within m d0 d) (g : Bool)
    (hw : Within m d0 (d.writeWords r.port g (u32At r.payload 0) (wordsAt r.payload 8 (u16At r.payload 4))).2) :
    Within m d0 (d.opRegWr r g).2 := by
  unfold Dev.opRegWr
  dsimp only
  repeat' split
  all_goals exact Dev.answer_within _ _ _ (by assumption)

/-- REG_WR writes the words that it names (R272). -/
theorem Dev.opRegWr_within_of (h : Within m d0 d) (g : Bool) (hp : m.port r.port = true)
    (hw : ∀ i k, hit (u32At r.payload 0) (u16At r.payload 4) i k = true → (i.valueWords = 1 → k < i.count) → Writes m i k) :
    Within m d0 (d.opRegWr r g).2 :=
  Dev.opRegWr_within_words h g (Dev.writeWords_within_of r.port g _ _ h hp (by simpa using hw))

/-- What the write of each word leaves, the write of all leaves. -/
theorem Dev.writeWords_within_each {p a : Nat} {g : Bool} {ws : List Word} (h : Within m d0 d)
    (hw : ∀ j < ws.length, ∀ e v, Within m d0 e → Within m d0 (e.writeAt p g (a + 4 * j) v)) :
    Within m d0 (d.writeWords p g a ws).2 := by
  have hfold (l : List (Nat × Word)) : (∀ x ∈ l, ∃ j < ws.length, x.1 = a + 4 * j) → ∀ e, Within m d0 e →
      Within m d0 (l.foldl (fun d x => d.writeAt p g x.1 x.2) e) := by
    induction l with
    | nil => exact fun _ e he => he
    | cons x l ih =>
      intro hl e he
      obtain ⟨j, hj, hx⟩ := hl x List.mem_cons_self
      refine ih (fun y hy => hl y (List.mem_cons_of_mem _ hy)) _ ?_
      dsimp only
      rw [hx]
      exact hw j hj e _ he
  have hall : Within m d0 ((((List.range ws.length).map fun i => a + 4 * i).zip ws).foldl (fun d x => d.writeAt p g x.1 x.2) d) := by
    refine hfold _ (fun x hx => ?_) d h
    obtain ⟨j, hj, hx⟩ := List.mem_map.1 (List.of_mem_zip hx).1
    exact ⟨j, List.mem_range.1 hj, hx.symm⟩
  unfold Dev.writeWords
  dsimp only
  repeat' split
  all_goals assumption

/-- REG_RMW writes the word that it names (R273). -/
theorem Dev.opRegRmw_within_of (h : Within m d0 d) (g : Bool) (hp : m.port r.port = true)
    (hw : ∀ i k, hit (u32At r.payload 0) 1 i k = true → (i.valueWords = 1 → k < i.count) → Writes m i k) :
    Within m d0 (d.opRegRmw r g).2 := by
  have hwords (v : Word) := Dev.writeWords_within_of r.port g (u32At r.payload 0) [v] h hp hw
  unfold Dev.opRegRmw
  dsimp only
  repeat' split
  all_goals exact Dev.answer_within _ _ _ (by simp only [h, hwords])

/-- LANE_STAGE writes the words of its entries (R274). -/
theorem Dev.opLaneStage_within_of (h : Within m d0 d) (g : Bool) (hp : m.port r.port = true)
    (hw : ∀ i k, ((stageEntries r.payload (u16At r.payload 2)).any fun e => hit (0x100000 + 0x400 * r.lane + e.1) 1 i k) = true →
      (i.valueWords = 1 → k < i.count) → Writes m i k) : Within m d0 (d.opLaneStage r g).2 := by
  have hentries : Within m d0 ((stageEntries r.payload (u16At r.payload 2)).foldl
      (fun d e => d.writeAt r.port g (0x100000 + 0x400 * r.lane + e.1) e.2) d) := by
    refine Dev.foldl_writeAt_within _ _ _ _ _ h hp fun e he i k ht j hj => hw i j ?_ fun h1 => ?_
    · exact List.any_eq_true.2 ⟨e, he, hit_of Nat.one_pos (i := 0) ht hj⟩
    · obtain rfl : j = k := by simpa [h1] using hj
      exact targetOf_lt ht
  unfold Dev.opLaneStage
  dsimp only
  repeat' split
  all_goals exact Dev.answer_within _ _ _ (by assumption)

/-- CH_CONFIG writes words of the 64 of its channel (R252). -/
theorem Dev.opChConfig_within_of (h : Within m d0 d) (g : Bool) (hp : m.port r.port = true)
    (hw : ∀ i k, hit (0x60000 + 0x100 * byteAt r.payload 0) 64 i k = true → (i.valueWords = 1 → k < i.count) → Writes m i k) :
    Within m d0 (d.opChConfig r g).2 := by
  have hword {o : Nat} (ho : o < 64) {i : RegId} {k : Nat} (ht : targetOf (0x60000 + 0x100 * byteAt r.payload 0 + 4 * o) = .reg i k)
      {j : Nat} (hj : j / i.valueWords = k / i.valueWords) : Writes m i j :=
    hw i j (hit_of ho ht hj) fun h1 => by
      obtain rfl : j = k := by simpa [h1] using hj
      exact targetOf_lt ht
  have hlow : Within m d0 ((List.range 8).foldl (fun d i => d.writeAt r.port g (0x60000 + 0x100 * byteAt r.payload 0 + 4 * i)
      (wordAt r.payload (4 + 4 * i))) d) :=
    Dev.foldl_writeAt_within _ _ _ _ _ h hp fun o ho i k ht j hj => hword (by have := List.mem_range.1 ho; omega) ht hj
  have hhigh : Within m d0 ((List.range 24).foldl (fun d i => d.writeAt r.port g
      (0x60000 + 0x100 * byteAt r.payload 0 + 0x80 + 4 * i) (wordAt r.payload (36 + 4 * i))) ((List.range 8).foldl (fun d i =>
        d.writeAt r.port g (0x60000 + 0x100 * byteAt r.payload 0 + 4 * i) (wordAt r.payload (4 + 4 * i))) d)) := by
    refine Dev.foldl_writeAt_within _ _ _ _ _ hlow hp fun o ho i k ht j hj => ?_
    have := List.mem_range.1 ho
    exact hword (o := 32 + o) (by omega) (by rw [← ht]; congr 1; omega) hj
  unfold Dev.opChConfig Dev.forUnit
  dsimp only
  repeat' split
  all_goals exact Dev.answer_within _ _ _ (by assumption)

end

/-- What a write of a word of `h` needs is in the frame of the writes of `h`. -/
theorem writes_serving {p : Nat} {h : RegId → Nat → Bool} {i : RegId} {k : Nat} (hh : h i k = true)
    (h0 : i.valueWords = 1 → k < i.count) : Writes ((serving p).or (writing h)) i k :=
  writes_of (by simp +contextual) (by simp +contextual) (by simp +contextual) (by simp +contextual) (by simp) (by simp) (by simp)
    (by simp) hh h0

/-! ### The register fields with rows of their own -/

/-- The packet that writes whole words of register `x` from word `u * x.info.subs` on. -/
def regWrOf (w : RegWrite) (x : RegId) (u : Nat) (vs : List Word) : Request :=
  { t := w.t, port := w.port, gen := w.gen, tag := w.tag,
    payload := leBytes 4 (x.addr (u * x.info.subs)) ++ leBytes 2 vs.length ++ zeros 2 ++ vs.flatMap wordBytes }

/-- The packet that writes the bits of `mask` of register `x`. -/
def regRmwOf (w : RegWrite) (x : RegId) (u : Nat) (mask v : Word) : Request :=
  { t := w.t, port := w.port, gen := w.gen, tag := w.tag,
    payload := leBytes 4 (x.addr (u * x.info.subs)) ++ wordBytes mask ++ wordBytes v }

/-- A unit within a unit: what the request leaves, the row leaves that asks for one more condition. -/
theorem Leaves.onUnit_and {m : May} {s : State} {f : Dev → Dev} {p q : Dev → Bool}
    (h : q s.dev = true → Leaves m s (Machine.onUnit p s f)) : Leaves m s (Machine.onUnit (fun d => p d && q d) s f) := by
  cases hq : q s.dev with
  | false =>
    simp only [Machine.onUnit, hq, Bool.and_false, Bool.false_eq_true, if_false]
    trivial
  | true => simpa only [Machine.onUnit, hq, Bool.and_true] using h hq

theorem Leaves.onRegWr {m : May} {s : State} {w : RegWrite} {x : RegId} {u : Nat} {vs : List Word}
    (h : u < x.info.units → Leaves m s (Machine.onRequest s 0x0011 (regWrOf w x u vs))) :
    Leaves m s (Machine.onRegWr s w x u vs) :=
  .onUnit_and fun hu => h (of_decide_eq_true hu)

theorem Leaves.onRegRmw {m : May} {s : State} {w : RegWrite} {x : RegId} {u : Nat} {mask v : Word}
    (h : u < x.info.units → Leaves m s (Machine.onRequest s 0x0012 (regRmwOf w x u mask v))) :
    Leaves m s (Machine.onRegRmw s w x u mask v) :=
  .onUnit_and fun hu => h (of_decide_eq_true hu)

/-- The registers of the field rows lie where Table 18-1 places them. -/
theorem targetOf_fieldRow : ∀ x ∈ [RegId.excCtrl, .trkCmd, .laneCtrl, .pfeCmd, .mlsPop, .timeSet], ∀ u < x.info.units,
    x.addr (u * x.info.subs) < 2 ^ 32 ∧ x.addr (u * x.info.subs) % 4 = 0 ∧
      ∀ j < x.info.subs, targetOf (x.addr (u * x.info.subs) + 4 * j) = .reg x (u * x.info.subs + j) := by
  decide +kernel

/-- A write of a field row's register names its words alone. -/
theorem hit_fieldRow {x i : RegId} {u n k : Nat} (hx : x ∈ [RegId.excCtrl, .trkCmd, .laneCtrl, .pfeCmd, .mlsPop, .timeSet])
    (hu : u < x.info.units) (hn : n ≤ x.info.subs) (h : hit (x.addr (u * x.info.subs)) n i k = true) :
    i = x ∧ ∃ j < n, k = u * x.info.subs + j := by
  simp only [hit, List.any_eq_true, List.mem_range] at h
  obtain ⟨j, hj, h⟩ := h
  rw [(targetOf_fieldRow x hx u hu).2.2 j (by omega)] at h
  simp only [Bool.and_eq_true, decide_eq_true_eq] at h
  obtain ⟨rfl, h⟩ := h
  have h1 : x.valueWords = 1 := by
    fin_cases hx <;> rfl
  exact ⟨rfl, j, hj, by simpa [h1] using h.symm⟩

/-- A field row whose register is staged changes no more than its service. -/
theorem Leaves.stagedField {s : State} {w : RegWrite} {x : RegId} {u : Nat} {mask v : Word}
    (hx : x ∈ [RegId.excCtrl, .trkCmd, .laneCtrl, .pfeCmd]) (hg : (s.dev.port w.port).group = none) :
    Leaves (serving w.port) s (Machine.onRegRmw s w x u mask v) := by
  refine .onRegRmw fun hu => .served (r := regRmwOf w x u mask v) hg (show BitVec.getLsbD (0 : Byte) 2 = false by decide) rfl fun e he =>
    Dev.opRegRmw_within_of he false (by simp [regRmwOf]) fun i k hk _ => ?_
  have hmem : x ∈ [RegId.excCtrl, .trkCmd, .laneCtrl, .pfeCmd, .mlsPop, .timeSet] := by
    simp only [List.mem_cons, List.not_mem_nil, or_false] at hx ⊢
    tauto
  have haddr : u32At (regRmwOf w x u mask v).payload 0 = x.addr (u * x.info.subs) := by
    unfold regRmwOf
    rw [List.append_assoc]
    exact u32At_append (pre := []) rfl (targetOf_fieldRow x hmem u hu).1
  rw [haddr] at hk
  obtain ⟨rfl, -⟩ := hit_fieldRow hmem hu (by fin_cases hx <;> decide) hk
  exact { bbx := rfl, stat := rfl, staged := rfl
          reg := fun h0 => by fin_cases hx <;> exact absurd h0 (by decide)
          time := by rintro (rfl | rfl | rfl) <;> simp at hx
          mls := by rintro (rfl | rfl) <;> simp at hx
          emu := by rintro rfl; simp at hx
          port := by rintro rfl; simp at hx }

/-- `TIME_SET` and `MLS_POP` have no word to keep: their writes act at once (R45, R138, R143). -/
theorem Dev.writeReg_within_acting {m : May} {d0 d : Dev} {x : RegId} {k : Nat} (hx : x ∈ [RegId.mlsPop, .timeSet]) (p : Nat) (v : Word)
    (h : Within m d0 d) (ht : x = .timeSet → m.time = true) (hm : x = .mlsPop → m.mls k = true) :
    Within m d0 (d.writeReg p false x k v) := by
  fin_cases hx
  · have hunit := hm rfl
    simp only [Dev.writeReg, Dev.writeOne, Dev.writeNow, RegId.valueWords, RegId.info, if_true, ne_eq, not_true, if_false,
      Bool.false_eq_true]
    repeat' split
    all_goals simp [h, hunit]
  · have htime := ht rfl
    simp only [Dev.writeReg, Dev.writeOne, Dev.writeNow, RegId.valueWords, RegId.info, if_true, ne_eq, not_true, if_false,
      Bool.false_eq_true]
    repeat' split
    all_goals simp [h, htime]

/-- A field row that acts at once changes the unit that its words act on. -/
theorem Leaves.actingField {s : State} {w : RegWrite} {x : RegId} {u : Nat} {vs : List Word} {m : May}
    (hx : x ∈ [RegId.mlsPop, .timeSet]) (hg : (s.dev.port w.port).group = none) (hn : vs.length = x.info.subs)
    (ht : x = .timeSet → m.time = true) (hm : x = .mlsPop → m.mls u = true) :
    Leaves ((serving w.port).or m) s (Machine.onRegWr s w x u vs) := by
  refine .onRegWr fun hu => .handled (r := regWrOf w x u vs) hg (show BitVec.getLsbD (0 : Byte) 2 = false by decide) rfl fun e he =>
    Dev.opRegWr_within_words he false (Dev.writeWords_within_each he fun j hj e v he => ?_)
  have hmem : x ∈ [RegId.excCtrl, .trkCmd, .laneCtrl, .pfeCmd, .mlsPop, .timeSet] := by
    simp only [List.mem_cons, List.not_mem_nil, or_false] at hx ⊢
    tauto
  obtain ⟨hbound, -, htarget⟩ := targetOf_fieldRow x hmem u hu
  have haddr : u32At (regWrOf w x u vs).payload 0 = x.addr (u * x.info.subs) := by
    unfold regWrOf
    rw [List.append_assoc, List.append_assoc]
    exact u32At_append (pre := []) rfl hbound
  have hcount : u16At (regWrOf w x u vs).payload 4 = vs.length := by
    unfold regWrOf
    rw [List.append_assoc, List.append_assoc]
    exact u16At_append (length_leBytes 4 _) (by rw [hn]; fin_cases hx <;> decide)
  rw [length_wordsAt, hcount, hn] at hj
  rw [haddr]
  unfold Dev.writeAt
  rw [htarget j hj]
  refine Dev.writeReg_within_acting hx _ _ he (fun hx => by simp [ht hx]) (fun hx => ?_)
  obtain rfl : j = 0 := by
    subst hx
    exact Nat.lt_one_iff.1 hj
  subst hx
  simpa [RegId.info] using .inr (hm rfl)

/-- Settles O60: the words that a request names by `hit`, what a write of a word needs by `Writes`. -/
theorem registerRequestsKeep : Obligations.RegisterRequestsKeep := by
  intro s r hg hf b
  simp only [keeps_iff]
  refine ⟨.handled hg hf rfl fun e he => ?regRd, .handled hg hf rfl fun e he => ?regWr, .handled hg hf rfl fun e he => ?regRmw,
    .handled hg hf rfl fun e he => ?laneStage, .handled hg hf rfl fun e he => ?chConfig, fun w hw =>
    ⟨fun n q c hc => ?stagedField, fun v => ?timeSet, fun j => ?mlsPop, fun j => ?mlsFlush⟩⟩
  case regRd => exact Dev.opRegRd_within_of he false (by simp) fun i k hk hr => by simp [b, hk, show ¬i.info.rc = 0#32 from hr]
  case regWr => exact Dev.opRegWr_within_of he false (by simp) fun i k hk => writes_serving hk
  case regRmw => exact Dev.opRegRmw_within_of he false (by simp) fun i k hk => writes_serving hk
  case laneStage => exact Dev.opLaneStage_within_of he false (by simp) fun i k hk => writes_serving hk
  case chConfig => exact Dev.opChConfig_within_of he false (by simp) fun i k hk => writes_serving hk
  case stagedField => fin_cases hc <;> exact Leaves.stagedField (by decide) hw
  case timeSet => exact Leaves.actingField (by decide) hw rfl (fun _ => rfl) (by simp)
  case mlsPop => exact Leaves.actingField (by decide) hw rfl (by simp) (by simp)
  case mlsFlush => exact Leaves.actingField (by decide) hw rfl (by simp) (by simp)

end Sys2Proof.Machine
end

section
/-! Every well-formed command runs on the larger variant (Table 0-1): its units are there, and that is all its meaning asks for. -/
namespace Sys2Proof.Machine
open Sys2Proof

/-- The outcome is a next state with the same queue. -/
def RunsOn (s : State) (o : Host.Outcome State Fault Refusal) : Prop := ∃ d, o = .next { s with dev := d }

theorem RunsOn.onDev {s : State} {f : Dev → Dev} : RunsOn s (onDev s f) := ⟨_, rfl⟩

theorem RunsOn.onPinLevel {s : State} {t : Time} {f : Dev → Dev} : RunsOn s (onPinLevel s t f) := ⟨_, rfl⟩

theorem RunsOn.onUnit {s : State} {p : Dev → Bool} {f : Dev → Dev} (h : p s.dev = true) : RunsOn s (onUnit p s f) :=
  ⟨_, if_pos h⟩

theorem RunsOn.onEvent {s : State} {t : Time} {p : Dev → Bool} {f : Dev → Dev} (h : p s.dev = true) : RunsOn s (onEvent p s t f) :=
  .onUnit h

theorem RunsOn.onMgmt {s : State} {t : Time} {p : Dev → Bool} {f : Dev → Dev} (h : p s.dev = true) : RunsOn s (onMgmt p s t f) :=
  .onUnit h

theorem Request.port_of_wf {r : Request} (h : r.wf = true) : r.port < 5 := by
  simp only [Request.wf, Bool.and_eq_true, decide_eq_true_eq] at h
  tauto

theorem RegWrite.port_of_wf {w : RegWrite} (h : w.wf = true) : w.port < 5 := by
  simp only [RegWrite.wf, Bool.and_eq_true, decide_eq_true_eq] at h
  tauto

theorem RunsOn.onRequest {s : State} {op : Nat} {r : Request} (h : r.wf = true) : RunsOn s (Machine.onRequest s op r) :=
  .onUnit (decide_eq_true (Request.port_of_wf h))

theorem RunsOn.onField {s : State} {w : RegWrite} {u n : Nat} {f : Dev → Dev} (h : w.wf = true) (hu : u < n) :
    RunsOn s (Machine.onUnit (fun d => hasPort w.port d && decide (u < n)) s f) :=
  .onUnit (by simp [hasPort, RegWrite.port_of_wf h, hu])

/-- Settles O10: by the form of each command's meaning, whose unit `wf` bounds by the counts of the larger variant. -/
theorem wellFormedCommandsRun : Obligations.WellFormedCommandsRun := by
  intro c s h hv
  have hlanes : s.dev.laneCount = 96 := if_pos hv
  have hgroups : s.dev.groupCount = 12 := if_pos hv
  have hclusters : s.dev.clusterCount = 4 := if_pos hv
  have hpins : s.dev.pinCount = 32 := if_pos hv
  change RunsOn s (Machine.exec c s)
  unfold Machine.exec
  cases c with
  | frameTick | outputJunction | syncOutPulse | syncOutPulseEnd => exact .onDev
  | boot | bootComplete | resetNAssert | supplyMonitorReset | presentNRise | presentNFall | pfailNFall | pfailNRise
  | wake => exact .onPinLevel
  | mapLearn | mapStatus | mapSave | mapLoad | pinAdjust | mlsRead | mlsArm | emuAlign | laneStage | laneCommit | laneAdmit
  | lanePark | laneRead | coefStage | coefRead | coefSwap | traceArm | traceForce | traceRead | move | limits | gear | trim
  | stop | waypoint | vmaster | chConfig | chRead | identify | ping | regRd | regWr | regRmw | powerState | detach
  | dbgChallenge | dbgResponse | dbgClose | dbgOpenFree | protStatus | bbxRead | bbxCommit | fwLoad | fwVerify
  | fwSwitch => exact .onRequest h
  | timeSet => exact .onField h (by decide)
  | mlsPop | mlsFlush | generatorRun | generatorStop | posArm | detReturn | reqState | pfeTare | pfeForceRst =>
    simp only [Instr.wf, Bool.and_eq_true, decide_eq_true_eq] at h
    exact .onField h.1 h.2
  | lateWorkComplete | demodSample | carrierPeriod | phaseFastEnd | losConfirm | losClear | modulatorReset | modulatorResetEnd
  | rangeNarrowCount | rangeChange | ratioEval | lockLoss | overspeed | reacqFastEnd | lockRegained | segmentEnd | mapEvaluate
  | mapDriftCheck | fadeComplete | followingError | trimSourceFault | masterTimeout | inboundMiss | watchSample | safetyViolation
  | xcmpFail | ss1Expiry | armingExpiry =>
    refine .onUnit ?_
    simp only [Instr.wf, Bool.and_eq_true, decide_eq_true_eq] at h
    simp only [hasLane, hlanes, h, decide_true]
  | rampComplete | excHalfPeriod | safetySelfTest | soTestPulse | soTestPulseEnd | soReadbackFault =>
    refine .onUnit ?_
    simp only [Instr.wf, Bool.and_eq_true, decide_eq_true_eq] at h
    simp only [hasGroup, hgroups, h, decide_true]
  | pulseEdge | indexEvent | switchDebounce | wireFault | wireFaultClear | pulseStill | serTransferStart | serTransferEnd =>
    refine .onUnit ?_
    simp only [Instr.wf, Bool.and_eq_true, decide_eq_true_eq] at h
    simp only [hasPin, hpins, h, decide_true]
  | clusterSelfTest | tableRebuildComplete =>
    refine .onUnit ?_
    simp only [Instr.wf, Bool.and_eq_true, decide_eq_true_eq] at h
    simp only [hasCluster, hclusters, h, decide_true]
  | emuEdgeEmit | stepEmit | stallDetect | pfeConversionEnd | pfeValueAvailable | packetReceive | replyTransmit
  | backgroundJobComplete | groupTimeout | writeLogSummary | linkStatusFrame | linkStatusSend | linkStatusTimeout | linkSyncLoss
  | linkUp | inboundPartReceive | inboundPartAccept | recordTransmit | siDemand | siDiscrepancy
  | connectionWatchdog | safeResetAck | safeParamWr | safeParamCommit | safeParamRd => exact .onUnit h
  | siLevelChange | scrubStep => exact .onEvent h
  | timedCommandDue t lane =>
    refine .onEvent ?_
    simp only [Instr.wf, decide_eq_true_eq] at h
    simp only [hasLane, hlanes, Bool.or_eq_true, decide_eq_true_eq]
    omega
  | syncMessage | announceMessage | pdelayReqReceive | pdelayReqSend | pdelayResponse | syncTimeout | syncInEdge | syncInMissing
  | traceDone | dieTempUpdate | packetServe | spiWrite | spiRead | spiStatus | safeParamCommitComplete | safeRstEdge | safeRstHeld
  | recoveryRestart | analogSettled | dormantEntry | debugPortRequest | debugPortRelease | extestLoad | extestLeave | nonceExpiry
  | coreHalt | coreResume | bbxDeferredCommit | bbxCommitComplete | fwReady
  | fwReadyTimeout | firmwareReloaded | heartbeatMissed => exact .onEvent (p := always) rfl
  | eccHourlyCheck | odometerUpdate | eolPredict | probationPass | slotRecordRetry => exact .onMgmt (p := always) rfl
  -- The request SEAL: the name of its constructor is a keyword of Lean's, which no alternative can write.
  | _ => exact .onRequest h

end Sys2Proof.Machine
end

section
/-! A packet says its request whole (R262, R263, Table 12-3). -/
namespace Sys2Proof.Machine
open Sys2Proof

/-! ### CRC-32 fits its four bytes -/

theorem crcStepR_lt {p c : Nat} (hp : p < 2 ^ 32) (hc : c < 2 ^ 32) : crcStepR p c < 2 ^ 32 := by
  have hhalf : c / 2 < 2 ^ 32 := lt_of_le_of_lt (Nat.div_le_self c 2) hc
  unfold crcStepR
  split
  · exact Nat.xor_lt_two_pow hhalf hp
  · exact hhalf

theorem crcByteR_lt {p c : Nat} (hp : p < 2 ^ 32) (hc : c < 2 ^ 32) (b : Byte) : crcByteR p c b < 2 ^ 32 := by
  have hx : c.xor b.toNat < 2 ^ 32 := Nat.xor_lt_two_pow hc (lt_trans b.isLt (by decide))
  exact crcStepR_lt hp (crcStepR_lt hp (crcStepR_lt hp (crcStepR_lt hp (crcStepR_lt hp (crcStepR_lt hp (crcStepR_lt hp
    (crcStepR_lt hp hx)))))))

theorem foldl_crcByteR_lt {p c : Nat} (hp : p < 2 ^ 32) (hc : c < 2 ^ 32) (bs : List Byte) : bs.foldl (crcByteR p) c < 2 ^ 32 := by
  induction bs generalizing c with
  | nil => exact hc
  | cons b bs ih => exact ih (crcByteR_lt hp hc b)

theorem crc32_lt (bs : List Byte) : crc32 bs < 2 ^ 32 :=
  Nat.xor_lt_two_pow (foldl_crcByteR_lt (by decide) (by decide) bs) (by decide)

/-! ### The fields of a packet -/

theorem leNat_leBytes_of_lt {n v : Nat} (h : v < 256 ^ n) : leNat (leBytes n v) = v :=
  (leNat_leBytes n v).trans (Nat.mod_eq_of_lt h)

section
variable (gen minor flags op tag lane : Nat) (payload : List Byte)

/-- A packet without its CRC. -/
def packetBody : List Byte := header gen minor flags op tag payload.length lane ++ payload

theorem packet_eq : packet gen minor flags op tag lane payload =
    packetBody gen minor flags op tag lane payload ++ leBytes 4 (crc32 (packetBody gen minor flags op tag lane payload)) := rfl

theorem length_packetBody : (packetBody gen minor flags op tag lane payload).length = 12 + payload.length := by
  simp only [packetBody, header, zeros, List.length_append, List.length_cons, List.length_nil, length_leBytes, List.length_replicate]

theorem length_packet : (packet gen minor flags op tag lane payload).length = 16 + payload.length := by
  rw [packet_eq, List.length_append, length_packetBody, length_leBytes]
  omega

/-- The header's bytes, one after the other; each number is read back from its own. -/
theorem slice_packet_op : slice (packet gen minor flags op tag lane payload) 2 2 = leBytes 2 op := rfl
theorem slice_packet_tag : slice (packet gen minor flags op tag lane payload) 4 2 = leBytes 2 tag := rfl
theorem slice_packet_length : slice (packet gen minor flags op tag lane payload) 6 2 = leBytes 2 payload.length := rfl
theorem slice_packet_lane : slice (packet gen minor flags op tag lane payload) 8 2 = leBytes 2 lane := rfl
theorem zeroAt_packet : zeroAt (packet gen minor flags op tag lane payload) 10 2 = true := rfl
theorem getD_packet_flags : (packet gen minor flags op tag lane payload).getD 1 0 = BitVec.ofNat 8 flags := rfl
theorem byteAt_packet : byteAt (packet gen minor flags op tag lane payload) 0 = (gen * 16 + minor) % 256 := BitVec.toNat_ofNat ..

theorem slice_packet_payload : slice (packet gen minor flags op tag lane payload) 12 payload.length = payload := by
  have hdrop : (packet gen minor flags op tag lane payload).drop 12 =
      payload ++ leBytes 4 (crc32 (packetBody gen minor flags op tag lane payload)) := rfl
  rw [slice, hdrop, List.take_left]

/-- The CRC of a packet is that of its body. -/
theorem crc32_packet : crc32 ((packet gen minor flags op tag lane payload).take (12 + payload.length)) =
    u32At (packet gen minor flags op tag lane payload) (12 + payload.length) := by
  have hlength := length_packetBody gen minor flags op tag lane payload
  rw [packet_eq, List.take_append_of_le_length hlength.ge, List.take_of_length_le hlength.le]
  exact (List.append_nil (leBytes 4 _) ▸ u32At_append (post := []) hlength (crc32_lt _)).symm

end

/-- The packet of a request, as `op`. -/
def requestPacket (op : Nat) (r : Request) : List Byte := packet r.gen r.minor r.flags.toNat op r.tag.toNat r.lane r.payload

section
variable {r : Request} {op : Nat}

theorem u16At_requestPacket_op (ho : op < 2 ^ 16) : u16At (requestPacket op r) 2 = op :=
  (congrArg leNat (slice_packet_op ..)).trans (leNat_leBytes_of_lt ho)

/-- What `wf` says of a request, field by field. -/
theorem Request.bounds_of_wf (h : r.wf = true) : r.port < 5 ∧ 1 ≤ r.gen ∧ r.gen ≤ 3 ∧ r.minor < 16 ∧ r.flags &&& 0xF3 = 0 ∧
    r.lane < 65536 ∧ r.payload.length < 65536 := by
  simp only [Request.wf, Bool.and_eq_true, decide_eq_true_eq] at h
  tauto

theorem u16At_requestPacket_length (h : r.wf = true) : u16At (requestPacket op r) 6 = r.payload.length := by
  obtain ⟨-, -, -, -, -, -, hlen⟩ := Request.bounds_of_wf h
  exact (congrArg leNat (slice_packet_length ..)).trans (leNat_leBytes_of_lt hlen)

/-- Parsing the packet of a request gives every field back. -/
theorem packetRequest_requestPacket (h : r.wf = true) (p : Nat) (t : Time) :
    packetRequest p t (requestPacket op r) = { r with port := p, t := t } := by
  obtain ⟨-, -, hgen, hminor, -, hlane, -⟩ := Request.bounds_of_wf h
  have hbyte : byteAt (requestPacket op r) 0 = r.gen * 16 + r.minor := (byteAt_packet ..).trans (Nat.mod_eq_of_lt (by omega))
  have hflags : (requestPacket op r).getD 1 0 = r.flags := (getD_packet_flags ..).trans (by simp)
  have htag : BitVec.ofNat 16 (u16At (requestPacket op r) 4) = r.tag := by
    rw [u16At, requestPacket, slice_packet_tag, leNat_leBytes_of_lt r.tag.isLt]
    simp
  have hl : u16At (requestPacket op r) 8 = r.lane := (congrArg leNat (slice_packet_lane ..)).trans (leNat_leBytes_of_lt hlane)
  have hpay : slice (requestPacket op r) 12 r.payload.length = r.payload := slice_packet_payload ..
  rw [packetRequest, hbyte, hflags, htag, hl, u16At_requestPacket_length h, hpay]
  congr 1 <;> omega

/-! ### Arrival -/

/-- Steps 1 to 5 of Table 12-4 let a packet through whose generation its port takes, where no pause is under way and the queue
has room. -/
theorem Dev.arrival_requestPacket {d : Dev} {p src : Nat} {vlan : Option Nat} (h : r.wf = true) (ho : op < 2 ^ 16)
    (hg : r.gen ≤ d.portGen p) (hq : d.hlt.pause = none) (hroom : (d.port p).rx.length < queueMax p) :
    d.arrival p (requestPacket op r) false src vlan =
      let q : QReq := { op := op, arr := d.now, src := src, vlan := vlan, req := { r with port := p, t := d.now } }
      let e := d.onPort p fun x => { x with rx := x.rx ++ [q] }
      e.maxFld .hpQmax p 16 16 (e.port p).rx.length := by
  have hlength : (requestPacket op r).length = 16 + r.payload.length := length_packet ..
  have hcrc : crc32 ((requestPacket op r).take (16 + r.payload.length - 4)) = u32At (requestPacket op r) (16 + r.payload.length - 4) := by
    rw [show 16 + r.payload.length - 4 = 12 + r.payload.length by omega]
    exact crc32_packet ..
  have hzero : zeroAt (requestPacket op r) 10 2 = true := zeroAt_packet ..
  obtain ⟨-, hgen1, hgen3, -, hflags, -, -⟩ := Request.bounds_of_wf h
  have hhead : ¬(r.gen = 0 ∨ 3 < r.gen ∨ r.flags &&& 0xF3 ≠ 0 ∨ (!zeroAt (requestPacket op r) 10 2) = true) := by
    rw [hflags, hzero]
    simp only [ne_eq, not_true, Bool.not_true, Bool.false_eq_true, or_false]
    omega
  unfold Dev.arrival
  dsimp only
  rw [u16At_requestPacket_length h, packetRequest_requestPacket h, u16At_requestPacket_op ho, if_neg (by simp [hlength, hcrc]),
    if_neg hhead, if_neg (Nat.not_lt.2 hg), if_neg (by simp [hq]), if_neg (Nat.not_le.2 hroom)]

end

/-- Settles O11: `packetRequest_requestPacket` gives the request back and `Dev.arrival_requestPacket` puts it into the queue. -/
theorem packetsRoundTrip : Obligations.PacketsRoundTrip := by
  intro r op h ho
  have hlength : (requestPacket op r).length = 16 + r.payload.length := length_packet ..
  refine ⟨hlength, u16At_requestPacket_op ho, u16At_requestPacket_length h, ?crc, packetRequest_requestPacket h _ _,
    fun s t hup hq hroom hports hg => ?arrival⟩
  case crc =>
    change crc32 ((requestPacket op r).take ((requestPacket op r).length - 4)) =
      u32At (requestPacket op r) ((requestPacket op r).length - 4)
    rw [hlength, show 16 + r.payload.length - 4 = 12 + r.payload.length by omega]
    exact crc32_packet ..
  case arrival =>
    have halive : s.dev.alive = true := by
      simp only [Dev.portUp, Bool.and_eq_true] at hup
      exact hup.1.1
    rw [runs_iff, Machine.exec]
    refine .onEvent rfl halive ?_
    have hup' : (s.dev.at t).portUp 4 = true := hup
    have harr := Dev.arrival_requestPacket (d := s.dev.at t) (p := 4) (src := 0) (vlan := none) h ho hg hq hroom
    simp only [Dev.frameIn, if_true, hup', Bool.not_true, Bool.false_eq_true, if_false]
    rw [← requestPacket, harr]
    simp [Dev.maxFld, Dev.port, hports]

end Sys2Proof.Machine
end

section
/-! The discipline of the clock: the servo, the exchanges of 802.1AS, the edges of SYNC_IN, SYNC_OUT (R30–R33, R44). -/
namespace Sys2Proof.Machine
open Sys2Proof

/-! ### Registers through the updates of other parts -/

section
variable (d : Dev) (i : RegId) (k : Nat)

@[simp] theorem Dev.onTime_reg (f : TimeSt → TimeSt) : (d.onTime f).reg i k = d.reg i k := (rfl)
@[simp] theorem Dev.onPort_reg (p : Nat) (f : Port → Port) : (d.onPort p f).reg i k = d.reg i k := (rfl)
@[simp] theorem Dev.onLane_reg (n : Nat) (f : Lane → Lane) : (d.onLane n f).reg i k = d.reg i k := (rfl)
@[simp] theorem Dev.onAcq_reg (n : Nat) (f : Acq → Acq) : (d.onAcq n f).reg i k = d.reg i k := (rfl)
@[simp] theorem Dev.onTrk_reg (n : Nat) (f : Tracker → Tracker) : (d.onTrk n f).reg i k = d.reg i k := (rfl)
@[simp] theorem Dev.onMap_reg (n : Nat) (f : MapSt → MapSt) : (d.onMap n f).reg i k = d.reg i k := (rfl)
@[simp] theorem Dev.onGroup_reg (g : Nat) (f : Group → Group) : (d.onGroup g f).reg i k = d.reg i k := (rfl)
@[simp] theorem Dev.onHlt_reg (f : Health → Health) : (d.onHlt f).reg i k = d.reg i k := (rfl)
@[simp] theorem Dev.onPwr_reg (f : Power → Power) : (d.onPwr f).reg i k = d.reg i k := (rfl)
@[simp] theorem Dev.onBbx_reg (f : BlackBox → BlackBox) : (d.onBbx f).reg i k = d.reg i k := (rfl)

end

/-! ### The servo -/

@[simp] theorem Dev.setFlagIf_time (d : Dev) (c : Bool) (i : RegId) (k b : Nat) : (d.setFlagIf c i k b).time = d.time := by
  unfold Dev.setFlagIf
  split <;> simp

@[simp] theorem Dev.applyRate_time (d : Dev) (r : Int) : (d.applyRate r).time = d.time := by simp [Dev.applyRate]

@[simp] theorem Dev.enterHoldover_time (d : Dev) :
    d.enterHoldover.time = { d.time with locked := false, good := 0, missed := 0, holdover := true } := by
  simp [Dev.enterHoldover]

theorem Dev.applyRate_offset (d : Dev) (r : Int) : (d.applyRate r).reg .timeOffset 0 = d.reg .timeOffset 0 := by
  have h : Within ((words 0 [.timeRate, .timeStat] |> fun w => ({ reg := w } : May))) d (d.applyRate r) := by simp [words]
  exact h.reg _ _ (by decide)

section
variable (d : Dev) (err : Int)

@[simp] theorem Dev.servoUpdate_lastSync : (d.servoUpdate err).time.lastSync = d.time.lastSync := by
  simp [Dev.servoUpdate, apply_ite Dev.time, apply_ite TimeSt.lastSync]

@[simp] theorem Dev.servoUpdate_syncInterval : (d.servoUpdate err).time.syncInterval = d.time.syncInterval := by
  simp [Dev.servoUpdate, apply_ite Dev.time, apply_ite TimeSt.syncInterval]

@[simp] theorem Dev.servoUpdate_srcValid : (d.servoUpdate err).time.srcValid = true := by
  simp [Dev.servoUpdate, apply_ite Dev.time, apply_ite TimeSt.srcValid]

/-- The loss of the lock starts the count of missing edges anew. -/
theorem Dev.servoUpdate_missed (h : d.time.missed = 0) : (d.servoUpdate err).time.missed = 0 := by
  simp [Dev.servoUpdate, apply_ite Dev.time, apply_ite TimeSt.missed, h]

/-- Only a lock to SYNC_IN that is lost ends in holdover (R31, R32). -/
theorem Dev.servoUpdate_holdover (h : d.time.src < 2) : (d.servoUpdate err).time.holdover = false := by
  simp [Dev.servoUpdate, apply_ite Dev.time, apply_ite TimeSt.holdover, apply_ite TimeSt.src, Nat.not_le.2 h]

@[simp] theorem Dev.servoUpdate_offset : (d.servoUpdate err).reg .timeOffset 0 = wordOfInt (satInt 32 err) := by
  simp [Dev.servoUpdate, apply_ite (fun d : Dev => d.reg .timeOffset 0), Dev.applyRate_offset, Dev.logEvent_reg, Dev.enterHoldover]

end

/-! ### The events -/

theorem Dev.at_asActive (d : Dev) (t : Time) (port : Nat) : (d.at t).asActive port = d.asActive port := (rfl)
theorem Dev.at_syncError (d : Dev) (t : Time) (rx gm : Time) : (d.at t).syncError rx gm = d.syncError rx gm := (rfl)

theorem Dev.src_of_asActive {d : Dev} {port : Nat} (h : d.asActive port = true) : d.time.src = 1 := by
  simp only [Dev.asActive, Bool.and_eq_true, decide_eq_true_eq] at h
  exact h.1.1.1

theorem Dev.reg64_setReg64 (d : Dev) (i : RegId) (k : Nat) {v : Nat} (hv : v < 2 ^ 64) : (d.setReg64 i k v).reg64 i k = v := by
  simp [Dev.reg64, Dev.setReg64, Dev.reg_setReg]
  omega

theorem Dev.at_syncRef (d : Dev) (t u : Time) : (d.at t).syncRef u = d.syncRef u := (rfl)

/-- An edge of SYNC_IN before a lock, with no armed `TIME_SET`, updates the servo (R31). -/
theorem Dev.syncInEdge_of_unlocked {d : Dev} {width : Nat} (hs : 2 ≤ d.time.src) (hw : 400 ≤ width) (hl : d.time.locked = false)
    (hp : d.time.setPend = none) (t : Time) : d.syncInEdge t width =
      (d.onTime fun x => { x with missed := 0, edgeRef := some (d.syncRef (t / 5 * 5)) }).servoUpdate
        (((t / 5 * 5 : Nat) : Int) - d.syncRef (t / 5 * 5)) := by
  unfold Dev.syncInEdge
  dsimp only
  rw [if_neg (by omega), if_neg (by simp [hl])]
  split
  next h => simp [hp] at h
  next => rfl

/-- Settles O12: the servo by `Dev.servoUpdate_offset` and the lemmas beside it, each exchange and each edge by its operation's
definition. -/
theorem timeSourceEvents : Obligations.TimeSourceEvents := by
  intro s t ha
  simp only [runs_iff, Machine.exec]
  refine ⟨fun port domain rx gm interval hact hd hlo hhi => .onEvent rfl ha ?oneStep,
    fun port domain rx gm interval hact hd hlo hhi => .onEvent rfl ha ?twoStep,
    fun port domain rx gm interval two r hact hd hpend => .onEvent rfl ha ?followUp,
    fun port domain gm hact hd => .onEvent rfl ha ?announce,
    fun port hact => .onEvent rfl ha ?answer, fun hact => .onEvent rfl ha ?send,
    fun port t1 t2 t3 t4 hact ht1 => .onEvent rfl ha ?response,
    fun hsrc hvalid hhold hdue => .onEvent rfl ha ?timeout,
    fun width hw hsrc hlock hset => .onEvent rfl ha ?edge,
    fun hsrc hlock => .onEvent rfl ha ?missing,
    fun hst hend r at_ hnext => .onDev ?pulse, fun e he => .onDev ?pulseEnd⟩
  case oneStep =>
    have hsrc := Dev.src_of_asActive hact
    have hstep : ¬(interval < 31250000 ∨ interval > 4000000000) := by omega
    have herr (f : TimeSt → TimeSt) (hp : ∀ x, (f x).pdelay = x.pdelay ∧ (f x).nrr = x.nrr) :
        ((s.dev.at t).onTime f).syncError rx gm = s.dev.syncError rx gm := by
      simp [Dev.syncError, hp]
    simp [Dev.syncMessage, Dev.at_asActive, hact, hd, hstep, herr, Dev.servoUpdate_holdover, hsrc]
  case twoStep =>
    have hstep : ¬(interval < 31250000 ∨ interval > 4000000000) := by omega
    simp [Dev.syncMessage, Dev.at_asActive, hact, hd, hstep]
  case followUp => simp [Dev.syncMessage, Dev.at_asActive, Dev.at_syncError, hact, hd, hpend]
  case announce =>
    have hgm := gm.isLt
    unfold Dev.announce
    simp only [Dev.at_asActive, hact, hd, Dev.at_fld, Dev.at_reg64, Bool.not_true, ne_eq, not_true, decide_false, Bool.or_self,
      Bool.false_eq_true, if_false]
    split
    next h =>
      have h64 := (s.dev.at t).reg64_setReg64 .timeGmId 0 hgm
      refine ⟨?_, fun _ _ => ?_⟩
      · simpa [Dev.reg64, Dev.logEvent_reg, Dev.reg_setFlag_ne] using h64
      · simpa [Dev.regBit, Dev.logEvent_reg] using Dev.regBit_setFlag ((s.dev.at t).setReg64 .timeGmId 0 gm.toNat) .timeStat 0 (by decide)
    next h => exact ⟨Dev.reg64_setReg64 _ _ _ hgm, fun h1 h2 => absurd ⟨h1, h2⟩ h⟩
  case answer =>
    refine ⟨by simp [Dev.pdelayAnswer, Dev.at_asActive, hact, Dev.asSend], fun hp => ?_⟩
    simp [Dev.pdelayAnswer, Dev.at_asActive, hact, Dev.asSend, Dev.port, hp]
  case send =>
    cases hl : s.dev.time.pdelayLast with
    | none => simp [Dev.pdelaySend, Dev.at_asActive, hact, Dev.asSend, hl]
    | some t1 =>
      by_cases hdue : t1 + unitsPerSec ≤ instant s.dev.now t <;>
      simp [Dev.pdelaySend, Dev.at_asActive, hact, Dev.asSend, hl, hdue]
  case response =>
    unfold Dev.pdelayResponse
    rw [Dev.at_asActive, hact, Dev.at_time, ht1]
    simp
  case timeout =>
    have hcnt (d : Dev) (f : TimeSt → TimeSt) :
        ((d.onTime f).enterHoldover.addCnt .timeCnt 0 0 16).fld .timeCnt 0 0 16 = satNat 16 (d.fld .timeCnt 0 0 16 + 1) := by
      rw [Dev.fld_addCnt _ _ _ _ (by decide)]
      simp [Dev.fld, Dev.enterHoldover, Dev.logEvent_reg]
    simp [Dev.syncTimeout, hsrc, hvalid, hhold, hdue, hcnt]
  case edge =>
    rw [Dev.syncInEdge_of_unlocked (d := s.dev.at t) hsrc hw hlock hset]
    simp [Dev.at_syncRef, Dev.servoUpdate_missed]
  case missing =>
    by_cases href : s.dev.time.edgeRef = some (s.dev.syncRef (instant s.dev.now t))
    · simp [Dev.syncInMissing, Dev.missEdge, hsrc, hlock, Dev.at_syncRef, href]
    · by_cases hm : s.dev.time.missed < 3
      · simp [Dev.syncInMissing, Dev.missEdge, hsrc, hlock, Dev.at_syncRef, href, hm, show ¬3 ≤ s.dev.time.missed by omega]
      · simp [Dev.syncInMissing, Dev.missEdge, hsrc, hlock, Dev.at_syncRef, href, hm, show 3 ≤ s.dev.time.missed by omega]
  case pulse =>
    have hlow : (s.dev.alive && (decide (s.dev.pwr.st = .active) || decide (s.dev.pwr.st = .economy)) &&
        s.dev.time.syncOutEnd.isNone) = true := by simp [ha, hst, hend]
    have hpulse : s.dev.syncOutPulse = (s.dev.at at_).onTime fun x =>
        { x with syncOutRef := if s.dev.fld .timeSyncout 0 0 2 = 3 then x.syncOutRef else some r
                 syncOutSec := if s.dev.fld .timeSyncout 0 0 2 = 3 then some r else x.syncOutSec
                 syncOutEnd := some ((s.dev.at at_).now +
                   min (20 * max 1 (s.dev.fld .timeSyncout 0 16 16)) ((s.dev.at at_).syncOutInterval / 2)) } := by
      unfold Dev.syncOutPulse
      rw [hlow, hnext]
    rw [hpulse]
    refine ⟨?_, rfl, rfl⟩
    split <;> simp [*]
  case pulseEnd => simp [Dev.syncOutPulseEnd, he]

end Sys2Proof.Machine
end

section
/-! The tick that FRAME_TICK issues (R11, R34, R35): what the end of the old frame does before it leaves the schedule, and what the
new frame does after it leaves the tick. -/
namespace Sys2Proof.Machine
open Sys2Proof

/-! ### Before the tick -/

/-- What the end of the old frame may change: lanes, the capture and the log. -/
def May.closing : May := { logs with trc := true, lane := every, prf := every, loop := every }

theorem Dev.closing_within (d : Dev) (y : TraceTake) : Within .closing d (d.traceEarly y).closeFrame := by
  apply Dev.closeFrame_within
  · simp [May.closing, logs, words]
  all_goals simp [May.closing, logs, every]

@[simp] theorem Dev.onTrc_now (d : Dev) (f : Trace → Trace) : (d.onTrc f).now = d.now := (rfl)

@[simp] theorem Dev.traceDone_now (d : Dev) : d.traceDone.now = d.now := by
  simp [Dev.traceDone, apply_ite Dev.now]

@[simp] theorem Dev.traceTick_now (d : Dev) (y : TraceTake) : (d.traceTick y).now = d.now := by
  unfold Dev.traceTick
  split
  · simp [apply_ite Dev.now]
  · simp

@[simp] theorem Dev.traceEarly_now (d : Dev) (y : TraceTake) : (d.traceEarly y).now = d.now := by
  simp [Dev.traceEarly, Dev.traceMark, apply_ite Dev.now]

@[simp] theorem Dev.discardWork_now (d : Dev) (n : Nat) : (d.discardWork n).now = d.now := by
  unfold Dev.discardWork
  split <;> simp

@[simp] theorem Dev.closeFrame_now (d : Dev) : d.closeFrame.now = d.now :=
  Dev.foldl_now _ (fun d n => by simp [Dev.onLoop]) _ _

/-- The schedule depends on its registers, the clock and the time unit. -/
theorem Dev.nextTick_congr {d e : Dev} (hn : e.now = d.now) (ht : e.time = d.time)
    (hr : ∀ i k, i ∈ [RegId.frmEpoch, .frmPeriod, .frmOutdl] → e.reg i k = d.reg i k) :
    e.nextTick = d.nextTick ∧ ∀ k, e.tickAt k = d.tickAt k := by
  have hepoch : e.reg64 .frmEpoch 0 = d.reg64 .frmEpoch 0 := by simp only [Dev.reg64, hr .frmEpoch _ (by decide)]
  have hperiod : e.period = d.period := by simp only [Dev.period, Dev.fld, hr .frmPeriod _ (by decide)]
  have houtdl : e.outdl = d.outdl := by
    simp only [Dev.outdl, hr .frmPeriod _ (by decide), hr .frmOutdl _ (by decide)]
  have hfirst (t : Time) : e.firstTickFrom t = d.firstTickFrom t := by simp only [Dev.firstTickFrom, hepoch, hperiod]
  exact ⟨by simp only [Dev.nextTick, hn, ht, houtdl, hfirst], fun k => by simp only [Dev.tickAt, hepoch, hperiod]⟩

/-! ### All but the time unit, for `simp` -/

@[simp] theorem May.noTime_reg (i : RegId) (k : Nat) : noTime.reg i k = true := (rfl)

@[simp] theorem May.noTime_unit (n : Nat) :
    noTime.lane n = true ∧ noTime.acq n = true ∧ noTime.trk n = true ∧ noTime.map n = true ∧ noTime.loop n = true ∧
      noTime.prf n = true ∧ noTime.group n = true ∧ noTime.port n = true ∧ noTime.pin n = true ∧ noTime.mls n = true ∧
      noTime.emu n = true ∧ noTime.cluster n = true ∧ noTime.vm n = true ∧ noTime.pfe n = true ∧
      noTime.safLane n = true ∧ noTime.conn n = true := by
  simp [noTime]

@[simp] theorem May.noTime_block :
    noTime.saf = true ∧ noTime.crit = true ∧ noTime.bbx = true ∧ noTime.hlt = true ∧
      noTime.pwr = true ∧ noTime.trc = true ∧ noTime.staged = true ∧ noTime.ro = true ∧ noTime.serve = true := by
  simp [noTime]

@[simp] theorem May.noTime_outputs (d : Dev) (n : Nat) : noTime.outputs d n := .inl fun _ => ⟨rfl, rfl, rfl⟩

@[simp] theorem May.noTime_detour (d : Dev) (i : Nat) : noTime.detour d i :=
  .inl fun _ => ⟨rfl, rfl, rfl, rfl, rfl, noTime_outputs _ _⟩

@[simp] theorem May.noTime_mlsOf (d : Dev) (i : Nat) : noTime.mlsOf d i := .inl fun _ => ⟨rfl, rfl, rfl⟩

/-! ### After the tick -/

/-- The tick stands: its index, its T0, and that the output junction is due. -/
def Dev.TickStands (d e : Dev) : Prop := e.time.k = d.time.k ∧ e.time.t0 = d.time.t0 ∧ e.time.outDue = d.time.outDue

theorem Dev.TickStands.of_time {d e : Dev} (h : e.time = d.time) : d.TickStands e := ⟨by rw [h], by rw [h], by rw [h]⟩

theorem Dev.TickStands.trans {d e f : Dev} (h : d.TickStands e) (g : e.TickStands f) : d.TickStands f :=
  ⟨g.1.trans h.1, g.2.1.trans h.2.1, g.2.2.trans h.2.2⟩

/-- An operation that leaves the time unit leaves the tick. -/
theorem Dev.TickStands.within {d e f : Dev} (h : d.TickStands e) (g : Within .noTime e f) : d.TickStands f :=
  h.trans (.of_time (g.time rfl))

theorem Dev.TickStands.foldl {α : Type} {f : Dev → α → Dev} (h : ∀ d a, Dev.TickStands d (f d a)) (l : List α) (d : Dev) :
    d.TickStands (l.foldl f d) := by
  induction l generalizing d with
  | nil => exact .of_time rfl
  | cons a l ih => exact (h d a).trans (ih _)

theorem Dev.forEach_time {f : Nat → Dev → Dev} (h : ∀ n e, (f n e).time = e.time) (l : List Nat) (d : Dev) :
    (d.forEach l f).time = d.time := by
  unfold Dev.forEach
  induction l generalizing d with
  | nil => rfl
  | cons n l ih => exact (ih _).trans (h n d)

@[simp] theorem Dev.putWords_time (d : Dev) (es : List Staged) : (d.putWords es).time = d.time :=
  (Dev.putWords_within (my := .noTime) _ _ (.refl _ _) (by simp)).time rfl

@[simp] theorem Dev.deviceReaction_time (d : Dev) (cause : Nat) : (d.deviceReaction cause).time = d.time :=
  Within.time (m := .noTime) (by simp) rfl

@[simp] theorem Dev.settleLane_time (d : Dev) (n : Nat) : (d.settleLane n).time = d.time := Within.time (m := .noTime) (by simp) rfl

@[simp] theorem Dev.excPark_time (d : Dev) : d.excPark.time = d.time := Within.time (m := .noTime) (by simp) rfl

@[simp] theorem Dev.pfeStop_time (d : Dev) : d.pfeStop.time = d.time := Within.time (m := .noTime) (by simp) rfl

@[simp] theorem Dev.emuPark_time (d : Dev) : d.emuPark.time = d.time := Within.time (m := .noTime) (by simp) rfl

/-- A change of the frame registers has the schedule taken up afresh at the next tick (R36). -/
theorem Dev.commitFrame_tickStands (d : Dev) (es : List Staged) : d.TickStands (d.commitFrame es) := by
  unfold Dev.commitFrame
  dsimp only
  split
  · exact .of_time rfl
  · unfold Dev.TickStands
    rw [Dev.forEach_time fun p e => by simp [apply_ite Dev.time]]
    split <;> simp [apply_ite Dev.time]

/-- The way to PARKED ends a pulse of SYNC_OUT (R339). -/
theorem Dev.enterParked_tickStands (d : Dev) (cause : Nat) : d.TickStands (d.enterParked cause) := by
  unfold Dev.enterParked
  split
  · exact .of_time rfl
  · unfold Dev.TickStands
    dsimp only
    rw [Dev.forEach_time fun n e => e.settleLane_time n]
    simp only [Dev.logEvent_time, Dev.deviceReaction_time, Dev.onTime_time, Dev.emuPark_time, Dev.pfeStop_time, Dev.excPark_time]
    rw [Dev.forEach_time fun n e => by simp [apply_ite Dev.time]]
    simp

theorem Dev.commitConfig_tickStands (d : Dev) (es : List Staged) : d.TickStands (d.commitConfig es) := by
  have hreserve : Within .noTime d (es.foldl Dev.reserveOf d) :=
    Within.foldl (.refl _ _) _ _ fun e s he => Dev.reserveOf_within _ _ he (by simp)
  have hstruct (e : Dev) : Within .noTime e (es.foldl Dev.commitStructOf e) :=
    Within.foldl (.refl _ _) _ _ fun e s he => by simp [he]
  have hact (e : Dev) : Within .noTime e (es.foldl (fun d s => d.commitAct s) e) :=
    Within.foldl (.refl _ _) _ _ fun e s he => by simp [he]
  have hwords (e : Dev) : Within .noTime e (e.commitWords es) := by simp
  have hnote (e : Dev) : Within .noTime e (e.noteRewritten es) := by simp
  have hmap (e : Dev) (l : List Nat) : Within .noTime e (e.forEach l fun n d => d.mapCommit n) :=
    Within.forEach (.refl _ _) _ _ fun n e he => by simp [he]
  have hframe := (TickStands.of_time (hreserve.time rfl)).trans (Dev.commitFrame_tickStands _ es)
  exact ((((hframe.within (hstruct _)).within (hwords _)).within (hact _)).within (hnote _)).within (hmap _ _)

theorem Dev.commitPowerOf_tickStands (d : Dev) (parked : Bool) (s : Staged) : d.TickStands (d.commitPowerOf parked s) := by
  have hstand : d.TickStands d := .of_time rfl
  unfold Dev.commitPowerOf Dev.whenSome
  split
  · dsimp only
    split
    · exact hstand.within (by simp)
    · unfold Dev.commitPower
      dsimp only
      split
      · split
        · exact hstand.within (by simp)
        · split
          · exact d.enterParked_tickStands 1
          · exact (d.enterParked_tickStands 1).within (by simp)
          · exact hstand.within (by simp)
      · exact hstand
  · exact hstand

theorem Dev.commitPowers_tickStands (d : Dev) (es : List Staged) : d.TickStands (d.commitPowers es) := by
  unfold Dev.commitPowers
  refine TickStands.trans ?_ (.foldl (fun e s => e.commitPowerOf_tickStands _ s) _ _)
  unfold Dev.whenSome
  split
  · exact d.enterParked_tickStands _
  · exact .of_time rfl

theorem Dev.commitStates_tickStands (d : Dev) (es : List Staged) : d.TickStands (d.commitStates es).2 := by
  have hrequests (e : Dev) : Within .noTime e (e.commitRequests es) := by simp
  have heconomy (e : Dev) (l : List Nat) : Within .noTime e (e.forEach l fun g d => d.excEconomy g) :=
    Within.forEach (.refl _ _) _ _ fun g e he => by simp [he]
  have hretrack (e : Dev) (l : List Nat) : Within .noTime e (e.forEach l fun n d => d.retrack n) :=
    Within.forEach (.refl _ _) _ _ fun n e he => by simp [he]
  have hages (e : Dev) : Within .noTime e (e.commitAges es).2 := by simp
  unfold Dev.commitStates
  exact ((((Dev.commitPowers_tickStands d es).within (hrequests _)).within (heconomy _ _)).within (hretrack _ _)).within (hages _)

theorem Dev.commit_tickStands (d : Dev) : d.TickStands d.commit.2.2 := by
  have hdrop : Within .noTime d d.dropDue := by simp
  have hconfig := (TickStands.of_time (hdrop.time rfl)).trans (Dev.commitConfig_tickStands _ d.dueActs)
  unfold Dev.commit
  dsimp only
  exact hconfig.trans (Dev.commitStates_tickStands _ d.dueActs)

/-! ### The tick -/

/-- The tick that is issued is the schedule's next one, at its instant (R34, R35). -/
theorem Dev.issueTick_time (d : Dev) : d.issueTick.time.k = some d.nextTick ∧ d.issueTick.time.t0 = d.tickAt d.nextTick % 2 ^ 64 ∧
    d.issueTick.time.outDue = true ∧ d.issueTick.time.setPend = d.time.setPend ∧ d.issueTick.time.stepPend = d.time.stepPend := by
  simp [Dev.issueTick, apply_ite Dev.time]

theorem Dev.applyStep_of_none {d : Dev} (h1 : d.time.setPend = none) (h2 : d.time.stepPend = none) : d.applyStep = d := by
  simp [Dev.applyStep, h1, h2]

theorem Dev.takeSource_tickStands (d : Dev) : d.TickStands d.takeSource := by
  simp [Dev.TickStands, Dev.takeSource, apply_ite Dev.time, apply_ite TimeSt.k, apply_ite TimeSt.t0, apply_ite TimeSt.outDue]

/-- After the tick nothing in the frame moves it. -/
theorem Dev.frameTick_tickStands {d : Dev} (ds : List Disturb) (h1 : d.time.setPend = none) (h2 : d.time.stepPend = none) :
    ((d.traceEarly d.trcTake).closeFrame.issueTick).TickStands (d.frameTick ds) := by
  have hclose : (d.traceEarly d.trcTake).closeFrame.time = d.time := (d.closing_within d.trcTake).time rfl
  have hissue := Dev.issueTick_time (d.traceEarly d.trcTake).closeFrame
  obtain ⟨-, -, -, hset, hstep⟩ := hissue
  rw [hclose] at hset hstep
  have hbarrier (e : Dev) : Within .noTime e e.barrierConsequences := by simp
  have hsnap (e : Dev) : Within .noTime e e.snapshot := by simp
  have hlate (e : Dev) : Within .noTime e (e.traceLate d.trcTake) := by simp
  have hcompute (e : Dev) (es ms) : Within .noTime e (e.compute es ms ds) := by simp
  have hcapture (e : Dev) (k : Nat) : Within .noTime e (e.traceCapture k) := by simp
  have hstart : (d.traceEarly d.trcTake).closeFrame.issueTick.TickStands
      (d.traceEarly d.trcTake).closeFrame.issueTick.applyStep.takeSource.barrierConsequences := by
    rw [Dev.applyStep_of_none (hset.trans h1) (hstep.trans h2)]
    exact (Dev.takeSource_tickStands _).within (hbarrier _)
  unfold Dev.frameTick
  dsimp only
  generalize (d.traceEarly d.trcTake).closeFrame.issueTick.applyStep.takeSource.barrierConsequences = b at hstart
  have hcommit := hstart.trans b.commit_tickStands
  generalize b.commit = c at hcommit
  exact (((hcommit.within (hsnap _)).within (hlate _)).within (hcompute _ _ _)).within (hcapture _ _)

/-- Settles O13: what comes before the tick leaves the schedule, what follows leaves the tick. -/
theorem frameTickIssuesTheNextTick : Obligations.FrameTickIssuesTheNextTick := by
  intro s ds ha h1 h2
  rw [runs_iff, Machine.exec]
  refine .onDev ?_
  rw [Dev.when, if_pos ha]
  have hwithin := s.dev.closing_within s.dev.trcTake
  have hschedule : _ ∧ ∀ k, _ := Dev.nextTick_congr (d := s.dev) (e := (s.dev.traceEarly s.dev.trcTake).closeFrame) (by simp) (hwithin.time rfl)
    fun i k hi => hwithin.reg _ _ (by fin_cases hi <;> simp [May.closing, logs, words])
  obtain ⟨hk, ht0, hdue⟩ := Dev.frameTick_tickStands ds h1 h2
  obtain ⟨hk', ht0', hdue', -, -⟩ := Dev.issueTick_time (s.dev.traceEarly s.dev.trcTake).closeFrame
  rw [hk, ht0, hdue, hk', ht0', hdue', hschedule.1, hschedule.2]
  exact ⟨rfl, rfl, rfl⟩

end Sys2Proof.Machine
end

section
/-! Units of a device whose tables have their sizes (R1, R3), and what an update leaves of a lane. -/
namespace Sys2Proof.Machine
open Sys2Proof

/-! ### Sizes -/

/-- The sizes depend on the shape alone. -/
theorem Dev.Sized.of_shape {d e : Dev} (hs : d.Sized) (h : e.shape = d.shape) : e.Sized := by
  simp only [Dev.shape, Saf.shape, List.cons_append, List.nil_append, List.cons.injEq, and_true] at h
  unfold Dev.Sized at hs ⊢
  simp only [h]
  exact hs

section
variable {d : Dev} (hs : d.Sized)
include hs

theorem Dev.Sized.lane_lt {n : Nat} (h : hasLane n d = true) : n < d.lanes.length := by
  obtain ⟨-, hl, -⟩ := hs
  rw [hl]
  refine lt_of_lt_of_le (of_decide_eq_true h) ?_
  unfold Dev.laneCount
  split <;> decide

theorem Dev.Sized.group_lt {g : Nat} (h : hasGroup g d = true) : g < d.groups.length := by
  obtain ⟨-, -, hg, -⟩ := hs
  rw [hg]
  refine lt_of_lt_of_le (of_decide_eq_true h) ?_
  unfold Dev.groupCount
  split <;> decide

theorem Dev.Sized.pin_lt {i : Nat} (h : hasPin i d = true) : i < d.pins.length := by
  obtain ⟨-, -, -, -, hp, -⟩ := hs
  rw [hp]
  refine lt_of_lt_of_le (of_decide_eq_true h) ?_
  unfold Dev.pinCount
  split <;> decide

theorem Dev.Sized.cluster_lt {c : Nat} (h : hasCluster c d = true) : c < d.clusters.length := by
  obtain ⟨-, -, -, -, -, -, -, hc, -⟩ := hs
  rw [hc]
  refine lt_of_lt_of_le (of_decide_eq_true h) ?_
  unfold Dev.clusterCount
  split <;> decide

end

/-! ### A lane after an update -/

section
variable (d : Dev) (n : Nat)

@[simp] theorem Dev.setReg_lane (i : RegId) (k : Nat) (v : Word) : (d.setReg i k v).lane n = d.lane n := (rfl)
@[simp] theorem Dev.setReg64_lane (i : RegId) (k v : Nat) : (d.setReg64 i k v).lane n = d.lane n := (rfl)
@[simp] theorem Dev.setFld_lane (i : RegId) (k lo w v : Nat) : (d.setFld i k lo w v).lane n = d.lane n := (rfl)
@[simp] theorem Dev.setFlag_lane (i : RegId) (k b : Nat) : (d.setFlag i k b).lane n = d.lane n := (rfl)
@[simp] theorem Dev.setFlagIf_lane (c : Bool) (i : RegId) (k b : Nat) : (d.setFlagIf c i k b).lane n = d.lane n := by
  unfold Dev.setFlagIf
  split <;> rfl
@[simp] theorem Dev.addCnt_lane (i : RegId) (k lo w m : Nat) : (d.addCnt i k lo w m).lane n = d.lane n := (rfl)
@[simp] theorem Dev.onTime_lane (f : TimeSt → TimeSt) : (d.onTime f).lane n = d.lane n := (rfl)
@[simp] theorem Dev.onPort_lane (p : Nat) (f : Port → Port) : (d.onPort p f).lane n = d.lane n := (rfl)
@[simp] theorem Dev.onGroup_lane (g : Nat) (f : Group → Group) : (d.onGroup g f).lane n = d.lane n := (rfl)
@[simp] theorem Dev.onHlt_lane (f : Health → Health) : (d.onHlt f).lane n = d.lane n := (rfl)
@[simp] theorem Dev.onPwr_lane (f : Power → Power) : (d.onPwr f).lane n = d.lane n := (rfl)
@[simp] theorem Dev.onBbx_lane (f : BlackBox → BlackBox) : (d.onBbx f).lane n = d.lane n := (rfl)
@[simp] theorem Dev.logEvent_lane (code kind idx : Nat) (data : List Byte) : (d.logEvent code kind idx data).lane n = d.lane n := by
  simp [Dev.lane]
@[simp] theorem Dev.bbxTrigger_lane (kind : Nat) : (d.bbxTrigger kind).lane n = d.lane n := by simp [Dev.lane]

variable {d n}

theorem Dev.lane_onLane (h : n < d.lanes.length) (f : Lane → Lane) : (d.onLane n f).lane n = f (d.lane n) := by
  simp [Dev.lane, h]

theorem Dev.lane_onAcq (h : n < d.lanes.length) (f : Acq → Acq) :
    (d.onAcq n f).lane n = { d.lane n with acq := f (d.lane n).acq } := Dev.lane_onLane h _

theorem Dev.lane_onTrk (h : n < d.lanes.length) (f : Tracker → Tracker) :
    (d.onTrk n f).lane n = { d.lane n with trk := f (d.lane n).trk } := Dev.lane_onLane h _

theorem Dev.lane_onMap (h : n < d.lanes.length) (f : MapSt → MapSt) :
    (d.onMap n f).lane n = { d.lane n with map := f (d.lane n).map } := Dev.lane_onLane h _

theorem Dev.lane_onPrf (h : n < d.lanes.length) (f : PrfLane → PrfLane) :
    (d.onPrf n f).lane n = { d.lane n with prf := f (d.lane n).prf } := Dev.lane_onLane h _

end

/-! ### Lane faults and what they leave behind (R18) -/

section
variable {d : Dev} {n : Nat}

/-- A lane that is neither OFF nor in FAULT enters FAULT with its code (R19). -/
theorem Dev.laneFault_enters (h : n < d.lanes.length) (h0 : (d.lane n).st ≠ .off) (h1 : (d.lane n).st ≠ .fault) (code arg : Nat) :
    (d.laneFault n code arg).lane n =
      { d.lane n with st := .fault, faultCode := code, causes := [⟨code, d.now, arg⟩] } := by
  simp [Dev.laneFault, h0, h1, Dev.lane_onLane h]

/-- What the end of RUN, the learner, the tracker and the outputs change of a lane but its own state. -/
def May.settling : May := { logs with acq := every, trk := every, map := every, loop := every, prf := every, emu := every,
                                      reg := fun i k => i = .emuStat || i = .emuCnt || i = .trkCnt || words 0 [.bbxStat] i k }

section
variable (n : Nat)
@[simp] theorem May.settling_acq : May.settling.acq n = true := (rfl)
@[simp] theorem May.settling_trk : May.settling.trk n = true := (rfl)
@[simp] theorem May.settling_map : May.settling.map n = true := (rfl)
@[simp] theorem May.settling_loop : May.settling.loop n = true := (rfl)
@[simp] theorem May.settling_prf : May.settling.prf n = true := (rfl)
@[simp] theorem May.settling_bbx : May.settling.bbx = true := (rfl)
@[simp] theorem May.settling_trkCnt : May.settling.reg .trkCnt n = true := (rfl)
@[simp] theorem May.settling_bbxStat : May.settling.reg .bbxStat 0 = true := (rfl)
@[simp] theorem May.settling_outputs (d : Dev) : May.settling.outputs d n := .inl fun _ => ⟨rfl, rfl, rfl⟩
end

/-- What follows from a lane's state leaves the state and its causes; outside RUN its work is discarded. -/
theorem Dev.settleLane_own (h : n < d.lanes.length) (hst : (d.lane n).st ≠ .run) :
    ((d.settleLane n).lane n).own = { (d.lane n).own with work := none } := by
  have hdrop : Within .settling (d.onLane n fun l => { l with work := none }) (d.loopLeave n) := by
    simp [Dev.loopLeave, Dev.onLoop, Lane.own]
  have hrest : Within .settling (d.loopLeave n) (d.settleLane n) := by
    have hm : Within .settling (d.loopLeave n) (((d.loopLeave n).mapLaneState n).retrack n) := by simp
    simp [Dev.settleLane, hst, hm]
  rw [hrest.lane n rfl, hdrop.lane n rfl, Dev.lane_onLane h]
  rfl

/-- A lane that is in FAULT stays there, with its code, as the consequences follow. -/
theorem Dev.settleFault_faulted (h : n < d.lanes.length) (hst : (d.lane n).st = .fault) :
    ((d.settleFault n).lane n).st = .fault ∧ ((d.settleFault n).lane n).faultCode = (d.lane n).faultCode := by
  have hown := Dev.settleLane_own h (by simp [hst])
  rw [Dev.settleFault, if_pos hst]
  exact ⟨(congrArg Lane.st hown).trans hst, congrArg (fun l => l.faultCode) hown⟩

/-- No consequence of a fault gives a lane work that it had not. -/
theorem Dev.settleFault_work (h : n < d.lanes.length) (hw : (d.lane n).work = none) : ((d.settleFault n).lane n).work = none := by
  unfold Dev.settleFault
  split
  next hst => exact congrArg Lane.work (Dev.settleLane_own h (by simp [hst]))
  next => exact hw

end

end Sys2Proof.Machine
end

section
/-! What a commit junction stages again: register words, and nothing else (R12). -/
namespace Sys2Proof.Machine
open Sys2Proof

/-! ### The frame of everything but -/

/-- Everything may change but what `m` names; no barrier comes up. -/
def May.but (m : May) : May where
  reg i k := !m.reg i k
  lane n := !m.lane n
  acq n := !m.acq n
  trk n := !m.trk n
  map n := !m.map n
  loop n := !m.loop n
  prf n := !m.prf n
  group n := !m.group n
  port n := !m.port n
  pin n := !m.pin n
  mls n := !m.mls n
  emu n := !m.emu n
  cluster n := !m.cluster n
  vm n := !m.vm n
  pfe n := !m.pfe n
  safLane n := !m.safLane n
  conn n := !m.conn n
  saf := !m.saf
  crit := !m.crit
  time := !m.time
  bbx := !m.bbx
  hlt := !m.hlt
  pwr := !m.pwr
  trc := !m.trc
  staged := !m.staged
  ro := !m.ro
  serve := !m.serve

section
variable (m : May)

@[simp] theorem May.but_reg (i : RegId) (k : Nat) : m.but.reg i k = !m.reg i k := (rfl)
@[simp] theorem May.but_lane (n : Nat) : m.but.lane n = !m.lane n := (rfl)
@[simp] theorem May.but_acq (n : Nat) : m.but.acq n = !m.acq n := (rfl)
@[simp] theorem May.but_trk (n : Nat) : m.but.trk n = !m.trk n := (rfl)
@[simp] theorem May.but_map (n : Nat) : m.but.map n = !m.map n := (rfl)
@[simp] theorem May.but_loop (n : Nat) : m.but.loop n = !m.loop n := (rfl)
@[simp] theorem May.but_prf (n : Nat) : m.but.prf n = !m.prf n := (rfl)
@[simp] theorem May.but_group (n : Nat) : m.but.group n = !m.group n := (rfl)
@[simp] theorem May.but_port (n : Nat) : m.but.port n = !m.port n := (rfl)
@[simp] theorem May.but_pin (n : Nat) : m.but.pin n = !m.pin n := (rfl)
@[simp] theorem May.but_mls (n : Nat) : m.but.mls n = !m.mls n := (rfl)
@[simp] theorem May.but_emu (n : Nat) : m.but.emu n = !m.emu n := (rfl)
@[simp] theorem May.but_cluster (n : Nat) : m.but.cluster n = !m.cluster n := (rfl)
@[simp] theorem May.but_vm (n : Nat) : m.but.vm n = !m.vm n := (rfl)
@[simp] theorem May.but_pfe (n : Nat) : m.but.pfe n = !m.pfe n := (rfl)
@[simp] theorem May.but_safLane (n : Nat) : m.but.safLane n = !m.safLane n := (rfl)
@[simp] theorem May.but_conn (n : Nat) : m.but.conn n = !m.conn n := (rfl)
@[simp] theorem May.but_saf : m.but.saf = !m.saf := (rfl)
@[simp] theorem May.but_crit : m.but.crit = !m.crit := (rfl)
@[simp] theorem May.but_time : m.but.time = !m.time := (rfl)
@[simp] theorem May.but_bbx : m.but.bbx = !m.bbx := (rfl)
@[simp] theorem May.but_hlt : m.but.hlt = !m.hlt := (rfl)
@[simp] theorem May.but_pwr : m.but.pwr = !m.pwr := (rfl)
@[simp] theorem May.but_trc : m.but.trc = !m.trc := (rfl)
@[simp] theorem May.but_staged : m.but.staged = !m.staged := (rfl)
@[simp] theorem May.but_ro : m.but.ro = !m.ro := (rfl)
@[simp] theorem May.but_serve : m.but.serve = !m.serve := (rfl)

variable {m}

@[simp] theorem May.but_outputs (h : ∀ o, m.emu o = false ∧ m.reg .emuStat o = false ∧ m.reg .emuCnt o = false) (d : Dev) (n : Nat) :
    m.but.outputs d n := .inl fun o => by simp [h o]

@[simp] theorem May.but_detour
    (h : ∀ n, m.trk n = false ∧ m.lane n = false ∧ m.acq n = false ∧ m.loop n = false ∧ m.map n = false)
    (ho : ∀ o, m.emu o = false ∧ m.reg .emuStat o = false ∧ m.reg .emuCnt o = false) (d : Dev) (i : Nat) :
    m.but.detour d i := .inl fun n => by simp [h n, ho]

@[simp] theorem May.but_mlsOf (h : ∀ j, m.mls j = false ∧ m.reg .mlsCnt j = false ∧ m.reg .mlsStat j = false) (d : Dev) (i : Nat) :
    m.but.mlsOf d i := .inl fun j => by simp [h j]

end

/-- Everything may change but what is staged. -/
abbrev May.noStaged : May := May.but { staged := true }

/-! ### What joins the staged actions -/

/-- What joins the staged actions is a register word. -/
def Dev.Restages (d e : Dev) : Prop := ∀ x ∈ e.staged, x ∈ d.staged ∨ x.regOf.isSome = true

theorem Dev.Restages.of_staged {d e : Dev} (h : e.staged = d.staged) : d.Restages e := fun _ hx => .inl (h ▸ hx)

theorem Dev.Restages.trans {d e f : Dev} (h : d.Restages e) (g : e.Restages f) : d.Restages f :=
  fun x hx => (g x hx).elim (h x) .inr

/-- An operation that stages nothing leaves what was staged. -/
theorem Dev.Restages.within {d e f : Dev} (h : d.Restages e) (g : Within .noStaged e f) : d.Restages f :=
  h.trans (.of_staged (g.staged rfl))

theorem Dev.Restages.forEach {f : Nat → Dev → Dev} (h : ∀ n d, Dev.Restages d (f n d)) (l : List Nat) (d : Dev) :
    d.Restages (d.forEach l f) := by
  unfold Dev.forEach
  induction l generalizing d with
  | nil => exact .of_staged rfl
  | cons n l ih => exact (h n d).trans (ih _)

/-- The words of a commit in order, each put in place or refused, stage nothing. -/
theorem Dev.foldl_staged {α : Type} {f : Dev → α → Dev} (h : ∀ e s, (f e s).staged = e.staged) (es : List α) (d : Dev) :
    (es.foldl f d).staged = d.staged := by
  induction es generalizing d with
  | nil => rfl
  | cons s es ih => exact (ih _).trans (h d s)

theorem Dev.commitRegs_restages {d : Dev} {es : List Staged} {hold : RegId → Nat → Word → Word} {ok : Dev → Bool} {err : Dev → Dev}
    (herr : ∀ e, (err e).staged = e.staged) : d.Restages (d.commitRegs es hold ok err) := by
  unfold Dev.commitRegs
  extract_lets es put kept all e
  have hput (e : Dev) (s : Staged) : (put e s).staged = e.staged := by
    unfold put
    split <;> rfl
  have he : e.staged = d.staged := by
    unfold e
    split
    · exact Dev.foldl_staged hput _ _
    · refine Dev.foldl_staged (fun e s => ?_) _ _
      dsimp only
      split
      · exact hput e s
      · exact herr e
  refine fun x hx => (List.mem_append.mp hx).elim (fun hx => .inr ?_) fun hx => .inl (he ▸ hx)
  obtain ⟨s, hs, rfl⟩ := List.mem_map.mp hx
  have hkept := (List.mem_filter.mp hs).2
  cases hr : s.regOf with
  | none => simp [hr] at hkept
  | some w => exact congrArg Option.isSome hr

theorem Dev.commitSet_restages {d : Dev} {es : List Staged} {hold : RegId → Nat → Word → Word} {ok : Dev → Bool} {err : Dev → Dev}
    (herr : ∀ e, (err e).staged = e.staged) : d.Restages (d.commitSet es hold ok err) := by
  unfold Dev.commitSet
  dsimp only
  split
  · exact Dev.commitRegs_restages fun _ => rfl
  · exact .of_staged (herr d)

theorem Dev.excCommit_restages (d : Dev) (g : Nat) (es : List Staged) : d.Restages (d.excCommit g es) := by
  unfold Dev.excCommit
  dsimp only
  generalize h : d.commitSet es _ _ _ = e
  refine (h ▸ Dev.commitSet_restages fun _ => rfl : d.Restages e).within ?_
  (repeat' split) <;> simp

theorem Dev.commitAcq_restages (d : Dev) (n : Nat) (es : List Staged) : d.Restages (d.commitAcq n es) := by
  unfold Dev.commitAcq
  dsimp only
  generalize h : d.commitRegs es _ _ _ = e
  exact (h ▸ Dev.commitRegs_restages fun _ => rfl : d.Restages e).within (Dev.acqCfgApply_within _ _ _ (.refl _ _) (by simp))

theorem Dev.commitTrk_restages (d : Dev) (n : Nat) (es : List Staged) : d.Restages (d.commitTrk n es) := by
  unfold Dev.commitTrk
  dsimp only
  generalize h : d.commitRegs es _ _ _ = e
  refine (h ▸ Dev.commitRegs_restages fun _ => rfl : d.Restages e).within ?_
  apply Dev.rejudgeDetour_within
  case h =>
    split
    · split <;> simp
    · apply Dev.mapPolesChanged_within
      case h => split <;> simp
      all_goals simp
  all_goals simp

theorem Dev.commitLoop_restages (d : Dev) (n : Nat) (es : List Staged) : d.Restages (d.commitLoop n es) := by
  unfold Dev.commitLoop
  exact (Dev.commitRegs_restages fun _ => by rfl).trans (Dev.commitRegs_restages fun _ => by rfl)

theorem Dev.commitPin_restages (d : Dev) (i : Nat) (es : List Staged) : d.Restages (d.commitPin i es) := by
  unfold Dev.commitPin
  dsimp only
  generalize h : d.commitRegs es _ _ _ = e
  refine (h ▸ Dev.commitRegs_restages fun _ => rfl : d.Restages e).within ?_
  (repeat' split) <;> simp

theorem Dev.commitEmu_restages (d : Dev) (o : Nat) (es : List Staged) : d.Restages (d.commitEmu o es) := by
  unfold Dev.commitEmu
  dsimp only
  generalize h : d.commitRegs es _ _ _ = e
  refine (h ▸ Dev.commitRegs_restages fun _ => rfl : d.Restages e).within ?_
  apply Dev.emuBacklog_within
  case h =>
    apply Dev.emuRefresh_within
    case h => split <;> simp
    all_goals simp
  all_goals simp

theorem Staged.regOf_isSome_of_mem_unitWords {x : Staged} {es : List Staged} {b : Block} {u : Nat} (h : x ∈ unitWords es b u) :
    x.regOf.isSome = true := by
  have hx := (List.mem_filter.mp h).2
  cases hr : x.regOf with
  | none => simp [Staged.blockUnit, hr] at hx
  | some w => rfl

theorem Dev.pfeCommit_restages {d : Dev} {es : List Staged} (c : Nat) (hes : ∀ x ∈ es, x.regOf.isSome = true) :
    d.Restages (d.pfeCommit c es) := by
  unfold Dev.pfeCommit
  split
  · exact .of_staged rfl
  · split
    · refine fun x hx => (List.mem_append.mp hx).elim (fun hx => .inr ?_) .inl
      obtain ⟨s, hs, rfl⟩ := List.mem_map.mp hx
      exact hes s hs
    · extract_lets put e
      have he : d.Restages e := by
        refine .trans (.within (.of_staged rfl) (f := d.pairReset c) (by simp)) (.of_staged ?_)
        refine Dev.foldl_staged (fun e s => ?_) es _
        unfold put
        split <;> rfl
      split
      · have hr : Within .noStaged e (e.pfeRestart c) := by simp
        refine he.within (Dev.logEvent_within _ _ _ _ _ ?_ (by simp) (by simp))
        split
        · exact hr
        · exact hr.onPfe _ _ (by simp)
      · exact .within (.of_staged rfl) (by simp)

/-- What the words of a commit stage again are words. -/
theorem Dev.commitWords_restages (d : Dev) (es : List Staged) : d.Restages (d.commitWords es) := by
  have hrun {d e : Dev} (b : Block) (count : Nat) (f : Dev → Nat → List Staged → Dev) (h : d.Restages e)
      (hf : ∀ e n, Dev.Restages e (f e n (unitWords es b n))) :
      d.Restages (e.forEach (blockUnits es b count) fun u d => f d u (unitWords es b u)) :=
    h.trans (.forEach (fun _ _ => hf _ _) _ _)
  have hregs (e : Dev) (l : List Staged) (hold : RegId → Nat → Word → Word) (ok : Dev → Bool) (i : RegId) (k b : Nat) :
      e.Restages (e.commitRegs l hold ok fun e => e.setFlag i k b) := Dev.commitRegs_restages fun _ => rfl
  unfold Dev.commitWords
  dsimp only
  refine hrun .trkCmd 96 Dev.commitTrkCmd ?_ fun e n => .within (.of_staged rfl) (by simp)
  refine hrun .pfeCmd 8 Dev.commitPfeCmd ?_ fun e n => .within (.of_staged rfl) (by simp)
  refine hrun .pfe 8 Dev.pfeCommit ?_ fun e n => Dev.pfeCommit_restages _ fun x hx => ?_
  refine hrun .emu 24 Dev.commitEmu ?_ fun e n => Dev.commitEmu_restages _ _ _
  refine hrun .mls 32 (fun d j es => d.commitRegs es noHold (fun e => e.mlsCfgOk j) (fun e => e.setFlag .mlsStat j 10)) ?_
    fun e n => hregs _ _ _ _ _ _ _
  refine hrun .pin 32 Dev.commitPin ?_ fun e n => Dev.commitPin_restages _ _ _
  refine hrun .prf 96 (fun d n es => d.commitRegs es noHold (fun e => e.prfCfgOk n) (fun e => e.setFlag .prfStat n 11)) ?_
    fun e n => hregs _ _ _ _ _ _ _
  refine hrun .loop 96 Dev.commitLoop ?_ fun e n => Dev.commitLoop_restages _ _ _
  refine hrun .map 96 (fun d n es => d.commitRegs es noHold (fun e => e.mapCfgOk n) id) ?_
    fun e n => Dev.commitRegs_restages fun _ => rfl
  refine hrun .trk 96 Dev.commitTrk ?_ fun e n => Dev.commitTrk_restages _ _ _
  refine hrun .acq 96 Dev.commitAcq ?_ fun e n => Dev.commitAcq_restages _ _ _
  refine hrun .exc 12 Dev.excCommit ?_ fun e n => Dev.excCommit_restages _ _ _
  · exact .within (.of_staged rfl) (by simp)
  · exact Staged.regOf_isSome_of_mem_unitWords hx

end Sys2Proof.Machine
end

section
/-! The events of the frame (R42, R173, R174, R192, R193, R205, R226, R230). -/
namespace Sys2Proof.Machine
open Sys2Proof

section
variable {d : Dev} {n : Nat}

theorem Within.lanes_length {m : May} {d e : Dev} (h : Within m d e) : e.lanes.length = d.lanes.length := by
  have hs := h.shape
  simp only [Dev.shape, List.cons_append, List.cons.injEq] at hs
  exact hs.2.1

/-- What no turn of a sweep changes stands after it. -/
theorem Dev.forEach_eq {β : Type} (g : Dev → β) {f : Nat → Dev → Dev} (h : ∀ i e, g (f i e) = g e) (l : List Nat) (d : Dev) :
    g (d.forEach l f) = g d := by
  unfold Dev.forEach
  induction l generalizing d with
  | nil => rfl
  | cons i l ih => exact (ih _).trans (h i d)

theorem Dev.reg_setFld_ne (d : Dev) {i j : RegId} {k l lo w v : Nat} (h : ¬(j = i ∧ l = k)) :
    (d.setFld i k lo w v).reg j l = d.reg j l := Dev.reg_setReg_ne d _ h

theorem Dev.reg_setFlagIf_ne (d : Dev) {c : Bool} {i j : RegId} {k l b : Nat} (h : ¬(j = i ∧ l = k)) :
    (d.setFlagIf c i k b).reg j l = d.reg j l := by
  unfold Dev.setFlagIf
  split
  · exact Dev.reg_setFlag_ne d h
  · rfl

/-- Everything may change but register `i`. -/
abbrev May.sparing (i : RegId) : May := May.but { reg := fun j _ => j = i }

/-! ### Late work (R42) -/

theorem Dev.completeWork_work (h : n < d.lanes.length) (late : Bool) : ((d.completeWork n late).lane n).work = none := by
  unfold Dev.completeWork
  split
  · assumption
  · dsimp only
    rw [Dev.forEach_eq (fun e => (e.lane n).work) fun _ _ => by simp]
    simp [Dev.lane_onLane h]

theorem Dev.completeWork_of_none (hw : (d.lane n).work = none) (late : Bool) : d.completeWork n late = d := by
  simp [Dev.completeWork, hw]

theorem Dev.completeWork_velDem {w : LaneWork} (hw : (d.lane n).work = some w) (late : Bool) :
    (d.completeWork n late).reg .velDem n = w.vals.velDem := by
  simp only [Dev.completeWork, hw]
  rw [Dev.forEach_eq (fun e => e.reg .velDem n) fun _ _ => Dev.reg_setReg_ne _ _ (by simp)]
  simp [Dev.reg_setFlagIf_ne, Dev.reg_setFld_ne, Dev.reg_setReg]

theorem Dev.followingError_work (h : n < d.lanes.length) : ((d.followingError n).lane n).work = (d.lane n).work := by
  unfold Dev.followingError
  dsimp only
  split
  next hc => simp [Dev.laneFault_enters h (by simp [hc.1]) (by simp [hc.1])]
  next => rfl

theorem Dev.followingError_of_not_run (h : (d.lane n).st ≠ .run) : d.followingError n = d := by
  simp [Dev.followingError, h]

@[simp] theorem Dev.laneFault_lanes_length (code arg : Nat) : (d.laneFault n code arg).lanes.length = d.lanes.length :=
  Within.lanes_length (m := .noTime) (by simp)

/-- A fault of the engine takes a lane in RUN to FAULT, with its code, and discards its work (R192). -/
theorem Dev.engineFault_run (h : n < d.lanes.length) (hrun : (d.lane n).st = .run) (code ev : Nat) (data : List Byte) :
    ((d.engineFault n code ev data).lane n).st = .fault ∧ ((d.engineFault n code ev data).lane n).faultCode = code ∧
      ((d.engineFault n code ev data).lane n).work = none := by
  have hf := Dev.laneFault_enters h (by simp [hrun]) (by simp [hrun]) code 0
  have hl : n < (((d.laneFault n code).logEvent ev kLane n data).addCnt .safCnt n 0 16).lanes.length := by simpa using h
  have hlane : (((d.laneFault n code).logEvent ev kLane n data).addCnt .safCnt n 0 16).lane n =
      { d.lane n with st := .fault, faultCode := code, causes := [⟨code, d.now, 0⟩] } := by simp [hf]
  have hst := congrArg Lane.st hlane
  have hown := Dev.settleLane_own hl (by rw [hst]; simp)
  unfold Dev.engineFault Dev.settleFault
  rw [if_pos hst]
  rw [hlane] at hown
  exact ⟨congrArg Lane.st hown, congrArg (fun l => l.faultCode) hown, congrArg Lane.work hown⟩

/-- The end of late work: without work, and with the velocity demand that the work found, if nothing disturbed it. -/
theorem Dev.lateComplete_kept {w : LaneWork} (h : n < d.lanes.length) (hdue : d.time.outDue = false)
    (hw : (d.lane n).work = some w) :
    (((d.lateComplete n).settleFault n).lane n).work = none ∧
      (w.found = [] → ((d.lateComplete n).settleFault n).reg .velDem n = w.vals.velDem) := by
  simp only [Dev.lateComplete, hdue, hw]
  constructor
  · have hd : Within .noTime d ((w.found.filter fun x => disturbLane x = n).foldl Dev.disturb d) := by
      refine Within.foldl (.refl _ _) _ _ fun e x he => ?_
      simp [he]
    generalize (w.found.filter fun x => disturbLane x = n).foldl Dev.disturb d = e at hd ⊢
    have hl : n < e.lanes.length := by rwa [hd.lanes_length]
    have hl' : n < (e.completeWork n true).lanes.length := by
      rwa [Within.lanes_length (m := .noTime) (d := e) (by simp)]
    have hl'' : n < ((e.completeWork n true).followingError n).lanes.length := by
      rwa [Within.lanes_length (m := .noTime) (d := e.completeWork n true) (by simp)]
    have hnone : (((e.completeWork n true).followingError n).lane n).work = none :=
      (Dev.followingError_work hl').trans (Dev.completeWork_work hl true)
    have hl3 : n < (((e.completeWork n true).followingError n).settleFault n).lanes.length := by
      rwa [Within.lanes_length (m := .noTime) (d := (e.completeWork n true).followingError n) (by simp)]
    exact Dev.settleFault_work hl3 (Dev.settleFault_work hl'' hnone)
  · intro hf
    have hd : Within (.sparing .velDem) (d.completeWork n true) ((((d.completeWork n true).followingError n).settleFault n).settleFault n) := by
      have hs : Within (.sparing .velDem) (d.completeWork n true) (((d.completeWork n true).followingError n).settleFault n) := by
        simp
      simp [hs]
    rw [hf]
    exact (hd.reg _ _ (by simp)).trans (Dev.completeWork_velDem hw true)

/-- A result that the engine could not compute takes the lane to FAULT with code 0x31 (R192). -/
theorem Dev.disturb_resFail (hn : hasLane n d = true) (h : n < d.lanes.length) (hrun : (d.lane n).st = .run) (stage : Nat) :
    ((d.disturb (.resFail n stage)).lane n).st = .fault ∧ ((d.disturb (.resFail n stage)).lane n).faultCode = 0x31 ∧
      ((d.disturb (.resFail n stage)).lane n).work = none := by
  have hc : ¬((d.lane n).st ≠ .run ∨ !hasLane n d) := by simp [hrun, hn]
  have he : d.disturb (.resFail n stage) =
      ((d.addCnt .engRetry (clusterOf n) 0 32).addCnt .engFail (clusterOf n) 16 16).engineFault n 0x31 0x0431
        (ev4 stage ++ ev4 d.frmSeq) := by
    unfold Dev.disturb
    dsimp only [disturbLane]
    rw [if_neg hc]
    rfl
  rw [he]
  exact Dev.engineFault_run (by simpa using h) (by simpa using hrun) _ _ _

theorem Dev.lateComplete_resFail {w : LaneWork} {stage : Nat} (hn : hasLane n d = true) (h : n < d.lanes.length)
    (hdue : d.time.outDue = false) (hw : (d.lane n).work = some w) (hf : w.found = [.resFail n stage])
    (hrun : (d.lane n).st = .run) :
    (((d.lateComplete n).settleFault n).lane n).st = .fault ∧ (((d.lateComplete n).settleFault n).lane n).faultCode = 0x31 ∧
      ((d.lateComplete n).settleFault n).reg .dmdOut n = d.reg .dmdOut n := by
  obtain ⟨hst, hcode, hnone⟩ := Dev.disturb_resFail hn h hrun stage
  have hd : Within (.sparing .dmdOut) d (d.disturb (.resFail n stage)) := by simp
  have hl : n < (d.disturb (.resFail n stage)).lanes.length := by rwa [hd.lanes_length]
  have he : d.lateComplete n = (d.disturb (.resFail n stage)).settleFault n := by
    simp only [Dev.lateComplete, hdue, hw, hf, disturbLane, decide_true, List.filter_cons_of_pos, List.filter_nil, List.foldl_cons,
      List.foldl_nil]
    rw [Dev.completeWork_of_none hnone, Dev.followingError_of_not_run (by simp [hst])]
  generalize d.disturb (.resFail n stage) = e at *
  have hs := Dev.settleFault_faulted hl hst
  have hw1 : Within (.sparing .dmdOut) e (e.settleFault n) := by simp
  have hw2 : Within (.sparing .dmdOut) (e.settleFault n) ((e.settleFault n).settleFault n) := by simp
  have hs' := Dev.settleFault_faulted (hw1.lanes_length ▸ hl) hs.1
  rw [he]
  exact ⟨hs'.1, hs'.2.trans (hs.2.trans hcode), (hw2.reg _ _ (by simp)).trans ((hw1.reg _ _ (by simp)).trans (hd.reg _ _ (by simp)))⟩

/-! ### Following error and trim source (R173, R174) -/

/-- A lane fault outside OFF and FAULT stands as what follows from it is done. -/
theorem Dev.laneFault_settled (h : n < d.lanes.length) (hrun : (d.lane n).st = .run) {code : Nat} {e : Dev}
    (he : e.lane n = (d.laneFault n code).lane n) (hl : e.lanes.length = d.lanes.length) :
    ((e.settleFault n).lane n).st = .fault ∧ ((e.settleFault n).lane n).faultCode = code := by
  have hf := he.trans (Dev.laneFault_enters h (by simp [hrun]) (by simp [hrun]) code 0)
  have hs := Dev.settleFault_faulted (hl ▸ h) (congrArg Lane.st hf)
  exact ⟨hs.1, hs.2.trans (congrArg (fun l => l.faultCode) hf)⟩

theorem Dev.followingError_settled (h : n < d.lanes.length) (hrun : (d.lane n).st = .run) (hb : d.regBit .loopStat n 10 = true)
    (hfe : d.fld .feN n 0 8 ≤ (d.loop n).run.feCnt) :
    (((d.followingError n).settleFault n).lane n).st = .fault ∧ (((d.followingError n).settleFault n).lane n).faultCode = 0x20 := by
  rw [Dev.followingError, if_pos ⟨hrun, hb, hfe⟩]
  exact Dev.laneFault_settled h hrun (by simp) (by simp)

theorem Dev.trimFault_settled (h : n < d.lanes.length) (hrun : (d.lane n).st = .run) (hb : d.regBit .trmCtrl n 9 = true)
    (hhold : (d.loop n).trmHold = true) (htrm : d.fld .trmCtrl n 16 8 ≤ (d.loop n).trmBad) :
    (((d.trimFault n).settleFault n).lane n).st = .fault ∧ (((d.trimFault n).settleFault n).lane n).faultCode = 0x21 := by
  rw [Dev.trimFault, if_pos ⟨hrun, hb, hhold, htrm⟩]
  exact Dev.laneFault_settled h hrun rfl (by simp)

/-! ### Timed commands (R230) -/

theorem Staged.expand_ne_nil (x : Staged) : x.expand ≠ [] := by
  unfold Staged.expand
  split
  · unfold limitsWords
    split <;> simp
  · simp

/-- No timed command of lane `n` whose frame has come stays staged. -/
theorem Dev.timedDue_waits {x : Staged} (hx : x ∈ (d.timedDue n).staged) (hg : x.inGroup = false) {v : PrfCmd} {u : Bool} {j : Nat}
    (ha : x.act = .prf n v u (some j)) : d.time.k.getD 0 < j := by
  have hword : ¬x.regOf.isSome = true := by simp [Staged.regOf, ha]
  unfold Dev.timedDue at hx
  extract_lets k mine es e f at hx
  have hmine (hx : x ∈ d.staged) (hm : mine x = false) : k < j := by
    simpa [mine, hg, ha] using hm
  split at hx
  next hes =>
    refine hmine hx (Bool.eq_false_iff.mpr fun hm => ?_)
    exact x.expand_ne_nil (List.flatMap_eq_nil_iff.mp hes x (List.mem_filter.mpr ⟨hx, hm⟩))
  next =>
    have hf : e.Restages f := (Dev.commitWords_restages e es).within (Dev.commitMasters_within _ _ (.refl _ _) (by simp) (by simp) (by simp) (by simp))
    have hx' : x ∈ f.staged := by
      split at hx
      · exact hx
      · have hp : Within .noStaged f (f.prfCommands n f.time.t0 (prfDue es n) none none) := by simp
        exact hp.staged rfl ▸ hx
    have hkept := List.mem_filter.mp ((hf x hx').resolve_right hword)
    exact hmine hkept.1 (by simpa using hkept.2)

/-! ### The gear source (R226) -/

theorem Dev.masterTimeout_stops {x : Gear} (h : n < d.lanes.length) (hx : (d.gen n).gear = some x)
    (hlost : d.fld .prfCtrl n 16 16 < x.lost) :
    ((d.masterTimeout n).gen n).kind = .quickStop ∧ ((d.masterTimeout n).gen n).gear = none ∧ ((d.masterTimeout n).gen n).wps = [] := by
  simp only [Dev.masterTimeout, hx, hlost, if_true]
  simp [Dev.gen, Dev.prfStop, Dev.onGen, Dev.lane_onPrf h, Profile.merged]

/-! ### Self-test and capture (R193, R205) -/

theorem Dev.selfTest_passed {c : Nat} (h : c < d.clusters.length) (started : Time) :
    ((d.selfTest c started none).clusters.getD c {}).stOk = true ∧
      ((d.selfTest c started none).clusters.getD c {}).passStart = some started := by
  simp [Dev.selfTest, h]

/-- What the end of a probation changes. -/
def May.rollback : May := { logs with port := every, hlt := true, staged := true, reg := words 0 [.bbxStat, .fwCnt, .hltStat] }

theorem Dev.selfTest_failed {c : Nat} (h : c < d.clusters.length) (started : Time) (k : Nat) :
    ((d.selfTest c started (some k)).clusters.getD c {}).stOk = false := by
  have hw (e : Dev) : Within .rollback e ((e.logEvent 0x0435 kCluster c (ev4 k)).probationFails 7) :=
    Dev.probationFails_within _ _ (Dev.logEvent_within _ _ _ _ _ (.refl _ _) rfl rfl) rfl rfl (fun _ => rfl) rfl rfl rfl rfl
  simp only [Dev.selfTest]
  rw [(hw _).cluster c rfl]
  simp [h]

theorem Dev.traceDone_trc (hst : d.trc.st = 2) (hroll : d.trcRoll = false) (hleft : d.trc.left = 0) :
    d.traceDone.trc = { d.trc with st := 3, frame := none } := by
  simp [Dev.traceDone, hst, hroll, hleft, Dev.onTrc]

end

/-- Settles O15: by lane, the fault and what follows from it; for the timed commands, that a commit stages only words again. -/
theorem frameEventsAct : Obligations.FrameEventsAct := by
  unfold Obligations.FrameEventsAct
  intro s t ha hs
  simp only [runs_iff, Machine.exec]
  refine ⟨fun n w hn hw hdue => ?_, fun n w stage hn hw hf hrun hdue => ?_, fun n hn => ?_, fun n hn hrun hb hfe => ?_,
    fun n hn hrun hb hhold htrm => ?_, fun n x hn hx hlost => ?_, fun c started hc => ?_, fun c started k hc => ?_, fun hst hroll hleft => ?_⟩
  · exact .onLaneEvent hn ha (Dev.lateComplete_kept (hs.lane_lt hn) hdue hw)
  · exact .onLaneEvent hn ha (Dev.lateComplete_resFail (d := s.dev.at t) hn (hs.lane_lt hn) hdue hw hf hrun)
  · refine .onEvent (by simp [hn]) ha fun x hx hg v u j hact => Dev.timedDue_waits hx hg hact
  · exact .onLaneEvent hn ha (Dev.followingError_settled (d := s.dev.at t) (hs.lane_lt hn) hrun hb hfe)
  · exact .onLaneEvent hn ha (Dev.trimFault_settled (d := s.dev.at t) (hs.lane_lt hn) hrun hb hhold htrm)
  · exact .onEvent hn ha (Dev.masterTimeout_stops (d := s.dev.at t) (hs.lane_lt hn) hx hlost)
  · exact .onEvent hc ha (Dev.selfTest_passed (d := s.dev.at t) (hs.cluster_lt hc) started)
  · exact .onEvent hc ha (Dev.selfTest_failed (d := s.dev.at t) (hs.cluster_lt hc) started k)
  · exact .onEvent rfl ha (Dev.traceDone_trc (d := s.dev.at t) hst hroll hleft)

end Sys2Proof.Machine
end

section
/-! The generator of an excitation group (R48, R63, R65). -/
namespace Sys2Proof.Machine
open Sys2Proof

variable {d : Dev} {g : Nat}

/-- Everything but the groups and their status words. -/
abbrev May.noGroup : May := May.but { group := every, reg := fun i _ => i = .excStat }

theorem Dev.group_onGroup (h : g < d.groups.length) (f : Group → Group) : (d.onGroup g f).group g = f (d.group g) := by
  simp [Dev.group, h]

@[simp] theorem Dev.logEvent_group (d : Dev) (code kind idx : Nat) (data : List Byte) (g : Nat) :
    (d.logEvent code kind idx data).group g = d.group g := by simp [Dev.group]
@[simp] theorem Dev.onHlt_group (d : Dev) (f : Health → Health) (g : Nat) : (d.onHlt f).group g = d.group g := (rfl)
@[simp] theorem Dev.setFld_group (d : Dev) (i : RegId) (k lo w v g : Nat) : (d.setFld i k lo w v).group g = d.group g := (rfl)

theorem Dev.rampComplete_running (h : g < d.groups.length) (hr : (d.group g).gen = .ramping)
    (ht : 16 * d.carrierPeriod g < ((d.now + 1 - (d.group g).rampT : Nat) : Rat)) :
    ((d.rampComplete g).group g).gen = .running ∧ ((d.rampComplete g).group g).short = false := by
  have hl (d : Dev) (n : Nat) : (d.losEnded n).group g = d.group g := Within.group (m := .noGroup) (by simp) _ rfl
  rw [Dev.rampComplete, if_neg (by simp [hr, ht]), Dev.forEach_eq (fun e => e.group g) fun _ _ => hl ..]
  simp [Dev.group, h]

/-- What a half-period makes of a running group (R63, R65). -/
def excJudged (x : Group) (lo hi peak : Nat) : Group :=
  if hi < peak then { x with gen := .shorted, short := true, isOpen := false }
  else { x with isOpen := decide (0 < lo ∧ peak < lo) }

theorem Dev.excHalfPeriod_group {peak : Nat} (h : g < d.groups.length) (hr : (d.group g).gen = .running) (hp : peak < 65536) :
    (d.excHalfPeriod g peak).group g = excJudged (d.group g) (d.fld .excIxs g 0 16) (d.fld .excIxs g 16 16) peak := by
  have hsat : satNat 16 peak = peak := by simp only [satNat]; omega
  have hfld (f : Health → Health) (lo w : Nat) : ((d.onHlt f).setFld .excStat g 16 16 peak).fld .excIxs g lo w =
      d.fld .excIxs g lo w := Dev.fld_setFld_ne _ _ (by simp)
  have hleave (e : Dev) : (e.leaveRunning g).group g = e.group g := Within.group (m := .noGroup) (by simp) _ rfl
  have hseen (e : Dev) : (e.openSeen g).group g = e.group g := Within.group (m := .noGroup) (by simp) _ rfl
  have hopen (e : Dev) (n : Nat) : (e.openLane n).group g = e.group g := Within.group (m := .noGroup) (by simp) _ rfl
  have hopens (e : Dev) : (e.forEach (lanesOfGroup g) fun n d => d.openLane n).group g = e.group g :=
    Dev.forEach_eq (fun e => e.group g) (fun n e => hopen e n) _ _
  rw [Dev.excHalfPeriod, if_neg (by simp [hr])]
  dsimp only
  rw [hsat, hfld, hfld]
  split
  next hs => 
    simp [Dev.excShort, hleave, Dev.group_onGroup, h, excJudged, hs]
  next hs =>
    split
    next hl =>
      split
      next ho =>
        rw [excJudged, if_neg hs, decide_eq_true hl.2, ← ho]
        simp [hseen]
      next => simp [Dev.excOpen, hseen, hopens, Dev.group_onGroup, h, excJudged, hs, hl.2]
    next hl =>
      rw [excJudged, if_neg hs, decide_eq_false fun hb => hl ⟨hr, hb⟩]
      simp [Dev.group_onGroup, h]

theorem Dev.excHalfPeriod_peak {peak : Nat} (hr : (d.group g).gen = .running) (hp : peak < 65536) :
    (d.excHalfPeriod g peak).fld .excStat g 16 16 = peak := by
  have hsat : satNat 16 peak = peak := by simp only [satNat]; omega
  rw [Dev.excHalfPeriod, if_neg (by simp [hr])]
  dsimp only
  rw [hsat]
  generalize he : (d.onHlt _).setFld .excStat g 16 16 peak = e
  have hpeak : e.fld .excStat g 16 16 = peak := by
    rw [← he, Dev.fld_setFld _ _ _ _ (by decide)]
    exact Nat.mod_eq_of_lt hp
  refine .trans (congrArg (fun w => field w 16 16) (Within.reg (m := .sparing .excStat) ?_ .excStat g (by simp))) hpeak
  (repeat' split) <;> simp

/-- Settles O16: the generator after a ramp and after a half-period, and that what follows leaves both. -/
theorem excitationEventsAct : Obligations.ExcitationEventsAct := by
  unfold Obligations.ExcitationEventsAct
  intro s t g ha hs hg
  simp only [runs_iff, Machine.exec]
  refine ⟨fun hr ht => .onEvent hg ha ?_, fun peak hr hp => .onEvent hg ha ?_⟩
  · exact Dev.rampComplete_running (d := s.dev.at t) (hs.group_lt hg) hr ht
  · have hw (e : Dev) : Within .noGroup e (e.forEach (lanesOfGroup g) fun n d => d.settleFault n) :=
      Within.forEach (.refl _ _) _ _ fun n e he => by simp [he]
    have hgroup := ((hw _).group g rfl).trans (Dev.excHalfPeriod_group (d := s.dev.at t) (hs.group_lt hg) hr hp)
    have hpeak := (congrArg (fun w => field w 16 16) ((hw _).reg .excStat g rfl)).trans
      (Dev.excHalfPeriod_peak (d := s.dev.at t) hr hp)
    refine ⟨hpeak, fun hhi => ?_, fun hlo => ?_⟩
    · rw [hgroup, excJudged, if_pos (by exact hhi)]
      exact ⟨rfl, rfl⟩
    · rw [hgroup, excJudged, if_neg (by simpa using hlo)]
      exact ⟨hr, by simp⟩

end Sys2Proof.Machine
end

section
/-! What acquisition, tracker and the consequences of a fault leave of a lane (R54, R62, R80, R405). -/
namespace Sys2Proof.Machine
open Sys2Proof

/-! ### Operations that leave a lane, or a part of it -/

/-- Everything but the lanes. -/
abbrev May.noLane : May := May.but { lane := every, acq := every, trk := every, map := every, loop := every, prf := every }

theorem Within.lane_eq {d e : Dev} (h : Within .noLane d e) (n : Nat) : e.lane n = d.lane n := by
  have hown := h.lane n rfl
  have hacq := h.acq n rfl
  have htrk := h.trk n rfl
  have hmap := h.map n rfl
  have hloop := h.loop n rfl
  have hprf := h.prf n rfl
  cases he : e.lane n
  cases hd : d.lane n
  simp_all [Lane.own]

section
variable (d : Dev) (n m : Nat)

@[simp] theorem Dev.emuFollow_lane (t : Time) (b : Bool) : (d.emuFollow n t b).lane m = d.lane m := Within.lane_eq (by simp) m
@[simp] theorem Dev.emuRefreshLane_lane : (d.emuRefreshLane n).lane m = d.lane m := Within.lane_eq (by simp) m
@[simp] theorem Dev.clipCheck_trk (x : Demod) : ((d.clipCheck n x).lane m).trk = (d.lane m).trk :=
  Within.trk (m := .but { trk := every }) (by simp) m rfl
@[simp] theorem Dev.rangeSample_trk (x : Demod) : ((d.rangeSample n x).lane m).trk = (d.lane m).trk :=
  Within.trk (m := .but { trk := every }) (by simp) m rfl
@[simp] theorem Dev.mapSample_trk (t : Time) (x y : Int) : ((d.mapSample n t x y).lane m).trk = (d.lane m).trk :=
  Within.trk (m := .but { trk := every }) (by simp) m rfl
@[simp] theorem Dev.mapLaneState_trk : ((d.mapLaneState n).lane m).trk = (d.lane m).trk :=
  Within.trk (m := .but { trk := every }) (by simp) m rfl
@[simp] theorem Dev.loopLeave_trk : ((d.loopLeave n).lane m).trk = (d.lane m).trk :=
  Within.trk (m := .but { trk := every }) (by simp) m rfl
@[simp] theorem Dev.mapSample_acq (t : Time) (x y : Int) : ((d.mapSample n t x y).lane m).acq = (d.lane m).acq :=
  Within.acq (m := .but { acq := every }) (by simp) m rfl
@[simp] theorem Dev.trackerUpdate_acq (t : Time) (x y : Int) : ((d.trackerUpdate n t x y).lane m).acq = (d.lane m).acq :=
  Within.acq (m := .but { acq := every }) (by simp) m rfl
@[simp] theorem Dev.coastUpdate_acq (t : Time) : ((d.coastUpdate n t).lane m).acq = (d.lane m).acq :=
  Within.acq (m := .but { acq := every }) (by simp) m rfl
@[simp] theorem Dev.loseLock_acq (c : Nat) : ((d.loseLock n c).lane m).acq = (d.lane m).acq :=
  Within.acq (m := .but { acq := every }) (by simp) m rfl
@[simp] theorem Dev.mapLaneState_acq : ((d.mapLaneState n).lane m).acq = (d.lane m).acq :=
  Within.acq (m := .but { acq := every }) (by simp) m rfl
@[simp] theorem Dev.loopLeave_acq : ((d.loopLeave n).lane m).acq = (d.lane m).acq :=
  Within.acq (m := .but { acq := every }) (by simp) m rfl
@[simp] theorem Dev.refreshTracking_acq : ((d.refreshTracking n).lane m).acq = (d.lane m).acq :=
  Within.acq (m := .but { acq := every }) (by simp) m rfl
@[simp] theorem Dev.losCleared_acq : ((d.losCleared n).lane m).acq = (d.lane m).acq :=
  Within.acq (m := .but { acq := every }) (by simp) m rfl

/-! ### The number of lanes -/

@[simp] theorem Dev.onLane_length (f : Lane → Lane) : (d.onLane n f).lanes.length = d.lanes.length := by simp
@[simp] theorem Dev.onAcq_length (f : Acq → Acq) : (d.onAcq n f).lanes.length = d.lanes.length := by simp [Dev.onAcq]
@[simp] theorem Dev.onTrk_length (f : Tracker → Tracker) : (d.onTrk n f).lanes.length = d.lanes.length := by simp [Dev.onTrk]
@[simp] theorem Dev.onMap_length (f : MapSt → MapSt) : (d.onMap n f).lanes.length = d.lanes.length := by simp [Dev.onMap]
@[simp] theorem Dev.clipCheck_length (x : Demod) : (d.clipCheck n x).lanes.length = d.lanes.length :=
  Within.lanes_length (m := .but {}) (by simp)
@[simp] theorem Dev.rangeSample_length (x : Demod) : (d.rangeSample n x).lanes.length = d.lanes.length :=
  Within.lanes_length (m := .but {}) (by simp)
@[simp] theorem Dev.clearReference_length : (d.clearReference n).lanes.length = d.lanes.length :=
  Within.lanes_length (m := .but {}) (by simp)
@[simp] theorem Dev.mapLaneState_length : (d.mapLaneState n).lanes.length = d.lanes.length :=
  Within.lanes_length (m := .but {}) (by simp)
@[simp] theorem Dev.loopLeave_length : (d.loopLeave n).lanes.length = d.lanes.length :=
  Within.lanes_length (m := .but {}) (by simp)
@[simp] theorem Dev.refreshTracking_length : (d.refreshTracking n).lanes.length = d.lanes.length :=
  Within.lanes_length (m := .but {}) (by simp)
@[simp] theorem Dev.confirmLos_length (c : Nat) : (d.confirmLos n c).lanes.length = d.lanes.length :=
  Within.lanes_length (m := .but {}) (by simp)

end

section
variable {d : Dev} {n : Nat}

/-! ### Fault consequences -/

/-- The tracker as the start and stop of tracking may leave it, if it ran before (R405). -/
def Tracker.Retracked (k k' : Tracker) : Prop :=
  ∃ x : Tracker, k' = { k with tracking := x.tracking, reacq := x.reacq, fastEnd := x.fastEnd, hist := x.hist, heldPos := x.heldPos,
                               posHeld := x.posHeld }

theorem Dev.refreshTracking_trk (h : n < d.lanes.length) (ht : (d.lane n).trk.tracking = true) :
    ((d.lane n).trk).Retracked (((d.refreshTracking n).lane n).trk) := by
  unfold Dev.refreshTracking
  extract_lets stop e f on
  obtain ⟨p, hp⟩ : ∃ p, (e.lane n).trk = { (d.lane n).trk with heldPos := p } := by
    unfold e
    split
    · exact ⟨_, by rw [Dev.holdPos, Dev.lane_onTrk h]⟩
    · exact ⟨_, rfl⟩
  have he : n < e.lanes.length := by
    unfold e
    split <;> simpa [Dev.holdPos] using h
  have hf : (f.lane n).trk = { (d.lane n).trk with heldPos := p, posHeld := stop } := by rw [Dev.lane_onTrk he, hp]
  have hlf : n < f.lanes.length := by simpa [f] using he
  have hk : ((d.lane n).trk).Retracked (f.lane n).trk := ⟨{ (d.lane n).trk with heldPos := p, posHeld := stop }, hf⟩
  split
  · exact hk
  next hne =>
    split
    next hon => exact absurd (by rw [hf]; exact hon.trans ht.symm) hne
    next =>
      refine ⟨{ (f.lane n).trk with tracking := false, reacq := .idle, fastEnd := none, hist := [] }, ?_⟩
      simp [Dev.stopTracking, Dev.lane_onTrk hlf, hf]

/-- A tracker that ran does not start again, so its acquisition stands too. -/
theorem Dev.retrack_lane (h : n < d.lanes.length) (ht : (d.lane n).trk.tracking = true) :
    ((d.lane n).trk).Retracked (((d.retrack n).lane n).trk) ∧ ((d.retrack n).lane n).acq = (d.lane n).acq := by
  simp [Dev.retrack, ht, Dev.refreshTracking_trk h ht]

theorem Dev.settleFault_tracking (h : n < d.lanes.length) (ht : (d.lane n).trk.tracking = true) :
    ((d.lane n).trk).Retracked (((d.settleFault n).lane n).trk) ∧ ((d.settleFault n).lane n).acq = (d.lane n).acq := by
  have hsame : ((d.lane n).trk).Retracked ((d.lane n).trk) := ⟨_, rfl⟩
  unfold Dev.settleFault
  split
  next hst =>
    have hr := Dev.retrack_lane (d := (d.loopLeave n).mapLaneState n) (n := n) (by simpa using h) (by simpa using ht)
    simpa [Dev.settleLane, hst] using hr
  next => exact ⟨hsame, rfl⟩

/-- What a start of the acquisition changes of it (R60). -/
def Acq.Restarted (a a' : Acq) : Prop :=
  ∃ x : Acq, a' = { a with phi := x.phi, fastEnd := x.fastEnd, coast := x.coast, ratioSum := x.ratioSum, ratioCnt := x.ratioCnt }

theorem Dev.settleFault_acq (h : n < d.lanes.length) : ((d.lane n).acq).Restarted ((d.settleFault n).lane n).acq := by
  have hsame : ((d.lane n).acq).Restarted ((d.lane n).acq) := ⟨_, rfl⟩
  unfold Dev.settleFault
  split
  next hst =>
    have hret (e : Dev) (he : n < e.lanes.length) : ((e.lane n).acq).Restarted ((e.retrack n).lane n).acq := by
      unfold Dev.retrack
      dsimp only
      split
      · refine ⟨(((e.refreshTracking n).acqStart n).lane n).acq, ?_⟩
        simp [Dev.acqStart, Dev.lane_onAcq, he]
      · simpa using ⟨_, rfl⟩
    have hr := hret ((d.loopLeave n).mapLaneState n) (by simpa using h)
    simpa [Dev.settleLane, hst] using hr
  next => exact hsame

end

end Sys2Proof.Machine
end

section
/-! Samples and carrier periods of an acquisition (R54, R58–R63, R70). -/
namespace Sys2Proof.Machine
open Sys2Proof

variable {d : Dev} {n : Nat}

/-! ### The tracker after an update (R70) -/

theorem Dev.afterUpdate_trk (h : n < d.lanes.length) (t : Time) :
    ∃ x : Tracker, ((d.afterUpdate n t).lane n).trk =
      { (d.lane n).trk with still := x.still, ts := t, hist := x.hist, decim := x.decim } := by
  refine ⟨((d.afterUpdate n t).lane n).trk, ?_⟩
  simp only [Dev.afterUpdate, apply_ite fun e : Dev => (e.lane n).trk]
  simp [Dev.lane_onTrk h]

theorem Dev.trackerUpdate_trk (h : n < d.lanes.length) (t : Time) (x y : Int) :
    ((d.trackerUpdate n t x y).lane n).trk.ts = t ∧
      ((d.trackerUpdate n t x y).lane n).trk.tracking = (d.lane n).trk.tracking := by
  have hafter (e : Dev) (he : n < e.lanes.length) (ht : (e.lane n).trk.tracking = (d.lane n).trk.tracking) :
      ((e.afterUpdate n t).lane n).trk.ts = t ∧ ((e.afterUpdate n t).lane n).trk.tracking = (d.lane n).trk.tracking := by
    obtain ⟨x, hx⟩ := Dev.afterUpdate_trk he t
    rw [hx]
    exact ⟨rfl, ht⟩
  unfold Dev.trackerUpdate
  dsimp only
  split
  · refine hafter _ ?_ ?_
    · split
      · simpa using h
      · split <;> simpa using h
    · split
      · simp [Dev.clearReference, Dev.lane_onTrk, Dev.lane_onMap, h]
      · split <;> simp [Dev.lane_onTrk, h]
  · refine hafter _ (by simpa using h) ?_
    simp [Dev.lane_onTrk, h, Tracker.countSpeed]

/-- An update that `f` makes leaves what `f` gives, at the instant of the sample. -/
theorem Dev.onTrk_afterUpdate {P : Tracker → Prop} (h : n < d.lanes.length) (f : Tracker → Tracker) (t : Time)
    (hP : ∀ x : Tracker, P { f (d.lane n).trk with still := x.still, ts := t, hist := x.hist, decim := x.decim }) :
    P (((d.onTrk n f).afterUpdate n t).lane n).trk := by
  obtain ⟨x, hx⟩ := Dev.afterUpdate_trk (d := d.onTrk n f) (n := n) (by simpa using h) t
  rw [hx, Dev.lane_onTrk h]
  exact hP x

/-- A coasted update, whatever angle it gives. -/
theorem Dev.coasted_trk (h : n < d.lanes.length) (fast : Bool) (angle : Tracker → Int) (t : Time) :
    let e := (d.onTrk n fun k =>
      { k.countSpeed fast with ac := 0, aid := 0, aidOn := false, errCnt := 0, th := angle k }).afterUpdate n t
    (e.lane n).trk.ts = t ∧ (e.lane n).trk.ac = 0 ∧ (e.lane n).trk.tracking = (d.lane n).trk.tracking :=
  Dev.onTrk_afterUpdate (P := fun k => k.ts = t ∧ k.ac = 0 ∧ k.tracking = (d.lane n).trk.tracking) h _ t fun _ => ⟨rfl, rfl, rfl⟩

theorem Dev.coastUpdate_trk (h : n < d.lanes.length) (t : Time) :
    ((d.coastUpdate n t).lane n).trk.ts = t ∧ ((d.coastUpdate n t).lane n).trk.ac = 0 ∧
      ((d.coastUpdate n t).lane n).trk.tracking = (d.lane n).trk.tracking := Dev.coasted_trk h _ _ t

theorem Dev.holdUpdate_trk (h : n < d.lanes.length) (t : Time) :
    ((d.holdUpdate n t).lane n).trk.om = 0 ∧ ((d.holdUpdate n t).lane n).trk.ac = 0 ∧
      ((d.holdUpdate n t).lane n).trk.th = (d.lane n).trk.th ∧
      ((d.holdUpdate n t).lane n).trk.tracking = (d.lane n).trk.tracking :=
  Dev.onTrk_afterUpdate (P := fun k => k.om = 0 ∧ k.ac = 0 ∧ k.th = (d.lane n).trk.th ∧ k.tracking = (d.lane n).trk.tracking) h _ t
    fun _ => ⟨rfl, rfl, rfl, rfl⟩

/-! ### The acquisition after a log or a monitor -/

theorem Dev.acqLog_acq (h : n < d.lanes.length) (slot code : Nat) (data : List Byte) :
    ∃ l, ((d.acqLog n slot code data).lane n).acq = { (d.lane n).acq with lastLog := l } := by
  unfold Dev.acqLog
  extract_lets free
  split
  · exact ⟨_, by rw [Dev.logEvent_lane, Dev.lane_onAcq h]⟩
  · exact ⟨_, rfl⟩

/-! ### What a sample reads (R62) -/

/-- The clipping check leaves what tells whether a sample is suspect, and whether a coast is over. -/
theorem Dev.clipCheck_reads (h : n < d.lanes.length) (x : Demod) (t : Time) (f : Tracker → Tracker) :
    let e := (d.clipCheck n x).onTrk n f
    e.suspect n x = d.suspect n x ∧ e.coastOver n t = d.coastOver n t ∧ e.los n = d.los n := by
  intro e
  obtain ⟨l, hl⟩ : ∃ l, (e.lane n).acq = { (d.lane n).acq with lastLog := l } := by
    have hx : ((d.clipCheck n x).lane n).acq = (e.lane n).acq := by simp [e, Dev.lane_onTrk, h]
    rw [← hx, Dev.clipCheck]
    dsimp only
    split
    · simpa using Dev.acqLog_acq (d := d.setFlag .acqStat n 8) h 0 0x0205 _
    · exact ⟨_, rfl⟩
  have hw : Within (.but { group := every, reg := fun i _ => i = .acqLevels || i = .acqCtrl || i = .excFreq }) d e := by
    simp [e]
  have h1 := hw.reg .acqLevels n (by simp)
  have h2 := hw.reg .acqCtrl n (by simp)
  have h3 := hw.reg .excFreq (groupOf n) (by simp)
  have h4 := hw.group (groupOf n) rfl
  refine ⟨?_, ?_, ?_⟩
  · unfold Dev.suspect Dev.fld Dev.regBit
    rw [hl, h1, h2]
  · unfold Dev.coastOver Dev.carrierPeriod Dev.carrier
    rw [hl, h3]
  · unfold Dev.los Dev.losCause Dev.groupRunning
    rw [hl, h4]

/-! ### The sample (R54, R62) -/

theorem Dev.rangeSample_coast (h : n < d.lanes.length) (x : Demod) :
    ((d.rangeSample n x).lane n).acq.coast = (d.lane n).acq.coast := by
  unfold Dev.rangeSample
  dsimp only
  split
  · rfl
  · rw [Dev.lane_onAcq h]

theorem Dev.goodSample_feeds (h : n < d.lanes.length) (t : Time) (x : Demod) (c : Bool) :
    ((d.goodSample t n x c).lane n).trk.ts = t ∧ ((d.goodSample t n x c).lane n).trk.tracking = (d.lane n).trk.tracking ∧
      ((d.goodSample t n x c).lane n).acq.coast = false := by
  unfold Dev.goodSample
  extract_lets coast e f
  have hf : f.lane n = { d.lane n with acq := { (d.lane n).acq with coast := false } } := by
    simp only [f, Dev.when]
    split <;> simp [e, Dev.lane_onAcq h]
  have hl : n < f.lanes.length := by
    simp only [f, Dev.when]
    split <;> simpa [e] using h
  obtain ⟨hts, htr⟩ := Dev.trackerUpdate_trk (d := f.rangeSample n x) (n := n) (by simpa using hl) t x.s x.c
  refine ⟨hts, ?_, ?_⟩
  · rw [htr, Dev.rangeSample_trk, hf]
  · rw [Dev.trackerUpdate_acq, Dev.rangeSample_coast hl, hf]

theorem Dev.suspectSample_coasts (h : n < d.lanes.length) (hlos : d.los n = false) (t : Time) (x : Demod) :
    ((d.suspectSample t n x).lane n).trk.ts = t ∧ ((d.suspectSample t n x).lane n).trk.ac = 0 ∧
      ((d.suspectSample t n x).lane n).trk.tracking = (d.lane n).trk.tracking ∧
      ((d.suspectSample t n x).lane n).acq.coast = true := by
  rw [Dev.suspectSample, if_neg (by simp [hlos])]
  extract_lets e
  obtain ⟨hl, htr, hcoast⟩ : n < e.lanes.length ∧ (e.lane n).trk = (d.lane n).trk ∧ (e.lane n).acq.coast = true := by
    unfold e
    split
    next hc => exact ⟨h, rfl, hc⟩
    next => simp [Dev.lane_onAcq h, h]
  obtain ⟨hts, hac, hk⟩ := Dev.coastUpdate_trk hl t
  exact ⟨hts, hac, hk.trans (congrArg _ htr), by rw [Dev.coastUpdate_acq, hcoast]⟩

theorem Dev.suspectSample_holds (h : n < d.lanes.length) (hlos : d.los n = true) (t : Time) (x : Demod) :
    ((d.suspectSample t n x).lane n).trk.om = 0 ∧ ((d.suspectSample t n x).lane n).trk.ac = 0 ∧
      ((d.suspectSample t n x).lane n).trk.th = (d.lane n).trk.th ∧
      ((d.suspectSample t n x).lane n).trk.tracking = (d.lane n).trk.tracking := by
  rw [Dev.suspectSample, if_pos hlos]
  simpa using Dev.holdUpdate_trk (d := d.rangeSample n x) (n := n) (by simpa using h) t

/-- The parts of an acquisition that the monitors of a carrier period leave. -/
def Acq.Monitored (a a' : Acq) : Prop :=
  a'.mag = a.mag ∧ a'.ratioCnt = a.ratioCnt ∧ a'.ratioSum = a.ratioSum ∧ a'.ratio = a.ratio

theorem Acq.Monitored.trans {a b c : Acq} (h : a.Monitored b) (g : b.Monitored c) : a.Monitored c :=
  ⟨g.1.trans h.1, g.2.1.trans h.2.1, g.2.2.1.trans h.2.2.1, g.2.2.2.trans h.2.2.2⟩

@[simp] theorem Dev.acqLog_length (slot code : Nat) (data : List Byte) : (d.acqLog n slot code data).lanes.length = d.lanes.length :=
  Within.lanes_length (m := .but {}) (by simp)

/-- A monitor: a flag, an event where its condition comes up, the condition kept. -/
theorem Dev.monitor_acq {f : Acq → Acq} (h : n < d.lanes.length) (on c : Bool) (b slot code : Nat) (data : List Byte)
    (hf : ∀ a : Acq, a.Monitored (f a)) :
    let e := if c then (d.setFlagIf on .acqStat n b).acqLog n slot code data else d.setFlagIf on .acqStat n b
    n < (e.onAcq n f).lanes.length ∧ ((d.lane n).acq).Monitored ((e.onAcq n f).lane n).acq := by
  intro e
  obtain ⟨hl, hm⟩ : n < e.lanes.length ∧ ((d.lane n).acq).Monitored (e.lane n).acq := by
    unfold e
    have hs : n < (d.setFlagIf on .acqStat n b).lanes.length := by rwa [Within.lanes_length (m := .but {}) (d := d) (by simp)]
    split
    · obtain ⟨l, hl⟩ := Dev.acqLog_acq hs slot code data
      rw [hl, Dev.setFlagIf_lane]
      exact ⟨by simpa using hs, rfl, rfl, rfl, rfl⟩
    · rw [Dev.setFlagIf_lane]
      exact ⟨hs, rfl, rfl, rfl, rfl⟩
  rw [Dev.lane_onAcq hl]
  exact ⟨by simpa using hl, hm.trans (hf _)⟩

theorem Dev.phasePeriod_acq (h : n < d.lanes.length) (x : Period) :
    n < (d.phasePeriod n x).lanes.length ∧ ((d.lane n).acq).Monitored ((d.phasePeriod n x).lane n).acq := by
  refine ⟨by rwa [Within.lanes_length (m := .but {}) (d := d) (by simp)], ?_⟩
  unfold Dev.phasePeriod
  extract_lets a i2 q2 iq f slow
  have hpair : (if i2 = 0 then let (w, d) := d.free; (w.toNat % 65536, d) else
      (satNat 16 (isqrt (q2 * 2 ^ 32 / i2)), d)).2.lanes = d.lanes := by split <;> rfl
  generalize (if i2 = 0 then _ else _ : Nat × Dev) = q at hpair ⊢
  obtain ⟨quad, e⟩ := q
  have hlanes : e.lanes = d.lanes := hpair
  have hl : n < e.lanes.length := by rwa [hlanes]
  have he : e.lane n = d.lane n := by simp only [Dev.lane, hlanes]
  dsimp only
  split <;> simp [Dev.lane_onAcq, hl, he, Acq.Monitored]

/-- A carrier period gives the magnitude and counts towards the ratio (R63). -/
theorem Dev.carrierPeriodEnd_acq (h : n < d.lanes.length) (hon : d.acqOn n = true) (hrun : d.groupRunning n = true) (x : Period) :
    ((d.carrierPeriodEnd n x).lane n).acq.mag = isqrt ((x.iS * x.iS + x.iC * x.iC).toNat) ∧
      ((d.carrierPeriodEnd n x).lane n).acq.ratioCnt = (d.lane n).acq.ratioCnt + 1 := by
  rw [Dev.carrierPeriodEnd, if_neg (by simp [hon, hrun])]
  extract_lets a mag wire dc low open_ pass thr small e
  have he : n < e.lanes.length := by simpa [e] using h
  obtain ⟨h1, hm1⟩ : n < (e.ampWindow n).lanes.length ∧ ((e.lane n).acq).Monitored ((e.ampWindow n).lane n).acq :=
    Dev.monitor_acq he _ _ _ _ _ _ fun _ => ⟨rfl, rfl, rfl, rfl⟩
  obtain ⟨h2, hm2⟩ := Dev.phasePeriod_acq h1 x
  obtain ⟨h3, hm3⟩ : n < (((e.ampWindow n).phasePeriod n x).phaseLimit n).lanes.length ∧ (((e.ampWindow n).phasePeriod n x).lane n).acq.Monitored _ :=
    Dev.monitor_acq h2 _ _ _ _ _ _ fun _ => ⟨rfl, rfl, rfl, rfl⟩
  have hacq : ((e.lane n).acq).mag = mag ∧ (e.lane n).acq.ratioCnt = a.ratioCnt + 1 := by simp [e, Dev.lane_onAcq h, a]
  obtain ⟨hmag, hcnt, -, -⟩ := (hm1.trans hm2).trans hm3
  exact ⟨hmag.trans hacq.1, hcnt.trans hacq.2⟩

/-- The sample of an acquisition that works is judged as it stands before its clipping is logged (R62). -/
theorem Dev.demodSample_eq (h : n < d.lanes.length) (hon : d.acqOn n = true) (t : Time) (x : Demod) :
    ∃ e : Dev, n < e.lanes.length ∧ (e.lane n).trk.tracking = (d.lane n).trk.tracking ∧ (e.lane n).trk.th = (d.lane n).trk.th ∧
      e.los n = d.los n ∧ d.demodSample t n x =
        if d.suspect n x && !d.coastOver n t then e.suspectSample t n x else e.goodSample t n x (!d.suspect n x) := by
  obtain ⟨hsus, hco, hlos⟩ := Dev.clipCheck_reads (d := d.at (t + 11600)) (n := n) h x t fun k => { k with raw := rawAngle x.s x.c }
  refine ⟨_, ?_, ?_, ?_, hlos, ?_⟩
  · simpa using h
  · simp [Dev.lane_onTrk, h]
  · simp [Dev.lane_onTrk, h]
  · unfold Dev.demodSample
    dsimp only
    rw [if_neg (by simp only [show (d.at (t + 11600)).acqOn n = true from hon]; decide), hsus, hco]
    rfl

/-- Settles O17: a sample by its kind, from the tracker's update to what a fault that stands leaves of it; a carrier period. -/
theorem acquisitionSamplesAct : Obligations.AcquisitionSamplesAct := by
  unfold Obligations.AcquisitionSamplesAct
  intro s t n ha hs hn hon htr
  have h := hs.lane_lt hn
  have hafter {f : Dev} (x : Demod) (hl : n < f.lanes.length) (hk : (f.lane n).trk.tracking = (s.dev.lane n).trk.tracking) :
      ((f.lane n).trk).Retracked (((f.mapSample n t x.s x.c).settleFault n).lane n).trk ∧
        (((f.mapSample n t x.s x.c).settleFault n).lane n).acq = (f.lane n).acq := by
    have hm : n < (f.mapSample n t x.s x.c).lanes.length := by rwa [Within.lanes_length (m := .but {}) (d := f) (by simp)]
    simpa using Dev.settleFault_tracking hm (by simpa using hk.trans htr)
  simp only [runs_iff, Machine.exec]
  refine ⟨fun x hx => .onLaneEvent hn ha ?_, fun x hx hco hlos => .onLaneEvent hn ha ?_,
    fun x hx hco hlos => .onLaneEvent hn ha ?_,
    fun x hr => .onEvent hn ha (Dev.carrierPeriodEnd_acq (d := s.dev.at t) h hon hr x)⟩
  all_goals
    obtain ⟨e, hl, hk, hth, hlos', he⟩ := Dev.demodSample_eq (d := s.dev.at (t + 11600)) h hon t x
    rw [show (s.dev.at (t + 11600)).suspect n x = s.dev.suspect n x from rfl,
      show (s.dev.at (t + 11600)).coastOver n t = s.dev.coastOver n t from rfl] at he
  · rw [if_neg (by rcases hx with hx | hx <;> simp [hx])] at he
    obtain ⟨hts, htk, hcoast⟩ := Dev.goodSample_feeds hl t x (!s.dev.suspect n x)
    rw [← he] at hts htk hcoast
    obtain ⟨⟨y, hy⟩, hacq⟩ := hafter x (by rwa [Within.lanes_length (m := .but {}) (d := s.dev.at (t + 11600)) (by simp)]) (htk.trans hk)
    rw [hy, hacq]
    exact ⟨hts, hcoast⟩
  · rw [if_pos (by simp [hx, hco])] at he
    obtain ⟨hts, hac, htk, hcoast⟩ := Dev.suspectSample_coasts hl (hlos'.trans hlos) t x
    rw [← he] at hts hac htk hcoast
    obtain ⟨⟨y, hy⟩, hacq⟩ := hafter x (by rwa [Within.lanes_length (m := .but {}) (d := s.dev.at (t + 11600)) (by simp)]) (htk.trans hk)
    rw [hy, hacq]
    exact ⟨hcoast, hac, hts⟩
  · rw [if_pos (by simp [hx, hco])] at he
    obtain ⟨hom, hac, hth', htk⟩ := Dev.suspectSample_holds hl (hlos'.trans hlos) t x
    rw [← he] at hom hac hth' htk
    obtain ⟨⟨y, hy⟩, -⟩ := hafter x (by rwa [Within.lanes_length (m := .but {}) (d := s.dev.at (t + 11600)) (by simp)]) (htk.trans hk)
    rw [hy]
    exact ⟨hom, hac, hth'.trans hth⟩

end Sys2Proof.Machine
end

section
/-! The decisions of an acquisition: LOS, modulator reset, range and ratio (R56, R57, R60, R63, R65). -/
namespace Sys2Proof.Machine
open Sys2Proof

variable {d : Dev} {n : Nat}

@[simp] theorem Dev.losCleared_length (d : Dev) (n : Nat) : (d.losCleared n).lanes.length = d.lanes.length :=
  Within.lanes_length (m := .but {}) (by simp)

/-! ### Loss of signal -/

/-- The causes after one more is confirmed: it stands once, and the first stays the first. -/
theorem Dev.confirmLos_acq (h : n < d.lanes.length) (c : Nat) :
    ((d.confirmLos n c).lane n).acq = if c ∈ (d.lane n).acq.causes then (d.lane n).acq else
      { (d.lane n).acq with causes := (d.lane n).acq.causes ++ [c], coast := false, passCnt := 0 } := by
  unfold Dev.confirmLos
  split
  next hc => simp_all
  next hc => simp_all [Dev.lane_onAcq h]

/-- Causes of LOS with their group as it stands. -/
theorem Dev.losCause_of {e : Dev} (hg : e.group (groupOf n) = d.group (groupOf n)) (hr : d.groupRunning n = true) :
    e.losCause n = (e.lane n).acq.causes.headD 0 := by
  have hr' : e.groupRunning n = true := by rwa [Dev.groupRunning, hg]
  rw [Dev.losCause, if_pos hr']

theorem Dev.losConfirm_causes (h : n < d.lanes.length) (hon : d.acqOn n = true) (hrun : d.groupRunning n = true) :
    ((d.losConfirm n).lane n).acq.causes =
      let a := (d.lane n).acq
      let cs := if a.magLow = true ∧ (d.group (groupOf n)).isOpen = false ∧ 1 ∉ a.causes then a.causes ++ [1] else a.causes
      if a.dcOpen.isSome = true ∧ 2 ∉ a.causes then cs ++ [2] else cs := by
  rw [Dev.losConfirm, if_neg (by simp [hon, hrun])]
  extract_lets a e cs
  obtain ⟨hl, he⟩ : n < e.lanes.length ∧ (e.lane n).acq.causes = cs := by
    unfold e cs
    split
    next hc =>
      simp only [Bool.and_eq_true, Bool.not_eq_true', List.contains_eq_mem, decide_eq_false_iff_not] at hc
      rw [Dev.confirmLos_acq (by simpa using h), if_neg (by simpa using hc.2), if_pos ⟨hc.1.1, hc.1.2, hc.2⟩]
      simp [h, a]
    next hc =>
      simp only [Bool.and_eq_true, Bool.not_eq_true', List.contains_eq_mem, decide_eq_false_iff_not] at hc
      rw [if_neg fun hc' => hc ⟨⟨hc'.1, hc'.2.1⟩, hc'.2.2⟩]
      exact ⟨h, rfl⟩
  have hcs : 2 ∈ cs ↔ 2 ∈ a.causes := by
    unfold cs
    split <;> simp
  split
  next w dc hdc =>
    split
    next hc => simp_all
    next hc =>
      rw [Dev.confirmLos_acq (by simpa using hl), if_neg (by simpa [he, hcs] using hc), if_pos ⟨by rw [hdc]; rfl, by simpa using hc⟩]
      simp [he]
  next hdc => simp [hdc, he]

/-! ### What a fault that stands leaves of an acquisition -/

section
variable (h : n < d.lanes.length)
include h

theorem Dev.settleFault_causes : ((d.settleFault n).lane n).acq.causes = (d.lane n).acq.causes := by
  obtain ⟨x, hx⟩ := Dev.settleFault_acq h
  rw [hx]

theorem Dev.settleFault_losCause (hr : d.groupRunning n = true) :
    (d.settleFault n).losCause n = (d.lane n).acq.causes.headD 0 := by
  have hg : (d.settleFault n).group (groupOf n) = d.group (groupOf n) := Within.group (m := .noGroup) (by simp) _ rfl
  rw [Dev.losCause_of hg hr, Dev.settleFault_causes h]

end

/-! ### Clearing -/

theorem Dev.losClear_cleared (h : n < d.lanes.length) (hr : d.groupRunning n = true) (hc : (d.lane n).acq.causes ≠ [])
    (hp : 16 ≤ (d.lane n).acq.passCnt) :
    ((d.losClear n).lane n).acq.causes = [] ∧ (d.losClear n).los n = false := by
  have hg : (d.losClear n).group (groupOf n) = d.group (groupOf n) := Within.group (m := .noGroup) (by simp) _ rfl
  have hcs : ((d.losClear n).lane n).acq.causes = [] := by
    rw [Dev.losClear, if_neg (by simp [hr, hc, hp]), Dev.losEnded]
    split <;> simp [Dev.lane_onAcq, h]
  exact ⟨hcs, by simp [Dev.los, Dev.losCause_of hg hr, hcs]⟩

/-! ### Modulator resets -/

theorem Dev.modulatorReset_acq (h : n < d.lanes.length) (hon : d.acqOn n = true) (t : Time) (w : Nat) :
    let a := ((d.modulatorReset t n w).lane n).acq
    (if w = 0 then a.inResetS = true else a.inResetC = true) ∧
      (2 ≤ ((d.lane n).acq.resets.filter fun r => decide (t < r + 100000 * unitsPerUs)).length → d.groupRunning n = true →
        3 ∈ a.causes) := by
  rw [Dev.modulatorReset, if_neg (by simp [hon])]
  extract_lets run e a b
  have he : (e.lane n).acq = { (d.lane n).acq with
      resets := if run then t :: (d.lane n).acq.resets.filter fun r => decide (t < r + 100000 * unitsPerUs) else []
      badIn := true
      inResetS := if w = 0 then true else (d.lane n).acq.inResetS
      inResetC := if w = 0 then (d.lane n).acq.inResetC else true } := by rw [Dev.lane_onAcq h]
  have hb : (b.inResetS = a.inResetS ∧ b.inResetC = a.inResetC) ∧ (3 ≤ a.resets.length → 3 ∈ b.causes) := by
    unfold b
    split
    next hc =>
      rw [Dev.confirmLos_acq (by simpa [e] using h), if_neg (by simpa [a] using hc.2)]
      simp [a]
    next hc =>
      refine ⟨⟨rfl, rfl⟩, fun h3 => ?_⟩
      by_contra hn
      exact hc ⟨h3, by simpa [a] using hn⟩
  refine ⟨?_, fun h2 hr => hb.2 ?_⟩
  · split
    next h0 => rw [hb.1.1]; simp [a, he, h0]
    next h0 => rw [hb.1.2]; simp [a, he, h0]
  · have hrun : run = true := hr
    simp only [a, he, hrun, if_true, List.length_cons]
    omega

/-! ### The ratio -/

theorem Dev.ratioEval_acq (h : n < d.lanes.length) (hc : 64 ≤ (d.lane n).acq.ratioCnt) (ha : d.fld .excAmp (groupOf n) 0 12 ≠ 0) :
    let a := ((d.ratioEval n).lane n).acq
    a.ratioCnt = 0 ∧ a.ratioSum = 0 ∧
      a.ratio = satNat 16 (roundEven (mkRat ((d.lane n).acq.ratioSum * 9) ((d.lane n).acq.ratioCnt * 10 * 2 ^ 24) /
        mkRat (d.fld .excAmp (groupOf n) 0 12 * 8) 40000 * 4096)).toNat := by
  rw [Dev.ratioEval, if_neg (by omega)]
  dsimp only
  rw [if_neg ha]
  dsimp only
  generalize satNat 16 _ = r
  have hm := (Dev.monitor_acq (d := d.onAcq n fun a => { a with ratio := r, ratioSum := 0, ratioCnt := 0 }) (n := n) (by simpa using h)
    (decide (r < d.fld .acqRatio n 0 16) || decide (d.fld .acqRatio n 16 16 < r))
    ((decide (r < d.fld .acqRatio n 0 16) || decide (d.fld .acqRatio n 16 16 < r)) && !(d.lane n).acq.ratioOn) 10 2 0x0207 (ev4 r)
    (f := fun a => { a with ratioOn := decide (r < d.fld .acqRatio n 0 16) || decide (d.fld .acqRatio n 16 16 < r) })
    fun _ => ⟨rfl, rfl, rfl, rfl⟩).2
  rw [Dev.lane_onAcq h] at hm
  exact ⟨hm.2.1, hm.2.2.1, hm.2.2.2⟩

/-! ### Steps that change one part -/

theorem Dev.phaseFastEnd_acq (h : n < d.lanes.length) {e : Time} (he : (d.lane n).acq.fastEnd = some e) (hle : e ≤ d.now) :
    ((d.phaseFastEnd n).lane n).acq = { (d.lane n).acq with fastEnd := none } := by
  simp [Dev.phaseFastEnd, he, hle, Dev.lane_onAcq, h]

theorem Dev.rangeNarrow_acq (h : n < d.lanes.length) (hcnt : 16 ≤ (d.lane n).acq.narrowCnt) (hp : (d.lane n).acq.rangePend = none)
    (hr : (d.lane n).acq.range < 3) (hc : (d.lane n).acq.coast = false) (hf : d.fld .acqCtrl n 2 3 = 0) :
    ((d.rangeNarrow n).lane n).acq = { (d.lane n).acq with rangePend := some ((d.lane n).acq.range + 1), narrowCnt := 0 } := by
  rw [Dev.rangeNarrow, if_neg (by simp [hcnt, hp, hr, hc, hf]), Dev.lane_onAcq h]

theorem Dev.rangeChange_acq (h : n < d.lanes.length) {r : Nat} (hr : (d.lane n).acq.rangePend = some r)
    (hc : (d.lane n).acq.coast = false) :
    ((d.rangeChange n).lane n).acq = { (d.lane n).acq with range := r, rangePend := none, narrowCnt := 0 } ∧
      (d.rangeChange n).fld .acqCnt n 0 16 = satNat 16 (d.fld .acqCnt n 0 16 + 1) := by
  simp only [Dev.rangeChange, hr, hc]
  exact ⟨by simp [Dev.lane_onAcq h, hc], Dev.fld_addCnt _ _ _ _ (by decide)⟩

/-- LOS is confirmed for a cause: it stands, and it is shown where it is the first. -/
theorem Dev.losConfirm_settled (h : n < d.lanes.length) (hr : d.groupRunning n = true) :
    (((d.losConfirm n).settleFault n).lane n).acq.causes = ((d.losConfirm n).lane n).acq.causes ∧
      ((d.losConfirm n).settleFault n).losCause n = ((d.losConfirm n).lane n).acq.causes.headD 0 := by
  have hl : n < (d.losConfirm n).lanes.length := by rwa [Within.lanes_length (m := .but {}) (d := d) (by simp)]
  have hg : (d.losConfirm n).group (groupOf n) = d.group (groupOf n) := Within.group (m := .noGroup) (by simp) _ rfl
  exact ⟨Dev.settleFault_causes hl, Dev.settleFault_losCause hl (by rwa [Dev.groupRunning, hg])⟩

/-- Settles O18: each decision on the lane's acquisition, and the causes as a fault that stands leaves them. -/
theorem acquisitionDecisionsAct : Obligations.AcquisitionDecisionsAct := by
  unfold Obligations.AcquisitionDecisionsAct
  intro s t n ha hs hn a
  have h := hs.lane_lt hn
  simp only [runs_iff, Machine.exec]
  refine ⟨fun e he hle => .onEvent hn ha (Dev.phaseFastEnd_acq (d := s.dev.at t) h he hle),
    fun hon hr hlow hopen h1 => .onLaneEvent hn ha ?_, fun w dc hon hr hdc h2 => .onLaneEvent hn ha ?_,
    fun hr hc hp => .onEvent hn ha (Dev.losClear_cleared (d := s.dev.at t) h hr hc hp), fun w hw hon => .onLaneEvent hn ha ?_,
    fun w => .onEvent hn ha ?_,
    fun hcnt hpend hrange hcoast hfix => .onEvent hn ha (Dev.rangeNarrow_acq (d := s.dev.at t) h hcnt hpend hrange hcoast hfix),
    fun r hr hcoast => .onEvent hn ha (Dev.rangeChange_acq (d := s.dev.at t) h hr hcoast),
    fun hcnt hamp => .onEvent hn ha (Dev.ratioEval_acq (d := s.dev.at t) h hcnt hamp)⟩
  · obtain ⟨hcs, hcause⟩ := Dev.losConfirm_settled (d := s.dev.at t) h hr
    have hc : a.magLow = true ∧ ((s.dev.at t).group (groupOf n)).isOpen = false ∧ 1 ∉ a.causes := ⟨hlow, hopen, h1⟩
    rw [hcs, hcause, Dev.losConfirm_causes (d := s.dev.at t) h hon hr, Dev.at_lane]
    dsimp only
    rw [if_pos hc]
    refine ⟨?_, fun h0 => ?_⟩
    · split <;> simp
    · split <;> simp_all [a]
  · obtain ⟨hcs, hcause⟩ := Dev.losConfirm_settled (d := s.dev.at t) h hr
    rw [hcs, hcause, Dev.losConfirm_causes (d := s.dev.at t) h hon hr, Dev.at_lane, if_pos ⟨by rw [hdc]; rfl, h2⟩]
    refine ⟨by simp, fun h0 hlow => ?_⟩
    simp_all [a]
  · obtain ⟨h1, h2⟩ := Dev.modulatorReset_acq (d := s.dev.at t) h hon t w
    obtain ⟨x, hx⟩ := Dev.settleFault_acq (d := (s.dev.at t).modulatorReset t n w) (n := n)
      (by rw [Within.lanes_length (m := .but {}) (d := s.dev.at t) (by simp)]; exact h)
    rw [hx]
    exact ⟨h1, h2⟩
  · rw [Dev.modulatorResetEnd, Dev.lane_onAcq (d := s.dev.at t) h]
    split <;> rfl

end Sys2Proof.Machine
end

section
/-! Loss and return of the lock of a tracker (R80–R82). -/
namespace Sys2Proof.Machine
open Sys2Proof

variable {d : Dev} {n : Nat}

/-! ### What the choice of feedback and detour reads -/

/-- What tells the feedback of a lane, and whether its detour is available: inputs and their words. -/
abbrev May.feedback : May :=
  .but { pin := every, reg := fun i _ => i = .emuLane || i = .emuCtrl || i = .detCtrl || i = .pinCtrl }

theorem Within.stepFb {e : Dev} (h : Within .feedback d e) (n : Nat) : e.stepFb n = d.stepFb n := by
  have hreg (o : Nat) := h.reg .emuCtrl o rfl
  have hsrc : e.emuSrc = d.emuSrc := funext fun o => by simp only [Dev.emuSrc, Dev.fld, hreg]
  have hbit : e.regBit .emuCtrl = d.regBit .emuCtrl := funext fun o => funext fun b => by simp only [Dev.regBit, hreg]
  have hlane : e.emuLane = d.emuLane := funext fun o => by simp only [Dev.emuLane, Dev.fld, h.reg .emuLane o rfl]
  unfold Dev.stepFb Dev.emusOf
  rw [hsrc, hbit, hlane]

theorem Within.detAvail {e : Dev} (h : Within .feedback d e) (hf : (e.lane n).trk.detFresh = (d.lane n).trk.detFresh) :
    e.detAvail n = d.detAvail n := by
  have hreg := h.reg .detCtrl n rfl
  have hen : e.detEn n = d.detEn n := by simp only [Dev.detEn, Dev.regBit, hreg]
  have hsrc : e.detSrc n = d.detSrc n := by simp only [Dev.detSrc, Dev.fld, hreg]
  have hmode : e.pinMode = d.pinMode := funext fun i => by simp only [Dev.pinMode, Dev.fld, h.reg .pinCtrl i rfl]
  have hpin : e.pin = d.pin := funext fun i => h.pin i rfl
  unfold Dev.detAvail Dev.secondaryValid Dev.pinValid Dev.pinCounts Dev.pinSerial
  rw [hen, hsrc, hmode, hpin, hf]

/-! ### The loss of the lock -/

/-- A lane whose lock is lost for a cause; `dead`: it has neither a detour nor one to take, and is in RUN. -/
def Lane.LostLock (l l' : Lane) (cause : Nat) (dead : Prop) : Prop :=
  l'.trk.lockCause = cause ∧ l'.trk.tracking = l.trk.tracking ∧ l'.trk.spdSeen = l.trk.spdSeen ∧
    (dead → l'.st = .fault ∧ l'.faultCode = 0x10)

theorem Dev.loseLock_lane (h : n < d.lanes.length) (hfb : d.stepFb n = none) (h0 : (d.lane n).trk.lockCause = 0) {c : Nat} (hc : c ≠ 3) :
    Lane.LostLock (d.lane n) ((d.loseLock n c).lane n) c
      ((d.lane n).st = .run ∧ (d.lane n).trk.detour = false ∧ d.detAvail n = false) := by
  rw [Dev.loseLock, if_neg (by simp [hfb])]
  extract_lets again e f g
  have he : (e.lane n).st = (d.lane n).st ∧ (e.lane n).trk.lockCause = c ∧ (e.lane n).trk.tracking = (d.lane n).trk.tracking ∧
      (e.lane n).trk.spdSeen = (d.lane n).trk.spdSeen ∧ (e.lane n).trk.detFresh = (d.lane n).trk.detFresh := by
    simp [e, Dev.lane_onTrk h, again, h0]
  have hw : Within .feedback d f := by simp [f, e]
  have hl : n < f.lanes.length := by rwa [hw.lanes_length]
  rw [← show f.lane n = e.lane n from Dev.addCnt_lane ..] at he
  obtain ⟨hst, hcause, htrack, hseen, hfresh⟩ := he
  rw [if_neg (by simp [again, h0])]
  split
  next hdet => exact ⟨hcause, htrack, hseen, fun hdead => absurd hdet (by simp [hdead.2.1])⟩
  next hdet =>
    split
    next hav =>
      have hav' : d.detAvail n = true := (hw.detAvail hfresh).symm.trans hav
      have hlane : (((f.detourEnter n).emuRefreshLane n).lane n).trk = { (f.lane n).trk with detour := true, detFail := false } := by
        simp [Dev.detourEnter, Dev.lane_onTrk hl]
      rw [Lane.LostLock, hlane]
      exact ⟨hcause, htrack, hseen, fun hdead => absurd hav' (by simp [hdead.2.2])⟩
    next hav =>
      have hlane : (g.lane n).trk = (f.lane n).trk := by
        unfold g
        split
        · exact Within.trk (m := .but { trk := every }) (by simp) n rfl
        · rfl
      rw [Lane.LostLock, Dev.emuRefreshLane_lane, hlane]
      refine ⟨hcause, htrack, hseen, fun hdead => ?_⟩
      have hrun : (f.lane n).st = .run := hst.trans hdead.1
      simp [g, hrun, Dev.laneFault_enters hl, lockFaultCode, hc]

/-! ### Overspeed -/

/-- An overspeed while the lock is lost is seen, and changes no cause (R80). -/
theorem Dev.overspeed_unlocked (h : n < d.lanes.length) (hcnt : 4 ≤ (d.lane n).trk.spdCnt) (hseen : (d.lane n).trk.spdSeen = false)
    (h0 : (d.lane n).trk.lockCause ≠ 0) :
    (d.overspeed n).lane n = { d.lane n with trk := { (d.lane n).trk with spdSeen := true } } := by
  rw [Dev.overspeed, if_neg (by simp [hcnt, hseen]), if_pos h0]
  simp [Dev.lane_onTrk h]

theorem Dev.overspeed_locked (h : n < d.lanes.length) (hcnt : 4 ≤ (d.lane n).trk.spdCnt) (hseen : (d.lane n).trk.spdSeen = false)
    (h0 : (d.lane n).trk.lockCause = 0) (hfb : d.stepFb n = none) :
    Lane.LostLock { d.lane n with trk := { (d.lane n).trk with spdSeen := true } } ((d.overspeed n).lane n) 2
      ((d.lane n).st = .run ∧ (d.lane n).trk.detour = false ∧ d.detAvail n = false) := by
  rw [Dev.overspeed, if_neg (by simp [hcnt, hseen]), if_neg (by simp [h0])]
  have hw (w : List Byte) : Within .feedback d ((d.onTrk n fun k => { k with spdSeen := true }).logEvent 0x0212 kLane n w) := by simp
  dsimp only
  generalize (wordBytes _) = w
  have hlane : ((d.onTrk n fun k => { k with spdSeen := true }).logEvent 0x0212 kLane n w).lane n =
      { d.lane n with trk := { (d.lane n).trk with spdSeen := true } } := by simp [Dev.lane_onTrk h]
  have hlost := Dev.loseLock_lane (d := (d.onTrk n fun k => { k with spdSeen := true }).logEvent 0x0212 kLane n w) (n := n)
    (by simpa using h) ((hw w).stepFb n ▸ hfb) (by simp [hlane, h0]) (c := 2) (by decide)
  rw [hlane, (hw w).detAvail (by simp [hlane])] at hlost
  exact hlost

/-- LOCK_LOSS takes the lock, with the cause of an overspeed confirmed in the same update (R81). -/
theorem Dev.lockLoss_lane (h : n < d.lanes.length) (hcnt : 4 ≤ (d.lane n).trk.errCnt) (h0 : (d.lane n).trk.lockCause = 0)
    (hfb : d.stepFb n = none) :
    ∃ k : Tracker, k.tracking = (d.lane n).trk.tracking ∧ Lane.LostLock { d.lane n with trk := k } ((d.lockLoss n).lane n)
      (if 4 ≤ (d.lane n).trk.spdCnt ∧ (d.lane n).trk.spdSeen = false then 2 else 1)
      ((d.lane n).st = .run ∧ (d.lane n).trk.detour = false ∧ d.detAvail n = false) := by
  rw [Dev.lockLoss, if_neg (by simp [h0, hcnt])]
  dsimp only
  split
  next hs =>
    obtain ⟨hc, hs⟩ : 4 ≤ (d.lane n).trk.spdCnt ∧ (d.lane n).trk.spdSeen = false := by simpa using hs
    rw [if_pos ⟨hc, hs⟩]
    exact ⟨{ (d.lane n).trk with spdSeen := true }, rfl, Dev.overspeed_locked h hc hs h0 hfb⟩
  next hs =>
    rw [if_neg (by simpa using hs)]
    generalize (ev4 1 ++ _ ++ _) = w
    have hw : Within .feedback d (d.logEvent 0x0210 kLane n w) := by simp
    have hlost := Dev.loseLock_lane (d := d.logEvent 0x0210 kLane n w) (n := n) (by simpa using h) (hw.stepFb n ▸ hfb) (by simp [h0])
      (c := 1) (by decide)
    rw [Dev.logEvent_lane, hw.detAvail (by simp)] at hlost
    exact ⟨(d.lane n).trk, rfl, hlost⟩

/-- What follows from a fault leaves the cause of a lost lock, and the fault. -/
theorem Lane.LostLock.settled {l : Lane} {e : Dev} {c : Nat} {dead : Prop} (h : n < e.lanes.length) (ht : l.trk.tracking = true)
    (hl : Lane.LostLock l (e.lane n) c dead) :
    ((e.settleFault n).lane n).trk.lockCause = c ∧
      (dead → ((e.settleFault n).lane n).st = .fault ∧ ((e.settleFault n).lane n).faultCode = 0x10) := by
  obtain ⟨hcause, htrack, -, hdead⟩ := hl
  obtain ⟨⟨x, hx⟩, -⟩ := Dev.settleFault_tracking h (htrack.trans ht)
  refine ⟨by rw [hx]; exact hcause, fun hd => ?_⟩
  obtain ⟨hst, hcode⟩ := hdead hd
  obtain ⟨hst', hcode'⟩ := Dev.settleFault_faulted h hst
  exact ⟨hst', hcode'.trans hcode⟩

/-! ### The return of the lock -/

theorem Dev.reacqFastEnd_trk (h : n < d.lanes.length) {e : Time} (he : (d.lane n).trk.fastEnd = some e) (hle : e ≤ d.now) :
    ((d.reacqFastEnd n).lane n).trk = { (d.lane n).trk with fastEnd := none } := by
  simp [Dev.reacqFastEnd, he, hle, Dev.lane_onTrk, h]

theorem Dev.lockRegained_trk (h : n < d.lanes.length) (h0 : (d.lane n).trk.lockCause ≠ 0) (hcnt : 256 ≤ (d.lane n).trk.goodCnt)
    (hlos : d.los n = false) :
    ((d.lockRegained n).lane n).trk.lockCause = 0 ∧ ((d.lockRegained n).lane n).trk.reacq = .idle := by
  rw [Dev.lockRegained, if_neg (by simp [h0, hcnt, hlos])]
  simp [Dev.lane_onTrk h]

/-- Settles O19: the loss of the lock by cause, and what a fault that follows leaves of it. -/
theorem lockEventsAct : Obligations.LockEventsAct := by
  unfold Obligations.LockEventsAct
  intro s t n ha hs hn k
  have h := hs.lane_lt hn
  simp only [runs_iff, Machine.exec]
  refine ⟨fun hcnt h0 ht hfb => .onLaneEvent hn ha ?_, fun hcnt hseen h0 ht => .onLaneEvent hn ha ?_,
    fun hcnt hseen h0 ht hfb => .onLaneEvent hn ha ?_,
    fun e he hle => .onEvent hn ha (Dev.reacqFastEnd_trk (d := s.dev.at t) h he hle),
    fun h0 hcnt hlos => .onEvent hn ha (Dev.lockRegained_trk (d := s.dev.at t) h h0 hcnt hlos)⟩
  · obtain ⟨x, hx, hlost⟩ := Dev.lockLoss_lane (d := s.dev.at t) h hcnt h0 hfb
    obtain ⟨hcause, hdead⟩ := hlost.settled (by rwa [Within.lanes_length (m := .but {}) (d := s.dev.at t) (by simp)]) (hx.trans ht)
    exact ⟨hcause, fun hrun hdet hav => hdead ⟨hrun, hdet, hav⟩⟩
  · have hl : n < ((s.dev.at t).overspeed n).lanes.length := by rwa [Within.lanes_length (m := .but {}) (d := s.dev.at t) (by simp)]
    have hlane := Dev.overspeed_unlocked (d := s.dev.at t) h hcnt hseen h0
    obtain ⟨⟨x, hx⟩, -⟩ := Dev.settleFault_tracking hl (by rw [hlane]; exact ht)
    rw [hx, hlane]
    exact ⟨rfl, rfl⟩
  · have hlost := Dev.overspeed_locked (d := s.dev.at t) h hcnt hseen h0 hfb
    have hl : n < ((s.dev.at t).overspeed n).lanes.length := by rwa [Within.lanes_length (m := .but {}) (d := s.dev.at t) (by simp)]
    obtain ⟨hcause, hdead⟩ := hlost.settled hl (by exact ht)
    exact ⟨hcause, fun hrun hdet hav => hdead ⟨hrun, hdet, hav⟩⟩

end Sys2Proof.Machine
end

section
/-! The map learner and the drift monitor (R97, R99, R101, R104). -/
namespace Sys2Proof.Machine
open Sys2Proof

variable {d : Dev} {n : Nat}

/-- A segment that is discarded leaves the sums of its run (R97). -/
theorem Dev.segmentDiscard_map (h : n < d.lanes.length) :
    ((d.segmentDiscard n).lane n).map.seg = [] ∧ ((d.segmentDiscard n).lane n).map.segBad = false ∧
      ((d.segmentDiscard n).lane n).map.sums = (d.lane n).map.sums := by
  rw [Dev.segmentDiscard]
  split <;> simp [Dev.learnFail, Dev.lane_onMap, h]

/-- The drift monitor takes a segment whose σ lies within its limit (R97, R104). -/
theorem Dev.segmentEnd_counted (h : n < d.lanes.length) (hm : d.mgmtUp = true) (hb : (d.lane n).map.segBad = false)
    (hd : (d.lane n).map.segDone = true) (hl : (d.lane n).map.learning = false)
    (hs : ¬((if (d.lane n).map.sigmas.length ≥ 32 then 4 * medianRat (d.lane n).map.sigmas else 1800 / arcsecTurn) <
      (estimate (d.poles n) (d.lane n).map.segMech (d.lane n).map.seg.reverse).2)) :
    ((d.segmentEnd n).lane n).map.seg = [] ∧ ((d.segmentEnd n).lane n).map.segDone = false ∧
      ((d.segmentEnd n).lane n).map.driftCnt = (d.lane n).map.driftCnt + 1 := by
  rw [Dev.segmentEnd, if_neg (by simp [hb]), if_neg (by simp [hd]), if_neg (by simp [hm])]
  generalize estimate _ _ _ = est at hs ⊢
  obtain ⟨est, sigma⟩ := est
  extract_lets lim split segs
  dsimp -zeta only
  rw [if_neg (show ¬lim < sigma from hs)]
  extract_lets band full odd e f m allFull
  have hf : f = e := if_neg (by simp [hl])
  have he : (e.lane n).map.seg = [] ∧ (e.lane n).map.segDone = false ∧ (e.lane n).map.driftCnt = (d.lane n).map.driftCnt + 1 := by
    simp [e, Dev.lane_onMap h, hl]
  rw [hf]
  split
  · rwa [Dev.lane_onMap (by simpa [e] using h)]
  · exact he

/-- An evaluation closes the sums of its run (R99, R100). -/
theorem Dev.mapEvaluate_map (h : n < d.lanes.length) (hm : d.mgmtUp = true) (hst : (d.lane n).map.st = .evaluating) :
    ((d.mapEvaluate n).lane n).map.evals = (d.lane n).map.evals + 1 ∧ ((d.mapEvaluate n).lane n).map.sums = List.replicate 4 {} ∧
      ((d.mapEvaluate n).lane n).map.live = (d.lane n).map.live ∧
      ((d.lane n).map.mode = 2 → ((d.mapEvaluate n).lane n).map.st = .waiting) ∧
      ((d.lane n).map.mode ≠ 2 → ((d.mapEvaluate n).lane n).map.st =
        if ((d.mapEvaluate n).lane n).map.accepted = 0 then .failed else .done) := by
  rw [Dev.mapEvaluate, if_neg (by simp [hst, hm])]
  simp only [apply_ite fun e : Dev => (e.lane n).map, Dev.logEvent_lane, Dev.showBands, Dev.setReg_lane, ite_self]
  simp only [Dev.lane_onMap h, true_and]
  exact ⟨fun hmode => if_pos hmode, fun hmode => if_neg hmode⟩

/-- The drift monitor closes its segments, and flags a residual above its limit (R104). -/
theorem Dev.mapDriftCheck_map (h : n < d.lanes.length) (hm : d.mgmtUp = true) (hcnt : 64 ≤ (d.lane n).map.driftCnt)
    (hl : (d.lane n).map.learning = false) :
    ((d.mapDriftCheck n).lane n).map.driftCnt = 0 ∧ ((d.mapDriftCheck n).lane n).map.sums = List.replicate 4 {} ∧
      ((d.mapDriftCheck n).lane n).map.live = (d.lane n).map.live ∧
      (((d.fld .mapTol n 16 16 : Nat) : Rat) < f32 ((d.mapDriftCheck n).lane n).map.resid →
        (d.mapDriftCheck n).regBit .mapStat n 10 = true) := by
  rw [Dev.mapDriftCheck, if_neg (by simp [hcnt, hl, hm])]
  extract_lets two sums d1 o resid e
  have he : (e.lane n).map = { (d.lane n).map with resid := resid, driftCnt := 0, sums := List.replicate 4 {} } := by
    simp [e, Dev.lane_onMap h]
  split
  next hlim =>
    rw [Dev.logEvent_lane, Dev.setFlag_lane, he]
    refine ⟨rfl, rfl, rfl, fun _ => ?_⟩
    simpa [Dev.regBit, Dev.logEvent_reg] using Dev.regBit_setFlag e .mapStat n (b := 10) (by decide)
  next hlim =>
    rw [he]
    exact ⟨rfl, rfl, rfl, fun hr => absurd hr hlim⟩

theorem Dev.fadeComplete_map (h : n < d.lanes.length) {f : Fade} (hf : (d.lane n).map.fade = some f) (ht : f.start + f.dur ≤ d.now) :
    ((d.fadeComplete n).lane n).map.fade = none ∧ ((d.fadeComplete n).lane n).map.live = (d.lane n).map.live := by
  unfold Dev.fadeComplete
  extract_lets m e
  rw [show m.fade = some f from hf]
  dsimp -zeta only
  obtain ⟨hl, hnow, hlive⟩ : n < e.lanes.length ∧ e.now = d.now ∧ (e.lane n).map.live = (d.lane n).map.live := by
    unfold e
    split
    · split <;> simp [Dev.lane_onMap, h]
    · exact ⟨h, rfl, rfl⟩
  rw [if_neg (by rw [hnow]; exact Nat.not_lt.mpr ht)]
  simp [Dev.lane_onMap hl, hlive]

/-- Settles O20: each event of the learner on the lane's map. -/
theorem learnerEventsAct : Obligations.LearnerEventsAct := by
  unfold Obligations.LearnerEventsAct
  intro s t n ha hs hn m
  have h := hs.lane_lt hn
  simp only [runs_iff, Machine.exec]
  refine ⟨fun hb => .onEvent hn ha ?_,
    fun hm hb hd hl hsig => .onEvent hn ha (Dev.segmentEnd_counted (d := s.dev.at t) h hm hb hd hl hsig),
    fun hm hst => .onMgmt hn hm (Dev.mapEvaluate_map (d := s.dev.at t) h hm hst),
    fun hm hcnt hl => .onMgmt hn hm (Dev.mapDriftCheck_map (d := s.dev.at t) h hm hcnt hl),
    fun f hf ht => .onEvent hn ha (Dev.fadeComplete_map (d := s.dev.at t) h hf ht)⟩
  rw [Dev.segmentEnd, if_pos (by exact hb)]
  exact Dev.segmentDiscard_map (d := s.dev.at t) h

end Sys2Proof.Machine
end

section
/-! Pulse inputs: edges, index, wire faults, standstill, serial transfers (R116–R134, R140). -/
namespace Sys2Proof.Machine
open Sys2Proof

/-! ### An input after an operation -/

/-- Everything but the pulse inputs, their words and their status. -/
abbrev May.noPin : May := .but { pin := every, reg := fun i _ => i = .pinCtrl || i = .serFmt || i = .pinStat }

section
variable (d : Dev) (i j : Nat)

theorem Dev.pin_onPin {d : Dev} {i : Nat} (h : i < d.pins.length) (f : PulseIn → PulseIn) : (d.onPin i f).pin i = f (d.pin i) := by
  simp [Dev.pin, Dev.onPin, h]

@[simp] theorem Dev.onPin_pins_length (f : PulseIn → PulseIn) : (d.onPin i f).pins.length = d.pins.length := by simp [Dev.onPin]

@[simp] theorem Dev.logEvent_pin (code kind idx : Nat) (data : List Byte) : (d.logEvent code kind idx data).pin j = d.pin j := by
  simp [Dev.pin]
@[simp] theorem Dev.setFlag_pin (r : RegId) (k b : Nat) : (d.setFlag r k b).pin j = d.pin j := (rfl)
@[simp] theorem Dev.setFld_pin (r : RegId) (k lo w v : Nat) : (d.setFld r k lo w v).pin j = d.pin j := (rfl)
@[simp] theorem Dev.addCnt_pin (r : RegId) (k lo w b : Nat) : (d.addCnt r k lo w b).pin j = d.pin j := (rfl)
@[simp] theorem Dev.pinValidity_pin : (d.pinValidity i).pin j = d.pin j := Within.pin (m := .noPin) (by simp) _ rfl
@[simp] theorem Dev.pinFollow_pin : (d.pinFollow i).pin j = d.pin j := Within.pin (m := .noPin) (by simp) _ rfl
@[simp] theorem Dev.settleFault_pin (n : Nat) : (d.settleFault n).pin j = d.pin j := Within.pin (m := .noPin) (by simp) _ rfl
@[simp] theorem Dev.mlsEdge_pin (w : Nat) (t : Time) (l : Bool) : (d.mlsEdge i w t l).pin j = d.pin j :=
  Within.pin (m := .noPin) (by simp) _ rfl
@[simp] theorem Dev.mlsIndex_pin (t : Time) (c x : Int) : (d.mlsIndex i t c x).pin j = d.pin j :=
  Within.pin (m := .noPin) (by simp) _ rfl

theorem Dev.pins_length_of {m : May} {d e : Dev} (h : Within m d e) : e.pins.length = d.pins.length := by
  have hs := h.shape
  simp only [Dev.shape, List.cons_append, List.cons.injEq] at hs
  exact hs.2.2.2.2.1

end

/-- The lanes on their detour through the input settle; the input stands. -/
theorem Dev.settled_pin {d : Dev} (l : List Nat) (j : Nat) : (d.forEach l fun n d => d.settleFault n).pin j = d.pin j :=
  Dev.forEach_eq (fun e => e.pin j) (fun _ _ => Dev.settleFault_pin ..) _ _

theorem Reaches.onPinEvent {s : State} {P : Dev → Prop} {t : Time} {i : Nat} {f : Dev → Dev} (hi : hasPin i s.dev = true)
    (ha : s.dev.alive = true) (h : ∀ l, P ((f (s.dev.at t)).forEach l fun n d => d.settleFault n)) :
    Reaches s P (Machine.onPinEvent s t i f) := .onEvent hi ha (h _)

section
variable {d : Dev} {i : Nat}

/-! ### Edges -/

theorem Dev.edgeCheck_pin (h : i < d.pins.length) (w : Nat) (t : Time) (prev : Option Time) :
    ∃ l, (d.edgeCheck i w t prev).pin i = { d.pin i with fastLog := l } := by
  unfold Dev.edgeCheck
  split
  · exact ⟨_, rfl⟩
  · split
    · dsimp only
      split
      · exact ⟨_, by rw [Dev.logEvent_pin, Dev.pin_onPin (by simpa using h)]; rfl⟩
      · exact ⟨_, rfl⟩
    · exact ⟨_, rfl⟩

/-- The input after its edges are judged: only the instant of the last event for the log may be another. -/
def Dev.Judged (i : Nat) (d e : Dev) : Prop :=
  Within (.but { reg := fun r _ => r = .pinCtrl }) d e ∧ ∃ l, e.pin i = { d.pin i with fastLog := l }

theorem Dev.Judged.trans {i : Nat} {a b c : Dev} (h : Dev.Judged i a b) (h' : Dev.Judged i b c) : Dev.Judged i a c :=
  ⟨h.1.trans h'.1, h'.2.imp fun _ hl => by obtain ⟨l, hp⟩ := h.2; rw [hl, hp]⟩

theorem Dev.edgeCheck_judged (h : i < d.pins.length) (w : Nat) (t : Time) (prev : Option Time) :
    Dev.Judged i d (d.edgeCheck i w t prev) := ⟨by simp, Dev.edgeCheck_pin h w t prev⟩

theorem Dev.when_judged (h : i < d.pins.length) (c : Bool) (w : Nat) (t : Time) (prev : Option Time) :
    Dev.Judged i d (d.when c fun d => d.edgeCheck i w t prev) := by
  cases c
  · exact ⟨Within.refl _ _, _, rfl⟩
  · exact Dev.edgeCheck_judged h w t prev

theorem Dev.Judged.length {d e : Dev} (h : Dev.Judged i d e) : e.pins.length = d.pins.length := Dev.pins_length_of h.1

theorem Dev.Judged.fld {d e : Dev} (h : Dev.Judged i d e) (lo w : Nat) : e.fld .pinCtrl i lo w = d.fld .pinCtrl i lo w := by
  rw [Dev.fld, Dev.fld, h.1.reg _ _ (by simp)]

theorem Dev.Judged.regBit {d e : Dev} (h : Dev.Judged i d e) (b : Nat) : e.regBit .pinCtrl i b = d.regBit .pinCtrl i b := by
  rw [Dev.regBit, Dev.regBit, h.1.reg _ _ (by simp)]

theorem wrapInt_eq_bmod (x : Int) : wrapInt 64 x = Int.bmod x (2 ^ 64) := by
  simp only [wrapInt, signed, unsigned, Int.bmod, Nat.reducePow, Nat.reduceSub, Nat.cast_ofNat]
  omega

theorem wrapInt_wrapInt_add (c x : Int) : wrapInt 64 (wrapInt 64 c + x) = wrapInt 64 (c + x) := by
  simp only [wrapInt_eq_bmod, Int.bmod_add_bmod]

/-- A counted edge moves the count by one in its direction, unless a count set at its stamp has absorbed it (R116, R140). -/
theorem Dev.countEdge_pin (h : i < d.pins.length) (hinv : d.regBit .pinCtrl i 9 = false) (t : Time) (neg : Bool) :
    ((d.countEdge i t neg).pin i).count = wrapInt 64 ((d.pin i).count +
      if (d.pin i).setT = some t then 0 else if neg then -1 else 1) ∧ ((d.countEdge i t neg).pin i).a = (d.pin i).a := by
  unfold Dev.countEdge
  simp only [hinv, Bool.xor_false, Dev.pinFollow_pin, Dev.pin_onPin h]
  split
  next hs => 
    rw [PulseIn.shift]
    cases neg <;> simp [wrapInt_wrapInt_add]
  next hs => simp

/-- A double step of the levels counts nothing and loses the count (R118). -/
theorem Dev.cntLost_pin (h : i < d.pins.length) : (d.cntLost i).pin i = { d.pin i with lost := true } := by
  rw [Dev.cntLost, Dev.pinValidity_pin, Dev.pin_onPin h]

/-- What the count of an edge can change of an input that counts: its count and whether the count is lost; and its level A. -/
def PulseIn.tally (p : PulseIn) : Int × Bool × Bool := (p.count, p.lost, p.a)

theorem Dev.mlsLevels_pin (t : Time) (p : PulseIn) (a1 b1 z1 : Bool) (j : Nat) :
    (d.mlsLevels t i p a1 b1 z1).pin j = d.pin j := Within.pin (m := .noPin) (by simp) _ rfl

/-- Where A changes, a sample judges the edges, counts, and notes an index (R117, R118, R124). -/
theorem Dev.countLevels_tally (h : i < d.pins.length) (t : Time) (p : PulseIn) (a1 b1 z1 : Bool) (ha : a1 ≠ p.a) :
    ∃ e, Dev.Judged i d e ∧
      ((d.countLevels t i p a1 b1 z1).pin i).tally = ((e.countSample i t p.a p.b a1 b1).pin i).tally := by
  have h1 := Dev.when_judged h (xor a1 p.a) 0 t p.tA
  have h2 := Dev.when_judged (by rw [h1.length]; exact h) (xor b1 p.b) 1 t p.tB
  refine ⟨_, h1.trans h2, ?_⟩
  unfold Dev.countLevels
  extract_lets d1 d2 d3 zm m
  have hd3 : d3 = d2.countSample i t p.a p.b a1 b1 := if_pos (by simp [ha])
  have h3 : i < d3.pins.length := by
    have hw : Within (.but {}) d2 d3 := by simp [hd3]
    rw [Dev.pins_length_of hw, (h1.trans h2).length]; exact h
  rw [← hd3, Dev.when]
  split
  · rw [Dev.pin_onPin h3]; rfl
  · rfl

/-- PULSE_EDGE with a change of A on a counting input, by the count logic (R117, R118). -/
theorem Dev.pulseEdge_tally (h : i < d.pins.length) (hm : d.pinCounts i = true) (t : Time) (a : Bool) (b : Option Bool)
    (ha : a ≠ (d.pin i).a) :
    ∃ e, Within (.but { reg := fun r _ => r = .pinCtrl }) d e ∧
      ((e.pin i).count = (d.pin i).count ∧ (e.pin i).a = a ∧ (e.pin i).setT = (d.pin i).setT) ∧
      ((d.pulseEdge t i (some a) b none).pin i).tally =
        ((e.countSample i (t / 5 * 5) (d.pin i).a (d.pin i).b a (b.getD (d.pin i).b)).pin i).tally := by
  have hmode : 1 ≤ d.pinMode i ∧ d.pinMode i ≤ 3 := by simpa [Dev.pinCounts] using hm
  have hser : d.pinSerial i = false := by simp [Dev.pinSerial]; omega
  unfold Dev.pulseEdge
  extract_lets t5 b' sw0 sw1 p a1 b1 z1 d1
  have hb : b' = b := if_pos (by simp [Dev.pbPin, hser])
  rw [if_neg (by omega)]
  rw [Dev.mlsLevels_pin]
  have hm1 : d1.pinCounts i = true := hm
  simp only [Dev.when, hm1, if_true]
  obtain ⟨e, ⟨he, l, hp⟩, ht⟩ := Dev.countLevels_tally (d := d1) (by simpa [d1] using h) t5 p a1 b1 z1 ha
  refine ⟨e, (by simp [d1] : Within _ d d1).trans he, ?_, hb ▸ ht⟩
  rw [hp]
  simp only [d1, Dev.pin_onPin h]
  exact ⟨trivial, rfl, trivial⟩

/-- An edge of A on a step input, with the level of B as the direction (R116). -/
theorem Dev.pulseEdge_step (h : i < d.pins.length) (hm : d.pinMode i = 2) (hinv : d.regBit .pinCtrl i 9 = false)
    (ha : (d.pin i).a = false) (t : Time) :
    ((d.pulseEdge t i (some true) none none).pin i).count = wrapInt 64 ((d.pin i).count +
      if (d.pin i).setT = some (t / 5 * 5) then 0 else if (d.pin i).b then -1 else 1) ∧
    ((d.pulseEdge t i (some true) none none).pin i).a = true := by
  obtain ⟨e, he, ⟨hc, hl, hset⟩, htally⟩ :=
    Dev.pulseEdge_tally h (by simp [Dev.pinCounts, hm]) t true none (by simp [ha])
  have hreg := he.reg .pinCtrl i (by simp)
  have hm' : e.pinMode i = 2 := by rw [← hm, Dev.pinMode, Dev.pinMode, Dev.fld, Dev.fld, hreg]
  have hinv' : e.regBit .pinCtrl i 9 = false := by rw [← hinv, Dev.regBit, Dev.regBit, hreg]
  have hcount := Dev.countEdge_pin (d := e) (by rwa [Dev.pins_length_of he]) hinv' (t / 5 * 5) (d.pin i).b
  rw [hc, hl, hset] at hcount
  have hs : e.countSample i (t / 5 * 5) (d.pin i).a (d.pin i).b true (d.pin i).b = e.countEdge i (t / 5 * 5) (d.pin i).b := by
    simp [Dev.countSample, hm', ha]
  simp only [Option.getD_none, hs, PulseIn.tally, Prod.mk.injEq] at htally
  exact ⟨htally.1.trans hcount.1, htally.2.2.trans hcount.2⟩

/-- Both levels of a quadrature input change in one sample: the count is lost (R118). -/
theorem Dev.pulseEdge_double (h : i < d.pins.length) (hm : d.pinMode i = 1) (ha : (d.pin i).a = false)
    (hb : (d.pin i).b = false) (t : Time) :
    ((d.pulseEdge t i (some true) (some true) none).pin i).lost = true ∧
    ((d.pulseEdge t i (some true) (some true) none).pin i).count = (d.pin i).count := by
  obtain ⟨e, he, ⟨hc, hl, hset⟩, htally⟩ :=
    Dev.pulseEdge_tally h (by simp [Dev.pinCounts, hm]) t true (some true) (by simp [ha])
  have hm' : e.pinMode i = 1 := by rw [← hm, Dev.pinMode, Dev.pinMode, Dev.fld, Dev.fld, he.reg .pinCtrl i (by simp)]
  have hs : ((e.countSample i (t / 5 * 5) (d.pin i).a (d.pin i).b true true).pin i) = { e.pin i with lost := true } := by
    simp only [Dev.countSample, hm', ha, hb, quadPhase]
    rw [Dev.cntLost_pin (by rwa [Dev.logEvent_pins, Dev.pins_length_of he]), Dev.logEvent_pin]
  simp only [Option.getD_some, hs, PulseIn.tally, Prod.mk.injEq] at htally
  exact ⟨htally.2.1, htally.1.trans hc⟩

/-- A level that has held for its minimum time is the level of the wire (R120). -/
theorem Dev.switchDebounce_pin (h : i < d.pins.length) (hm : d.pinMode i = 4) {w : Nat} (hw : w < 3) {x : Bounce} {t : Time}
    (hx : (d.pin i).bounce.find? (·.wire = w) = some x) (ht : x.t + d.minEdge i ≤ t) :
    let e := d.switchDebounce t i w
    (if w = 0 then (e.pin i).a else if w = 1 then (e.pin i).b else (e.pin i).z) = x.level ∧
      (e.pin i).bounce.any (·.wire = w) = false := by
  have hxw : x.wire = w := by simpa using List.find?_some hx
  intro e
  have he : e = d.switchEdge i x := by simp only [e, Dev.switchDebounce, hx]; rw [if_pos ⟨hm, ht⟩]
  rw [he, Dev.switchEdge, Dev.mlsEdge_pin, Dev.pin_onPin h, hxw]
  refine ⟨?_, by simp⟩
  obtain rfl | rfl | rfl : w = 0 ∨ w = 1 ∨ w = 2 := by omega
  all_goals rfl

/-- Settles O21: an edge by the levels that it leaves, and a switch input. -/
theorem pulseEdgesAct : Obligations.PulseEdgesAct := by
  unfold Obligations.PulseEdgesAct
  intro s t i ha hs hi p
  have h := hs.pin_lt hi
  simp only [runs_iff, Machine.exec]
  refine ⟨fun hm hinv hpa hpb hset => .onPinEvent hi ha fun l => ?_, fun hm hinv hpa hpb hset => .onPinEvent hi ha fun l => ?_,
    fun hm hinv hpa hpb hset => .onPinEvent hi ha fun l => ?_, fun hm hinv hpa hpb => .onPinEvent hi ha fun l => ?_,
    fun w x hm hw hx ht => .onPinEvent hi ha fun l => ?_⟩
  all_goals rw [Dev.settled_pin]
  · have hc := Dev.pulseEdge_step (d := s.dev.at t) h hm hinv hpa t
    rw [if_neg (by exact hset), if_neg (by exact Bool.eq_false_iff.mp hpb)] at hc
    exact hc
  · have hc := Dev.pulseEdge_step (d := s.dev.at t) h hm hinv hpa t
    rw [if_pos (by exact hset), Int.add_zero] at hc
    exact hc
  · have hc := Dev.pulseEdge_step (d := s.dev.at t) h hm hinv hpa t
    rw [if_neg (by exact hset), if_pos (by exact hpb)] at hc
    exact hc
  · exact Dev.pulseEdge_double (d := s.dev.at t) h hm hpa hpb t
  · exact Dev.switchDebounce_pin (d := s.dev.at t) h hm hw hx ht

end

end Sys2Proof.Machine
end

section
/-! Index, wire faults, standstill and serial transfers of a pulse input (R119, R122, R124–R127, R132–R134). -/
namespace Sys2Proof.Machine
open Sys2Proof

section
variable {d : Dev} {i : Nat}

/-- The lanes on their detour settle; the status of the inputs stands. -/
theorem Dev.settled_pinStat {d : Dev} (l : List Nat) (i b : Nat) :
    (d.forEach l fun n d => d.settleFault n).regBit .pinStat i b = d.regBit .pinStat i b :=
  Dev.forEach_eq (fun e => e.regBit .pinStat i b)
    (fun n e => by
      rw [Dev.regBit, Within.reg (m := .noPin) (by simp : Within _ e (e.settleFault n)) .pinStat i rfl, Dev.regBit]) _ _

@[simp] theorem Dev.mlsSlip_pin (j : Nat) (t : Time) (c x : Int) : (d.mlsSlip i t c x).pin j = d.pin j :=
  Within.pin (m := .noPin) (by simp) _ rfl

/-- A drift for the log leaves the count and what the next index is for (R126). -/
theorem Dev.driftEvent_pin (h : i < d.pins.length) (code : Nat) (x c : Int) :
    ∃ l, (d.driftEvent i code x c).pin i = { d.pin i with driftLog := l } := by
  unfold Dev.driftEvent
  split
  · exact ⟨_, rfl⟩
  · exact ⟨_, by rw [Dev.logEvent_pin, Dev.pin_onPin h]⟩

/-- INDEX_EVENT in the positive direction with no reference yet: it is the reference (R124, R125). -/
theorem Dev.indexEvent_first (h : i < d.pins.length) {x : PulseEdge} (hx : (d.pin i).idxPend = some x) (hn : x.neg = false)
    (hr : (d.pin i).refPos = none) :
    (d.indexEvent i).pin i = { d.pin i with idxPend := none, refPos := some x.count } := by
  simp only [Dev.indexEvent, hx, hn, Dev.pin_onPin h, hr, Bool.false_eq_true, if_false]
  rw [Dev.mlsIndex_pin, Dev.logEvent_pin, Dev.pin_onPin (by simpa using h), Dev.pin_onPin h]

theorem Dev.indexCheck_slip (h : i < d.pins.length) {x : PulseEdge} {drift : Int} (hd : d.fld .pinWin i 0 16 < drift.natAbs)
    (ha : (d.pin i).alignPend = false) :
    (d.indexCheck i x drift).regBit .pinStat i 7 = true ∧ ((d.indexCheck i x drift).pin i).count = (d.pin i).count ∧
      ((d.indexCheck i x drift).pin i).alignPend = false := by
  unfold Dev.indexCheck
  extract_lets d1
  have hwin : d1.fld .pinWin i 0 16 = d.fld .pinWin i 0 16 := by
    rw [Dev.fld, Dev.reg_setFld_ne _ (by simp), Dev.fld]
  rw [if_neg (by rw [hwin]; omega)]
  have hs : Within .noPin (d1.setFlag .pinStat i 7) ((d1.setFlag .pinStat i 7).mlsSlip i x.t x.count drift) := by simp
  have he : Within (.but { reg := fun r _ => r = .pinStat }) ((d1.setFlag .pinStat i 7).mlsSlip i x.t x.count drift)
    (((d1.setFlag .pinStat i 7).mlsSlip i x.t x.count drift).driftEvent i 0x0606 drift x.count) := by simp
  obtain ⟨l, hl⟩ := Dev.driftEvent_pin (d := (d1.setFlag .pinStat i 7).mlsSlip i x.t x.count drift)
    (by rw [Dev.pins_length_of hs]; exact h) 0x0606 drift x.count
  refine ⟨?_, ?_, ?_⟩
  · rw [Dev.regBit, he.reg _ _ (by simp), hs.reg _ _ rfl]
    exact Dev.regBit_setFlag _ _ _ (by omega)
  · rw [hl, Dev.mlsSlip_pin]; rfl
  · rw [hl, Dev.mlsSlip_pin]; exact ha

/-- An index off its reference sets the slip flag and moves no count (R126). -/
theorem Dev.indexEvent_slip (h : i < d.pins.length) {x : PulseEdge} {r : Int} (hx : (d.pin i).idxPend = some x)
    (hn : x.neg = false) (hr : (d.pin i).refPos = some r)
    (hd : d.fld .pinWin i 0 16 < (indexDrift x.count r (d.pinCpt i)).natAbs) (ha : (d.pin i).alignPend = false) :
    (d.indexEvent i).regBit .pinStat i 7 = true ∧ ((d.indexEvent i).pin i).count = (d.pin i).count := by
  simp only [Dev.indexEvent, hx, hn, Dev.pin_onPin h, hr, Bool.false_eq_true, if_false]
  set e : Dev := d.onPin i fun p => { p with idxPend := none } with he
  set drift := indexDrift x.count r (e.pinCpt i)
  have hm : Within (.but { pin := every, reg := fun r _ => r = .pinWin }) e (e.mlsIndex i x.t x.count drift) := by simp
  obtain ⟨hwin, halign, hcount, hpins⟩ : (e.mlsIndex i x.t x.count drift).fld .pinWin i 0 16 = d.fld .pinWin i 0 16 ∧
      ((e.mlsIndex i x.t x.count drift).pin i).alignPend = false ∧
      ((e.mlsIndex i x.t x.count drift).pin i).count = (d.pin i).count ∧
      i < (e.mlsIndex i x.t x.count drift).pins.length := by
    refine ⟨?_, ?_, ?_, ?_⟩
    · rw [Dev.fld, hm.reg _ _ (by simp)]; rfl
    · rw [hm.pin _ rfl, he, Dev.pin_onPin h]; exact ha
    · rw [hm.pin _ rfl, he, Dev.pin_onPin h]
    · rw [Dev.pins_length_of hm]; simpa [he] using h
  obtain ⟨hflag, hslip, hal⟩ := Dev.indexCheck_slip (x := x) (drift := drift) hpins (by rw [hwin]; exact hd) halign
  rw [Dev.indexAlign, hal]
  exact ⟨hflag, hslip.trans hcount⟩

/-- WIRE_FAULT marks the pair and the count is lost (R119, R122). -/
theorem Dev.wireFault_pin (h : i < d.pins.length) {pair : Nat} (hc : d.regBit .pinCtrl i 11 = true)
    (hu : d.pairUsed i pair = true) (hw : (d.pin i).wire pair = false) :
    ((d.wireFault i pair).pin i).wire pair = true ∧ ((d.wireFault i pair).pin i).lost = true := by
  have hp : pair = 0 ∨ pair = 1 ∨ pair = 2 := by
    unfold Dev.pairUsed at hu
    split at hu <;> simp_all
  unfold Dev.wireFault
  rw [if_neg (by simp [hc, hu, hw]), Dev.cntLost_pin (by simpa using h), Dev.logEvent_pin, Dev.pin_onPin h]
  refine ⟨?_, rfl⟩
  obtain rfl | rfl | rfl := hp
  all_goals simp [PulseIn.wire]

theorem Dev.wireFaultClear_pin (h : i < d.pins.length) :
    (d.wireFaultClear i).pin i = { d.pin i with wireA := false, wireB := false, wireZ := false } := by
  rw [Dev.wireFaultClear, Dev.pinValidity_pin, Dev.pin_onPin h]

/-- No edge for the standstill time: the speed is zero (R127). -/
theorem Dev.pulseStill_pin (h : i < d.pins.length) {t : Time} {e : PulseEdge} (he : (d.pin i).lastEdge = some e)
    (hc : d.pinCounts i = true) (ht : e.t + 400000 * d.fld .pinWin i 16 16 ≤ t) (hu : (d.pin i).unused = []) :
    ((d.pulseStill t i).pin i).vel = 0 ∧ ((d.pulseStill t i).pin i).still = true ∧
      ((d.pulseStill t i).pin i).count = (d.pin i).count := by
  simp only [Dev.pulseStill, he]
  rw [if_pos ⟨hc, ht, hu⟩, Dev.pinSpeedAt, Dev.pin_onPin h]
  simp [hu, he, ht]

/-! ### Serial transfers -/

theorem Dev.serStart_pin (h : i < d.pins.length) (hs : d.pinSerial i = true) (hk : d.time.k.isSome = true)
    (hf : (d.pin i).serFrame ≠ d.time.k) :
    (d.serStart i).pin i =
      { d.pin i with serStart := some (d.time.t0 + 20 * d.fld .serTim i 14 18), serFrame := d.time.k } := by
  unfold Dev.serStart
  rw [if_neg (by simp [hs, hf, Option.isSome_iff_ne_none.mp hk])]
  exact Dev.pin_onPin (d := d.at _) h _

/-- A bad transfer counts, and its event flag sets (R134). -/
theorem Dev.serBadEnd_pin (h : i < d.pins.length) (c : Nat) :
    ((d.serBadEnd i c).pin i).serStart = (d.pin i).serStart ∧ ((d.serBadEnd i c).pin i).badRun = (d.pin i).badRun + 1 ∧
      ((d.serBadEnd i c).pin i).count = (d.pin i).count ∧ (d.serBadEnd i c).regBit .pinStat i 10 = true := by
  unfold Dev.serBadEnd
  extract_lets d1 d2
  have h1 : i < d1.pins.length := by simpa [d1] using h
  have hp : d2.pin i = { d.pin i with badRun := (d.pin i).badRun + 1, goodRun := 0 } := by
    simp only [d2, Dev.pin_onPin h1, d1, Dev.logEvent_pin, Dev.addCnt_pin, Dev.setFlag_pin]
  have hf : d2.regBit .pinStat i 10 = true := by
    have : d2.reg .pinStat i = (d.setFlag .pinStat i 10).reg .pinStat i := by
      simp only [d2, d1]
      exact (Dev.logEvent_reg _ _ _ _ _ (by simp)).trans (Dev.reg_addCnt_ne _ (by simp))
    rw [Dev.regBit, this]
    exact Dev.regBit_setFlag _ _ _ (by omega)
  split
  · have hw : ∀ q v, Within (.but { reg := fun r _ => r = .pinStat }) d2
        (((d2.onPin i q).logEvent 0x0608 kPulse i v).pinValidity i) := fun q v => by
      have hl : Within (.but { reg := fun r _ => r = .pinStat }) d2 ((d2.onPin i q).logEvent 0x0608 kPulse i v) := by simp
      simp [hl]
    refine ⟨?_, ?_, ?_, ?_⟩
    · rw [Dev.pinValidity_pin, Dev.logEvent_pin, Dev.pin_onPin (by simpa [d2] using h1), hp]
    · rw [Dev.pinValidity_pin, Dev.logEvent_pin, Dev.pin_onPin (by simpa [d2] using h1), hp]
    · rw [Dev.pinValidity_pin, Dev.logEvent_pin, Dev.pin_onPin (by simpa [d2] using h1), hp]
    · rw [Dev.regBit, (hw ..).reg _ _ (by simp)]; exact hf
  · rw [hp]
    exact ⟨rfl, rfl, rfl, hf⟩

/-- A good transfer moves the count by its advance (R128, R133, R134). -/
theorem Dev.serGoodEnd_pin (h : i < d.pins.length) (u : Nat) (ts : Time) (diff : Int) :
    ((d.serGoodEnd i u ts diff).pin i).serStart = (d.pin i).serStart ∧
      ((d.serGoodEnd i u ts diff).pin i).count = wrapInt 64 ((d.pin i).count + diff) ∧
      ((d.serGoodEnd i u ts diff).pin i).uPrev = some u ∧ ((d.serGoodEnd i u ts diff).pin i).badRun = 0 ∧
      ((d.serGoodEnd i u ts diff).pin i).goodRun = (d.pin i).goodRun + 1 ∧
      ((d.serGoodEnd i u ts diff).pin i).serInvalid = ((d.pin i).serInvalid && decide ((d.pin i).goodRun = 0)) ∧
      ((d.serGoodEnd i u ts diff).pin i).transfers.head? = some (ts, (d.pin i).count + diff) := by
  rw [Dev.serGoodEnd, Dev.pinFollow_pin, Dev.pinValidity_pin, Dev.pin_onPin h]
  cases h7 : (d.pin i).transfers.take 7 with
  | nil => exact ⟨rfl, rfl, rfl, rfl, rfl, rfl, rfl⟩
  | cons x xs =>
    dsimp only
    split
    all_goals exact ⟨rfl, rfl, rfl, rfl, rfl, rfl, rfl⟩

/-- A transfer that has ended, with the warning of the sensor taken, before its word is judged (R130, R132). -/
def Dev.serTaken (d : Dev) (i : Nat) (x : SerialFrame) : Dev :=
  let e := d.onPin i fun p => { p with serStart := none }
  if d.pinMode i = 6 ∧ (d.serBad i x = none ∨ d.serBad i x = some 2) ∧ !x.nW then e.setFlag .pinStat i 11 else e

theorem Dev.serTaken_pin (h : i < d.pins.length) (x : SerialFrame) :
    (d.serTaken i x).pin i = { d.pin i with serStart := none } ∧ i < (d.serTaken i x).pins.length := by
  unfold Dev.serTaken
  extract_lets e
  have he : e.pin i = { d.pin i with serStart := none } := Dev.pin_onPin h _
  split
  · exact ⟨he, by simpa [e] using h⟩
  · exact ⟨he, by simpa [e] using h⟩

theorem Dev.serEnd_bad {x : SerialFrame} {c : Nat} (hs : d.pinSerial i = true) (ht : (d.pin i).serStart.isSome = true)
    (hb : d.serBad i x = some c) : d.serEnd i x = (d.serTaken i x).serBadEnd i c := by
  obtain ⟨t0, h0⟩ := Option.isSome_iff_exists.mp ht
  simp only [Dev.serEnd, h0]
  rw [if_neg (by simp [hs])]
  have hb' : (d.onPin i fun p => { p with serStart := none }).serBad i x = some c := hb
  simp only [hb', Dev.serTaken, hb]
  rfl

/-- The advance of a transfer rests on the configuration, the position before it and the count (R133). -/
theorem Dev.serAdvance_congr {e : Dev} (hr : ∀ r, r ≠ .pinStat → e.reg r i = d.reg r i) (hu : (e.pin i).uPrev = (d.pin i).uPrev)
    (hc : (e.pin i).count = (d.pin i).count) (u : Nat) : e.serAdvance i u = d.serAdvance i u := by
  simp only [Dev.serAdvance, Dev.fld, Dev.regBit, hr .serFmt (by simp), hr .serLim (by simp), hr .pinCtrl (by simp), hu, hc]
  rfl

theorem Dev.serTaken_reg (x : SerialFrame) {r : RegId} (h : r ≠ .pinStat) : (d.serTaken i x).reg r i = d.reg r i := by
  unfold Dev.serTaken
  extract_lets e
  split
  · exact Dev.reg_setFlag_ne _ fun hc => h hc.1
  · rfl

theorem Dev.serEnd_good (h : i < d.pins.length) {x : SerialFrame} {t0 : Time} {diff : Int} (hs : d.pinSerial i = true)
    (ht : (d.pin i).serStart = some t0) (hb : d.serBad i x = none) {u : Nat}
    (hu : u = (d.serWord i x / 2 ^ d.fld .serFmt i 6 6) % 2 ^ (d.fld .serFmt i 12 6 + d.fld .serFmt i 18 6))
    (ha : d.serAdvance i u = some diff) :
    d.serEnd i x = (d.serTaken i x).serGoodEnd i u (t0 + 100 * d.fld .serLim i 0 8) diff := by
  unfold Dev.serEnd
  rw [ht]
  dsimp -zeta only
  rw [if_neg (by simp [hs])]
  extract_lets e bad d1 u'
  have hd1 : d1 = d.serTaken i x := rfl
  have hbad : bad = none := hb
  obtain ⟨hp, -⟩ := Dev.serTaken_pin h x
  have hreg : ∀ {r}, r ≠ .pinStat → (d.serTaken i x).reg r i = d.reg r i := Dev.serTaken_reg x
  have ha' : (d.serTaken i x).serAdvance i u = some diff := by
    rw [Dev.serAdvance_congr (fun r => hreg) (by rw [hp]) (by rw [hp])]; exact ha
  have hword : (d.serTaken i x).serWord i x = d.serWord i x := by
    simp only [Dev.serWord, Dev.pinMode, Dev.fld, Dev.regBit, hreg (r := .serFmt) (by simp),
      hreg (r := .pinCtrl) (by simp)]
    rfl
  have hfld : ∀ {r} lo w, r ≠ .pinStat → (d.serTaken i x).fld r i lo w = d.fld r i lo w := fun lo w hr => by
    rw [Dev.fld, hreg hr, Dev.fld]
  have hu' : u' = u := by simp only [u', hd1, hword, hfld (r := .serFmt) _ _ (by simp), hu]
  rw [hu', hd1, hbad]
  simp only [hfld (r := .serLim) _ _ (by simp), ha']

end

/-- Settles O22: the check of an index, of the wires, of the standstill, and the ends of a serial transfer. -/
theorem pulseChecksAct : Obligations.PulseChecksAct := by
  unfold Obligations.PulseChecksAct
  intro s t i ha hs hi p
  have h := hs.pin_lt hi
  simp only [runs_iff, Machine.exec]
  refine ⟨fun x hx hn hr => .onPinEvent hi ha fun l => ?_, fun x r hx hn hr hd hal => .onPinEvent hi ha fun l => ?_,
    fun pair hc hu hw => .onPinEvent hi ha fun l => ?_, .onPinEvent hi ha fun l => ?_,
    fun e he hc ht hu => .onPinEvent hi ha fun l => ?_, fun hser hk hf => .onUnit hi ?_,
    fun x c hser ht hb => .onPinEvent hi ha fun l => ?_, fun x t0 diff hser ht hb had => ?_⟩
  · rw [Dev.settled_pin, Dev.indexEvent_first (d := s.dev.at t) h hx hn hr]
    exact ⟨rfl, rfl, rfl⟩
  · rw [Dev.settled_pin, Dev.settled_pinStat]
    exact Dev.indexEvent_slip (d := s.dev.at t) h hx hn hr hd hal
  · rw [Dev.settled_pin]
    exact Dev.wireFault_pin (d := s.dev.at t) h hc hu hw
  · rw [Dev.settled_pin, Dev.wireFaultClear_pin (d := s.dev.at t) h]
    exact ⟨rfl, rfl, rfl, rfl⟩
  · rw [Dev.settled_pin]
    exact Dev.pulseStill_pin (d := s.dev.at t) h he hc ht hu
  · rw [Dev.when, ha, if_pos rfl, Dev.serStart_pin h hser hk hf]
    exact ⟨rfl, rfl⟩
  · obtain ⟨hp, hlen⟩ := Dev.serTaken_pin (d := s.dev.at t) h x
    rw [Dev.settled_pin, Dev.settled_pinStat, Dev.serEnd_bad (d := s.dev.at t) hser ht hb]
    obtain ⟨hstart, hrun, hcount, hflag⟩ := Dev.serBadEnd_pin hlen c
    rw [hp] at hstart hrun hcount
    exact ⟨hstart, hrun, hcount, hflag⟩
  · generalize hu : (s.dev.serWord i x / 2 ^ s.dev.fld .serFmt i 6 6) %
      2 ^ (s.dev.fld .serFmt i 12 6 + s.dev.fld .serFmt i 18 6) = u at had ⊢
    refine .onPinEvent hi ha fun l => ?_
    obtain ⟨hp, hlen⟩ := Dev.serTaken_pin (d := s.dev.at t) h x
    rw [Dev.settled_pin, Dev.serEnd_good (d := s.dev.at t) h hser ht hb hu.symm had]
    obtain ⟨hstart, hgood⟩ := Dev.serGoodEnd_pin hlen u (t0 + 100 * s.dev.fld .serLim i 0 8) diff
    rw [hp] at hstart hgood
    exact ⟨hstart, hgood⟩

end Sys2Proof.Machine
end

section
/-! Encoder emulation and step outputs: edges, steps and stalls (R145, R147, R149, R154, R156, R158). -/
namespace Sys2Proof.Machine
open Sys2Proof

section
variable {d : Dev} {o n : Nat}

theorem Dev.emu_onEmu (h : o < d.emus.length) (f : EmuOut → EmuOut) : (d.onEmu o f).emu o = f (d.emu o) := by
  simp [Dev.emu, Dev.onEmu, h]

/-! ### The feedback of a step output -/

/-- An output that is no emulation does not move with its lane (R149). -/
theorem Dev.emuFollow_emu (hsrc : d.emuSrc o ≠ 1) (n : Nat) (t : Time) (b : Bool) : (d.emuFollow n t b).emu o = d.emu o := by
  have hw : Within (.but { emu := (· = o), reg := fun r _ => r = .emuCtrl }) d (d.emuFollow n t b) := by
    refine Within.forEach_mem (Within.refl _ _) _ _ fun m _ e he => ?_
    split
    next hm =>
      have hmo : m ≠ o := fun hmo => hsrc (by rw [← hm, hmo, Dev.emuSrc, Dev.emuSrc, Dev.fld, Dev.fld, he.reg .emuCtrl o (by simp)])
      simp [he, hmo]
    next => exact he
  exact hw.emu o (by simp)

theorem Dev.emuSrc_of_stepFb {m : Nat} (h : d.stepFb m = some o) : d.emuSrc o = 2 := by
  have := List.find?_some h
  simp only [Bool.and_eq_true, decide_eq_true_eq] at this
  exact this.1

/-! ### A count leaves -/

/-- What an output shows of the count that has left it at `t` (R145, R147). -/
def EmuOut.Emitted (x : EmuOut) (t : Time) (dir : Int) (y : EmuOut) : Prop :=
  y.e = wrapInt 64 (x.e + dir) ∧ y.queue = x.queue.tail ∧ y.lastDir = dir ∧ y.lastT = some (ceil5 t)

theorem Dev.emuEmit_emu (h : o < d.emus.length) (t : Time) (dir : Int) :
    (d.emu o).Emitted t dir ((d.emuEmit o t dir).emu o) := by
  unfold Dev.emuEmit
  extract_lets t' n lim d1 d2
  have he : (d.emu o).Emitted t dir (d2.emu o) := by
    simp only [d2, Dev.emuPins]
    rw [Dev.emu_onEmu (by simpa [d1, Dev.onEmu] using h), Dev.emu_onEmu (d := d1) h]
    exact ⟨rfl, rfl, rfl, rfl⟩
  split
  next hs =>
    rw [Dev.emuFollow_emu]
    · exact he
    · have : d2.emuSrc o = 2 := Dev.emuSrc_of_stepFb hs
      omega
  next => exact he

theorem le_ceil5 (t : Time) : t ≤ ceil5 t := by
  simp only [ceil5, Time] at *
  omega

/-- No count leaves before the least spacing after the last one (R147). -/
theorem Dev.emuInstant_spacing (o : Nat) (sched : Time) (dir : Int) {l : Time} (hl : (d.emu o).lastT = some l) :
    l + d.emuSpacing o ≤ d.emuInstant o sched dir := by
  have hmax : l + d.emuSpacing o ≤ max sched (l + d.emuSpacing o) := le_max_right _ _
  simp only [Dev.emuInstant, hl]
  split
  · exact hmax.trans (le_max_left _ _)
  · exact hmax

/-- The spacing of the count that leaves at `t` from the one before it (R147). -/
theorem EmuOut.Emitted.spaced {x y : EmuOut} {t : Time} {dir : Int} (h : x.Emitted t dir y) {s : Nat}
    (ht : ∀ l, x.lastT = some l → l + s ≤ t) : ∀ l, x.lastT = some l → ∃ u, y.lastT = some u ∧ l + s ≤ u := fun l hl =>
  ⟨_, h.2.2.2, (ht l hl).trans (le_ceil5 t)⟩

/-- EMU_EDGE_EMIT sends the edge at the front of the queue (R149). -/
theorem Dev.emuEdgeEmit_emu (h : o < d.emus.length) {t sched : Time} {exact : Bool} {dir : Int} {rest : List (Time × Bool × Int)}
    (hs : d.emuSrc o = 1) (he : (d.emu o).een = true) (hq : (d.emu o).queue = (sched, exact, dir) :: rest) :
    ∃ u, (d.emu o).Emitted u dir ((d.emuEdgeEmit t o).emu o) ∧ ∀ l, (d.emu o).lastT = some l → l + d.emuSpacing o ≤ u := by
  unfold Dev.emuEdgeEmit
  simp only [hq, hs, he, and_self, if_true]
  refine ⟨_, Dev.emuEmit_emu h _ _, fun l hl => ?_⟩
  have := Dev.emuInstant_spacing o sched dir hl
  split
  · exact this
  · exact this.trans (le_max_left _ _)

/-- STEP_EMIT sends the step at the front of the queue (R154). -/
theorem Dev.stepEmit_queued (h : o < d.emus.length) {sched : Time} {exact : Bool} {dir : Int} {rest : List (Time × Bool × Int)}
    (hs : d.emuSrc o = 2) (hl : d.emuLive o = true) (he : (d.emu o).een = true)
    (hq : (d.emu o).queue = (sched, exact, dir) :: rest) :
    (d.emu o).Emitted (d.emuInstant o sched dir) dir ((d.stepEmit o).emu o) := by
  unfold Dev.stepEmit
  simp only [hq, hs, hl, he, Bool.and_self, Bool.not_true, decide_true, Bool.false_eq_true, if_false]
  exact Dev.emuEmit_emu h _ _

/-- A step of the backlog goes towards the target (R154). -/
theorem Dev.stepEmit_backlog (h : o < d.emus.length) (hs : d.emuSrc o = 2) (hl : d.emuLive o = true)
    (he : (d.emu o).een = true) (hq : (d.emu o).queue = []) (hx : (d.emu o).x ≠ (d.emu o).e) :
    ((d.stepEmit o).emu o).e = wrapInt 64 (if (d.emu o).e < (d.emu o).x then (d.emu o).e + 1 else (d.emu o).e - 1) := by
  unfold Dev.stepEmit
  simp only [hq, hs, hl, he, hx, Bool.and_self, Bool.not_true, decide_true, Bool.false_eq_true, if_false]
  rw [(Dev.emuEmit_emu h _ _).1]
  split <;> rfl

/-! ### Stall -/

/-- No output's stall changes. -/
def Dev.StallsKept (d e : Dev) : Prop := ∀ o, (e.emu o).stall = (d.emu o).stall

theorem Dev.StallsKept.refl (d : Dev) : Dev.StallsKept d d := fun _ => rfl

section
variable {e : Dev} {o : Nat}

theorem Dev.StallsKept.within {f : Dev} (h : Dev.StallsKept d e) (hw : Within (.but { emu := every }) e f) :
    Dev.StallsKept d f := fun o => by rw [hw.emu o rfl, h o]

theorem Dev.StallsKept.onEmu (h : Dev.StallsKept d e) {f : EmuOut → EmuOut} (hf : ∀ x, (f x).stall = x.stall) :
    Dev.StallsKept d (e.onEmu o f) := fun k => by
  rw [← h k]
  by_cases hk : k = o
  · subst hk
    by_cases hlen : k < e.emus.length
    · rw [Dev.emu_onEmu hlen, hf]
    · simp [Dev.emu, Dev.onEmu, hlen]
  · have := Within.emu (m := .but { emu := (· = k) }) (d := e) (e := e.onEmu o f) (by simp [Ne.symm hk]) k (by simp)
    rw [this]

theorem Dev.StallsKept.forEach (h : Dev.StallsKept d e) {f : Nat → Dev → Dev}
    (hf : ∀ n e, Dev.StallsKept d e → Dev.StallsKept d (f n e)) (l : List Nat) : Dev.StallsKept d (e.forEach l f) := by
  induction l generalizing e with
  | nil => exact h
  | cons a l ih => exact ih (hf a e h)

theorem Dev.StallsKept.emuPins (h : Dev.StallsKept d e) : Dev.StallsKept d (e.emuPins o) := h.onEmu fun _ => rfl

theorem Dev.StallsKept.emuBacklog (h : Dev.StallsKept d e) : Dev.StallsKept d (e.emuBacklog o) := by
  unfold Dev.emuBacklog
  extract_lets x act e1
  split
  · exact h
  · split
    · exact h.onEmu fun _ => rfl
    · have h1 : Dev.StallsKept d e1 := by
        unfold e1 Dev.when
        split
        · have h0 : Dev.StallsKept d (e.onEmu o fun x => { x with ovr := true, above := true }) := h.onEmu fun _ => rfl
          exact h0.within (by simp)
        · exact h
      unfold Dev.when
      split
      · exact .emuPins (h1.onEmu fun _ => rfl)
      · exact h1

theorem Dev.StallsKept.emuMove (h : Dev.StallsKept d e) (t : Time) (p : Int) (b : Bool) : Dev.StallsKept d (e.emuMove o t p b) := by
  unfold Dev.emuMove
  dsimp only
  split
  · exact h.onEmu fun _ => rfl
  · split
    · exact h.onEmu fun _ => rfl
    · split
      all_goals exact .emuBacklog (h.onEmu fun _ => rfl)

theorem Dev.StallsKept.emuFollow (h : Dev.StallsKept d e) (n : Nat) (t : Time) (b : Bool) : Dev.StallsKept d (e.emuFollow n t b) := by
  refine h.forEach (fun o f hf => ?_) _
  split
  · exact hf.emuMove _ _ _
  · exact hf

theorem Dev.StallsKept.emuReconcile (h : Dev.StallsKept d e) : Dev.StallsKept d (e.emuReconcile o) := by
  unfold Dev.emuReconcile
  extract_lets m n x
  split
  · exact h
  · split
    · exact h.onEmu fun _ => rfl
    next hk _ =>
      extract_lets c dx e1 e2
      have h1 : Dev.StallsKept d e1 := h.onEmu fun _ => rfl
      have h2 : Dev.StallsKept d ((e1.setFlag .emuStat o 3).logEvent 0x0702 kEmu o (evI dx ++ evI hk)) :=
        h1.within (by simp)
      have h3 : Dev.StallsKept d e2 := .emuPins (h2.onEmu fun _ => rfl)
      split
      · exact h3.emuFollow _ _ _
      · exact h3

theorem Dev.StallsKept.emuRealign (h : Dev.StallsKept d e) : Dev.StallsKept d (e.emuRealign o) :=
  .emuPins (h.onEmu fun _ => rfl)

theorem Dev.StallsKept.emuResume (h : Dev.StallsKept d e) : Dev.StallsKept d (e.emuResume o) := by
  unfold Dev.emuResume
  split
  · exact h.onEmu fun _ => rfl
  · split
    · exact h.onEmu fun _ => rfl
    · exact (h.emuRealign (o := o)).within (by simp)

theorem Dev.StallsKept.emuRefresh (h : Dev.StallsKept d e) : Dev.StallsKept d (e.emuRefresh o) := by
  unfold Dev.emuRefresh
  extract_lets e1 want was e2 e3
  have h1 : Dev.StallsKept d e1 := h.emuResume
  have h2 : Dev.StallsKept d e2 := by
    unfold e2
    split
    · exact h1
    · exact h1.onEmu fun _ => rfl
  have h3 : Dev.StallsKept d e3 := by
    unfold e3
    split
    · exact h2.emuReconcile
    · exact h2
  exact .emuPins (h3.onEmu fun _ => rfl)

theorem Dev.StallsKept.emuRefreshLane (h : Dev.StallsKept d e) (n : Nat) : Dev.StallsKept d (e.emuRefreshLane n) :=
  h.forEach (fun _ _ hf => hf.emuRefresh) _

/-- The start and the stop of tracking bring the outputs of the lane to its state (R152, R405). -/
theorem Dev.StallsKept.refreshTracking (h : Dev.StallsKept d e) (n : Nat) : Dev.StallsKept d (e.refreshTracking n) := by
  unfold Dev.refreshTracking
  extract_lets stop e1 e2 on
  have h2 : Dev.StallsKept d e2 := h.within (by
    have h1 : Within (.but { emu := every }) e e1 := by
      unfold e1; split <;> simp
    simp [e2, h1])
  split
  · exact h2
  · split
    · unfold Dev.startTracking
      extract_lets k e3 e4
      have h4 : Dev.StallsKept d e4 := h2.within (by simp [e4, e3])
      split
      · exact .emuRefreshLane (h4.within (by simp)) n
      · exact h4.emuRefreshLane n
    · exact .emuRefreshLane (h2.within (by simp)) n

theorem Dev.StallsKept.settleFault (h : Dev.StallsKept d e) (n : Nat) : Dev.StallsKept d (e.settleFault n) := by
  unfold Dev.settleFault
  split
  · unfold Dev.settleLane
    extract_lets e1
    have h1 : Dev.StallsKept d (e1.mapLaneState n) := h.within (by
      have hw : Within (.but { emu := every }) e e1 := by unfold e1; split <;> simp
      simp [hw])
    refine .emuRefreshLane ?_ n
    unfold Dev.retrack
    extract_lets e2
    have h2 : Dev.StallsKept d e2 := h1.refreshTracking n
    split
    · exact h2.within (by simp)
    · exact h2
  · exact h

end

/-- STALL_DETECT counts the stall and, with `STALL_ACT`, faults the lane in RUN (R158). -/
theorem Dev.stallDetect_emu (h : o < d.emus.length) (h0 : d.fld .emuStall o 16 8 ≠ 0)
    (hrun : d.fld .emuStall o 16 8 ≤ (d.emu o).stallRun) (hs : (d.emu o).stall = false) (n : Nat) :
    (((d.stallDetect o).settleFault n).emu o).stall = true := by
  unfold Dev.stallDetect
  extract_lets x lim n' d1 d2
  rw [if_neg (by simp [x, lim, h0, hs]; exact hrun)]
  have h2 : Dev.StallsKept (d.onEmu o fun x => { x with stall := true }) d2 :=
    .within (.refl _) (by simp [d2, d1])
  have h3 : Dev.StallsKept (d.onEmu o fun x => { x with stall := true })
      (if d2.regBit .emuCtrl o 12 = true then (d2.laneFault n' 0x11 o).emuRefreshLane n' else d2) := by
    split
    · exact .emuRefreshLane (h2.within (by simp)) n'
    · exact h2
  rw [(h3.settleFault n) o, Dev.emu_onEmu h]

/-- With `STALL_ACT` the lane of the output, in RUN, takes fault 0x11 (R158). -/
theorem Dev.stallDetect_lane (hn : d.emuLane o < d.lanes.length) (h0 : d.fld .emuStall o 16 8 ≠ 0)
    (hrun : d.fld .emuStall o 16 8 ≤ (d.emu o).stallRun) (hs : (d.emu o).stall = false)
    (hact : d.regBit .emuCtrl o 12 = true) (hst : (d.lane (d.emuLane o)).st = .run) :
    (((d.stallDetect o).settleFault (d.emuLane o)).lane (d.emuLane o)).st = .fault ∧
      (((d.stallDetect o).settleFault (d.emuLane o)).lane (d.emuLane o)).faultCode = 0x11 := by
  unfold Dev.stallDetect
  extract_lets x lim n d1 d2
  rw [if_neg (by simp [x, lim, h0, hs]; exact hrun)]
  have hw : Within (.but { lane := every, reg := fun r _ => r = .emuCtrl }) d d2 := by
    have h1 : Within (.but { lane := every, reg := fun r _ => r = .emuCtrl }) d d1 := by simp [d1]
    simp [d2, h1]
  have hact' : d2.regBit .emuCtrl o 12 = true := by rw [Dev.regBit, hw.reg _ _ (by simp)]; exact hact
  have hlane : d2.lane n = d.lane n := by simp only [d2, d1, Dev.logEvent_lane, Dev.addCnt_lane]; rfl
  rw [if_pos hact']
  have hf := Dev.laneFault_enters (d := d2) (n := n) (by rw [hw.lanes_length]; exact hn) (by simp [hlane, n, hst])
    (by simp [hlane, n, hst]) 0x11 o
  have hlane' : ((d2.laneFault n 0x11 o).emuRefreshLane n).lane n = (d2.laneFault n 0x11 o).lane n := Dev.emuRefreshLane_lane ..
  have hlen : ((d2.laneFault n 0x11 o).emuRefreshLane n).lanes.length = d.lanes.length :=
    by
    have h3 : Within (.but {}) d2 ((d2.laneFault n 0x11 o).emuRefreshLane n) := by simp
    rw [h3.lanes_length, hw.lanes_length]
  have hsettled := Dev.settleFault_faulted (d := (d2.laneFault n 0x11 o).emuRefreshLane n) (hlen ▸ hn)
    (congrArg Lane.st (hlane'.trans hf))
  exact ⟨hsettled.1, hsettled.2.trans (congrArg (fun l => l.faultCode) (hlane'.trans hf))⟩

end

/-- Settles O23: each event by what it leaves of the output, and a stall by the lane too. -/
theorem outputEventsAct : Obligations.OutputEventsAct := by
  unfold Obligations.OutputEventsAct
  intro s o ha hs ho x
  have hemu : hasEmu o s.dev = true := by simpa [hasEmu] using ho
  obtain ⟨-, hlanes, -, -, -, -, hemus, -⟩ := hs
  have h : o < s.dev.emus.length := by rw [hemus]; exact ho
  simp only [runs_iff, Machine.exec]
  refine ⟨fun t sched exact dir rest hsrc he hq => .onEvent hemu ha ?_, fun sched exact dir rest hsrc hl he hq => .onUnit hemu ?_,
    fun hsrc hl he hq hx => .onUnit hemu ?_, fun t h0 hrun hst => .onEvent hemu ha ⟨?_, fun hact hlrun hn => ?_⟩⟩
  · obtain ⟨u, hem, hu⟩ := Dev.emuEdgeEmit_emu (d := s.dev.at t) (t := t) h hsrc he hq
    exact ⟨hem.1, hem.2.1.trans (congrArg List.tail hq), hem.2.2.1, hem.spaced hu⟩
  · rw [Dev.when, ha, if_pos rfl]
    have hem := Dev.stepEmit_queued h hsrc hl he hq
    exact ⟨hem.1, hem.2.1.trans (congrArg List.tail hq), hem.2.2.1, hem.spaced fun l hl => Dev.emuInstant_spacing _ _ _ hl⟩
  · rw [Dev.when, ha, if_pos rfl]
    exact Dev.stepEmit_backlog h hsrc hl he hq hx
  · exact Dev.stallDetect_emu (d := s.dev.at t) h h0 hrun hst _
  · exact Dev.stallDetect_lane (d := s.dev.at t) (by rw [Dev.at_lanes, hlanes]; exact hn) h0 hrun hst hact hlrun

end Sys2Proof.Machine
end

section
/-! Packets, replies, links and SPI transfers of the command ports (R258, R259, R261, R263, R264, R268, R281–R284). -/
namespace Sys2Proof.Machine
open Sys2Proof

/-! ### A port after an operation -/

section
variable (d : Dev) (p q : Nat)

theorem Dev.port_onPort {d : Dev} {p : Nat} (h : p < d.ports.length) (f : Port → Port) : (d.onPort p f).port p = f (d.port p) := by
  simp [Dev.port, Dev.onPort, h]

@[simp] theorem Dev.onPort_ports_length (f : Port → Port) : (d.onPort p f).ports.length = d.ports.length := by simp

@[simp] theorem Dev.logEvent_port (code kind idx : Nat) (data : List Byte) : (d.logEvent code kind idx data).port q = d.port q := by
  simp [Dev.port]
@[simp] theorem Dev.setFlag_port (r : RegId) (k b : Nat) : (d.setFlag r k b).port q = d.port q := (rfl)
@[simp] theorem Dev.setFld_port (r : RegId) (k lo w v : Nat) : (d.setFld r k lo w v).port q = d.port q := (rfl)
@[simp] theorem Dev.addCnt_port (r : RegId) (k lo w b : Nat) : (d.addCnt r k lo w b).port q = d.port q := (rfl)
@[simp] theorem Dev.maxFld_port (r : RegId) (k lo w v : Nat) : (d.maxFld r k lo w v).port q = d.port q := (rfl)
@[simp] theorem Dev.mramWrite_port (r : Nat) : (d.mramWrite r).port q = d.port q := (rfl)
@[simp] theorem Dev.onHlt_port (f : Health → Health) : (d.onHlt f).port q = d.port q := (rfl)

/-- A drop for the log changes no queue (R263). -/
theorem Dev.logDrop_port {d : Dev} {p : Nat} (h : p < d.ports.length) (slot code : Nat) (b : List Byte) :
    ∃ l, (d.logDrop p slot code b).port p = { d.port p with dropLog := l } := by
  unfold Dev.logDrop
  rcases (d.port p).dropLog.getD slot (none, 0) with ⟨last, n⟩
  dsimp -zeta only
  extract_lets quiet now put
  split
  · exact ⟨_, by rw [Dev.logEvent_port, Dev.port_onPort h]⟩
  · exact ⟨_, Dev.port_onPort h _⟩

theorem Dev.Sized.port_lt {d : Dev} (hs : d.Sized) {p : Nat} (h : p < 5) : p < d.ports.length := by
  obtain ⟨-, -, -, hp, -⟩ := hs
  rw [hp]; exact h

end

section
variable {d : Dev} {p : Nat}

/-! ### Arrival (R263) -/

/-- A packet of fewer than 16 bytes is counted and dropped (R263). -/
theorem Dev.arrival_short (h : p < d.ports.length) {b : List Byte} (hb : b.length < 16) (src : Nat) (vlan : Option Nat) :
    ((d.arrival p b false src vlan).port p).rx = (d.port p).rx ∧
      (d.arrival p b false src vlan).fld .hpRxCrc p 16 16 = satNat 16 (d.fld .hpRxCrc p 16 16 + 1) := by
  unfold Dev.arrival
  dsimp only
  rw [if_pos (.inl hb)]
  obtain ⟨l, hl⟩ := Dev.logDrop_port (d := d.addCnt .hpRxCrc p 16 16) (by simpa using h) 0 0x0011 []
  have hw : Within (.but { reg := fun r _ => r = .hpRxCrc }) (d.addCnt .hpRxCrc p 16 16)
    ((d.addCnt .hpRxCrc p 16 16).logDrop p 0 0x0011 []) := by simp
  refine ⟨by rw [hl, Dev.addCnt_port], ?_⟩
  rw [Dev.fld, hw.reg _ _ (by simp)]
  exact Dev.fld_addCnt d .hpRxCrc p 1 (by omega)

/-- A whole packet of a generation of its port joins the receive queue as its request (R263, R282). -/
theorem Dev.arrival_queued (h : p < d.ports.length) {f : List Byte} (hpause : d.hlt.pause = none) (hlen : f.length = 16 + u16At f 6)
    (hcrc : crc32 (f.take (f.length - 4)) = u32At f (f.length - 4)) (hgen : byteAt f 0 / 16 = 1) (hflags : f.getD 1 0 &&& 0xF3 = 0)
    (hz : zeroAt f 10 2 = true) (hroom : (d.port p).rx.length < queueMax p) (src : Nat) (vlan : Option Nat) :
    (d.arrival p f false src vlan).port p = { d.port p with
      rx := (d.port p).rx ++ [{ op := u16At f 2, arr := d.now, src := src, vlan := vlan, req := packetRequest p d.now f }] } := by
  have hport : 1 ≤ d.portGen p := by
    unfold Dev.portGen
    split
    · decide
    · split <;> decide
  have hreq : (packetRequest p d.now f).gen = 1 ∧ (packetRequest p d.now f).flags = f.getD 1 0 := ⟨hgen, rfl⟩
  unfold Dev.arrival
  dsimp only
  rw [if_neg (by rw [← hlen]; simp [hcrc]; omega), hreq.1, hreq.2, if_neg (by rw [hflags, hz]; decide), if_neg (Nat.not_lt.2 hport),
    if_neg (by simp [hpause]), if_neg (Nat.not_le.2 hroom), Dev.maxFld_port, Dev.port_onPort h]

/-! ### Replies and frames -/

theorem Dev.send_port (h : p < d.ports.length) (f : List Byte) :
    (d.send p f).port p = { d.port p with sent := (d.now, f) :: (d.port p).sent } := Dev.port_onPort h _

/-- The reply to a request that is not posted joins the transmit queue (R264, R265). -/
theorem Dev.reply_port {q : QReq} {a : Resp} (h : q.req.port < d.ports.length) (hq : q.posted = false) :
    (d.reply q a).port q.req.port = { d.port q.req.port with
      tx := (d.port q.req.port).tx ++ [{ bytes := replyBytes q.op q.req a, dst := q.src, vlan := q.vlan, arr := q.arr }] } := by
  simp only [Dev.reply, Dev.countPosted, Dev.when, Dev.replyUnlessPosted, hq, Bool.false_and, Bool.false_eq_true, if_false]
  exact Dev.port_onPort h _

/-! ### Background jobs (R283, R370) -/

theorem Dev.region_onRegion {target : Nat} (h : target < d.hlt.regions.length) (f : Region → Region) :
    (d.onRegion target f).region target = f (d.region target) := by
  simp [Dev.region, Dev.onRegion, h]

/-- FW_LOAD that ends well leaves its bytes in the region, and nothing else of it changes (R370). -/
theorem Dev.fwLoadEnd_region {target off : Nat} {data : List Byte} (h : target < d.hlt.regions.length)
    (hwf : memWf (d.region target).mem = true) :
    let e := (d.fwLoadEnd target off data true).2
    memReads (e.region target).mem off data.length = data ∧
      ∀ a, a < off ∨ off + data.length ≤ a → memRead (e.region target).mem a = memRead (d.region target).mem a := by
  intro e
  have he : e.region target = { d.region target with mem := memWrites (d.region target).mem off data } :=
    Dev.region_onRegion (d := d.mramWrite _) h _
  rw [he]
  exact ⟨memReads_memWrites hwf, fun a ha => memRead_memWrites_of_outside hwf ha⟩

/-- The end of a job that FW_LOAD started answers OK (R283). -/
theorem Dev.jobComplete_fwLoad (h : p < d.ports.length) (hm : d.mgmtUp = true) {q : QReq} {target off : Nat} {data : List Byte}
    (hbg : (d.port p).bg = some ⟨q, .fwLoad target off data⟩) (hp : q.req.port = p) (hf : q.req.flags = 0) :
    let e := d.jobComplete p true
    (e.port p).bg = none ∧
      (e.port p).tx = (d.port p).tx ++ [{ bytes := replyBytes q.op q.req ⟨stOk, []⟩, dst := q.src, vlan := q.vlan, arr := q.arr }] ∧
      e.region target = (d.fwLoadEnd target off data true).2.region target := by
  subst hp
  have hpost : q.posted = false := by simp [QReq.posted, hf]
  intro e
  have he : e = (((d.fwLoadEnd target off data true).2.onPort q.req.port fun x => { x with bg := none })).reply q ⟨stOk, []⟩ := by
    simp only [e, Dev.jobComplete, hbg, hm, Bool.not_true, Bool.false_eq_true, if_false]
    rfl
  have hport : (d.fwLoadEnd target off data true).2.port q.req.port = d.port q.req.port := rfl
  have hlen : (d.fwLoadEnd target off data true).2.ports.length = d.ports.length := rfl
  rw [he]
  refine ⟨?_, ?_, ?_⟩
  · rw [Dev.reply_port (by simpa [hlen] using h) hpost, Dev.port_onPort (hlen ▸ h)]
  · rw [Dev.reply_port (by simpa [hlen] using h) hpost, Dev.port_onPort (hlen ▸ h), hport]
  · simp only [Dev.reply, Dev.countPosted, Dev.when, Dev.replyUnlessPosted, hpost, Bool.false_and, Bool.false_eq_true, if_false]
    rfl

/-! ### Groups and the log of writes (R268, R281) -/

/-- A group that has waited for too long is abandoned with what it staged (R268). -/
theorem Dev.groupTimeout_late (h : p < d.ports.length) {g : OpenGroup} (hg : (d.port p).group = some g)
    (ht : (g.last + 10 * 1000 * unitsPerUs) / 20 < d.now / 20) :
    ((d.groupTimeout p).port p).group = none ∧ ((d.groupTimeout p).port p).lowHeld = g.low ∧
      (d.groupTimeout p).staged = d.staged.filter fun x => !(x.inGroup && x.port = p) := by
  have hl : d.groupLate p = true := by
    simp only [Dev.groupLate, hg, arrivesBy]
    simp only [Bool.not_eq_true', decide_eq_false_iff_not, Nat.not_le]
    exact ht
  simp only [Dev.groupTimeout, hl, if_true, Dev.abandonGroup, hg, Dev.releaseGroup, Dev.logEvent_port, Dev.logEvent_staged]
  exact ⟨congrArg Port.group (Dev.port_onPort (d := { d with staged := _ }) h _),
    congrArg Port.lowHeld (Dev.port_onPort (d := { d with staged := _ }) h _), rfl⟩

theorem Dev.writeLogSummary_port (h : p < d.ports.length) :
    ((d.writeLogSummary p).port p).logs = (d.port p).logs.filter fun w => !decide (w.t + unitsPerSec ≤ d.now) := by
  have hfold (l : List WriteLog) (e : Dev) : (l.foldl (fun d w => d.logSummary p w) e).port p = e.port p := by
    induction l generalizing e with
    | nil => rfl
    | cons w l ih =>
      refine (ih _).trans ?_
      dsimp only
      unfold Dev.logSummary
      split
      · rfl
      · split <;> rw [Dev.logEvent_port]
  rw [Dev.writeLogSummary, hfold, Dev.port_onPort h]

/-! ### The interpreter (R282) -/

theorem Dev.packetServe_first (hm : d.mgmtUp = true) {q : QReq} {rest : List QReq} (hrx : (d.port 0).rx = q :: rest)
    (hn : d.serveNext = 0) :
    d.packetServe = (({ d with serveNext := 1 } : Dev).onPort 0 fun x => { x with rx := rest }).serve
      { q with req := { q.req with t := d.now } } := by
  have hc : d.canServe 0 = true := by simp [Dev.canServe, hrx, Dev.repliesFull]
  have hfind : ((List.range 5).map fun i => (d.serveNext + i) % 5).find? d.canServe = some 0 := by
    simp [hn, List.range_succ, hc]
  simp only [Dev.packetServe, hm, Bool.not_true, Bool.false_eq_true, if_false, hfind, hrx]

end

/-- Settles O25: a damaged packet, one that is taken, one that is served, the reply, a job of FW_LOAD, the gap of a group and the
end of a second of the log. -/
theorem packetEventsAct : Obligations.PacketEventsAct := by
  unfold Obligations.PacketEventsAct
  intro s t ha hs
  have hlen : ∀ {p}, p < 5 → p < (s.dev.at t).ports.length := fun h => hs.port_lt h
  simp only [runs_iff, Machine.exec]
  refine ⟨fun f hup => .onEvent rfl ha ?_, fun f hup hpause hl hcrc hgen hflags hz hroom => .onEvent rfl ha ?_,
    fun q rest hm hrx hn => .onEvent rfl ha ?_, fun p x rest hp hup hline htx => .onEvent (by simp [hasPort]; omega) ha ?_,
    fun p q target off data hp hm hbg hq hf => .onEvent (by simpa [hasPort] using hp) ha ?_,
    fun p g hp hg ht => .onEvent (by simpa [hasPort] using hp) ha ?_,
    fun p hp => .onEvent (by simpa [hasPort] using hp) ha ?_⟩
  · have hup' : (s.dev.at t).portUp 4 = true := hup
    simp only [Dev.frameIn, hup', if_true, Bool.not_true, Bool.false_eq_true, if_false]
    exact ⟨rfl, Dev.fld_addCnt (s.dev.at t) .hpRxCrc 4 1 (by omega)⟩
  · have hup' : (s.dev.at t).portUp 4 = true := hup
    simp only [Dev.frameIn, hup', if_true, Bool.not_true, Bool.false_eq_true, if_false]
    rw [Dev.arrival_queued (hlen (by omega)) hpause hl hcrc hgen hflags hz hroom]
    rfl
  · exact Dev.packetServe_first (d := s.dev.at t) hm hrx hn
  · have hup' : (s.dev.at t).portUp p = true := hup
    have htx' : ((s.dev.at t).port p).tx = x :: rest := htx
    have hl := hlen (p := p) (by omega)
    simp only [Dev.replyTransmit, htx', hp, hup', hline, and_self, if_true]
    rw [Dev.addCnt_port, Dev.send_port (by simpa using hl), Dev.port_onPort hl]
    exact ⟨rfl, rfl, Dev.fld_addCnt _ .hpTxReply p 1 (by omega)⟩
  · obtain ⟨hnone, htx, hreg⟩ := Dev.jobComplete_fwLoad (d := s.dev.at t) (hlen hp) hm hbg hq hf
    refine ⟨hnone, htx, fun ht hwf => ?_⟩
    rw [hreg]
    exact Dev.fwLoadEnd_region (d := s.dev.at t) ht hwf
  · exact Dev.groupTimeout_late (d := s.dev.at t) (hlen hp) hg ht
  · exact Dev.writeLogSummary_port (d := s.dev.at t) (hlen hp)

end Sys2Proof.Machine
end

section
/-! The links of the host ports and the SPI of the maintenance port (R258, R259, R261). -/
namespace Sys2Proof.Machine
open Sys2Proof

section
variable {d : Dev} {p : Nat}

/-! ### Links -/

/-- A link that is set stands as set, with the rest of the receiver (R256). -/
theorem Dev.linkSet_port (h : p < d.ports.length) (up : Bool) :
    ((d.linkSet p up).port p).link = up ∧ ((d.linkSet p up).port p).sync = (d.port p).sync ∧
      ((d.linkSet p up).port p).ready = (d.port p).ready ∧ ((d.linkSet p up).port p).statusT = (d.port p).statusT := by
  unfold Dev.linkSet
  split
  next he => exact ⟨he, rfl, rfl, rfl⟩
  next =>
    rw [Dev.logEvent_port, Dev.setFlag_port, Dev.port_onPort h]
    exact ⟨rfl, rfl, rfl, rfl⟩

/-- A change of the link sets `LINK_CHG` (R258). -/
theorem Dev.linkSet_changed {up : Bool} (hne : (d.port p).link ≠ up) : (d.linkSet p up).regBit .hpStat p 7 = true := by
  rw [Dev.linkSet, if_neg hne, Dev.regBit, Dev.logEvent_reg _ _ _ _ _ (by simp)]
  exact Dev.regBit_setFlag _ _ _ (by omega)

/-- The receiver after a link-status frame (R258). -/
theorem Dev.linkStatus_ready (h : p < d.ports.length) (hon : d.portOn p = true) (hw : d.worost p = true)
    (hr : 2 ≤ (d.port p).ready) :
    ((d.linkStatus p 1).port p).link = true ∧ ((d.linkStatus p 1).port p).statusT = d.now := by
  unfold Dev.linkStatus
  rw [if_neg (by simp [hon, hw])]
  extract_lets t e
  have he : e.port p = { d.port p with sync := true, statusT := d.now, ready := (d.port p).ready + 1 } := Dev.port_onPort h _
  have hlen : p < e.ports.length := by simpa [e] using h
  rw [if_pos (by rw [he]; exact Nat.succ_le_succ hr)]
  obtain ⟨hlink, -, -, hst⟩ := Dev.linkSet_port hlen true
  exact ⟨hlink, hst.trans (by rw [he])⟩

theorem Dev.linkStatus_notReady (h : p < d.ports.length) (hon : d.portOn p = true) (hw : d.worost p = true) :
    ((d.linkStatus p 0).port p).ready = 0 ∧ ((d.linkStatus p 0).port p).link = (d.port p).link := by
  unfold Dev.linkStatus
  rw [if_neg (by simp [hon, hw])]
  extract_lets t e
  have he : e.port p = { d.port p with sync := true, statusT := d.now, ready := 0 } := Dev.port_onPort h _
  rw [if_neg (by rw [he]; exact Nat.not_succ_le_zero 2), he]
  exact ⟨rfl, rfl⟩

/-- Synchronisation is lost, and with it the link (R258). -/
theorem Dev.linkLose_port (h : p < d.ports.length) :
    ((d.linkLose p).port p).link = false ∧ ((d.linkLose p).port p).sync = false ∧
      ((d.port p).link = true → (d.linkLose p).regBit .hpStat p 7 = true) := by
  have he := Dev.port_onPort h fun x => { x with sync := false, ready := 0 }
  obtain ⟨hlink, hsync, -, -⟩ := Dev.linkSet_port (d := d.onPort p fun x => { x with sync := false, ready := 0 })
    (by simpa using h) false
  refine ⟨hlink, hsync.trans (by rw [he]), fun hl => Dev.linkSet_changed ?_⟩
  rw [he]
  simp [hl]

end

/-- Settles O26: each event by the receiver and the link that it leaves. -/
theorem linkEventsAct : Obligations.LinkEventsAct := by
  unfold Obligations.LinkEventsAct
  intro s t p ha hs hp hon
  have h : p < (s.dev.at t).ports.length := hs.port_lt (by omega)
  have hhost : hasHost p s.dev = true := by simpa [hasHost] using hp
  simp only [runs_iff, Machine.exec]
  refine ⟨fun hw hr => .onEvent hhost ha (Dev.linkStatus_ready h hon hw hr), fun hw => .onEvent hhost ha (Dev.linkStatus_notReady h hon hw),
    fun hw hline => .onEvent hhost ha ?_, fun hw ht => .onEvent hhost ha ?_, .onEvent hhost ha ?_, fun hw => .onEvent hhost ha ?_⟩
  · have hon' : (s.dev.at t).portOn p = true := hon
    have hw' : (s.dev.at t).worost p = true := hw
    simp only [Dev.linkStatusSend, hon', hw', hline, and_self, if_true]
    rw [Dev.send_port (by simpa using h), Dev.port_onPort h]
    exact ⟨rfl, rfl⟩
  · have he := Dev.port_onPort h fun x => { x with ready := 0 }
    obtain ⟨hlink, -, hready, -⟩ := Dev.linkSet_port (d := (s.dev.at t).onPort p fun x => { x with ready := 0 })
      (by simpa using h) false
    rw [Dev.linkStatusTimeout, if_pos ⟨hon, hw, ht⟩]
    exact ⟨hlink, hready.trans (by rw [he])⟩
  · have hon' : (s.dev.at t).portOn p = true := hon
    rw [Dev.linkSyncLoss, if_pos hon']
    exact Dev.linkLose_port h
  · have he := Dev.port_onPort h fun x => { x with sync := true }
    obtain ⟨hlink, hsync, -, -⟩ := Dev.linkSet_port (d := (s.dev.at t).onPort p fun x => { x with sync := true })
      (by simpa using h) true
    have hw' : (s.dev.at t).worost p = false := hw
    rw [Dev.linkUp, if_pos ⟨hon, by rw [hw']; rfl, .inl rfl⟩]
    exact ⟨hlink, hsync.trans (by rw [he])⟩

/-- Settles O27: each SPI command by what it exchanges and by the queues that it leaves. -/
theorem spiEventsAct : Obligations.SpiEventsAct := by
  unfold Obligations.SpiEventsAct
  intro s t hup hs
  have ha : s.dev.alive = true := by
    simp only [Dev.portUp, Bool.and_eq_true] at hup
    exact hup.1.1
  have h : 4 < (s.dev.at t).ports.length := hs.port_lt (by omega)
  have hup' : (s.dev.at t).portUp 4 = true := hup
  have hsend (f : List Byte) := Dev.send_port (d := s.dev.at t) h f
  have hlen (f : List Byte) : 4 < ((s.dev.at t).send 4 f).ports.length := by simpa [Dev.send] using h
  simp only [runs_iff, Machine.exec]
  refine ⟨.onEvent rfl ha ?_, fun b hb => .onEvent rfl ha ?_,
    fun f hpause hl hcrc hgen hflags hz hroom => .onEvent rfl ha ?_, fun n x rest htx => .onEvent rfl ha ?_⟩
  · rw [Dev.spiStatus, if_pos hup', hsend]
    rfl
  · rw [Dev.spiWrite, if_pos hup']
    obtain ⟨hrx, hcnt⟩ := Dev.arrival_short (hlen _) hb 0 none
    exact ⟨hrx.trans (by rw [hsend]; rfl), hcnt⟩
  · rw [Dev.spiWrite, if_pos hup', Dev.arrival_queued (hlen _) hpause hl hcrc hgen hflags hz (by rw [hsend]; exact hroom), hsend]
    exact ⟨rfl, rfl⟩
  · have htx' : ((s.dev.at t).port 4).tx = x :: rest := htx
    simp only [Dev.spiRead, hup', htx', Bool.not_true, Bool.false_eq_true, if_false]
    split
    · rw [Dev.addCnt_port, Dev.port_onPort (hlen _), hsend]
      exact ⟨rfl, rfl⟩
    · rw [hsend]
      exact ⟨rfl, htx⟩

end Sys2Proof.Machine
end

section
/-! The instant stands through what a container does: no reaction and no request takes time (R316). -/
namespace Sys2Proof.Machine
open Sys2Proof

section
variable (d : Dev) (o n c : Nat)

@[simp] theorem Dev.onEmu_now (f : EmuOut → EmuOut) : (d.onEmu o f).now = d.now := (rfl)
@[simp] theorem Dev.onSaf_now (f : Saf → Saf) : (d.onSaf f).now = d.now := (rfl)
@[simp] theorem Dev.onSafLane_now (f : SafLane → SafLane) : (d.onSafLane n f).now = d.now := (rfl)
@[simp] theorem Dev.onConn_now (f : Conn → Conn) : (d.onConn c f).now = d.now := (rfl)
@[simp] theorem Dev.safLog_now (code kind idx : Nat) (data : List Byte) : (d.safLog code kind idx data).now = d.now := by
  simp [Dev.safLog]

theorem Dev.forEach_now {f : Nat → Dev → Dev} (hf : ∀ n e, (f n e).now = e.now) (l : List Nat) : (d.forEach l f).now = d.now :=
  Dev.forEach_eq Dev.now hf _ _

@[simp] theorem Dev.emuPins_now : (d.emuPins o).now = d.now := (rfl)
@[simp] theorem Dev.emuStallRef_now : (d.emuStallRef o).now = d.now := (rfl)

@[simp] theorem Dev.emuBacklog_now : (d.emuBacklog o).now = d.now := by
  simp [Dev.emuBacklog, Dev.when, apply_ite Dev.now]

@[simp] theorem Dev.emuMove_now (t : Time) (p : Int) (b : Bool) : (d.emuMove o t p b).now = d.now := by
  unfold Dev.emuMove
  dsimp only
  split
  · rfl
  · split
    · rfl
    · split <;> simp

@[simp] theorem Dev.emuFollow_now (t : Time) (b : Bool) : (d.emuFollow n t b).now = d.now :=
  Dev.forEach_now d (fun o e => by simp [apply_ite Dev.now]) _

@[simp] theorem Dev.emuReconcile_now : (d.emuReconcile o).now = d.now := by
  unfold Dev.emuReconcile
  dsimp only
  split
  · rfl
  · split
    · rfl
    · split <;> simp

@[simp] theorem Dev.emuRealign_now : (d.emuRealign o).now = d.now := (rfl)

@[simp] theorem Dev.emuResume_now : (d.emuResume o).now = d.now := by
  simp [Dev.emuResume, apply_ite Dev.now]

@[simp] theorem Dev.emuRefresh_now : (d.emuRefresh o).now = d.now := by
  simp [Dev.emuRefresh, apply_ite Dev.now]

@[simp] theorem Dev.emuRefreshLane_now : (d.emuRefreshLane n).now = d.now :=
  Dev.forEach_now d (fun o e => Dev.emuRefresh_now e o) _

@[simp] theorem Dev.lowerBarriers_now (ns : List Nat) : (d.lowerBarriers ns).now = d.now :=
  (Dev.forEach_now _ (fun n e => by simp) _).trans rfl

@[simp] theorem Dev.laneReaction_now : (d.laneReaction n).now = d.now := by simp [Dev.laneReaction]

@[simp] theorem Dev.groupReaction_now (gs : List Nat) : (d.groupReaction gs).now = d.now := by
  rw [Dev.groupReaction, Dev.bbxTrigger_now]
  exact Dev.forEach_now d (fun g e => by simp [Dev.groupOff]) _

@[simp] theorem Dev.ss1Request_now (b : Bool) : (d.ss1Request n b).now = d.now := by
  unfold Dev.ss1Request
  dsimp only
  (repeat' split) <;> simp

@[simp] theorem Dev.laneRequest_now (en ss1 sos sdi pos : Bool) (sls : Nat) : (d.laneRequest n en ss1 sos sdi pos sls).now = d.now := by
  simp [Dev.laneRequest, apply_ite Dev.now]

@[simp] theorem Dev.connFail_now (cause : Nat) : (d.connFail c cause).now = d.now := by
  simp [Dev.connFail, apply_ite Dev.now]

@[simp] theorem Dev.resetAck_now (mask : Nat) : (d.resetAck c mask).2.now = d.now := by
  simp only [Dev.resetAck, Dev.safLog_now]
  exact Dev.forEach_now d (fun n e => Dev.onSafLane_now e n _) _

@[simp] theorem Dev.paramWr_now (t i : Nat) (v : Word) : (d.paramWr c t i v).2.now = d.now := by
  unfold Dev.paramWr
  split
  · rfl
  · split
    · rfl
    · extract_lets held after
      split
      · rfl
      · split <;> rfl

@[simp] theorem Dev.paramCommit_now (crc : Word) : (d.paramCommit c crc).2.now = d.now := by
  unfold Dev.paramCommit
  dsimp only
  (repeat' split) <;> simp

@[simp] theorem Dev.connCommand_now (op tag : Nat) (args : List Byte) : (d.connCommand c op tag args).now = d.now := by
  unfold Dev.connCommand
  dsimp only
  (repeat' split) <;> simp

@[simp] theorem Dev.connAccept_now (b : List Byte) : (d.connAccept c b).now = d.now := by
  have hreq (e : Dev) : (e.connRequests c b).now = e.now :=
    Dev.forEach_now e (fun i e => by split <;> simp) _
  simp [Dev.connAccept, Dev.connExec, apply_ite Dev.now, hreq]

@[simp] theorem Dev.connWaiting_now (b : List Byte) : (d.connWaiting c b).now = d.now := by
  simp [Dev.connWaiting, Dev.connEnter, apply_ite Dev.now]

@[simp] theorem Dev.container_now (b : List Byte) : (d.container c b).now = d.now := by
  unfold Dev.container
  dsimp only
  split
  · simp
  · split
    · rfl
    · simp
    · simp
    · simp [apply_ite Dev.now]

end

end Sys2Proof.Machine
end

section
/-! The cyclic records: parts received and taken, missing records, the transmission of a block (R293, R294, R296, R297). -/
namespace Sys2Proof.Machine
open Sys2Proof

/-! ### Bytes of a slice -/

theorem byteAt_slice (b : List Byte) (o n : Nat) {i : Nat} (h : i < n) : byteAt (slice b o n) i = byteAt b (o + i) := by
  simp [byteAt, slice, h]

theorem slice_slice (b : List Byte) (o n : Nat) {i m : Nat} (h : i + m ≤ n) : slice (slice b o n) i m = slice b (o + i) m := by
  simp only [slice, List.drop_take, List.drop_drop, List.take_take]
  rw [Nat.min_eq_left (by omega)]

section
variable {d : Dev} {p n : Nat}

/-! ### What an inbound record stages (R293) -/

/-- What is staged stays staged, at one instant. -/
def Dev.StagesMore (d e : Dev) : Prop := e.now = d.now ∧ ∀ x ∈ d.staged, x ∈ e.staged

theorem Dev.StagesMore.refl (d : Dev) : Dev.StagesMore d d := ⟨rfl, fun _ h => h⟩
theorem Dev.StagesMore.trans {a b c : Dev} (h : Dev.StagesMore a b) (h' : Dev.StagesMore b c) : Dev.StagesMore a c :=
  ⟨h'.1.trans h.1, fun x hx => h'.2 x (h.2 x hx)⟩

/-- The action is staged as an inbound record of the port, accepted now. -/
def Dev.Inbound (d : Dev) (p : Nat) (a : Act) : Prop := { port := p, acc := d.now, act := a } ∈ d.staged

theorem Dev.Inbound.mono {e : Dev} {a : Act} (h : d.Inbound p a) (hm : Dev.StagesMore d e) : e.Inbound p a := by
  rw [Dev.Inbound, hm.1]
  exact hm.2 _ h

theorem Dev.stageInbound_more (d : Dev) (p : Nat) (a : Act) : Dev.StagesMore d (d.stageInbound p a) := by
  refine ⟨rfl, fun x hx => ?_⟩
  by_cases he : x.acc < d.now <;> simp [Dev.stageInbound, hx, he]

theorem Dev.stageInbound_inbound (d : Dev) (p : Nat) (a : Act) : (d.stageInbound p a).Inbound p a := by
  simp [Dev.Inbound, Dev.stageInbound]

theorem Dev.when_more {f : Dev → Dev} (hf : ∀ e, Dev.StagesMore e (f e)) (c : Bool) (d : Dev) : Dev.StagesMore d (d.when c f) := by
  cases c
  · exact .refl d
  · exact hf d

/-- An inbound record stages its arrival, and its trim set-point where its flag says so (R293). -/
theorem Dev.stageRecord_inbound (d : Dev) (p n : Nat) (b : List Byte) :
    Dev.StagesMore d (d.stageRecord p n b) ∧ (d.stageRecord p n b).Inbound p (.inRecord n) ∧
      ((byteAt b 1).testBit 0 = true → (d.stageRecord p n b).Inbound p (.reg .trmSet n (wordAt b 4))) := by
  unfold Dev.stageRecord
  extract_lets f d1 d2 d3
  have h1 := Dev.stageInbound_more d p (.inRecord n)
  have h2 : Dev.StagesMore d1 d2 := Dev.when_more (fun e => Dev.stageInbound_more e _ _) _ _
  have h3 : Dev.StagesMore d2 d3 := Dev.when_more (fun e => Dev.stageInbound_more e _ _) _ _
  have h4 := Dev.when_more (fun e => Dev.stageInbound_more e p (.reg .laneCtrl n (at_ 0 (byteAt b 2 % 8)))) (f.testBit 2) d3
  refine ⟨((h1.trans h2).trans h3).trans h4, (Dev.stageInbound_inbound d p _).mono ((h2.trans h3).trans h4), fun hf => ?_⟩
  have hset : d2.Inbound p (.reg .trmSet n (wordAt b 4)) := by
    simp only [d2, f, Dev.when, hf, if_true]
    exact Dev.stageInbound_inbound d1 p _
  exact hset.mono (h3.trans h4)

/-- Every lane record of a part is staged for its lane (R293). -/
theorem Dev.takeRecords_inbound (d : Dev) (p : Nat) (b : List Byte) (ls : List Nat) :
    Dev.StagesMore d (d.takeRecords p b ls) ∧ ∀ j n, ls[j]? = some n → (d.takeRecords p b ls).Inbound p (.inRecord n) ∧
      ((byteAt b (17 + 16 * j)).testBit 0 = true →
        (d.takeRecords p b ls).Inbound p (.reg .trmSet n (wordAt b (20 + 16 * j)))) := by
  have hfold (l : List Nat) (e : Dev) :
      Dev.StagesMore e (l.foldl (fun d j => d.stageRecord p (ls.getD j 0) (slice b (16 + 16 * j) 16)) e) ∧
      ∀ j ∈ l, (l.foldl (fun d j => d.stageRecord p (ls.getD j 0) (slice b (16 + 16 * j) 16)) e).Inbound p (.inRecord (ls.getD j 0)) ∧
        ((byteAt b (17 + 16 * j)).testBit 0 = true →
          (l.foldl (fun d j => d.stageRecord p (ls.getD j 0) (slice b (16 + 16 * j) 16)) e).Inbound p
            (.reg .trmSet (ls.getD j 0) (wordAt b (20 + 16 * j)))) := by
    induction l generalizing e with
    | nil => exact ⟨.refl e, fun j hj => absurd hj (List.not_mem_nil)⟩
    | cons a l ih =>
      obtain ⟨hmore, hrec, hset⟩ := Dev.stageRecord_inbound e p (ls.getD a 0) (slice b (16 + 16 * a) 16)
      obtain ⟨hrest, hin⟩ := ih (e.stageRecord p (ls.getD a 0) (slice b (16 + 16 * a) 16))
      refine ⟨hmore.trans hrest, fun j hj => ?_⟩
      obtain rfl | hj := List.mem_cons.1 hj
      · refine ⟨hrec.mono hrest, fun hf => ?_⟩
        have hw : wordAt (slice b (16 + 16 * j) 16) 4 = wordAt b (20 + 16 * j) := by
          rw [wordAt, wordAt, u32At, u32At, slice_slice _ _ _ (by omega)]
          congr 3; omega
        rw [← hw]
        refine (hset ?_).mono hrest
        rw [byteAt_slice _ _ _ (by omega)]
        have : 16 + 16 * j + 1 = 17 + 16 * j := by omega
        rw [this]; exact hf
      · exact hin j hj
  obtain ⟨hmore, hin⟩ := hfold (List.range ls.length) d
  refine ⟨hmore, fun j n hj => ?_⟩
  obtain ⟨hlt, hget⟩ := List.getElem?_eq_some_iff.1 hj
  have hd : ls.getD j 0 = n := by simp [hj]
  have := hin j (List.mem_range.2 hlt)
  rwa [hd] at this

/-- The containers of a part act on the safety monitor (R295). -/
theorem Dev.takeContainers_more (d : Dev) (b : List Byte) (k : Nat) (cs : List Nat) :
    Dev.StagesMore d (d.takeContainers b k cs) ∧ (d.takeContainers b k cs).port p = d.port p := by
  have hw : Within (.but { staged := true, port := every }) d (d.takeContainers b k cs) := by simp
  refine ⟨⟨Dev.foldl_now _ (fun e j => Dev.container_now e _ _) _ _, fun x hx => by rwa [hw.staged rfl]⟩, hw.port p rfl⟩

/-! ### A part is taken -/

/-- What a part leaves of its port: its sequence number (R294). -/
theorem Dev.takePart_port (h : p < d.ports.length) (b : List Byte) :
    (d.takePart p b).port p = { d.port p with inSeq := (d.port p).inSeq.set (byteAt b 1 % 2) (some (u32At b 4)) } := by
  unfold Dev.takePart
  extract_lets i seq d1 late d2 s
  have h2 : d2.port p = d1.port p := by
    unfold d2 Dev.when
    split <;> rfl
  have hrec : Within (.but { port := every }) d2 (d2.takeRecords p b s.1) := by simp
  rw [(Dev.takeContainers_more _ _ _ _).2, hrec.port p rfl, h2]
  exact Dev.port_onPort h _

/-- The parts of a block rest on the mode of the port and on its maps (R291). -/
theorem Dev.inShares_congr {e : Dev} (hr : ∀ r k, r ∈ [RegId.hpCtrl, .hpImap, .hpCmap] → e.reg r k = d.reg r k) (p : Nat) :
    e.inShares p = d.inShares p := by
  have himap : e.imap p = d.imap p := by
    simp only [Dev.imap, Dev.maskLanes, hr .hpImap _ (by simp)]
  have hcmap : e.cmap p = d.cmap p := by
    simp only [Dev.cmap, Dev.regBit, hr .hpCmap _ (by simp)]
  have hworost : e.worost p = d.worost p := by
    rw [Dev.worost, Dev.worost, Dev.fld, Dev.fld, hr .hpCtrl _ (by simp)]
  simp only [Dev.inShares, Dev.shares, himap, hcmap, hworost]

/-- What a part stages (R293). -/
theorem Dev.takePart_staged {b : List Byte} {ls cs : List Nat} (hs : (d.inShares p)[byteAt b 1 % 2]? = some (ls, cs)) :
    Dev.StagesMore d (d.takePart p b) ∧
      ∀ j n, ls[j]? = some n → (d.takePart p b).Inbound p (.inRecord n) ∧
        ((byteAt b (17 + 16 * j)).testBit 0 = true →
          (d.takePart p b).Inbound p (.reg .trmSet n (wordAt b (20 + 16 * j)))) := by
  unfold Dev.takePart
  extract_lets i seq d1 late d2 s
  have h2 : Dev.StagesMore d d2 := by
    unfold d2 Dev.when
    split <;> exact ⟨rfl, fun x hx => hx⟩
  have hw : Within (.but { reg := fun r _ => r ∈ [.hpCtrl, .hpImap, .hpCmap] }) d d2 := by
    unfold d2 Dev.when
    split <;> simp [d1]
  have hshare : d2.inShares p = d.inShares p := by
    exact Dev.inShares_congr (fun r k hr => hw.reg r k (by simp only [May.but_reg, hr, decide_true, Bool.not_true])) p
  have hls : s = (ls, cs) := by simp [s, hshare, i, hs]
  obtain ⟨hmore, hin⟩ := Dev.takeRecords_inbound d2 p b s.1
  have hcont := (Dev.takeContainers_more (p := p) (d2.takeRecords p b s.1) b s.1.length s.2).1
  refine ⟨(h2.trans hmore).trans hcont, fun j n hj => ?_⟩
  obtain ⟨hrec, hset⟩ := hin j n (by rw [hls]; exact hj)
  exact ⟨hrec.mono hcont, fun hf => (hset hf).mono hcont⟩

/-- A lane whose records stay out is marked (R296). -/
theorem Dev.inboundMiss_lane (h : n < d.lanes.length) (hp : d.inPort n = some p) (h0 : d.fld .hpMiss p 8 8 ≠ 0)
    (hl : (d.lane n).inLost = false) (ha : d.fld .hpMiss p 8 8 ≤ (d.lane n).inAge) :
    (d.inboundMiss n).lane n = { d.lane n with inLost := true } := by
  simp only [Dev.inboundMiss, hp]
  rw [if_neg (by simp [h0, hl]; omega), Dev.logEvent_lane, Dev.lane_onLane h]

end

/-- Settles O28: a part received, one dropped, one taken, a lane whose records stay out, a part of a block that leaves. -/
theorem recordEventsAct : Obligations.RecordEventsAct := by
  unfold Obligations.RecordEventsAct
  intro s p ha hs hp
  have h : p < s.dev.ports.length := hs.port_lt (by omega)
  have hhost : hasHost p s.dev = true := by simpa [hasHost] using hp
  simp only [runs_iff, Machine.exec]
  refine ⟨fun t b hup => .onEvent hhost ha ?_, fun t b rest hin hbad => .onExpiry hhost ha ?_,
    fun t b rest ls cs hin hok hfresh hsh => .onExpiry hhost ha ?_, fun t n hn hport h0 hlost hage => .onEvent hn ha ?_,
    fun k part rest sent hblock hk hup => .onExpiry hhost ha ?_⟩
  · rw [Dev.partReceive, if_pos ⟨hp, hup⟩, Dev.port_onPort (by exact h)]
    rfl
  · simp only [Dev.partAccept, hin]
    have hbad' : ((s.dev.at (t + 1600)).onPort p fun x => { x with inParts := rest }).partSound p b = false := hbad
    simp only [hbad', Bool.not_false, if_true]
    refine ⟨?_, rfl, Dev.fld_addCnt _ .hpInBad p 1 (by omega), rfl⟩
    rw [Dev.addCnt_port, Dev.port_onPort (by exact h)]
  · simp only [Dev.partAccept, hin]
    have hport := Dev.port_onPort (d := s.dev.at (t + 1600)) (p := p) h fun x => { x with inParts := rest }
    have hok' : ((s.dev.at (t + 1600)).onPort p fun x => { x with inParts := rest }).partSound p b = true := hok
    have hfresh' : seqFresh ((((s.dev.at (t + 1600)).onPort p fun x => { x with inParts := rest }).port p).inSeq.getD
        (byteAt b 1 % 2) none) (u32At b 4) = true := by
      rw [hport]; exact hfresh
    simp only [hok', hfresh', Bool.not_true, Bool.false_eq_true, if_false]
    have htake := Dev.takePart_port (d := (s.dev.at (t + 1600)).onPort p fun x => { x with inParts := rest }) (by simpa using h) b
    rw [hport] at htake
    obtain ⟨⟨hnow, hmore⟩, hrec⟩ :=
      Dev.takePart_staged (d := (s.dev.at (t + 1600)).onPort p fun x => { x with inParts := rest }) (p := p) (b := b) hsh
    exact ⟨by rw [htake], hnow, by rw [htake]; rfl, hmore, hrec⟩
  · rw [Dev.inboundMiss_lane (d := s.dev.at t) (hs.lane_lt hn) hport h0 hlost hage]
    exact ⟨rfl, rfl⟩
  · simp only [Dev.recordTransmit, hblock]
    rw [if_neg (by omega), if_neg (by rw [show (s.dev.at _).portUp p = s.dev.portUp p from rfl, hup]; decide)]
    refine ⟨rfl, ?_, ?_⟩
    · rw [Dev.addCnt_port, Dev.port_onPort (by exact h)]
      rfl
    · rw [Dev.addCnt_port, Dev.port_onPort (by exact h)]

end Sys2Proof.Machine
end

section
/-! The service of a request that its opcode accepts, outside a group (R263–R265, R277, R281–R283): the reply, what is staged, the
background job. -/
namespace Sys2Proof.Machine
open Sys2Proof

/-- What the answer to a request that only reads changes: the queues of its port and its latency (R264, R282). -/
def May.answering (p : Nat) : May := { port := (· = p), reg := words p [.hpQmax] }

/-- What the answer to an accepted request changes: the log too (R281). -/
def May.replying (p : Nat) : May :=
  { logs with port := (· = p), reg := fun i k => words 0 [.bbxStat] i k || words p [.hpQmax] i k }

section
variable (p : Nat)
@[simp] theorem May.answering_port : (May.answering p).port p = true := decide_eq_true rfl
@[simp] theorem May.answering_qmax : (May.answering p).reg .hpQmax p = true := by simp [May.answering, words]
@[simp] theorem May.replying_port : (May.replying p).port p = true := decide_eq_true rfl
@[simp] theorem May.replying_qmax : (May.replying p).reg .hpQmax p = true := by simp [May.replying, words]
@[simp] theorem May.replying_bbx : (May.replying p).bbx = true := (rfl)
@[simp] theorem May.replying_bbxStat : (May.replying p).reg .bbxStat 0 = true := (rfl)

theorem May.replying_reg {i : RegId} (k : Nat) (hi : i ≠ .hpQmax) (hb : i ≠ .bbxStat) : (May.replying p).reg i k = false := by
  simp [May.replying, words, hi, hb]
end

section
variable {d e : Dev} {q : QReq} {a : Resp}

/-! ### The log of a write (R281) -/

/-- A write for the log leaves the queues of its port. -/
theorem Dev.logWrite_port {p : Nat} (h : p < d.ports.length) (code op lane tag addr st : Nat) :
    ∃ l, (d.logWrite p code op lane tag addr st).port p = { d.port p with logs := l } := by
  unfold Dev.logWrite
  dsimp only
  split
  · exact ⟨_, Dev.port_onPort h _⟩
  · split
    all_goals exact ⟨_, by rw [Dev.logEvent_port, Dev.port_onPort h]⟩

theorem Dev.noteAccepted_port (h : q.req.port < d.ports.length) :
    ∃ l, (d.noteAccepted q).port q.req.port = { d.port q.req.port with logs := l } := by
  unfold Dev.noteAccepted
  split
  · exact ⟨_, rfl⟩
  · exact Dev.logWrite_port h ..

theorem Within.ports_length {m : May} (h : Within m d e) : e.ports.length = d.ports.length := by
  have hs := h.shape
  simp only [Dev.shape, List.cons_append, List.cons.injEq] at hs
  exact hs.2.2.2.1

/-- The commits of the black box: the last one, the one that runs and the one that waits. -/
def Dev.commits (d : Dev) : Option CommitRec × Option CommitRec × Option CommitWait := (d.bbx.commit, d.bbx.running, d.bbx.waiting)

theorem Dev.logEvent_commits (d : Dev) (code kind idx : Nat) (data : List Byte) : (d.logEvent code kind idx data).commits = d.commits := by
  unfold Dev.logEvent
  dsimp only
  split
  · rfl
  · simp only [Dev.commits, Dev.onBbx]
    split <;> rfl

theorem Dev.noteAccepted_commits (d : Dev) (q : QReq) : (d.noteAccepted q).commits = d.commits := by
  unfold Dev.noteAccepted
  split
  · rfl
  · unfold Dev.logWrite
    dsimp only
    split
    · rfl
    · split
      · rw [Dev.logEvent_commits]
        rfl
      · rw [Dev.logEvent_commits]
        rfl

/-! ### The answer -/

/-- The answer leaves for the port of its request, and the service time enters `QMAX`. -/
theorem Dev.answered_within (hq : q.posted = false) (hprob : e.hlt.probation = none) {m : May} (h : Within m d e)
    (hp : m.port q.req.port = true) (hr : m.reg .hpQmax q.req.port = true) : Within m d ((e.reply q a).latency q) := by
  rw [Dev.reply_of_unposted hq, Dev.latency_of_settled (d := e.pushReply q a) hprob]
  have h1 : Within m d (e.pushReply q a) := by simp [h, hp]
  simp [h1, hr]

theorem Dev.answered_tx (hq : q.posted = false) (hprob : e.hlt.probation = none) (hp : q.req.port < e.ports.length) :
    (((e.reply q a).latency q).port q.req.port).tx =
      (e.port q.req.port).tx ++ [{ bytes := replyBytes q.op q.req a, dst := q.src, vlan := q.vlan, arr := q.arr }] := by
  rw [Dev.reply_of_unposted hq, Dev.latency_of_settled (d := e.pushReply q a) hprob, Dev.maxFld_port]
  exact Dev.pushReply_tx hp a

/-- An accepted request is logged and answered; its reply is the last of its port. -/
theorem Dev.serveSingle_accepted (hrun : d.runOp q.op q.req false = (some a, e)) (ha : a.accepted = true) (hq : q.posted = false)
    (hprob : e.hlt.probation = none) (hp : q.req.port < e.ports.length) :
    Within (.replying q.req.port) e (d.serveSingle q) ∧ ((d.serveSingle q).port q.req.port).tx = (e.port q.req.port).tx ++
      [{ bytes := replyBytes q.op q.req a, dst := q.src, vlan := q.vlan, arr := q.arr }] := by
  unfold Dev.serveSingle
  rw [hrun]
  dsimp only
  rw [if_pos ha]
  have hnote : Within (.replying q.req.port) e (e.noteAccepted q) := by simp
  obtain ⟨l, hl⟩ := Dev.noteAccepted_port (q := q) hp
  set f : Dev := if q.op = 0x101 ∧ a.status = stStaged then
    (e.noteAccepted q).logAdmitted (((e.noteAccepted q).staged.getLast?.map (·.act)).toList) else e.noteAccepted q with hf
  have hfw : Within logs (e.noteAccepted q) f := by
    rw [hf]
    split <;> simp [logs, words]
  have hfport : f.port q.req.port = (e.noteAccepted q).port q.req.port := hfw.port _ rfl
  have hfprob : f.hlt.probation = none := by rw [hfw.hlt rfl, hnote.hlt rfl, hprob]
  have hw : Within (.replying q.req.port) e f := by
    rw [hf]
    split <;> simp
  refine ⟨Dev.answered_within hq hfprob hw (by simp) (by simp), ?_⟩
  rw [Dev.answered_tx hq hfprob (by rw [hw.ports_length]; exact hp), hfport, hl]

/-- A request that only reads is answered; nothing is logged. -/
theorem Dev.serveSingle_reading (hrun : d.runOp q.op q.req false = (some a, e)) (hread : readsOnly q.op q.req.payload = true)
    (ho : a.status ≠ stNotOwner) (hl : a.status ≠ stLocked) (hq : q.posted = false) (hprob : e.hlt.probation = none)
    (hp : q.req.port < e.ports.length) :
    Within (.answering q.req.port) e (d.serveSingle q) ∧ ((d.serveSingle q).port q.req.port).tx = (e.port q.req.port).tx ++
      [{ bytes := replyBytes q.op q.req a, dst := q.src, vlan := q.vlan, arr := q.arr }] := by
  rw [Dev.serveSingle_of_read hrun hread ho hl]
  exact ⟨Dev.answered_within hq hprob (.refl _ e) (by simp) (by simp), Dev.answered_tx hq hprob hp⟩

/-- A request that becomes a background job is logged; its port keeps it for the answer (R283). -/
theorem Dev.serveSingle_job {q0 : QReq} {j : BgAct} (hrun : d.runOp q.op q.req false = (none, e))
    (hbg : (e.port q.req.port).bg = some ⟨q0, j⟩) (hp : q.req.port < e.ports.length) :
    Within (.replying q.req.port) e (d.serveSingle q) ∧ ((d.serveSingle q).port q.req.port).tx = (e.port q.req.port).tx ∧
      ((d.serveSingle q).port q.req.port).bg = some ⟨q, j⟩ ∧ (d.serveSingle q).commits = e.commits := by
  unfold Dev.serveSingle
  rw [hrun]
  dsimp only
  have h1 : Within (.replying q.req.port) e (e.onPort q.req.port fun x => { x with bg := x.bg.map fun j => { j with q := q } }) := by
    simp
  obtain ⟨l, hl⟩ := Dev.noteAccepted_port (q := q)
    (d := e.onPort q.req.port fun x => { x with bg := x.bg.map fun j => { j with q := q } }) (by simpa using hp)
  refine ⟨by simp [h1], ?_, ?_, ?_⟩
  · rw [hl, Dev.port_onPort hp]
  · rw [hl, Dev.port_onPort hp]
    simp [hbg]
  · rw [Dev.noteAccepted_commits]
    rfl

/-! ### Actions staged outside a group (R12) -/

/-- Actions staged now by a port. -/
def Dev.staging (d : Dev) (port : Nat) (as : List Act) : Dev :=
  { d with staged := d.staged ++ as.map fun a => { port := port, acc := d.now, inGroup := false, act := a } }

theorem Dev.stage_eq (d : Dev) (port : Nat) (a : Act) : d.stage port false a = d.staging port [a] := rfl

theorem Dev.staging_staging (d : Dev) (port : Nat) (as bs : List Act) :
    (d.staging port as).staging port bs = d.staging port (as ++ bs) := by
  simp [Dev.staging]

theorem Dev.forEach_stage (d : Dev) (port : Nat) (l : List Nat) (f : Nat → Act) :
    (d.forEach l fun n d => d.stage port false (f n)) = d.staging port (l.map f) := by
  unfold Dev.forEach
  induction l generalizing d with
  | nil => simp [Dev.staging]
  | cons n l ih =>
    simp only [List.foldl_cons]
    rw [ih, Dev.stage_eq, Dev.staging_staging]
    rfl

end

/-! ### The service of an admitted request -/

section
variable {s : State} {c : Instr} {op g : Nat} {u : LaneUse} {w : Right} {r : Request} {st : Nat} {data : List Byte}
  {run : Dev → Request → Bool → Served} {e : Dev}

/-- An admitted request that its handler accepts is answered; the device is what the handler leaves, but for the service. -/
theorem answers_of_accepted (hc : Machine.exec c s = onRequest s op r) (h : Admits s.dev r g u w)
    (hi : opInfo op = some ⟨g, u, w, run⟩) (hs : safetyOp op = false)
    (ha : run (s.dev.counted r) r false = (some ⟨st, data⟩, e)) (hst : Resp.accepted ⟨st, data⟩ = true)
    (hprob : e.hlt.probation = s.dev.hlt.probation) (htx : (e.port r.port).tx = (s.dev.port r.port).tx)
    (hlen : e.ports.length = s.dev.ports.length) {P : Dev → Prop} (hP : ∀ d, Within (.replying r.port) e d → P d) :
    Answers c op r s ⟨st, data⟩ P := by
  have hrun : (s.dev.counted r).runOp op r false = (some ⟨st, data⟩, e) := (h.runOp hi hs false).trans ha
  have hnext := hc.trans (h.onRequest op)
  obtain ⟨hp, -, -, -, hflags, hnone, -⟩ := h
  obtain ⟨hw, hreply⟩ := Dev.serveSingle_accepted (q := queued op r) hrun hst (posted_queued op r hflags)
    (hprob.trans hnone) (by rw [hlen]; exact hp)
  refine runs_of hnext ⟨?_, hP _ hw⟩
  rw [show r.port = (queued op r).req.port from rfl, hreply]
  exact congrArg (· ++ _) htx

/-- An admitted request that only reads is answered; the device is what the handler leaves, but for the port. -/
theorem answers_of_reading (hc : Machine.exec c s = onRequest s op r) (h : Admits s.dev r g u w)
    (hi : opInfo op = some ⟨g, u, w, run⟩) (hs : safetyOp op = false) (hread : readsOnly op r.payload = true)
    (ha : run (s.dev.counted r) r false = (some ⟨st, data⟩, e)) (ho : st ≠ stNotOwner) (hl : st ≠ stLocked)
    (hprob : e.hlt.probation = s.dev.hlt.probation) (htx : (e.port r.port).tx = (s.dev.port r.port).tx)
    (hlen : e.ports.length = s.dev.ports.length) {P : Dev → Prop} (hP : ∀ d, Within (.answering r.port) e d → P d) :
    Answers c op r s ⟨st, data⟩ P := by
  have hrun : (s.dev.counted r).runOp op r false = (some ⟨st, data⟩, e) := (h.runOp hi hs false).trans ha
  have hnext := hc.trans (h.onRequest op)
  obtain ⟨hp, -, -, -, hflags, hnone, -⟩ := h
  obtain ⟨hw, hreply⟩ := Dev.serveSingle_reading (q := queued op r) hrun hread ho hl (posted_queued op r hflags)
    (hprob.trans hnone) (by rw [hlen]; exact hp)
  refine runs_of hnext ⟨?_, hP _ hw⟩
  rw [show r.port = (queued op r).req.port from rfl, hreply]
  exact congrArg (· ++ _) htx

/-- An admitted request whose handler starts a job has no reply yet. -/
theorem startsJob_of (hc : Machine.exec c s = onRequest s op r) (h : Admits s.dev r g u w)
    (hi : opInfo op = some ⟨g, u, w, run⟩) (hs : safetyOp op = false)
    (ha : run (s.dev.counted r) r false = (none, e)) {q0 : QReq} {j : BgAct} (hbg : (e.port r.port).bg = some ⟨q0, j⟩)
    (htx : (e.port r.port).tx = (s.dev.port r.port).tx) (hlen : e.ports.length = s.dev.ports.length)
    {P : Dev → Prop} (hP : ∀ d, Within (.replying r.port) e d → d.commits = e.commits → P d) : StartsJob c op r s j P := by
  have hrun : (s.dev.counted r).runOp op r false = (none, e) := (h.runOp hi hs false).trans ha
  have hnext := hc.trans (h.onRequest op)
  obtain ⟨hp, -⟩ := h
  obtain ⟨hw, hreply, hjob, hcom⟩ := Dev.serveSingle_job (q := queued op r) hrun hbg (by rw [hlen]; exact hp)
  exact runs_of hnext ⟨hreply.trans htx, ⟨queued op r, hjob, rfl, rfl⟩, hP _ hw hcom⟩

/-- An admitted request that stages its actions is answered with them staged (R12). -/
theorem answers_of_staging {as : List Act} (hc : Machine.exec c s = onRequest s op r) (h : Admits s.dev r g u w)
    (hi : opInfo op = some ⟨g, u, w, run⟩) (hs : safetyOp op = false)
    (ha : run (s.dev.counted r) r false = ((s.dev.counted r).staging r.port as).answer st data)
    (hst : Resp.accepted ⟨st, data⟩ = true) : Answers c op r s ⟨st, data⟩ (Staging s r.port r.t as) :=
  answers_of_accepted hc h hi hs ha hst rfl rfl rfl fun _ hw => hw.staged rfl

end

end Sys2Proof.Machine
end

section
/-! IDENTIFY, PING, PROT_STATUS and REG_RD (R269–R271, R350). -/
namespace Sys2Proof.Machine
open Sys2Proof

theorem Answers.mono {c : Instr} {op : Nat} {r : Request} {s : State} {a : Resp} {P Q : Dev → Prop} (h : Answers c op r s a P)
    (hpq : ∀ d, P d → Q d) : Answers c op r s a Q := by
  obtain ⟨d, hd, htx, hp⟩ := h
  exact ⟨d, hd, htx, hpq d hp⟩

/-- A request that only reads, whose handler leaves the device as it found it, is answered OK with its data. -/
theorem answers_of_ok {s : State} {c : Instr} {op g : Nat} {u : LaneUse} {w : Right} {r : Request} {data : List Byte}
    {run : Dev → Request → Bool → Served} (hc : Machine.exec c s = onRequest s op r) (h : Admits s.dev r g u w)
    (hi : opInfo op = some ⟨g, u, w, run⟩) (hs : safetyOp op = false) (hread : readsOnly op r.payload = true)
    (ha : run (s.dev.counted r) r false = (s.dev.counted r).answer stOk data) :
    Answers c op r s ⟨stOk, data⟩ fun d => Within (.answering r.port) (s.dev.counted r) d :=
  answers_of_reading hc h hi hs hread ha (by decide) (by decide) rfl rfl rfl fun _ hw => hw

section
variable {d : Dev} {r : Request}

/-- The bytes of IDENTIFY before the owners (Table 12-7). -/
def Dev.identifyHead (d : Dev) (port : Nat) : List Byte :=
  let m (g : Nat) : Byte := Config.minorKnown d.fwVersion g
  let slot := if d.pwr.recovery then 0xFF else d.hlt.runSlot
  leBytes 2 0x9600 ++ [BitVec.ofNat 8 d.variant, 0x42, 7, BitVec.ofNat 8 port, m 1, m 2, m 3, BitVec.ofNat 8 d.leadPort] ++
    (wordBytes d.fwVersion).reverse ++ [BitVec.ofNat 8 slot, BitVec.ofNat 8 (b2n d.crit.sealed)] ++
    leBytes 2 (d.fld .protStat 0 16 16) ++ wordBytes (Config.serial 0) ++ wordBytes (Config.serial 1) ++ macBytes 0 ++ zeros 2

/-- The owners of the lanes, two in a byte (R269). -/
def Dev.ownerBytes (d : Dev) : List Byte := (List.range 48).map fun i => BitVec.ofNat 8 (d.owner (2 * i) + 16 * d.owner (2 * i + 1))

theorem Dev.opIdentify_eq (d : Dev) (h : r.payload = []) (b : Bool) :
    d.opIdentify r b = d.answer stOk (d.identifyHead r.port ++ d.ownerBytes) := if_neg (not_not.2 h)

theorem Dev.identifyHead_length (d : Dev) (p : Nat) : (d.identifyHead p).length = 34 := by
  simp [Dev.identifyHead, wordBytes, macBytes, beBytes, zeros]

theorem Dev.ownerBytes_length (d : Dev) : d.ownerBytes.length = 48 := by simp [Dev.ownerBytes]

theorem Dev.getD_ownerBytes (d : Dev) (p : Nat) {i : Nat} (h : i < 48) :
    (d.identifyHead p ++ d.ownerBytes).getD (34 + i) 0 = BitVec.ofNat 8 (d.owner (2 * i) + 16 * d.owner (2 * i + 1)) := by
  rw [List.getD_append_right _ _ _ _ (by rw [Dev.identifyHead_length]; omega), Dev.identifyHead_length]
  simp [Dev.ownerBytes, h]

/-- The RC bits that a read clears are a word's (R7). -/
theorem Dev.clearRc_stands (d : Dev) (a : Nat) :
    (d.clearRc a).hlt = d.hlt ∧ (d.clearRc a).ports = d.ports ∧ (d.clearRc a).staged = d.staged := by
  unfold Dev.clearRc
  split
  · split <;> exact ⟨rfl, rfl, rfl⟩
  · exact ⟨rfl, rfl, rfl⟩

/-- REG_RD of one word that is in no coherent group gives the word and clears its RC bits (R271). -/
theorem Dev.opRegRd_one {a : Nat} {x : RegId} {k : Nat} (hp : r.payload = leBytes 4 a ++ [1, 0, 0, 0]) (hx : targetOf a = .reg x k)
    (ha : a % 4 = 0) (ha32 : a < 2 ^ 32) (hg : groupAt a = none) (hc : (d.port r.port).capture = none) (hab : d.absentAt a = false)
    (b : Bool) : d.opRegRd r b = (d.clearRc a).answer stOk ([1, 0] ++ wordBytes (d.readRc r.port a)) := by
  have haddr : u32At r.payload 0 = a := by
    rw [hp]
    exact u32At_append (pre := []) rfl ha32
  have hn : u16At r.payload 4 = 1 := by
    rw [hp]
    exact u16At_append (v := 1) (post := [0, 0]) (length_leBytes 4 a) (by decide)
  have hz : zeroAt r.payload 6 2 = true := by
    rw [hp, zeroAt]
    rfl
  have hmax : ¬readMax r.gen < 1 := by
    unfold readMax
    split <;> decide
  have hhead : badHead r.payload (readMax r.gen) = false := by
    simp only [badHead, haddr, hn, hz, ha]
    simpa using hmax
  unfold Dev.opRegRd
  dsimp only
  rw [hn, haddr, if_neg (by simp [hp]), hhead, if_neg Bool.false_ne_true, if_neg (by simp [hx, hab])]
  simp only [Dev.readWords, Dev.readWord, hg, hc, List.flatMap_cons, List.flatMap_nil, List.append_nil]
  rfl

end

/-- Settles O29: what each handler answers, on the device as it finds it. -/
theorem deviceReadsAnswer : Obligations.DeviceReadsAnswer := by
  unfold Obligations.DeviceReadsAnswer
  intro s r
  refine ⟨fun h hp => ?identify, fun h hfits => ?ping, fun h hp => ?prot, fun x k h hp hx ha ha32 hg hc hab => ?regRd⟩
  case identify =>
    refine ⟨(s.dev.counted r).identifyHead r.port ++ (s.dev.counted r).ownerBytes,
      (answers_of_ok rfl h rfl rfl rfl (Dev.opIdentify_eq _ hp false)).mono fun d hw => hw.staged rfl, ?_, rfl, rfl, ?_, ?_, ?_, ?_⟩
    · rw [List.length_append, Dev.identifyHead_length, Dev.ownerBytes_length]
    · obtain ⟨hport, h5, -⟩ := h
      refine (BitVec.toNat_ofNat ..).trans (Nat.mod_eq_of_lt ?_)
      omega
    · exact congrArg (BitVec.ofNat 8) (s.dev.counted_leadPort r)
    · rfl
    · intro i hi
      rw [Dev.getD_ownerBytes _ _ hi, Dev.counted_owner, Dev.counted_owner]
  case ping =>
    exact (answers_ping h (Dev.opPing_of_fits _ hfits false) (by decide) (by decide)).mono fun d hd => hd.1
  case prot =>
    have hrun (b : Bool) : (s.dev.counted r).opProtStatus r b = (s.dev.counted r).answer stOk _ := if_neg (not_not.2 hp)
    refine ⟨_, (answers_of_ok rfl h rfl rfl rfl (hrun false)).mono fun d hw => hw.staged rfl, ?_, rfl, fun himg => ?_⟩
    · rw [Dev.counted_fld _ _ (by decide)]
      rfl
    · have himg' : (s.dev.counted r).pwr.imageOk = false := himg
      rw [himg']
      rfl
  case regRd =>
    obtain ⟨hhlt, hports, hstaged⟩ := (s.dev.counted r).clearRc_stands (x.addr k)
    have hrun := Dev.opRegRd_one (d := s.dev.counted r) hp hx ha ha32 hg hc hab false
    refine answers_of_reading rfl h rfl rfl rfl hrun (by decide) (by decide) (by rw [hhlt]; rfl) ?_ (by rw [hports]; rfl)
      fun d hw => (hw.staged rfl).trans hstaged
    rw [Dev.port, hports]
    rfl

end Sys2Proof.Machine
end

section
/-! REG_WR and REG_RMW of one word (R7, R12, R272, R273). -/
namespace Sys2Proof.Machine
open Sys2Proof

section
variable {d : Dev} {r : Request} {x : RegId} {k a p : Nat} {v : Word}

/-! ### The device as the handler finds it -/

/-- The events of the cycle of another word stand. -/
theorem Dev.freshWord_noteFresh_ne (d : Dev) {i j : RegId} {k l : Nat} (f : Word → Word) (h : ¬(j = i ∧ l = k)) :
    (d.noteFresh i k f).freshWord j l = d.freshWord j l := by
  have hne : (decide (i = j) && decide (k = l)) = false := by
    rw [← Bool.decide_and, decide_eq_false_iff_not]
    rintro ⟨rfl, rfl⟩
    exact h ⟨rfl, rfl⟩
  unfold Dev.freshWord
  simp only [Dev.noteFresh, if_true, List.find?_cons, Bool.decide_and, hne]
  split
  · rw [List.find?_filter]
    congr 3
    funext c
    by_cases hc : c.id = j ∧ c.idx = l
    · obtain ⟨rfl, rfl⟩ := hc
      simp
      tauto
    · simp
      tauto
  · rfl

theorem Dev.counted_freshWord (d : Dev) (r : Request) (hx : x ≠ .hpRxOk) : (d.counted r).freshWord x k = (d.at r.t).freshWord x k :=
  Dev.freshWord_noteFresh_ne _ _ fun h => hx h.1

theorem Dev.counted_timeSetRefused (d : Dev) (r : Request) : (d.counted r).timeSetRefused = d.timeSetRefused := rfl

theorem Dev.counted_valueCheck (d : Dev) (r : Request) (a : Nat) (v : Word) : (d.counted r).valueCheck a v = d.valueCheck a v := by
  unfold Dev.valueCheck
  rw [Dev.counted_timeSetRefused, Dev.counted_leadPort, Dev.counted_laneCount]
  rfl

/-! ### A write of one word -/

/-- A word that no check refuses, and that is no trace setting, is written (R272). -/
theorem Dev.writeWords_one (hx : targetOf a = .reg x k) (hword : d.wordCheck p a = stOk) (hval : d.valueCheck a v = stOk)
    (ht : x.traceSetting = false) (g : Bool) :
    d.writeWords p g a [v] = (if x.info.sw ≠ 0 then stStaged else stOk, d.writeReg p g x k v) := by
  have hsw : hasSw a = decide (x.info.sw ≠ 0) := by simp [hasSw, hx]
  have ha : (List.range [v].length).map (fun i => a + 4 * i) = [a] := rfl
  unfold Dev.writeWords
  simp only [ha, List.map_cons, List.map_nil, hword, List.zip_cons_cons, List.zip_nil_left, hval, firstFail, if_true, ne_eq,
    not_true, if_false, List.any_cons, List.any_nil, hx, ht, Bool.or_false, Bool.false_and, Bool.false_eq_true, List.foldl_cons,
    List.foldl_nil, Dev.writeAt, hsw, decide_eq_true_eq]

theorem Dev.writeReg_staged (hv : x.valueWords = 1) (hpres : d.regPresent x k = true) (hsw : x.info.sw ≠ 0) :
    d.writeReg p false x k v = d.staging p [.reg x k (v &&& x.info.sw)] := by
  simp only [Dev.writeReg, hv, if_true, Dev.writeOne, hpres, Bool.not_true, Bool.false_eq_true, if_false, hsw, ne_eq, not_false_eq_true,
    Dev.stage_eq]

theorem Dev.writeReg_now (hv : x.valueWords = 1) (hpres : d.regPresent x k = true) (hsw : x.info.sw = 0) :
    d.writeReg p false x k v = d.writeNow x k v := by
  simp [Dev.writeReg, hv, Dev.writeOne, hpres, hsw]

/-- A write of a word without an effect of its own takes its RW bits, and clears the W1C bits that no event has just set (R7). -/
theorem Dev.writeNow_word (hx : x ∉ [.timeSet, .mlsPop, .mlsAssign, .emuLane, .hpCtrl]) :
    Within .noStaged d (d.writeNow x k v) ∧ (d.writeNow x k v).hlt = d.hlt ∧ (d.writeNow x k v).ports = d.ports ∧
    (d.writeNow x k v).reg x k =
      (d.reg x k &&& ~~~x.info.rw &&& ~~~(v &&& x.info.w1c)) ||| (v &&& x.info.rw) ||| (d.freshWord x k &&& x.info.w1c) := by
  have hreg (w : Word) : (d.setReg x k w).reg x k = w := Dev.reg_setReg_self ..
  have hcheck (w : Word) : ((d.setReg x k w).asCheck).hlt = d.hlt ∧ ((d.setReg x k w).asCheck).ports = d.ports ∧
      ((d.setReg x k w).asCheck).reg x k = w := by
    unfold Dev.asCheck
    split
    · exact ⟨rfl, rfl, hreg w⟩
    · exact ⟨rfl, rfl, hreg w⟩
  unfold Dev.writeNow
  dsimp only
  split
  · simp at hx
  · simp at hx
  · simp at hx
  · simp at hx
  · simp at hx
  · exact ⟨by simp, hcheck _⟩
  · exact ⟨by simp, rfl, rfl, hreg _⟩

/-! ### The handlers -/

theorem wordAt_append {pre post : List Byte} {o : Nat} (ho : pre.length = o) (w : Word) :
    wordAt (pre ++ (wordBytes w ++ post)) o = w := by
  rw [wordAt, wordBytes, u32At_append ho w.isLt]
  exact BitVec.ofNat_toNat ..

/-- Words are read back from their bytes, wherever they stand. -/
theorem wordsAt_append {pre post : List Byte} {o : Nat} (ho : pre.length = o) (ws : List Word) :
    wordsAt (pre ++ (ws.flatMap wordBytes ++ post)) o ws.length = ws := by
  apply List.ext_getElem
  · simp
  · intro i h1 h2
    have hlen : (pre ++ (ws.take i).flatMap wordBytes).length = o + 4 * i := by
      rw [List.length_append, length_flatMap_wordBytes, List.length_take, ho, Nat.min_eq_left h2.le]
    have hsplit : pre ++ (ws.flatMap wordBytes ++ post) =
        (pre ++ (ws.take i).flatMap wordBytes) ++ (wordBytes ws[i] ++ ((ws.drop (i + 1)).flatMap wordBytes ++ post)) := by
      have hws : ws.flatMap wordBytes =
          (ws.take i).flatMap wordBytes ++ (wordBytes ws[i] ++ (ws.drop (i + 1)).flatMap wordBytes) := by
        rw [← List.flatMap_cons, ← List.drop_eq_getElem_cons h2, ← List.flatMap_append, List.take_append_drop]
      rw [hws]
      simp only [List.append_assoc]
    simp only [wordsAt, List.getElem_map, List.getElem_range]
    rw [hsplit]
    exact wordAt_append hlen _

/-- REG_WR of words whose packet says them whole (R272). -/
theorem Dev.opRegWr_eq {ws : List Word} (hp : r.payload = leBytes 4 a ++ leBytes 2 ws.length ++ [0, 0] ++ ws.flatMap wordBytes)
    (ha : a % 4 = 0) (ha32 : a < 2 ^ 32) (hn : 1 ≤ ws.length) (hmost : ws.length ≤ writeMax r.gen) (g : Bool) :
    d.opRegWr r g = if (d.writeWords r.port g a ws).1 = stOk ∨ (d.writeWords r.port g a ws).1 = stStaged then
      (d.writeWords r.port g a ws).2.answer (d.writeWords r.port g a ws).1 (leBytes 2 ws.length)
    else d.answer (d.writeWords r.port g a ws).1 := by
  have hn16 : ws.length < 2 ^ 16 := hmost.trans_lt (by unfold writeMax; split <;> decide)
  have haddr : u32At r.payload 0 = a := by
    rw [hp, List.append_assoc, List.append_assoc]
    exact u32At_append (pre := []) rfl ha32
  have hcount : u16At r.payload 4 = ws.length := by
    rw [hp, List.append_assoc, List.append_assoc]
    exact u16At_append (length_leBytes 4 a) hn16
  have hw : wordsAt r.payload 8 ws.length = ws := by
    have := wordsAt_append (pre := leBytes 4 a ++ leBytes 2 ws.length ++ [0, 0]) (post := []) (o := 8) (by simp) ws
    rw [hp]
    simpa using this
  have hz : zeroAt r.payload 6 2 = true := by
    rw [hp, List.append_assoc, zeroAt, slice_append (mid := [0, 0]) (o := 6) (n := 2) (by simp) rfl]
    rfl
  have hlen : r.payload.length = 8 + 4 * ws.length := by
    rw [hp]
    simp only [List.length_append, length_leBytes, List.length_cons, List.length_nil, length_flatMap_wordBytes]
  have hhead : badHead r.payload (writeMax r.gen) = false := by
    have hne : ws ≠ [] := List.ne_nil_of_length_pos hn
    simp [badHead, haddr, hcount, hz, ha, hmost, hne]
  unfold Dev.opRegWr
  dsimp only
  rw [hcount, haddr, hw, if_neg (by omega), hhead, if_neg Bool.false_ne_true, if_neg (by omega)]

theorem two_le_writeMax (gen : Nat) : 2 ≤ writeMax gen := by
  unfold writeMax
  split <;> decide

/-- REG_RMW of an SW word (R273). -/
theorem Dev.opRegRmw_staged (hx : targetOf a = .reg x k) {mask : Word} (hp : r.payload = leBytes 4 a ++ wordBytes mask ++ wordBytes v)
    (ha : a % 4 = 0) (ha32 : a < 2 ^ 32) (hword : d.wordCheck r.port a = stOk) (hsw : x.info.sw ≠ 0)
    (hmask : mask &&& ~~~(x.info.rw ||| x.info.sw) = 0) (hv : x.valueWords = 1) (hpres : d.regPresent x k = true)
    (ht : x.traceSetting = false)
    (hval : d.valueCheck a (((d.rmwOld r.port a &&& ~~~mask) ||| (v &&& mask)) &&& ~~~x.info.w1c) = stOk) :
    d.opRegRmw r false = (d.staging r.port [.reg x k ((((d.rmwOld r.port a &&& ~~~mask) ||| (v &&& mask)) &&& ~~~x.info.w1c) &&&
      x.info.sw)]).answer stStaged (zeros 2 ++ wordBytes (d.rmwOld r.port a)) := by
  have haddr : u32At r.payload 0 = a := by
    rw [hp, List.append_assoc]
    exact u32At_append (pre := []) rfl ha32
  have hm : wordAt r.payload 4 = mask := by
    rw [hp, List.append_assoc]
    exact wordAt_append (by simp) mask
  have hw : wordAt r.payload 8 = v := by
    have := wordAt_append (pre := leBytes 4 a ++ wordBytes mask) (post := []) (o := 8) (by simp [wordBytes]) v
    rw [hp]; simpa using this
  have hlen : r.payload.length = 12 := by simp [hp, wordBytes]
  have hor : x.info.rw ||| x.info.sw ≠ 0 := fun h0 => hsw (BitVec.or_eq_zero_iff.1 h0).2
  unfold Dev.opRegRmw
  dsimp only
  rw [haddr, hm, hw, if_neg (by omega), if_neg (by omega), hword, if_neg (by simp)]
  simp only [hx]
  rw [if_neg (not_or.2 ⟨hor, not_not.2 hmask⟩), Dev.writeWords_one hx hword hval ht, if_pos hsw, Dev.writeReg_staged hv hpres hsw]
  rfl

end

/-- Settles O30: a word that no check refuses is staged or takes its bits, and REG_RMW stages the word with the mask taken. -/
theorem registerWritesAct : Obligations.RegisterWritesAct := by
  unfold Obligations.RegisterWritesAct
  intro s r x k v a hx ha ha32 hv hword hpres
  have hword' : (s.dev.counted r).wordCheck r.port a = stOk := by rwa [Dev.counted_wordCheck]
  have hpres' : (s.dev.counted r).regPresent x k = true := hpres
  have hone : leBytes 2 [v].length = [1, 0] := by simp [leBytes]
  refine ⟨fun h hsw hval ht hp => ?staged, fun h hsw hval ht hne hp => ?now, fun mask h hsw ht hmask hval hp => ?rmw⟩
  case staged =>
    have hww := Dev.writeWords_one (d := s.dev.counted r) (v := v) hx hword' (by rw [Dev.counted_valueCheck]; exact hval) ht false
    rw [if_pos hsw, Dev.writeReg_staged hv hpres' hsw] at hww
    refine answers_of_staging rfl h rfl rfl ?_ rfl
    rw [Dev.opRegWr_eq (ws := [v]) (by simpa [leBytes] using hp) ha ha32 le_rfl ((Nat.le_succ 1).trans (two_le_writeMax _)), hww,
      if_pos (.inr rfl), hone]
  case now =>
    have hww := Dev.writeWords_one (d := s.dev.counted r) (v := v) hx hword' (by rw [Dev.counted_valueCheck]; exact hval) ht false
    rw [if_neg (not_not.2 hsw), Dev.writeReg_now hv hpres' hsw] at hww
    simp only [List.mem_cons, List.not_mem_nil, or_false, not_or] at hne
    obtain ⟨h1, h2, h3, h4, h5, hok, hmax, hbbx⟩ := hne
    obtain ⟨hstaged, hhlt, hports, hreg⟩ := Dev.writeNow_word (d := s.dev.counted r) (x := x) (k := k) (v := v)
      (by simp [h1, h2, h3, h4, h5])
    refine answers_of_accepted (e := (s.dev.counted r).writeNow x k v) rfl h rfl rfl ?_ rfl (by rw [hhlt]; rfl) (by rw [Dev.port, hports]; rfl)
      (by rw [hports]; rfl) fun d hw => ⟨(hw.staged rfl).trans (hstaged.staged rfl), ?_⟩
    · rw [Dev.opRegWr_eq (ws := [v]) (by simpa [leBytes] using hp) ha ha32 le_rfl ((Nat.le_succ 1).trans (two_le_writeMax _)), hww,
        if_pos (.inl rfl), hone]
      rfl
    · rw [hw.reg x k (May.replying_reg _ _ hmax hbbx), hreg, Dev.counted_freshWord _ _ hok, Dev.counted_reg _ _ hok]
  case rmw =>
    refine answers_of_staging rfl h rfl rfl (Dev.opRegRmw_staged hx hp ha ha32 hword' hsw hmask hv hpres' ht ?_) rfl
    rw [Dev.counted_valueCheck]
    exact hval

end Sys2Proof.Machine
end

section
/-! The register fields with rows of their own (R20, R45, R48, R49, R76, R87, R138, R143, R239). -/
namespace Sys2Proof.Machine
open Sys2Proof

section
variable {s : State} {w : RegWrite} {x : RegId} {u : Nat} {mask v : Word}

theorem Answers.runs {c : Instr} {op : Nat} {r : Request} {a : Resp} {P : Dev → Prop} (h : Answers c op r s a P) : Runs c s P := by
  obtain ⟨d, hd, -, hp⟩ := h
  exact ⟨d, hd, hp⟩

/-! ### The packet of a field row -/

/-- A packet of the request that the row stands for passes steps 6 to 10 with it. -/
theorem Admits.fieldRow {g : Nat} {r : Request} (h : Admits s.dev (fieldRequest w) g .ignored .any)
    (hr : r = { fieldRequest w with payload := r.payload }) (hlen : r.payload.length ≤ 256) : Admits s.dev r g .ignored .any := by
  obtain ⟨hp, h5, hup, hg, hf, hprob, hrec, hgen, -, hl, -⟩ := h
  rw [hr]
  refine ⟨hp, h5, hup, hg, hf, hprob, hrec, hgen, hlen.trans ?_, hl, trivial⟩
  unfold payloadLimit
  split <;> decide

theorem onRegRmw_eq (hu : u < x.info.units) : onRegRmw s w x u mask v = Machine.onRequest s 0x0012 (regRmwOf w x u mask v) := by
  simp only [onRegRmw, Machine.onRequest, Machine.onUnit, hu, decide_true, Bool.and_true]
  rfl

theorem onRegWr_eq {vs : List Word} (hu : u < x.info.units) :
    onRegWr s w x u vs = Machine.onRequest s 0x0011 (regWrOf w x u vs) := by
  simp only [onRegWr, Machine.onRequest, Machine.onUnit, hu, decide_true, Bool.and_true]
  rfl

/-- No field row lies in the protection image, in the safety block or in a lane's safety view. -/
theorem fieldRow_open : ∀ x ∈ [RegId.excCtrl, .trkCmd, .laneCtrl, .pfeCmd, .mlsPop, .timeSet], ∀ u < x.info.units, ∀ j < x.info.subs,
    let a := x.addr (u * x.info.subs) + 4 * j
    ¬(0xA0000 ≤ a ∧ a < 0xB0000) ∧
      ¬((0x80000 ≤ a ∧ a < 0x90000) ∨ (0x100000 ≤ a ∧ a < 0x118000 ∧ 0x300 ≤ (a - 0x100000) % 0x400)) := by
  decide +kernel

/-- The word of a field row passes its checks where its unit is present and the port may write it (R272). -/
theorem fieldRow_wordCheck {d : Dev} {p j : Nat} (hx : x ∈ [RegId.excCtrl, .trkCmd, .laneCtrl, .pfeCmd, .mlsPop, .timeSet])
    (hu : u < x.info.units) (hj : j < x.info.subs) (hpres : d.regPresent x (u * x.info.subs + j) = true)
    (hmay : d.mayWrite p x (u * x.info.subs + j) = true) : d.wordCheck p (x.addr (u * x.info.subs) + 4 * j) = stOk := by
  have ht := (targetOf_fieldRow x hx u hu).2.2 j hj
  obtain ⟨hprot, hsafe⟩ := fieldRow_open x hx u hu j hj
  have hat : d.mayWriteAt p (x.addr (u * x.info.subs) + 4 * j) = true := by
    unfold Dev.mayWriteAt
    split
    · rfl
    · simp only [ht]
      exact hmay
  unfold Dev.wordCheck
  rw [if_neg (by simp [ht, Dev.absentAt, hpres]), if_neg hprot, if_neg hsafe, hat]
  rfl

/-! ### Rows that stage -/

/-- What a field row stages of the register: the staged value with the bits of the mask taken. -/
def fieldStaged (x : RegId) (old mask v : Word) : Word := (((old &&& ~~~mask) ||| (v &&& mask)) &&& ~~~x.info.w1c) &&& x.info.sw

theorem runs_stagedField {c : Instr} (hc : Machine.exec c s = onRegRmw s w x u mask v)
    (hx : x ∈ [RegId.excCtrl, .trkCmd, .laneCtrl, .pfeCmd]) (hu : u < x.info.units)
    (h : Admits s.dev (fieldRequest w) 1 .ignored .any) (hpres : s.dev.regPresent x u = true)
    (hmay : s.dev.mayWrite w.port x u = true) (hmask : mask &&& ~~~(x.info.rw ||| x.info.sw) = 0) :
    Runs c s fun d => ∃ old, Staging s w.port w.t [.reg x u (fieldStaged x old mask v)] d := by
  have hmem : x ∈ [RegId.excCtrl, .trkCmd, .laneCtrl, .pfeCmd, .mlsPop, .timeSet] := by
    simp only [List.mem_cons, List.not_mem_nil, or_false] at hx ⊢
    tauto
  obtain ⟨hsubs, hvw, hsw, hts⟩ : x.info.subs = 1 ∧ x.valueWords = 1 ∧ x.info.sw ≠ 0 ∧ x.traceSetting = false := by
    fin_cases hx <;> decide
  obtain ⟨ha32, ha, htarget⟩ := targetOf_fieldRow x hmem u hu
  have htarget' : targetOf (x.addr (u * x.info.subs)) = .reg x u := by
    have := htarget 0 (by omega)
    simpa [hsubs] using this
  have hword : (s.dev.counted (regRmwOf w x u mask v)).wordCheck w.port (x.addr (u * x.info.subs)) = stOk := by
    have := fieldRow_wordCheck (d := s.dev) (p := w.port) (j := 0) hmem hu (by omega) (by simpa [hsubs] using hpres)
      (by simpa [hsubs] using hmay)
    rw [Dev.counted_wordCheck]
    simpa using this
  have hval (y : Word) : (s.dev.counted (regRmwOf w x u mask v)).valueCheck (x.addr (u * x.info.subs)) y = stOk := by
    simp only [Dev.valueCheck, htarget']
    fin_cases hx <;> simp [RegId.traceReg, RegId.traceSetting]
  have hadm : Admits s.dev (regRmwOf w x u mask v) 1 .ignored .any := h.fieldRow rfl (by simp [regRmwOf, wordBytes])
  have hrun := Dev.opRegRmw_staged (d := s.dev.counted (regRmwOf w x u mask v)) (r := regRmwOf w x u mask v) htarget' rfl ha ha32 hword
    hsw hmask hvw hpres hts (hval _)
  exact ((answers_of_staging (hc.trans (onRegRmw_eq hu)) hadm rfl rfl hrun rfl).mono fun d hd => ⟨_, hd⟩).runs

/-! ### Rows that act -/

/-- Words of a register without SW bits, on which no check fails, are written in their order (R272). -/
theorem Dev.writeWords_acting {d : Dev} {p a : Nat} {ws : List Word}
    (hword : ∀ i < ws.length, d.wordCheck p (a + 4 * i) = stOk) (hval : ∀ i < ws.length, ∀ y, d.valueCheck (a + 4 * i) y = stOk)
    (hsw : ∀ i < ws.length, ∃ k, targetOf (a + 4 * i) = .reg x k) (hx : x.info.sw = 0) (ht : x.traceSetting = false) (g : Bool) :
    d.writeWords p g a ws = (stOk, (((List.range ws.length).map fun i => a + 4 * i).zip ws).foldl (fun d x => d.writeAt p g x.1 x.2) d) := by
  have hall {l : List Nat} (h : ∀ y ∈ l, y = stOk) : firstFail l = stOk := by
    induction l with
    | nil => rfl
    | cons y l ih =>
      rw [firstFail, if_pos (h y (by simp))]
      exact ih fun z hz => h z (by simp [hz])
  have h1 : firstFail ((((List.range ws.length).map fun i => a + 4 * i)).map (d.wordCheck p)) = stOk := by
    refine hall fun y hy => ?_
    simp only [List.map_map, List.mem_map, List.mem_range] at hy
    obtain ⟨i, hi, rfl⟩ := hy
    exact hword i hi
  have h2 : firstFail ((((List.range ws.length).map fun i => a + 4 * i).zip ws).map fun x => d.valueCheck x.1 x.2) = stOk := by
    refine hall fun y hy => ?_
    simp only [List.mem_map] at hy
    obtain ⟨⟨b, v⟩, hb, rfl⟩ := hy
    have hmem := (List.of_mem_zip hb).1
    simp only [List.mem_map, List.mem_range] at hmem
    obtain ⟨i, hi, rfl⟩ := hmem
    exact hval i hi v
  have hnone (f : Nat → Bool) (hf : ∀ i < ws.length, f (a + 4 * i) = false) :
      ((List.range ws.length).map fun i => a + 4 * i).any f = false := by
    simp only [List.any_eq_false, List.mem_map, List.mem_range]
    rintro _ ⟨i, hi, rfl⟩
    simp [hf i hi]
  unfold Dev.writeWords
  dsimp only
  rw [h1, if_neg (not_not.2 rfl), h2, if_neg (not_not.2 rfl), hnone hasSw fun i hi => ?_, hnone _ fun i hi => ?_]
  · rfl
  · obtain ⟨k, hk⟩ := hsw i hi
    simp [hk, ht]
  · obtain ⟨k, hk⟩ := hsw i hi
    simp [hasSw, hk, hx]

/-- A row whose register acts at once is answered OK, with its words written in their order. -/
theorem runs_actingField {c : Instr} {vs : List Word} (hc : Machine.exec c s = onRegWr s w x u vs)
    (hx : x ∈ [RegId.mlsPop, .timeSet]) (hu : u < x.info.units) (hn : vs.length = x.info.subs)
    (h : Admits s.dev (fieldRequest w) 1 .ignored .any) (hpres : ∀ j < x.info.subs, s.dev.regPresent x (u * x.info.subs + j) = true)
    (hmay : ∀ j < x.info.subs, s.dev.mayWrite w.port x (u * x.info.subs + j) = true)
    (ht : x = .timeSet → s.dev.timeSetRefused = false) {e : Dev}
    (he : (((List.range vs.length).map fun i => x.addr (u * x.info.subs) + 4 * i).zip vs).foldl
      (fun d x => d.writeAt w.port false x.1 x.2) (s.dev.counted (regWrOf w x u vs)) = e)
    (hprob : e.hlt.probation = s.dev.hlt.probation) (hports : e.ports = s.dev.ports) :
    Runs c s fun d => Within (.replying w.port) e d := by
  have hmem : x ∈ [RegId.excCtrl, .trkCmd, .laneCtrl, .pfeCmd, .mlsPop, .timeSet] := by
    simp only [List.mem_cons, List.not_mem_nil, or_false] at hx ⊢
    tauto
  obtain ⟨hsw, hts, hsubs⟩ : x.info.sw = 0 ∧ x.traceSetting = false ∧ 1 ≤ x.info.subs ∧ x.info.subs ≤ 2 := by
    fin_cases hx <;> decide
  obtain ⟨ha32, ha, htarget⟩ := targetOf_fieldRow x hmem u hu
  have hval : ∀ i < vs.length, ∀ y, (s.dev.counted (regWrOf w x u vs)).valueCheck (x.addr (u * x.info.subs) + 4 * i) y = stOk := by
    intro i hi y
    simp only [Dev.valueCheck, htarget i (by omega), Dev.counted_timeSetRefused]
    fin_cases hx
    · simp [RegId.traceReg, RegId.traceSetting]
    · simp [RegId.traceReg, RegId.traceSetting, ht rfl]
  have hww := Dev.writeWords_acting (d := s.dev.counted (regWrOf w x u vs)) (p := w.port) (ws := vs) (x := x)
    (fun i hi => by rw [Dev.counted_wordCheck]; exact fieldRow_wordCheck hmem hu (by omega) (hpres i (by omega)) (hmay i (by omega)))
    hval (fun i hi => ⟨_, htarget i (by omega)⟩) hsw hts false
  have hadm : Admits s.dev (regWrOf w x u vs) 1 .ignored .any :=
    h.fieldRow rfl (by
    simp only [regWrOf, zeros, List.length_append, length_leBytes, List.length_replicate, length_flatMap_wordBytes]
    omega)
  have hrun := Dev.opRegWr_eq (d := s.dev.counted (regWrOf w x u vs)) (r := regWrOf w x u vs) (ws := vs) rfl ha ha32 (by omega)
    (by have := two_le_writeMax (regWrOf w x u vs).gen; omega) false
  rw [show (regWrOf w x u vs).port = w.port from rfl, hww, he, if_pos (.inl rfl)] at hrun
  exact (answers_of_accepted (P := fun d => Within (.replying w.port) e d) (hc.trans (onRegWr_eq hu)) hadm rfl rfl hrun rfl hprob
    (by rw [Dev.port, hports]; rfl) (by rw [hports]) fun d hw => hw).runs

end

theorem Runs.mono {c : Instr} {s : State} {P Q : Dev → Prop} (h : Runs c s P) (hpq : ∀ d, P d → Q d) : Runs c s Q := by
  obtain ⟨d, hd, hp⟩ := h
  exact ⟨d, hd, hpq d hp⟩

theorem Dev.mlsUnit_onMls {d : Dev} {j : Nat} (h : j < d.mls.length) (f : MlsUnit → MlsUnit) :
    (d.onMls j f).mlsUnit j = f (d.mlsUnit j) := by
  simp [Dev.mlsUnit, Dev.onMls, h]

/-- The words of a lane that a port owns are present, and the port may write them (R278). -/
theorem Dev.laneRow_of_owns {d : Dev} {p n : Nat} {x : RegId} (hx : x ∈ [RegId.trkCmd, .laneCtrl]) (h : d.owns p n = true) :
    n < x.info.units ∧ d.regPresent x n = true ∧ d.mayWrite p x n = true := by
  have hn : n < d.laneCount := by
    simp only [Dev.owns, Bool.and_eq_true, decide_eq_true_eq] at h
    exact h.2
  have h96 : d.laneCount ≤ 96 := by
    unfold Dev.laneCount
    split <;> decide
  fin_cases hx
  · exact ⟨hn.trans_le h96, by simpa [Dev.regPresent, RegId.info] using hn, by simpa [Dev.mayWrite, RegId.info] using h⟩
  · exact ⟨hn.trans_le h96, by simpa [Dev.regPresent, RegId.info] using hn, by simpa [Dev.mayWrite, RegId.info] using h⟩

/-- The two words of `TIME_SET`, the low one first, arm its value (R45). -/
theorem timeSet_writes (d : Dev) (p : Nat) (lo hi : Word) :
    ((((List.range [lo, hi].length).map fun i => RegId.timeSet.addr (0 * RegId.timeSet.info.subs) + 4 * i).zip [lo, hi]).foldl
      (fun d x => d.writeAt p false x.1 x.2) d) =
      (d.onTime fun t => { t with setLow := lo }).armTimeSet (lo.toNat + hi.toNat * 2 ^ 32) := by
  have h0 : targetOf (RegId.timeSet.addr (0 * RegId.timeSet.info.subs) + 4 * 0) = .reg .timeSet 0 := by decide +kernel
  have h1 : targetOf (RegId.timeSet.addr (0 * RegId.timeSet.info.subs) + 4 * 1) = .reg .timeSet 1 := by decide +kernel
  have hl : (List.range [lo, hi].length) = [0, 1] := rfl
  have hp (d : Dev) (k : Nat) : d.regPresent .timeSet k = true := by simp [Dev.regPresent, RegId.info]
  simp only [hl, List.map_cons, List.map_nil, List.zip_cons_cons, List.zip_nil_left, List.foldl_cons, List.foldl_nil, Dev.writeAt, h0, h1]
  rw [Dev.writeReg_now rfl (hp _ _) rfl, Dev.writeReg_now rfl (hp _ _) rfl]
  rfl

/-- The one word of `MLS_POP` (R138, R143). -/
theorem mlsPop_writes (d : Dev) (p : Nat) {j : Nat} (hj : j < 32) (hpres : d.regPresent .mlsPop j = true) (v : Word) :
    ((((List.range [v].length).map fun i => RegId.mlsPop.addr (j * RegId.mlsPop.info.subs) + 4 * i).zip [v]).foldl
      (fun d x => d.writeAt p false x.1 x.2) d) = d.writeNow .mlsPop j v := by
  have h0 : targetOf (RegId.mlsPop.addr (j * RegId.mlsPop.info.subs) + 4 * 0) = .reg .mlsPop j := by
    have := (targetOf_fieldRow .mlsPop (by simp) j hj).2.2 0 (by decide)
    rwa [show j * RegId.mlsPop.info.subs + 0 = j by simp [RegId.info]] at this
  have hl : (List.range [v].length) = [0] := rfl
  simp only [hl, List.map_cons, List.map_nil, List.zip_cons_cons, List.zip_nil_left, List.foldl_cons, List.foldl_nil, Dev.writeAt, h0]
  exact Dev.writeReg_now rfl hpres rfl

/-- A one-word row of a milestone unit changes the record FIFO of the unit as `f` says. -/
theorem runs_mls {c : Instr} {s : State} {w : RegWrite} {j : Nat} {v : Word} {f : MlsUnit → MlsUnit}
    (hc : Machine.exec c s = onRegWr s w .mlsPop j [v]) (h : Admits s.dev (fieldRequest w) 1 .ignored .any) (hs : s.dev.Sized)
    (hj : j < 32) (hpres : s.dev.regPresent .mlsPop j = true) (hmay : s.dev.mayWrite w.port .mlsPop j = true)
    (hf : ∀ d : Dev, d.writeNow .mlsPop j v = d.onMls j f) : Runs c s fun d => d.mlsUnit j = f (s.dev.mlsUnit j) := by
  have hsub : ∀ i < RegId.mlsPop.info.subs, j * RegId.mlsPop.info.subs + i = j := by
    intro i hi
    simp only [RegId.info] at hi ⊢
    omega
  have he := (mlsPop_writes (s.dev.counted (regWrOf w .mlsPop j [v])) w.port hj hpres v).trans (hf _)
  have hlen : j < (s.dev.counted (regWrOf w .mlsPop j [v])).mls.length := by
    rw [show (s.dev.counted (regWrOf w .mlsPop j [v])).mls = s.dev.mls from rfl, show s.dev.mls.length = 32 by
      obtain ⟨-, -, -, -, -, hm, -⟩ := hs; exact hm]
    exact hj
  refine (runs_actingField (x := .mlsPop) (vs := [v]) hc (by simp) hj rfl h (fun i hi => by rw [hsub i hi]; exact hpres)
    (fun i hi => by rw [hsub i hi]; exact hmay) (by simp) he rfl rfl).mono fun d hw => ?_
  rw [show d.mlsUnit j = _ from hw.mls j rfl, Dev.mlsUnit_onMls hlen]
  rfl

/-- The three bits of `REQ_STATE` that a row stages are those of its operand. -/
theorem fieldStaged_reqState (old : Word) (q : BitVec 3) :
    (fieldStaged .laneCtrl old 7 (BitVec.ofNat 32 q.toNat)).extractLsb' 0 3 = q := by
  ext i hi
  have hi' : i < 32 := by omega
  interval_cases i <;> simp [fieldStaged, RegId.info]

/-- Settles O31: `runs_stagedField` gives what a row stages and `runs_actingField` what it does at once; the bits are those of
the masks of the rows. -/
theorem fieldWritesAct : Obligations.FieldWritesAct := by
  unfold Obligations.FieldWritesAct
  intro s w h hs
  have hlane {x : RegId} {n : Nat} (hx : x ∈ [RegId.trkCmd, .laneCtrl]) (hown : s.dev.owns w.port n = true) :=
    Dev.laneRow_of_owns hx hown
  refine ⟨fun g hpres hg hmay => ⟨?_, ?_⟩, fun n hown => ⟨?_, ?_, fun q => ?_⟩, fun c hc hmay => ⟨?_, ?_⟩, fun v hmay href => ?_,
    fun j hpres hj hmay => ⟨?_, ?_⟩⟩
  · refine (runs_stagedField (mask := 1) (v := 1) rfl (by simp) hg h hpres hmay (by decide)).mono fun d ⟨old, hd⟩ => ⟨_, hd, ?_⟩
    simp [fieldStaged, RegId.info]
  · refine (runs_stagedField (mask := 1) (v := 0) rfl (by simp) hg h hpres hmay (by decide)).mono fun d ⟨old, hd⟩ => ⟨_, hd, ?_⟩
    simp [fieldStaged, RegId.info]
  · obtain ⟨hu, hpres, hmay⟩ := hlane (x := .trkCmd) (by simp) hown
    refine (runs_stagedField (mask := 1) (v := 1) rfl (by simp) hu h hpres hmay (by decide)).mono fun d ⟨old, hd⟩ => ⟨_, hd, ?_⟩
    simp [fieldStaged, RegId.info]
  · obtain ⟨hu, hpres, hmay⟩ := hlane (x := .trkCmd) (by simp) hown
    refine (runs_stagedField (mask := 2) (v := 2) rfl (by simp) hu h hpres hmay (by decide)).mono fun d ⟨old, hd⟩ => ⟨_, hd, ?_⟩
    simp [fieldStaged, RegId.info]
  · obtain ⟨hu, hpres, hmay⟩ := hlane (x := .laneCtrl) (by simp) hown
    refine (runs_stagedField (mask := 7) (v := BitVec.ofNat 32 q.toNat) rfl (by simp) hu h hpres hmay (by decide)).mono
      fun d ⟨old, hd⟩ => ⟨_, hd, ?_⟩
    exact fieldStaged_reqState old q
  · have hpres : s.dev.regPresent .pfeCmd c = true := by simp [Dev.regPresent, RegId.info]
    refine (runs_stagedField (mask := 1) (v := 1) rfl (by simp) hc h hpres hmay (by decide)).mono fun d ⟨old, hd⟩ => ⟨_, hd, ?_⟩
    simp [fieldStaged, RegId.info]
  · have hpres : s.dev.regPresent .pfeCmd c = true := by simp [Dev.regPresent, RegId.info]
    refine (runs_stagedField (mask := 2) (v := 2) rfl (by simp) hc h hpres hmay (by decide)).mono fun d ⟨old, hd⟩ => ⟨_, hd, ?_⟩
    simp [fieldStaged, RegId.info]
  · have hmay' : ∀ k, s.dev.mayWrite w.port .timeSet k = true := fun k => by
      simp only [Dev.mayWrite, RegId.info] at hmay ⊢
      exact hmay
    refine (runs_actingField (u := 0) rfl (by simp) (by decide) rfl h (fun j _ => by simp [Dev.regPresent, RegId.info]) (fun j _ => hmay' _)
      (fun _ => href) (timeSet_writes _ _ _ _) rfl rfl).mono fun d hw => ⟨?_, hw.staged rfl⟩
    rw [hw.time rfl]
    simp only [Dev.armTimeSet, Dev.onTime, BitVec.toNat_ofNat, Option.some.injEq]
    omega
  · refine (runs_mls (v := 1) rfl h hs hj hpres hmay fun d => show _ = d.mlsPop j from ?_).mono fun d hd => by rw [hd]
    simp [Dev.writeNow, bit]
  · refine (runs_mls (v := 2) rfl h hs hj hpres hmay fun d => show _ = d.mlsFlush j from ?_).mono fun d hd => by rw [hd]
    simp [Dev.writeNow, bit]

end Sys2Proof.Machine
end

section
/-! The opcodes of lanes (R175, R178, R274–R276). -/
namespace Sys2Proof.Machine
open Sys2Proof

/-! ### Words of a lane's block (Table 18-1) -/

/-- A register of a lane's block: one copy per lane, 0x400 bytes apart, each inside its lane's part. -/
def RegId.inLaneBlock (x : RegId) : Bool :=
  x.info.stride = 0x400 && x.info.units = 96 && decide (0x100000 ≤ x.info.base) && decide (0 < x.info.subStride) &&
    decide (x.info.base + x.info.subs * x.info.subStride ≤ 0x100400)

theorem laneRegs_inLaneBlock : ∀ x ∈ laneRegs, x.inLaneBlock = true := by decide +kernel

/-- The words of lane `n` are those of lane 0, moved by `n` units. -/
theorem RegId.indexAt_lane {x : RegId} (hx : x.inLaneBlock = true) {n o : Nat} (hn : n < 96) (ho : o < 0x400) :
    x.indexAt (0x100000 + 0x400 * n + o) = (x.indexAt (0x100000 + o)).map (n * x.info.subs + ·) := by
  simp only [RegId.inLaneBlock, Bool.and_eq_true, decide_eq_true_eq] at hx
  obtain ⟨⟨⟨⟨hstride, hunits⟩, hbase⟩, hsub⟩, hend⟩ := hx
  unfold RegId.indexAt
  simp only [hstride, hunits]
  have h0 : ¬((0x400 : Nat) = 0) := by decide
  generalize x.info.base = b at *
  by_cases hob : 0x100000 + o < b
  · rw [if_pos hob]
    have hbeyond : x.info.subs ≤ (0x100400 + o - b) / x.info.subStride := (Nat.le_div_iff_mul_le hsub).2 (by omega)
    by_cases hnb : 0x100000 + 0x400 * n + o < b
    · rw [if_pos hnb, Option.map_none]
    · have hu : (0x100000 + 0x400 * n + o - b) / 0x400 = n - 1 := by omega
      have hrest : 0x100000 + 0x400 * n + o - b - (n - 1) * 0x400 = 0x100400 + o - b := by omega
      simp only [hnb, h0, if_false, hu, hrest, Nat.not_lt.2 hbeyond, false_and, and_false, Option.map_none]
  · have hu : (0x100000 + 0x400 * n + o - b) / 0x400 = n := by omega
    have hu0 : (0x100000 + o - b) / 0x400 = 0 := by omega
    have hrest : 0x100000 + 0x400 * n + o - b - n * 0x400 = 0x100000 + o - b := by omega
    have hnb : ¬0x100000 + 0x400 * n + o < b := by omega
    simp only [hob, hnb, h0, if_false, hu, hu0, hrest, hn, Nat.zero_mul, Nat.sub_zero, Nat.zero_add, true_and]
    simp only [show 0 < 96 by decide, true_and]
    split
    · rfl
    · rfl

theorem findReg_lane {l : List RegId} (hl : ∀ x ∈ l, x.inLaneBlock = true) {n o k : Nat} {x : RegId} (hn : n < 96) (ho : o < 0x400)
    (h : findReg (0x100000 + o) l = .reg x k) : findReg (0x100000 + 0x400 * n + o) l = .reg x (n * x.info.subs + k) := by
  induction l with
  | nil => cases h
  | cons y l ih =>
    unfold findReg at h ⊢
    rw [RegId.indexAt_lane (hl y (by simp)) hn ho]
    split at h
    next j hj =>
      cases h
      rw [hj]
      rfl
    next hj =>
      rw [hj]
      exact ih (fun z hz => hl z (by simp [hz])) h

theorem targetOf_laneBlock {a : Nat} (hlo : 0x100000 ≤ a) (hhi : a < 0x118000) : targetOf a = findReg a laneRegs := by
  unfold targetOf
  rw [if_neg (by unfold traceWindow; omega)]
  have hfind : blocks.find? (fun b => decide (b.1 ≤ a ∧ a < b.1 + b.2.1)) = some (0x100000, 0x18000, laneRegs) := by
    unfold blocks
    repeat rw [List.find?_cons_of_neg (by simp only [decide_eq_true_eq]; omega)]
    rw [List.find?_cons_of_pos (by simp only [decide_eq_true_eq]; omega)]
  rw [hfind]

/-- A register word of lane 0's part stands in every lane's part. -/
theorem targetOf_lane {n o k : Nat} {x : RegId} (hn : n < 96) (ho : o < 0x400) (h : targetOf (0x100000 + o) = .reg x k) :
    targetOf (0x100000 + 0x400 * n + o) = .reg x (n * x.info.subs + k) := by
  rw [targetOf_laneBlock (by omega) (by omega)] at h ⊢
  exact findReg_lane laneRegs_inLaneBlock hn ho h

theorem indexAt_of_findReg {a k : Nat} {x : RegId} {l : List RegId} (h : findReg a l = .reg x k) : x ∈ l ∧ x.indexAt a = some k := by
  induction l with
  | nil => cases h
  | cons y l ih =>
    unfold findReg at h
    split at h
    next j hj =>
      cases h
      exact ⟨by simp, hj⟩
    next => exact ⟨List.mem_cons_of_mem _ (ih h).1, (ih h).2⟩

/-- A word of lane 0's part is one of the first unit of its register. -/
theorem targetOf_lane0 {o k : Nat} {x : RegId} (ho : o < 0x400) (h : targetOf (0x100000 + o) = .reg x k) :
    0x100000 ≤ x.info.base ∧ k < x.info.subs := by
  rw [targetOf_laneBlock (by omega) (by omega)] at h
  obtain ⟨hmem, hk⟩ := indexAt_of_findReg h
  have hx := laneRegs_inLaneBlock x hmem
  simp only [RegId.inLaneBlock, Bool.and_eq_true, decide_eq_true_eq] at hx
  obtain ⟨⟨⟨⟨hstride, -⟩, hbase⟩, -⟩, -⟩ := hx
  unfold RegId.indexAt at hk
  simp only [hstride, show ¬((0x400 : Nat) = 0) by decide, if_false, show (0x100000 + o - x.info.base) / 0x400 = 0 by omega, Nat.zero_mul,
    Nat.zero_add] at hk
  split at hk
  · cases hk
  · split at hk
    next hc =>
      cases hk
      exact ⟨hbase, hc.2.1⟩
    next => cases hk

/-- A register word of a lane that the variant has is present (R2). -/
theorem Dev.regPresent_lane {d : Dev} {n o k : Nat} {x : RegId} (hn : n < d.laneCount) (ho : o < 0x400)
    (h : targetOf (0x100000 + o) = .reg x k) : d.regPresent x (n * x.info.subs + k) = true := by
  obtain ⟨hbase, hk⟩ := targetOf_lane0 ho h
  have hu : (n * x.info.subs + k) / x.info.subs = n := by
    rw [Nat.mul_comm, Nat.mul_add_div (by omega), Nat.div_eq_of_lt hk, Nat.add_zero]
  unfold Dev.regPresent
  dsimp only
  rw [if_pos hbase, hu]
  exact decide_eq_true hn

/-- A frame without any lane keeps the lanes. -/
theorem Within.lanes {m : May} {d e : Dev} (h : Within m d e) (hm : ∀ n, m.lane n = false ∧ m.acq n = false ∧ m.trk n = false ∧
    m.map n = false ∧ m.loop n = false ∧ m.prf n = false) : e.lanes = d.lanes := by
  refine List.ext_getElem h.lanes_length fun n h1 h2 => ?_
  obtain ⟨hlane, hacq, htrk, hmap, hloop, hprf⟩ := hm n
  have hown := h.lane n hlane
  have hacq := h.acq n hacq
  have htrk := h.trk n htrk
  have hmap := h.map n hmap
  have hloop := h.loop n hloop
  have hprf := h.prf n hprf
  simp only [Dev.lane, List.getD_eq_getElem?_getD, List.getElem?_eq_getElem h1, List.getElem?_eq_getElem h2, Option.getD_some] at *
  cases he : e.lanes[n]
  cases hd : d.lanes[n]
  simp_all [Lane.own]

/-! ### What the handlers of lanes read -/

section
variable (d : Dev) (r : Request)

@[simp] theorem Dev.counted_stagedReg (p : Nat) {i : RegId} (hi : i ≠ .hpRxOk) (k : Nat) :
    (d.counted r).stagedReg p i k = d.stagedReg p i k := by
  unfold Dev.stagedReg
  rw [Dev.counted_reg d r hi]
  rfl

@[simp] theorem Dev.counted_stagedStruct (p n : Nat) : (d.counted r).stagedStruct p n = d.stagedStruct p n := by
  simp [Dev.stagedStruct]

@[simp] theorem Dev.counted_outdl : (d.counted r).outdl = d.outdl := by
  unfold Dev.outdl
  rw [Dev.counted_reg d r (by decide), Dev.counted_reg d r (by decide)]

@[simp] theorem Dev.counted_admission (n : Nat) (st : LoopStruct) : (d.counted r).admission n st = d.admission n st := by
  unfold Dev.admission
  rw [Dev.counted_outdl]
  rfl

@[simp] theorem Dev.counted_ownedLanes (p : Nat) : (d.counted r).ownedLanes p = d.ownedLanes p := by
  have howns : (d.counted r).owns p = d.owns p := funext fun n => Dev.counted_owns d r p n
  simp only [Dev.ownedLanes, howns]
  rfl
end

section
variable {d : Dev} {r : Request} {g : Nat} {u : LaneUse} {w : Right}

/-- An opcode of one lane is admitted for a lane of the variant only. -/
theorem Admits.lane_lt (h : Admits d r g .one w) : r.lane < d.laneCount := by
  obtain ⟨-, -, -, -, -, -, -, -, -, hl, -⟩ := h
  simpa [Dev.laneOk] using hl

theorem Dev.laneCount_le (d : Dev) : d.laneCount ≤ 96 := by
  unfold Dev.laneCount
  split <;> decide

/-- LANE_STAGE of one entry writes its word (R274). -/
theorem Dev.opLaneStage_one {o : Nat} {v : Word} (ho : stageOffsetOk o = true) (ho16 : o < 2 ^ 16)
    (hp : r.payload = [1, 0, 1, 0] ++ leBytes 2 o ++ [0, 0] ++ wordBytes v) :
    d.opLaneStage r false = (d.writeAt r.port false (0x100000 + 0x400 * r.lane + o) v).answer stStaged := by
  have hne : r.payload ≠ [] := by simp [hp]
  have hlen : r.payload.length = 12 := by simp [hp, wordBytes]
  have h0 : byteAt r.payload 0 = 1 := by simp [hp, byteAt]
  have h1 : byteAt r.payload 1 = 0 := by simp [hp, byteAt]
  have hn : u16At r.payload 2 = 1 := by simp [hp, u16At, slice, leNat]
  have hz : zeroAt r.payload 6 2 = true := by simp [hp, zeroAt, slice, leBytes]
  have hoff : u16At r.payload 4 = o := by
    rw [hp, List.append_assoc, List.append_assoc]
    exact u16At_append (pre := [1, 0, 1, 0]) rfl ho16
  have hv : wordAt r.payload 8 = v := by
    have := wordAt_append (pre := [1, 0, 1, 0] ++ leBytes 2 o ++ [0, 0]) (post := []) (o := 8) (by simp) v
    rw [hp]; simpa using this
  have he : stageEntries r.payload 1 = [(o, v)] := by simp [stageEntries, hoff, hv]
  have hmost : ¬(if r.gen = 1 then 31 else 127) < 1 := by split <;> decide
  unfold Dev.opLaneStage
  dsimp only
  rw [hn, if_neg hne, if_neg (not_not.2 h0), if_neg (by omega), if_neg (by simp [h1, hmost]), he,
    if_neg (by simp [hz, ho])]
  rfl

theorem Dev.opLaneCommit_admitted (hp : r.payload = []) (hup : d.laneUp r.lane = false)
    (hok : (d.stagedStruct r.port r.lane).ok = true) (hadm : (d.admission r.lane (d.stagedStruct r.port r.lane)).1 = true) :
    ∃ b, d.opLaneCommit r false =
      (d.staging r.port [.laneCommit r.lane (d.stagedStruct r.port r.lane)]).answer stStaged b := by
  unfold Dev.opLaneCommit
  dsimp only
  rw [if_neg (not_not.2 hp), hup, if_neg Bool.false_ne_true, hok]
  rcases hrep : d.admission r.lane (d.stagedStruct r.port r.lane) with ⟨ok, k, load, b⟩
  rw [hrep] at hadm
  dsimp only at hadm ⊢
  rw [if_neg (by decide), if_pos hadm]
  exact ⟨_, rfl⟩

theorem Dev.opLaneAdmit_ok (hp : r.payload = []) (hok : (d.stagedStruct r.port r.lane).ok = true) (g : Bool) :
    ∃ b, d.opLaneAdmit r g = d.answer (if (d.admission r.lane (d.stagedStruct r.port r.lane)).1 then stOk else stAdmission) b := by
  unfold Dev.opLaneAdmit
  dsimp only
  rw [if_neg (not_not.2 hp), hok, if_neg (by decide)]
  exact ⟨_, rfl⟩

theorem Dev.opLaneRead_eq {o n : Nat} (hp : r.payload = leBytes 2 o ++ leBytes 2 n) (ho : o % 4 = 0) (h1 : 1 ≤ n)
    (hn : n ≤ readMax r.gen - 1) (hend : o + 4 * n ≤ 0x400) (g : Bool) :
    d.opLaneRead r g = d.answer stOk (leBytes 2 n ++ leBytes 4 ((d.ro.map Shadow.seq).getD d.frmSeq) ++
      (List.range n).flatMap fun i => wordBytes (d.laneReadWord r.port r.lane (o + 4 * i))) := by
  have hoff : u16At r.payload 0 = o := by rw [hp]; exact u16At_append (pre := []) rfl (by omega)
  have hcount : u16At r.payload 2 = n := by
    have := u16At_append (pre := leBytes 2 o) (post := []) (o := 2) (by simp) (v := n) (by omega)
    rw [hp]; simpa using this
  have hlen : r.payload.length = 4 := by simp [hp]
  unfold Dev.opLaneRead
  dsimp only
  rw [hoff, hcount, if_neg (by omega), if_neg (by omega)]
  cases d.ro <;> rfl

end

/-- Settles O32: each opcode's handler passes its checks and stages or answers; a staged word of a lane lies in the lane's part
of the block of lanes. -/
theorem laneOpcodesAct : Obligations.LaneOpcodesAct := by
  unfold Obligations.LaneOpcodesAct
  intro s r hs
  refine ⟨fun o v h ho ho16 hvw hp => ?stage, fun h hp hup hok hadm => ?commit, fun h hp hok => ?admission, fun h hp => ?park,
    fun o n h ho h1 hn hend hp => ?read⟩
  case stage =>
    have hn := h.lane_lt
    have h96 := s.dev.laneCount_le
    obtain ⟨x, k, hx, hsw⟩ : ∃ x k, targetOf (0x100000 + o) = .reg x k ∧ x.info.sw ≠ 0 := by
      simp only [stageOffsetOk, hasSw, Bool.and_eq_true] at ho
      obtain ⟨-, ho⟩ := ho
      split at ho
      next x k hx => exact ⟨x, k, hx, by simpa using ho⟩
      next => cases ho
    have hrange : o < 0x400 := by
      simp only [stageOffsetOk, Bool.and_eq_true, decide_eq_true_eq] at ho
      omega
    have ht := targetOf_lane (n := r.lane) (by omega) hrange hx
    have hpres : (s.dev.counted r).regPresent x (r.lane * x.info.subs + k) = true := Dev.regPresent_lane hn hrange hx
    refine ⟨x, _, ht, answers_of_staging rfl h rfl rfl ?_ rfl⟩
    rw [Dev.opLaneStage_one ho ho16 hp, Dev.writeAt]
    simp only [ht]
    rw [Dev.writeReg_staged (hvw x _ ht) hpres hsw]
  case commit =>
    obtain ⟨b, hb⟩ := Dev.opLaneCommit_admitted (d := s.dev.counted r) (r := r) hp hup (by simpa using hok) (by simpa using hadm)
    rw [Dev.counted_stagedStruct] at hb
    exact ⟨b, answers_of_staging rfl h rfl rfl hb rfl⟩
  case admission =>
    obtain ⟨b, hb⟩ := Dev.opLaneAdmit_ok (d := s.dev.counted r) (r := r) hp (by simpa using hok) false
    rw [Dev.counted_stagedStruct, Dev.counted_admission] at hb
    refine ⟨b, answers_of_reading rfl h rfl rfl rfl hb ?_ ?_ rfl rfl rfl fun d hw => ⟨hw.staged rfl, hw.lanes fun n => ⟨rfl, rfl, rfl, rfl, rfl, rfl⟩⟩⟩
    · split <;> decide
    · split <;> decide
  case park =>
    refine answers_of_staging rfl h rfl rfl ?_ rfl
    simp only [Dev.opLanePark, hp, ne_eq, not_true, if_false, Dev.selected, Dev.counted_ownedLanes, Dev.forEach_stage]
  case read =>
    exact answers_of_reading rfl h rfl rfl rfl (Dev.opLaneRead_eq hp ho h1 hn hend false) (by decide) (by decide) rfl rfl rfl
      fun d hw => hw.staged rfl

end Sys2Proof.Machine
end

section
/-! The opcodes of angle-error maps (R106–R109). -/
namespace Sys2Proof.Machine
open Sys2Proof

/-! ### Background jobs -/

section
variable {d : Dev} {r : Request} {op : Nat} {j : BgAct}

/-- The job that a request starts, kept by its port. -/
def Dev.jobStarted (d : Dev) (r : Request) (op : Nat) (j : BgAct) : Dev :=
  d.onPort r.port fun x => { x with bg := some ⟨{ op := op, arr := r.t, req := r }, j⟩ }

theorem Dev.background_start (h : (d.port r.port).bg = none) : d.background r op j = (none, d.jobStarted r op j) := by
  unfold Dev.background
  rw [h]
  rfl

variable {s : State} {c : Instr} {g : Nat} {u : LaneUse} {w : Right} {run : Dev → Request → Bool → Served}

/-- A request whose handler starts a job on a port that has none; `e` is what the handler leaves otherwise. -/
theorem startsJob_background {e : Dev} (hc : Machine.exec c s = onRequest s op r) (h : Admits s.dev r g u w)
    (hi : opInfo op = some ⟨g, u, w, run⟩) (hs : safetyOp op = false) (hbg : (s.dev.port r.port).bg = none)
    (ha : run (s.dev.counted r) r false = e.background r op j) (hports : e.ports = s.dev.ports) {P : Dev → Prop}
    (hP : ∀ d, Within (.replying r.port) (e.jobStarted r op j) d → d.commits = e.commits → P d) : StartsJob c op r s j P := by
  have hp : r.port < e.ports.length := by
    obtain ⟨hp, -⟩ := h
    rwa [hports]
  have heq : e.port r.port = s.dev.port r.port := by rw [Dev.port, hports, Dev.port]
  have hport : (e.jobStarted r op j).port r.port =
      { s.dev.port r.port with bg := some ⟨{ op := op, arr := r.t, req := r }, j⟩ } := by
    rw [← heq]
    exact Dev.port_onPort hp _
  refine startsJob_of hc h hi hs (ha.trans (Dev.background_start (by rwa [heq]))) (by rw [hport]) (by rw [hport]) ?_ hP
  exact (Dev.onPort_ports_length ..).trans (congrArg List.length hports)

end

/-! ### What the handlers of maps read -/

section
variable (d : Dev) (r : Request)

@[simp] theorem Dev.counted_learnParamsOk (p n terms : Nat) : (d.counted r).learnParamsOk p n terms = d.learnParamsOk p n terms := by
  simp [Dev.learnParamsOk]

@[simp] theorem Dev.counted_poles (n : Nat) : (d.counted r).poles n = d.poles n := by
  simp only [Dev.poles, Dev.counted_fld d r (i := .trkCtrl) (by decide)]

@[simp] theorem Dev.counted_regBit {i : RegId} (hi : i ≠ .hpRxOk) (k b : Nat) : (d.counted r).regBit i k b = d.regBit i k b := by
  simp only [Dev.regBit, Dev.counted_reg d r hi]

@[simp] theorem Dev.counted_mapBlob (n : Nat) : (d.counted r).mapBlob n = d.mapBlob n := by
  have hlane : (d.counted r).lane n = d.lane n := rfl
  simp [Dev.mapBlob, Dev.blobBody, hlane]

@[simp] theorem Dev.counted_readBlob (n : Nat) (b : List Byte) : (d.counted r).readBlob n b = d.readBlob n b := by
  simp [Dev.readBlob]

end

/-! ### The handlers -/

section
variable {d : Dev} {r : Request}

theorem Dev.opMapLearn_staged {action terms : Byte} (hp : r.payload = [action, terms, 0, 0]) (ha : action.toNat ≤ 3)
    (ht : terms.toNat ≤ 7) (h : action.toNat = 1 ∨ action.toNat = 2 → (d.lane r.lane).map.learning = false ∧
      (d.lane r.lane).st ≠ .off ∧ (d.lane r.lane).st ≠ .fault ∧ d.learnParamsOk r.port r.lane terms.toNat = true) :
    d.opMapLearn r false = (d.staging r.port [.mapLearn r.lane action.toNat terms.toNat]).answer stStaged := by
  have h0 : byteAt r.payload 0 = action.toNat := by simp [hp, byteAt]
  have h1 : byteAt r.payload 1 = terms.toNat := by simp [hp, byteAt]
  have hz : zeroAt r.payload 2 2 = true := by simp [hp, zeroAt, slice]
  unfold Dev.opMapLearn
  dsimp only
  rw [h0, h1, if_neg (by simp [hp]), if_neg (by simp [hz, ha, ht])]
  by_cases hs : action.toNat = 1 ∨ action.toNat = 2
  · obtain ⟨hlearn, hoff, hfault, hok⟩ := h hs
    rw [if_neg (by simp [hlearn]), if_neg (by simp [hoff, hfault]), if_neg (by simp [hok])]
    rfl
  · rw [if_neg (by simp [hs]), if_neg (by simp [hs]), if_neg (by simp [hs])]
    rfl

theorem Dev.opMapSave_started {ret : Bool} (hp : r.payload = [if ret then 1 else 0]) (g : Bool) :
    d.opMapSave r g = d.background r 0x302 (.mapSave r.lane ret (d.mapBlob r.lane)) := by
  have hone : oneByte r.payload = true := by simp [hp, oneByte]
  have hz : zeroAt r.payload 1 3 = true := by simp [hp, zeroAt, slice]
  have h0 : byteAt r.payload 0 = if ret then 1 else 0 := by cases ret <;> simp [hp, byteAt]
  have h1 : ¬1 < (if ret then 1 else 0) := by cases ret <;> decide
  have hret : decide ((if ret then 1 else 0) = 1) = ret := by cases ret <;> rfl
  unfold Dev.opMapSave
  dsimp only
  rw [h0, if_neg (by simp [hone]), if_neg (by simp [hz, h1]), hret]

theorem Dev.opMapLoad_mram (hp : r.payload = [0]) (g : Bool) : d.opMapLoad r g = d.background r 0x303 (.mapLoad r.lane) := by
  unfold Dev.opMapLoad
  rw [hp]
  rfl

theorem Dev.opMapLoad_blob {blob : List Byte} {m : AngleMap} (hp : r.payload = [1, 0, 0, 0] ++ blob) (hlen : blob.length = 256)
    (hok : d.readBlob r.lane blob = .ok m) :
    d.opMapLoad r false = (d.staging r.port [.mapLoad r.lane 2 m]).answer stStaged := by
  have h0 : byteAt r.payload 0 = 1 := by simp [hp, byteAt]
  have hz : zeroAt r.payload 1 3 = true := by simp [hp, zeroAt, slice]
  have hdrop : r.payload.drop 4 = blob := by simp [hp]
  unfold Dev.opMapLoad
  dsimp only
  rw [h0, hdrop, if_neg (by simp [hp]), if_neg (by decide), if_neg (by decide), if_neg (by simp [hp, hlen]), if_neg (by simp [hz]),
    Dev.stageBlob, hok]
  rfl

end

/-- Settles O33: the payload of each opcode passes its handler's checks, and the handler stages, answers or starts its job. -/
theorem mapOpcodesAct : Obligations.MapOpcodesAct := by
  unfold Obligations.MapOpcodesAct
  intro s r
  refine ⟨fun action terms h hp ha ht hok => ?learn, fun h hp => ?status, fun ret h hp hbg => ?save, fun h hp hbg => ?load,
    fun blob m h hp hlen hok => ?blob⟩
  case learn =>
    exact answers_of_staging rfl h rfl rfl (Dev.opMapLearn_staged hp ha ht fun hs => by
      obtain ⟨hlearn, hoff, hfault, hl⟩ := hok hs
      exact ⟨hlearn, hoff, hfault, by rwa [Dev.counted_learnParamsOk]⟩) rfl
  case status =>
    refine ⟨_, answers_of_reading (e := s.dev.counted r) rfl h rfl rfl rfl (if_neg (not_not.2 hp)) (by decide) (by decide) rfl rfl rfl
      fun d hw => ⟨hw.lanes fun n => ⟨rfl, rfl, rfl, rfl, rfl, rfl⟩, hw.staged rfl⟩, ?_⟩
    exact ⟨rfl, rfl, rfl, rfl⟩
  case save =>
    refine startsJob_background (e := s.dev.counted r) rfl h rfl rfl hbg ((Dev.opMapSave_started hp false).trans ?_) rfl
      fun d hw _ => hw.lanes fun n => ⟨rfl, rfl, rfl, rfl, rfl, rfl⟩
    rw [Dev.counted_mapBlob]
  case load =>
    exact startsJob_background rfl h rfl rfl hbg (Dev.opMapLoad_mram hp false) rfl fun d hw _ => hw.lanes fun n => ⟨rfl, rfl, rfl, rfl, rfl, rfl⟩
  case blob =>
    exact answers_of_staging rfl h rfl rfl (Dev.opMapLoad_blob hp hlen (by rwa [Dev.counted_readBlob])) rfl

end Sys2Proof.Machine
end

section
/-! The opcodes of pulse inputs, milestones and emulation outputs (R140–R142, R160). -/
namespace Sys2Proof.Machine
open Sys2Proof

theorem u64At_append {pre post : List Byte} {o v : Nat} (ho : pre.length = o) (hv : v < 2 ^ 64) :
    u64At (pre ++ (leBytes 8 v ++ post)) o = v := by
  rw [u64At, slice_append ho (length_leBytes 8 v), leNat_leBytes]
  exact Nat.mod_eq_of_lt hv

theorem unsigned_lt (w : Nat) (v : Int) : unsigned w v < 2 ^ w := by
  have hpos : (0 : Int) < ((2 ^ w : Nat) : Int) := by positivity
  have := Int.emod_lt_of_pos v hpos
  have := Int.emod_nonneg v hpos.ne'
  unfold unsigned
  omega

/-- The image of 64 bits of a count loses nothing of it. -/
theorem signed_unsigned_64 {v : Int} (hlo : -2 ^ 63 ≤ v) (hhi : v < 2 ^ 63) : signed 64 (unsigned 64 v) = v := by
  unfold signed unsigned
  split <;> omega

/-- A unit's number in a byte. -/
theorem byte_of_lt {n : Nat} (h : n < 256) : (BitVec.ofNat 8 n).toNat = n := by
  rw [BitVec.toNat_ofNat]
  exact Nat.mod_eq_of_lt h

section
variable (d : Dev) (r : Request)

@[simp] theorem Dev.counted_ownsUnit (p lane : Nat) : (d.counted r).ownsUnit p lane = d.ownsUnit p lane := by
  simp [Dev.ownsUnit]

@[simp] theorem Dev.counted_pinMode (i : Nat) : (d.counted r).pinMode i = d.pinMode i := Dev.counted_fld d r (by decide) ..

@[simp] theorem Dev.counted_pinSerial (i : Nat) : (d.counted r).pinSerial i = d.pinSerial i := by simp [Dev.pinSerial]

@[simp] theorem Dev.counted_emuLane (o : Nat) : (d.counted r).emuLane o = d.emuLane o := Dev.counted_fld d r (by decide) ..

end

/-- A frame without any milestone unit keeps the units. -/
theorem Within.milestones {m : May} {d e : Dev} (h : Within m d e) (hm : ∀ j, m.mls j = false) : e.mls = d.mls := by
  have hlen : e.mls.length = d.mls.length := by
    have hs := h.shape
    simp only [Dev.shape, List.cons_append, List.cons.injEq] at hs
    obtain ⟨-, -, -, -, -, hmls, -⟩ := hs
    exact hmls
  refine List.ext_getElem hlen fun j h1 h2 => ?_
  have := h.mls j (hm j)
  simpa only [Dev.mlsUnit, List.getD_eq_getElem?_getD, List.getElem?_eq_getElem h1, List.getElem?_eq_getElem h2, Option.getD_some] using this

section
variable {d : Dev} {r : Request}

/-- A present unit that the sender may write is served. -/
theorem Dev.forUnit_go {present : Bool} {lane : Nat} {go : Served} (hne : r.payload ≠ []) (hpres : present = true)
    (howns : d.ownsUnit r.port lane = true) : d.forUnit r present lane go = go := by
  unfold Dev.forUnit
  rw [if_neg hne, hpres, howns, if_neg (by decide), if_neg (by decide)]

theorem hasPin_lt {i : Nat} (h : hasPin i d = true) : i < 32 := by
  refine lt_of_lt_of_le (of_decide_eq_true h) ?_
  unfold Dev.pinCount
  split <;> decide

theorem Dev.opPinAdjust_staged {i action : Nat} {v : Int} (hi : hasPin i d = true) (ha : action ≤ 3) (hlo : -2 ^ 63 ≤ v) (hhi : v < 2 ^ 63)
    (howns : d.ownsUnit r.port (d.fld .pinAssign i 0 7) = true) (h0 : d.pinMode i ≠ 0) (h4 : d.pinMode i ≠ 4)
    (hser : ¬(d.pinSerial i = true ∧ (action = 1 ∨ action = 3)))
    (hp : r.payload = [BitVec.ofNat 8 i, BitVec.ofNat 8 action, 0, 0] ++ leBytes 8 (unsigned 64 v)) :
    d.opPinAdjust r false = (d.staging r.port [.pinAdjust i action v]).answer stStaged := by
  have hb0 : byteAt r.payload 0 = i := by
    have := hasPin_lt hi
    rw [hp]
    exact byte_of_lt (by omega)
  have hb1 : byteAt r.payload 1 = action := by
    rw [hp]
    exact byte_of_lt (by omega)
  have hz : zeroAt r.payload 2 2 = true := by simp [hp, zeroAt, slice]
  have hv : u64At r.payload 4 = unsigned 64 v := by
    have := u64At_append (pre := [BitVec.ofNat 8 i, BitVec.ofNat 8 action, 0, 0]) (post := []) (o := 4) rfl (unsigned_lt 64 v)
    rw [hp]
    simpa using this
  unfold Dev.opPinAdjust
  dsimp only
  rw [hb0, hb1, hv, signed_unsigned_64 hlo hhi, Dev.forUnit_go (by simp [hp]) hi howns, if_neg (by simp [hp]),
    if_neg (by simp [hz, ha]), if_neg (by simp only [h0, h4, hser, or_self, not_false_eq_true])]
  rfl

theorem Dev.opMlsRead_eq {j most : Nat} {pop : Bool} (hj : hasPin j d = true) (h1 : 1 ≤ most)
    (hmost : most ≤ if r.gen = 1 then 7 else 16) (howns : pop = true → d.ownsUnit r.port (d.fld .mlsAssign j 0 7) = true)
    (hp : r.payload = [BitVec.ofNat 8 j, BitVec.ofNat 8 most, if pop then 1 else 0]) (g : Bool) {e : Dev}
    (he : (if pop then d.onMls j fun u => { u with fifo := u.fifo.drop most } else d) = e) :
    d.opMlsRead r g = e.answer stOk ([BitVec.ofNat 8 ((d.mlsUnit j).fifo.take most).length, BitVec.ofNat 8 (e.mlsUnit j).fifo.length] ++
      ((d.mlsUnit j).fifo.take most).flatMap MlsRec.bytes) := by
  have h16 : most ≤ 16 := hmost.trans (by split <;> decide)
  have hb0 : byteAt r.payload 0 = j := by
    have := hasPin_lt hj
    rw [hp]
    exact byte_of_lt (by omega)
  have hb1 : byteAt r.payload 1 = most := by
    rw [hp]
    exact byte_of_lt (by omega)
  have hb2 : byteAt r.payload 2 = if pop then 1 else 0 := by
    rw [hp]
    cases pop <;> rfl
  unfold Dev.opMlsRead
  dsimp only
  rw [hb0, hb1, hb2, if_neg (by simp [hp]), if_neg (by simp [hj]), if_neg (by cases pop <;> simp_all), if_neg (by simp [hp]),
    if_neg ?_, ← he]
  · cases pop <;> rfl
  · have hpop : ¬1 < if pop then 1 else 0 := by cases pop <;> decide
    omega

theorem Dev.opMlsArm_staged {j : Nat} {on : Bool} (hj : hasPin j d = true) (howns : d.ownsUnit r.port (d.fld .mlsAssign j 0 7) = true)
    (hp : r.payload = [BitVec.ofNat 8 j, if on then 1 else 0]) :
    d.opMlsArm r false = (d.staging r.port [.mlsArm j on]).answer stStaged := by
  have hb0 : byteAt r.payload 0 = j := by
    have := hasPin_lt hj
    rw [hp]
    exact byte_of_lt (by omega)
  have hb1 : byteAt r.payload 1 = if on then 1 else 0 := by
    rw [hp]
    cases on <;> rfl
  unfold Dev.opMlsArm
  dsimp only
  rw [hb0, hb1, Dev.forUnit_go (by simp [hp]) hj howns, if_neg (by simp [hp]), if_neg (by cases on <;> decide)]
  cases on <;> rfl

theorem Dev.opEmuAlign_staged {o action : Nat} (ho : o < 24) (ha : action ≤ 1) (howns : d.ownsUnit r.port (d.emuLane o) = true)
    (hp : r.payload = [BitVec.ofNat 8 o, BitVec.ofNat 8 action, 0, 0]) :
    d.opEmuAlign r false = (d.staging r.port [.emuAlign o action]).answer stStaged := by
  have hb0 : byteAt r.payload 0 = o := by
    rw [hp]
    exact byte_of_lt (by omega)
  have hb1 : byteAt r.payload 1 = action := by
    rw [hp]
    exact byte_of_lt (by omega)
  have hz : zeroAt r.payload 2 2 = true := by simp [hp, zeroAt, slice]
  unfold Dev.opEmuAlign
  dsimp only
  rw [hb0, hb1, Dev.forUnit_go (by simp [hp]) (decide_eq_true ho) howns, if_neg (by simp [hp]), if_neg (by simp [hz, ha])]
  rfl

end

/-- Settles O34: a request that names a present unit of its sender passes its handler's checks; MLS_READ gives and, with its
third byte 1, removes the oldest records. -/
theorem pulseOpcodesAct : Obligations.PulseOpcodesAct := by
  unfold Obligations.PulseOpcodesAct
  intro s r hs h
  have hfld {x : RegId} (hx : x ≠ .hpRxOk) (k lo n : Nat) : (s.dev.counted r).fld x k lo n = s.dev.fld x k lo n :=
    Dev.counted_fld s.dev r hx k lo n
  refine ⟨fun i action v hi ha hlo hhi howns h0 h4 hser hp => ?adjust, fun j most hj h1 hm howns hp => ?pop,
    fun j most hj h1 hm hp => ?look, fun j on hj howns hp => ?arm, fun o action ho ha howns hp => ?align⟩
  case adjust =>
    exact answers_of_staging rfl h rfl rfl (Dev.opPinAdjust_staged hi ha hlo hhi (by rwa [hfld (by decide), Dev.counted_ownsUnit])
      (by rwa [Dev.counted_pinMode]) (by rwa [Dev.counted_pinMode]) (by rwa [Dev.counted_pinSerial]) hp) rfl
  case pop =>
    have hlen : j < (s.dev.counted r).mls.length := by
      obtain ⟨-, -, -, -, -, hm, -⟩ := hs
      exact hm ▸ hasPin_lt hj
    have hmls := Dev.mlsUnit_onMls hlen fun u => { u with fifo := u.fifo.drop most }
    have hrun := Dev.opMlsRead_eq (d := s.dev.counted r) (pop := true) hj h1 hm
      (fun _ => by rwa [hfld (by decide), Dev.counted_ownsUnit]) hp false rfl
    rw [if_pos rfl, hmls] at hrun
    refine answers_of_accepted rfl h rfl rfl hrun rfl rfl rfl rfl fun d hw => ?_
    rw [show d.mlsUnit j = _ from hw.mls j rfl, hmls]
    rfl
  case look =>
    have hread : readsOnly 0x0601 r.payload = true := by rw [hp]; rfl
    exact answers_of_reading rfl h rfl rfl hread (Dev.opMlsRead_eq (d := s.dev.counted r) (pop := false) hj h1 hm (by simp) hp false rfl)
      (by decide) (by decide) rfl rfl rfl fun d hw => hw.milestones fun _ => rfl
  case arm =>
    exact answers_of_staging rfl h rfl rfl (Dev.opMlsArm_staged hj (by rwa [hfld (by decide), Dev.counted_ownsUnit]) hp) rfl
  case align =>
    exact answers_of_staging rfl h rfl rfl (Dev.opEmuAlign_staged ho ha (by rwa [Dev.counted_emuLane, Dev.counted_ownsUnit]) hp) rfl

end Sys2Proof.Machine
end

section
/-! The opcodes of coefficients and trace (R195–R197, R205, R206). -/
namespace Sys2Proof.Machine
open Sys2Proof

section
variable {d : Dev} {r : Request} {g : Nat} {w : Right}

/-- A request of one lane is one of a lane or of all lanes. -/
theorem Admits.oneOrAll (h : Admits d r g .one w) : Admits d r g .oneOrAll w := by
  obtain ⟨hp, h5, hup, hg, hf, hprob, hrec, hgen, hlen, hl, hw⟩ := h
  exact ⟨hp, h5, hup, hg, hf, hprob, hrec, hgen, hlen, by simp only [Dev.laneOk, decide_eq_true_eq] at hl; simp [Dev.laneOk, hl], hw⟩

theorem payloadLimit_ge (gen : Nat) : 256 ≤ payloadLimit gen := by
  unfold payloadLimit
  split <;> decide

/-! ### Coefficients -/

theorem splice_whole {α : Type} {xs ys : List α} (h : xs.length = ys.length) : splice xs ys 0 = ys := by
  simp [splice, ← h]

/-- The staged bank with all its gains replaced. -/
def Dev.gainsStaged (d : Dev) (n : Nat) (gains : List Word) : Dev :=
  (d.onLoop n fun x => { x with
    banks := x.banks.set (1 - x.live) { ((d.loop n).banks.getD (1 - (d.loop n).live) {}) with gains := gains },
    stagedWr := true }).rewritten (coefWords n (1 - (d.loop n).live) 1 0 15)

/-- COEF_STAGE of all 15 gains (R194, R195). -/
theorem Dev.opCoefStage_gains {gains : List Word} (hlen : gains.length = 15) (hok : gainsOk gains = true)
    (hbank : ((d.loop r.lane).banks.getD (1 - (d.loop r.lane).live) {}).gains.length = 15)
    (hsec : ((d.loop r.lane).banks.getD (1 - (d.loop r.lane).live) {}).secs.all SectionCoef.ok = true)
    (hswap : d.swapAwaits r.port r.lane = false) (hp : r.payload = [1, 0, 15, 0] ++ gains.flatMap wordBytes) (b : Bool) :
    d.opCoefStage r b = (d.gainsStaged r.lane gains).answer stOk := by
  have h0 : byteAt r.payload 0 = 1 := by simp [hp, byteAt]
  have h1 : byteAt r.payload 1 = 0 := by simp [hp, byteAt]
  have h2 : byteAt r.payload 2 = 15 := by simp [hp, byteAt]
  have h3 : byteAt r.payload 3 = 0 := by simp [hp, byteAt]
  have hl : r.payload.length = 64 := by rw [hp, List.length_append, length_flatMap_wordBytes, hlen]; rfl
  have hw : wordsAt r.payload 4 15 = gains := by
    have := wordsAt_append (pre := [1, 0, 15, 0]) (post := []) (o := 4) rfl gains
    rw [hlen] at this
    rw [hp]
    simpa using this
  have hbank' : ((d.loop r.lane).banks.getD (1 - (d.loop r.lane).live) {}).write 1 0 15 r.payload =
      { ((d.loop r.lane).banks.getD (1 - (d.loop r.lane).live) {}) with gains := gains } := by
    unfold Bank.write
    rw [if_neg (by decide), hw, splice_whole (hbank.trans hlen.symm)]
  unfold Dev.opCoefStage
  dsimp only
  rw [h0, h1, h2, h3, if_neg (by omega), if_neg (by simp), if_neg (by simp [hl, coefSet]), if_neg (show ¬0 = 1 by decide), hbank',
    if_neg (by simp only [coefSet, Bank.ok, hok, hsec]; decide), hswap, if_neg (by decide), if_neg (by decide)]
  rfl

theorem Dev.rewritten_lanes (d : Dev) (ws : List (Nat × Nat)) : (d.rewritten ws).lanes = d.lanes := by
  unfold Dev.rewritten
  split <;> rfl

theorem Dev.rewritten_probation (d : Dev) (ws : List (Nat × Nat)) : (d.rewritten ws).hlt.probation = d.hlt.probation := by
  unfold Dev.rewritten
  split <;> rfl

theorem Dev.gainsStaged_loop {n : Nat} (hn : n < d.lanes.length) (hlive : (d.loop n).live < 2) (hb : (d.loop n).banks.length = 2)
    (gains : List Word) :
    ((d.gainsStaged n gains).loop n).banks.getD (1 - (d.loop n).live) {} =
        { ((d.loop n).banks.getD (1 - (d.loop n).live) {}) with gains := gains } ∧
      ((d.gainsStaged n gains).loop n).banks.getD (d.loop n).live {} = (d.loop n).banks.getD (d.loop n).live {} ∧
      ((d.gainsStaged n gains).loop n).live = (d.loop n).live := by
  have hloop : (d.gainsStaged n gains).loop n = { d.loop n with
      banks := (d.loop n).banks.set (1 - (d.loop n).live) { ((d.loop n).banks.getD (1 - (d.loop n).live) {}) with gains := gains },
      stagedWr := true } := by
    unfold Dev.gainsStaged
    rw [Dev.loop, Dev.lane, Dev.rewritten_lanes]
    exact congrArg Lane.loop (Dev.lane_onLane hn _)
  have hlt : 1 - (d.loop n).live < (d.loop n).banks.length := by omega
  have hne : 1 - (d.loop n).live ≠ (d.loop n).live := by omega
  rw [hloop]
  exact ⟨by simp [hlt], by simp [hne], rfl⟩

/-- COEF_READ of the first gains of the live bank (R196). -/
theorem Dev.opCoefRead_gains {count : Nat} (h1 : 1 ≤ count) (h15 : count ≤ 15) (hp : r.payload = [0, 1, 0, BitVec.ofNat 8 count])
    (b : Bool) : d.opCoefRead r b = d.answer stOk
      (zeros 2 ++ (((d.loop r.lane).banks.getD (d.loop r.lane).live {}).gains.take count).flatMap wordBytes) := by
  have b0 : byteAt r.payload 0 = 0 := by simp [hp, byteAt]
  have b1 : byteAt r.payload 1 = 1 := by simp [hp, byteAt]
  have b2 : byteAt r.payload 2 = 0 := by simp [hp, byteAt]
  have b3 : byteAt r.payload 3 = count := by
    rw [hp]
    exact byte_of_lt (by omega)
  have hmost := payloadLimit_ge r.gen
  unfold Dev.opCoefRead
  dsimp only
  rw [b0, b1, b2, b3, if_neg (by simp [hp]), if_neg (by simp only [coefSet]; simp; omega)]
  rfl

theorem Dev.opCoefSwap_staged {copy : Bool} (hn : r.lane ≠ 0xFFFF) (hswap : d.swapAwaits r.port r.lane = false)
    (hp : r.payload = [if copy then 1 else 0, 0, 0, 0]) :
    d.opCoefSwap r false = (d.staging r.port [.coefSwap r.lane copy]).answer stStaged := by
  have hctl : u32At r.payload 0 = if copy then 1 else 0 := by cases copy <;> simp [hp, u32At, slice, leNat]
  have hb : decide (byteAt r.payload 0 = 1) = copy := by cases copy <;> simp [hp, byteAt]
  unfold Dev.opCoefSwap
  dsimp only
  rw [if_neg (by simp [hp]), hctl, if_neg (by cases copy <;> decide), if_neg hn, if_neg (by simp [hswap]), Dev.forEach_stage, hb]
  rfl

/-! ### Trace -/

theorem Dev.opTraceForce_zero (hp : r.payload = [0]) (b : Bool) :
    d.opTraceForce r b = (d.onTrc fun x => { x with force := true }).answer stOk := by
  unfold Dev.opTraceForce
  rw [hp]
  rfl

/-- TRACE_READ of words of the trace memory (R206). -/
theorem Dev.opTraceRead_eq {o n : Nat} (ho : o % 4 = 0) (hn : n % 4 = 0) (h4 : 4 ≤ n) (hmost : n ≤ if r.gen = 1 then 240 else 1000)
    (hend : o + n ≤ 1048576) (hp : r.payload = leBytes 4 o ++ leBytes 2 n) (b : Bool) :
    d.opTraceRead r b = d.answer stOk (memReads d.trc.mem o n) := by
  have h1000 : n ≤ 1000 := hmost.trans (by split <;> decide)
  have hoff : u32At r.payload 0 = o := by
    rw [hp]
    exact u32At_append (pre := []) rfl (by omega)
  have hcount : u16At r.payload 4 = n := by
    have := u16At_append (pre := leBytes 4 o) (post := []) (o := 4) (by simp) (v := n) (by omega)
    rw [hp]
    simpa using this
  unfold Dev.opTraceRead
  dsimp only
  rw [hoff, hcount, if_neg (by simp [hp]), if_neg (by omega)]

end

/-- Settles O35: the payload of each opcode passes its handler's checks; the gains replace those of the standby bank alone. -/
theorem coefTraceOpcodesAct : Obligations.CoefTraceOpcodesAct := by
  unfold Obligations.CoefTraceOpcodesAct
  intro s r hs
  have h96 := s.dev.laneCount_le
  refine ⟨fun gains h hlen hok hbank hsec hlive hb hswap hp => ?stage, fun count h h1 h15 hp => ?read,
    fun copy h hswap hp => ?swap, fun h hp => ?arm, fun h hp => ?force, fun o n h ho hn h4 hmost hend hp => ?trace⟩
  case stage =>
    have hn : r.lane < (s.dev.counted r).lanes.length := by
      obtain ⟨-, hl, -⟩ := hs
      exact h.lane_lt.trans_le (h96.trans hl.ge)
    have hrun := Dev.opCoefStage_gains (d := s.dev.counted r) (r := r) hlen hok hbank hsec hswap hp false
    obtain ⟨hnew, hold, hl⟩ := Dev.gainsStaged_loop (d := s.dev.counted r) hn hlive hb gains
    have hw0 : Within (.but { staged := true, port := every }) (s.dev.counted r) ((s.dev.counted r).gainsStaged r.lane gains) := by
      simp [Dev.gainsStaged, Dev.onLoop]
    refine answers_of_accepted rfl h rfl rfl hrun rfl (Dev.rewritten_probation _ _) ?_ hw0.ports_length fun d hw => ?_
    · rw [show ((s.dev.counted r).gainsStaged r.lane gains).port r.port = _ from hw0.port _ rfl]
      rfl
    · rw [show d.loop r.lane = _ from hw.loop r.lane rfl]
      exact ⟨hnew, hold, hl, (hw.staged rfl).trans (hw0.staged rfl)⟩
  case read =>
    exact answers_of_reading rfl h rfl rfl rfl (Dev.opCoefRead_gains (d := s.dev.counted r) h1 h15 hp false) (by decide) (by decide)
      rfl rfl rfl fun d hw => ⟨hw.lanes fun n => ⟨rfl, rfl, rfl, rfl, rfl, rfl⟩, hw.staged rfl⟩
  case swap =>
    have hn : r.lane ≠ 0xFFFF := by
      have := h.lane_lt
      omega
    exact answers_of_staging rfl h.oneOrAll rfl rfl (Dev.opCoefSwap_staged hn hswap hp) rfl
  case arm =>
    exact answers_of_staging rfl h rfl rfl (if_neg (not_not.2 hp)) rfl
  case force =>
    exact answers_of_accepted rfl h rfl rfl (Dev.opTraceForce_zero hp false) rfl rfl rfl rfl
      fun d hw => ⟨hw.trc rfl, hw.staged rfl⟩
  case trace =>
    exact answers_of_reading rfl h rfl rfl rfl (Dev.opTraceRead_eq (d := s.dev.counted r) ho hn h4 hmost hend hp false) (by decide)
      (by decide) rfl rfl rfl fun d hw => ⟨hw.trc rfl, hw.staged rfl⟩

end Sys2Proof.Machine
end

section
/-! The profile opcodes without a time (R216–R229). -/
namespace Sys2Proof.Machine
open Sys2Proof

/-! ### Numbers of a payload -/

section
variable {b : List Byte} {o : Nat}

theorem u16At_of_slice {v : Nat} (h : slice b o 2 = leBytes 2 v) (hv : v < 2 ^ 16) : u16At b o = v := by
  rw [u16At, h, leNat_leBytes_of_lt hv]

theorem u32At_of_slice {v : Nat} (h : slice b o 4 = leBytes 4 v) (hv : v < 2 ^ 32) : u32At b o = v := by
  rw [u32At, h, leNat_leBytes_of_lt hv]

theorem u64At_of_slice {v : Nat} (h : slice b o 8 = leBytes 8 v) (hv : v < 2 ^ 64) : u64At b o = v := by
  rw [u64At, h, leNat_leBytes_of_lt hv]

theorem wordAt_of_slice {w : Word} (h : slice b o 4 = wordBytes w) : wordAt b o = w := by
  rw [wordAt, u32At_of_slice h w.isLt, BitVec.ofNat_toNat]
  rfl

end

/-- The image of 32 bits of a number loses nothing of it. -/
theorem signed_unsigned_32 {v : Int} (hlo : -2 ^ 31 ≤ v) (hhi : v < 2 ^ 31) : signed 32 (unsigned 32 v) = v := by
  unfold signed unsigned
  split <;> omega

theorem Admits.lane_ne_all {d : Dev} {r : Request} {g : Nat} {w : Right} (h : Admits d r g .one w) : r.lane ≠ 0xFFFF := by
  have := h.lane_lt
  have := d.laneCount_le
  omega

section
variable {d : Dev} {r : Request}

/-- An untimed profile command is staged for each of its lanes (R229). -/
theorem Dev.stagePrf_untimed (ns : List Nat) (c : PrfCmd) :
    d.stagePrf r false ns 0 c = (d.staging r.port (ns.map fun n => .prf n c (r.lane = 0xFFFF) none)).answer stStaged := by
  unfold Dev.stagePrf
  rw [if_neg (by decide), if_pos rfl, Dev.putPrf, Dev.forEach_stage]

theorem Dev.stagePrf_lane (hn : r.lane ≠ 0xFFFF) (c : PrfCmd) :
    d.stagePrf r false [r.lane] 0 c = (d.staging r.port [.prf r.lane c false none]).answer stStaged := by
  rw [Dev.stagePrf_untimed, List.map_singleton, decide_eq_false hn]

theorem Dev.foldl_stage {α : Type} (port : Nat) (f : α → Act) (l : List α) :
    l.foldl (fun d x => d.stage port false (f x)) d = d.staging port (l.map f) := by
  induction l generalizing d with
  | nil => simp [Dev.staging]
  | cons x l ih =>
    rw [List.foldl_cons, ih, Dev.stage_eq, Dev.staging_staging]
    rfl

/-! ### The handlers -/

/-- MOVE to a place or by a distance (R216). -/
theorem Dev.opMove_place {kind : Nat} {v : Int} {speed : Word} (hn : r.lane ≠ 0xFFFF) (hk : kind ≤ 1) (hlo : -2 ^ 63 ≤ v) (hhi : v < 2 ^ 63)
    (hs : speedOk speed = true)
    (hp : r.payload = [BitVec.ofNat 8 kind, 0, 0, 0, 0, 0, 0, 0] ++ leBytes 8 (unsigned 64 v) ++ wordBytes speed ++ [0, 0, 0, 0]) :
    d.opMove r false = (d.staging r.port [.prf r.lane (.move kind v 0 (f32 speed)) false none]).answer stStaged := by
  have h0 : byteAt r.payload 0 = kind := by
    rw [hp]
    exact byte_of_lt (by omega)
  have h1 : byteAt r.payload 1 = 0 := by rw [hp]; rfl
  have hz2 : zeroAt r.payload 2 2 = true := by rw [hp]; rfl
  have hz20 : zeroAt r.payload 20 4 = true := by rw [hp]; rfl
  have hv : u64At r.payload 8 = unsigned 64 v := u64At_of_slice (by rw [hp]; rfl) (unsigned_lt 64 v)
  have hw : wordAt r.payload 16 = speed := wordAt_of_slice (by rw [hp]; rfl)
  have hne : kind ≠ 2 := by omega
  unfold Dev.opMove
  dsimp only
  rw [h0, h1, hv, hw, if_neg (by rw [hp]; simp [wordBytes]), if_neg (by simp [hz2, hz20, hne]; omega), if_neg (by simp [hs, hne]),
    if_neg hne, signed_unsigned_64 hlo hhi, Dev.stagePrf_lane hn]

theorem speedOk_zero : speedOk 0 = true := by decide +kernel

/-- MOVE at a speed (R216). -/
theorem Dev.opMove_speed {speed : Word} (hn : r.lane ≠ 0xFFFF) (hs : f32Finite speed = true)
    (hp : r.payload = [2, 0, 0, 0, 0, 0, 0, 0] ++ wordBytes speed ++ zeros 12) :
    d.opMove r false = (d.staging r.port [.prf r.lane (.move 2 0 (f32 speed) 0) false none]).answer stStaged := by
  have h0 : byteAt r.payload 0 = 2 := by rw [hp]; rfl
  have h1 : byteAt r.payload 1 = 0 := by rw [hp]; rfl
  have hz2 : zeroAt r.payload 2 2 = true := by rw [hp]; rfl
  have hz12 : zeroAt r.payload 12 4 = true := by rw [hp]; rfl
  have hz20 : zeroAt r.payload 20 4 = true := by rw [hp]; rfl
  have hw : wordAt r.payload 8 = speed := wordAt_of_slice (by rw [hp]; rfl)
  have hw16 : wordAt r.payload 16 = 0 := wordAt_of_slice (by rw [hp]; rfl)
  unfold Dev.opMove
  dsimp only
  rw [h0, h1, hw, hw16, if_neg (by rw [hp]; simp [wordBytes, zeros]), if_neg (by simp [hz2, hz12, hz20]),
    if_neg (by rw [speedOk_zero]; simp [finiteAt, hw, hs]), if_pos rfl, Dev.stagePrf_lane hn]

/-- LIMITS stages its words (R213, R218). -/
theorem Dev.opLimits_staged {set : Nat} {v a dd j : Word} (hset : set ≤ 2) (hok : limitsOk set v a dd j = true)
    (hp : r.payload = [BitVec.ofNat 8 set, 0, 0, 0, 0, 0, 0, 0] ++ wordBytes v ++ wordBytes a ++ wordBytes dd ++ wordBytes j) :
    d.opLimits r false =
      (d.staging r.port ((limitsWords r.lane set v a dd j).map fun w => .reg w.1 w.2.1 w.2.2)).answer stStaged := by
  have h0 : byteAt r.payload 0 = set := by
    rw [hp]
    exact byte_of_lt (by omega)
  have h1 : byteAt r.payload 1 = 0 := by rw [hp]; rfl
  have hz2 : zeroAt r.payload 2 2 = true := by rw [hp]; rfl
  have hv : wordAt r.payload 8 = v := wordAt_of_slice (by rw [hp]; rfl)
  have ha : wordAt r.payload 12 = a := wordAt_of_slice (by rw [hp]; rfl)
  have hdd : wordAt r.payload 16 = dd := wordAt_of_slice (by rw [hp]; rfl)
  have hj : wordAt r.payload 20 = j := wordAt_of_slice (by rw [hp]; rfl)
  unfold Dev.opLimits
  dsimp only
  rw [h0, h1, hv, ha, hdd, hj, if_neg (by rw [hp]; simp [wordBytes]), if_neg (by simp [hz2, hok]; omega), if_pos rfl, Dev.foldl_stage]

/-- GEAR (R224, R225). -/
theorem Dev.opGear_staged {kind idx align : Nat} {num p q : Int} {den : Nat} (hn : r.lane ≠ 0xFFFF)
    (hok : d.gearIndexOk r.lane kind idx = true) (hidx : idx < 256) (hal : align ≤ 2) (hnlo : -2 ^ 31 ≤ num) (hnhi : num < 2 ^ 31)
    (hd1 : 1 ≤ den) (hd : den < 2 ^ 32) (hplo : -2 ^ 63 ≤ p) (hphi : p < 2 ^ 63) (hqlo : -2 ^ 63 ≤ q) (hqhi : q < 2 ^ 63)
    (hp : r.payload = [BitVec.ofNat 8 kind, BitVec.ofNat 8 idx, BitVec.ofNat 8 align, 0, 0, 0, 0, 0] ++ leBytes 4 (unsigned 32 num) ++
      leBytes 4 den ++ leBytes 8 (unsigned 64 p) ++ leBytes 8 (unsigned 64 q)) :
    d.opGear r false = (d.staging r.port [.prf r.lane (.gear kind idx align num den p q) false none]).answer stStaged := by
  have hk : kind ≤ 3 := by
    unfold Dev.gearIndexOk at hok
    split at hok
    · omega
    · omega
    · omega
    · omega
    · cases hok
  have h0 : byteAt r.payload 0 = kind := by
    rw [hp]
    exact byte_of_lt (by omega)
  have h1 : byteAt r.payload 1 = idx := by
    rw [hp]
    exact byte_of_lt hidx
  have h2 : byteAt r.payload 2 = align := by
    rw [hp]
    exact byte_of_lt (by omega)
  have h3 : byteAt r.payload 3 = 0 := by rw [hp]; rfl
  have hnum : u32At r.payload 8 = unsigned 32 num := u32At_of_slice (by rw [hp]; rfl) (unsigned_lt 32 num)
  have hden : u32At r.payload 12 = den := u32At_of_slice (by rw [hp]; rfl) hd
  have hpp : u64At r.payload 16 = unsigned 64 p := u64At_of_slice (by rw [hp]; rfl) (unsigned_lt 64 p)
  have hqq : u64At r.payload 24 = unsigned 64 q := u64At_of_slice (by rw [hp]; rfl) (unsigned_lt 64 q)
  unfold Dev.opGear
  dsimp only
  rw [h0, h1, h2, h3, hnum, hden, hpp, hqq, if_neg (by rw [hp]; simp), if_neg (by simp [hok]; omega), signed_unsigned_32 hnlo hnhi,
    signed_unsigned_64 hplo hphi, signed_unsigned_64 hqlo hqhi, Dev.stagePrf_lane hn]

/-- TRIM (R227). -/
theorem Dev.opTrim_staged {action : Nat} {v : Int} (hn : r.lane ≠ 0xFFFF) (ha : action ≤ 2) (hlo : -2 ^ 63 ≤ v) (hhi : v < 2 ^ 63)
    (hp : r.payload = [BitVec.ofNat 8 action, 0, 0, 0, 0, 0, 0, 0] ++ leBytes 8 (unsigned 64 v)) :
    d.opTrim r false = (d.staging r.port [.prf r.lane (.trim action v) false none]).answer stStaged := by
  have h0 : byteAt r.payload 0 = action := by
    rw [hp]
    exact byte_of_lt (by omega)
  have h1 : byteAt r.payload 1 = 0 := by rw [hp]; rfl
  have hz2 : zeroAt r.payload 2 2 = true := by rw [hp]; rfl
  have hv : u64At r.payload 8 = unsigned 64 v := u64At_of_slice (by rw [hp]; rfl) (unsigned_lt 64 v)
  unfold Dev.opTrim
  dsimp only
  rw [h0, h1, hv, if_neg (by rw [hp]; simp), if_neg (by simp [hz2]; omega), signed_unsigned_64 hlo hhi, Dev.stagePrf_lane hn]

/-- STOP (R220). -/
theorem Dev.opStop_staged {kind x : Nat} (hk : kind ≤ 2) (hx : x < 2 ^ 32)
    (hp : r.payload = [BitVec.ofNat 8 kind, 0, 0, 0, 0, 0, 0, 0] ++ leBytes 4 x ++ [0, 0, 0, 0]) :
    d.opStop r false =
      (d.staging r.port ((d.selected r).map fun n => .prf n (.stop kind x) (r.lane = 0xFFFF) none)).answer stStaged := by
  have h0 : byteAt r.payload 0 = kind := by
    rw [hp]
    exact byte_of_lt (by omega)
  have h1 : byteAt r.payload 1 = 0 := by rw [hp]; rfl
  have hz2 : zeroAt r.payload 2 2 = true := by rw [hp]; rfl
  have hz12 : zeroAt r.payload 12 4 = true := by rw [hp]; rfl
  have hv : u32At r.payload 8 = x := u32At_of_slice (by rw [hp]; rfl) hx
  unfold Dev.opStop
  dsimp only
  rw [h0, h1, hv, if_neg (by rw [hp]; simp), if_neg (by simp [hz2, hz12]; omega), Dev.stagePrf_untimed]

/-- An append that is staged fills the queue by one (R221). -/
theorem Dev.wpFill_append (mode : Bool) (v : Rat) (x : Int) (p n : Nat) :
    (d.staging p [.prf n (.wpAppend mode v x) false none]).wpFill p n = d.wpFill p n + 1 := by
  simp [Dev.wpFill, Dev.staging, Dev.gen, Dev.lane]

/-- WAYPOINT append (R221). -/
theorem Dev.opWaypoint_append {v : Word} {x : Int} {mode : Bool} (hfill : d.wpFill r.port r.lane < 16) (hv : f32Finite v = true)
    (hlo : -2 ^ 63 ≤ x) (hhi : x < 2 ^ 63) (hp : r.payload = [0, if mode then 1 else 0, 0, 0] ++ wordBytes v ++ leBytes 8 (unsigned 64 x)) :
    d.opWaypoint r false = (d.staging r.port [.prf r.lane (.wpAppend mode (f32 v) x) false none]).answer stStaged
      (leBytes 2 (d.wpFill r.port r.lane + 1)) := by
  have h0 : byteAt r.payload 0 = 0 := by rw [hp]; rfl
  have h1 : byteAt r.payload 1 = if mode then 1 else 0 := by rw [hp]; cases mode <;> rfl
  have hz2 : zeroAt r.payload 2 2 = true := by rw [hp]; rfl
  have hw : wordAt r.payload 4 = v := wordAt_of_slice (by rw [hp]; rfl)
  have hx : u64At r.payload 8 = unsigned 64 x := u64At_of_slice (by rw [hp]; rfl) (unsigned_lt 64 x)
  have hmode : decide ((if mode then 1 else 0) = 1) = mode := by cases mode <;> rfl
  have hle : ¬1 < (if mode then 1 else 0) := by cases mode <;> decide
  unfold Dev.opWaypoint
  dsimp only
  rw [h0, h1, hw, hx, if_neg (by rw [hp]; simp [wordBytes]), if_neg (by simp [hz2, finiteAt, hw, hv, hle]), if_neg (by omega), hmode,
    if_neg (by decide), signed_unsigned_64 hlo hhi, Dev.stage_eq, Dev.wpFill_append]

/-- VMASTER velocity (R223). -/
theorem Dev.opVmaster_velocity {m : Nat} {v : Word} (hm : m < 8) (hfin : f32Finite v = true) (habs : absRat (f32 v) ≤ 1000)
    (hp : r.payload = [BitVec.ofNat 8 m, 0, 0, 0, 0, 0, 0, 0] ++ wordBytes v ++ zeros 8) :
    d.opVmaster r false = (d.staging r.port [.vm m (.vel v) none]).answer stStaged := by
  have h0 : byteAt r.payload 0 = m := by
    rw [hp]
    exact byte_of_lt (by omega)
  have h1 : byteAt r.payload 1 = 0 := by rw [hp]; rfl
  have h2 : byteAt r.payload 2 = 0 := by rw [hp]; rfl
  have h3 : byteAt r.payload 3 = 0 := by rw [hp]; rfl
  have hw : wordAt r.payload 8 = v := wordAt_of_slice (by rw [hp]; rfl)
  have hact : vmAction r.payload = some (.vel v) := by
    unfold vmAction
    rw [h1, finiteAt, hw, hfin, decide_eq_true habs]
    rfl
  unfold Dev.opVmaster
  dsimp only
  rw [h0, h2, h3, hact, if_neg (by rw [hp]; simp [wordBytes, zeros]), if_neg (by omega)]
  rfl

end

@[simp] theorem Dev.counted_selected (d : Dev) (r : Request) : (d.counted r).selected r = d.selected r := by
  simp [Dev.selected]

/-- Settles O36: the payload of each opcode passes its handler's checks and its fields are read back; without a time the command
is staged for its lanes. -/
theorem profileOpcodesAct : Obligations.ProfileOpcodesAct := by
  unfold Obligations.ProfileOpcodesAct
  intro s r
  refine ⟨fun kind v speed h hk hlo hhi hs hp => ?place, fun speed h hs hp => ?speed, fun set v a dd j h hset hok hp => ?limits,
    fun kind idx align num den p q h hok hidx hal hnlo hnhi hd1 hd hplo hphi hqlo hqhi hp => ?gear,
    fun action v h ha hlo hhi hp => ?trim, fun kind x h hk hx hp => ?stop, fun v x mode h hfill hv hlo hhi hp => ?waypoint,
    fun m v h hm hfin habs hp => ?vmaster⟩
  case place => exact answers_of_staging rfl h rfl rfl (Dev.opMove_place h.lane_ne_all hk hlo hhi hs hp) rfl
  case speed => exact answers_of_staging rfl h rfl rfl (Dev.opMove_speed h.lane_ne_all hs hp) rfl
  case limits => exact answers_of_staging rfl h rfl rfl (Dev.opLimits_staged hset hok hp) rfl
  case gear =>
    exact answers_of_staging rfl h rfl rfl
      (Dev.opGear_staged h.lane_ne_all hok hidx hal hnlo hnhi hd1 hd hplo hphi hqlo hqhi hp) rfl
  case trim => exact answers_of_staging rfl h rfl rfl (Dev.opTrim_staged h.lane_ne_all ha hlo hhi hp) rfl
  case stop =>
    have hrun := Dev.opStop_staged (d := s.dev.counted r) hk hx hp
    rw [Dev.counted_selected] at hrun
    exact answers_of_staging rfl h rfl rfl hrun rfl
  case waypoint => exact answers_of_staging rfl h rfl rfl (Dev.opWaypoint_append hfill hv hlo hhi hp) rfl
  case vmaster => exact answers_of_staging rfl h rfl rfl (Dev.opVmaster_velocity hm hfin habs hp) rfl

end Sys2Proof.Machine
end

section
/-! The opcodes of process channels and of the black box (R252, R253, R367, R368). -/
namespace Sys2Proof.Machine
open Sys2Proof

section
variable {d : Dev} {r : Request}

/-- The first words of a channel's block, in their order (Table 18-1). -/
def pfeWords : List RegId := [.pfeCtrl, .pfeXpt, .pfeExc, .pfeTest, .pfeLeadR, .pfeDrift, .pfePair, .pfePairWin]

theorem targetOf_pfeWord : ∀ c < 8, ∀ i < 8, targetOf (0x60000 + 0x100 * c + 4 * i) = .reg (pfeWords.getD i .pfeCtrl) c := by
  decide +kernel

theorem pfeWords_staged : ∀ x ∈ pfeWords, x.info.sw ≠ 0 ∧ x.valueWords = 1 ∧ x.info.base / 0x10000 = 6 := by decide

/-- A register that every variant has in full. -/
theorem Dev.regPresent_pfe {x : RegId} (hx : x.info.base / 0x10000 = 6) (k : Nat) : d.regPresent x k = true := by
  have hne : ¬(x = .frmLateCnt ∨ x = .hpInStat) := by
    rintro (rfl | rfl)
    · exact absurd hx (by decide)
    · exact absurd hx (by decide)
  unfold Dev.regPresent
  dsimp only
  rw [if_neg (by omega), if_neg (by omega), if_neg (by omega), if_neg (by omega), if_neg (by omega), if_neg hne]

/-- The write of a word of a channel stages it. -/
theorem Dev.writeAt_pfeWord {c i : Nat} (hc : c < 8) (hi : i < 8) (p : Nat) (v : Word) :
    d.writeAt p false (0x60000 + 0x100 * c + 4 * i) v =
      d.staging p [.reg (pfeWords.getD i .pfeCtrl) c (v &&& (pfeWords.getD i .pfeCtrl).info.sw)] := by
  have hmem : pfeWords.getD i .pfeCtrl ∈ pfeWords := by
    rw [List.getD_eq_getElem?_getD, List.getElem?_eq_getElem (by exact hi)]
    exact List.getElem_mem _
  obtain ⟨hsw, hvw, hbase⟩ := pfeWords_staged _ hmem
  rw [Dev.writeAt, targetOf_pfeWord c hc i hi]
  exact Dev.writeReg_staged hvw (Dev.regPresent_pfe hbase c) hsw

/-- A sweep whose turns stage one action each stages them all. -/
theorem Dev.foldl_staging {α : Type} {p : Nat} {l : List α} {f : Dev → α → Dev} {a : α → Act}
    (h : ∀ x ∈ l, ∀ d : Dev, f d x = d.staging p [a x]) : l.foldl f d = d.staging p (l.map a) := by
  induction l generalizing d with
  | nil => simp [Dev.staging]
  | cons x l ih =>
    rw [List.foldl_cons, h x (by simp), ih fun y hy => h y (by simp [hy]), Dev.staging_staging]
    rfl

/-- CH_CONFIG of the first eight words (R252). -/
theorem Dev.opChConfig_words {c : Nat} {ws : List Word} (hc : c < 8) (hlen : ws.length = 8)
    (howns : d.ownsUnit r.port (d.fld .pfeLane c 0 7) = true) (hp : r.payload = [BitVec.ofNat 8 c, 0, 0, 0] ++ ws.flatMap wordBytes) :
    d.opChConfig r false = (d.staging r.port ((List.range 8).map fun i =>
      .reg (pfeWords.getD i .pfeCtrl) c (wordAt r.payload (4 + 4 * i) &&& (pfeWords.getD i .pfeCtrl).info.sw))).answer stStaged := by
  have h0 : byteAt r.payload 0 = c := by
    rw [hp]
    exact byte_of_lt (by omega)
  have h1 : byteAt r.payload 1 = 0 := by rw [hp]; rfl
  have hz2 : zeroAt r.payload 2 2 = true := by rw [hp]; rfl
  have hl : r.payload.length = 36 := by rw [hp, List.length_append, length_flatMap_wordBytes, hlen]; rfl
  have hsweep := Dev.foldl_staging (d := d) (p := r.port) (l := List.range 8)
    (f := fun d i => d.writeAt r.port false (0x60000 + 0x100 * c + 4 * i) (wordAt r.payload (4 + 4 * i)))
    (fun i hi d => Dev.writeAt_pfeWord hc (List.mem_range.1 hi) r.port (wordAt r.payload (4 + 4 * i)))
  unfold Dev.opChConfig
  dsimp only
  rw [h0, h1, Dev.forUnit_go (by rw [hp]; simp) (decide_eq_true hc) howns, if_neg (by omega), if_neg (by simp [hz2]),
    if_neg (by simp [hl]), if_neg (by decide), hsweep]

/-- CH_READ of one channel (R253). -/
theorem Dev.opChRead_one {c : Nat} (hc : c < 8) (hp : r.payload = [BitVec.ofNat 8 c]) (g : Bool) :
    d.opChRead r g = d.answer stOk ([0, 1] ++ d.chEntry r.port c) := by
  have h0 : byteAt r.payload 0 = c := by
    rw [hp]
    exact byte_of_lt (by omega)
  unfold Dev.opChRead
  dsimp only
  rw [h0, if_neg (by rw [hp]; simp), if_neg (by omega), if_neg (show ¬c = 0xFF by omega)]
  simp

/-- BBX_READ of the ring (R367). -/
theorem Dev.opBbxRead_ring {n x : Nat} (h1 : 1 ≤ n) (h31 : n ≤ 31) (hx : x < 2 ^ 16) (hp : r.payload = [0, BitVec.ofNat 8 n] ++ leBytes 2 x)
    (g : Bool) : d.opBbxRead r g = d.answer stOk (readEvents d.bbx.ring.reverse d.bbx.nextSeq x n) := by
  have hb0 : byteAt r.payload 0 = 0 := by rw [hp]; rfl
  have hb1 : byteAt r.payload 1 = n := by
    rw [hp]
    exact byte_of_lt (by omega)
  have hx' : u16At r.payload 2 = x := u16At_of_slice (by rw [hp]; rfl) hx
  unfold Dev.opBbxRead
  dsimp only
  rw [hb0, hb1, hx', if_neg (by rw [hp]; simp), if_neg (by omega), if_pos rfl]

/-- A trigger of the host starts its commit at once, where none runs and the management plane is up (R363, R368). -/
theorem Dev.bbxTrigger_host (hrun : d.bbx.running = none) (hup : d.mgmtUp = true) : d.bbxTrigger 4 = d.startCommit 4 d.now 0 := by
  unfold Dev.bbxTrigger
  rw [hrun]
  dsimp only
  rw [if_neg (by decide), if_pos hup]

theorem Dev.startCommit_commits (kind : Nat) (t : Time) (merged : Nat) :
    (d.startCommit kind t merged).commits = (none, some (d.freeze kind t merged), none) := (rfl)

theorem Dev.startCommit_ports (kind : Nat) (t : Time) (merged : Nat) : (d.startCommit kind t merged).ports = d.ports := (rfl)

theorem Dev.opBbxCommit_started (hp : r.payload = []) (hrun : d.bbx.running = none) (hup : d.mgmtUp = true)
    (hbg : (d.port r.port).bg = none) (g : Bool) : d.opBbxCommit r g = (d.startCommit 4 d.now 0).background r 0xC02 .bbxCommit := by
  unfold Dev.opBbxCommit
  rw [if_neg (not_not.2 hp), hrun, hbg, if_neg (by simp), Dev.bbxTrigger_host hrun hup]

end

/-- A frame without any process channel keeps the channels. -/
theorem Within.channels {m : May} {d e : Dev} (h : Within m d e) (hm : ∀ c, m.pfe c = false) : e.pfe = d.pfe := by
  have hlen : e.pfe.length = d.pfe.length := by
    have hs := h.shape
    simp only [Dev.shape, List.cons_append, List.cons.injEq] at hs
    obtain ⟨-, -, -, -, -, -, -, -, -, hpfe, -⟩ := hs
    exact hpfe
  refine List.ext_getElem hlen fun c h1 h2 => ?_
  have := h.pfe c (hm c)
  simpa only [Dev.ch, List.getD_eq_getElem?_getD, List.getElem?_eq_getElem h1, List.getElem?_eq_getElem h2, Option.getD_some] using this

/-- Settles O37: the words of a channel are staged like register writes, reads answer from the channel and from the ring, and a
commit by the host starts at once. -/
theorem channelBlackBoxOpcodesAct : Obligations.ChannelBlackBoxOpcodesAct := by
  unfold Obligations.ChannelBlackBoxOpcodesAct
  intro s r
  refine ⟨fun c ws h hc hlen howns hp => ?config, fun c h hc hp => ?read, fun n x h h1 h31 hx hp => ?ring,
    fun h hp hrun hbg => ?commit⟩
  case config =>
    have hfirst : wordAt r.payload 4 = ws.getD 0 0 := by
      match ws, hlen with
      | w :: ws, _ => exact wordAt_of_slice (by rw [hp]; rfl)
    have howns' : (s.dev.counted r).ownsUnit r.port ((s.dev.counted r).fld .pfeLane c 0 7) = true := by
      rwa [Dev.counted_fld _ _ (by decide), Dev.counted_ownsUnit]
    refine (answers_of_staging rfl h rfl rfl (Dev.opChConfig_words hc hlen howns' hp) rfl).mono fun d hd => ⟨_, hd, ?_⟩
    rw [← hfirst]
    exact List.mem_map.2 ⟨0, by simp, rfl⟩
  case read =>
    exact answers_of_reading rfl h rfl rfl rfl (Dev.opChRead_one (d := s.dev.counted r) hc hp false) (by decide) (by decide)
      rfl rfl rfl fun d hw => hw.channels fun _ => rfl
  case ring =>
    exact answers_of_reading rfl h rfl rfl rfl (Dev.opBbxRead_ring (d := s.dev.counted r) h1 h31 hx hp false) (by decide) (by decide)
      rfl rfl rfl fun d hw => ⟨congrArg BlackBox.ring (hw.bbx rfl), hw.staged rfl⟩
  case commit =>
    have hup : s.dev.mgmtUp = true := by
      obtain ⟨-, -, hup, -⟩ := h
      exact hup
    refine startsJob_background rfl h rfl rfl hbg (Dev.opBbxCommit_started (d := s.dev.counted r) hp hrun hup hbg false) rfl
      fun d _ hcom => ?_
    rw [Dev.startCommit_commits] at hcom
    simp only [Dev.commits, Prod.mk.injEq] at hcom
    obtain ⟨hc, hr, -⟩ := hcom
    exact ⟨hc, _, hr, rfl, rfl⟩

end Sys2Proof.Machine
end

section
/-! The opcodes of firmware (R370–R372). -/
namespace Sys2Proof.Machine
open Sys2Proof

section
variable {d : Dev} {r : Request}

/-- The region of a load that starts anew: it is being loaded (R370). -/
def Dev.loadStarted (d : Dev) (target : Nat) : Dev := d.onRegion target fun x => { x with st := 1, factory := false, digest := 0 }

theorem Dev.opFwLoad_started {target off : Nat} {data : List Byte} (ht : target ≤ 2) (hoff : off % 8 = 0) (hne : data ≠ [])
    (hdata : data.length % 8 = 0) (hend : off + data.length ≤ regionSize target) (ho32 : off < 2 ^ 32)
    (hrun : target = 2 ∨ target ≠ d.hlt.runSlot) (hprob : d.hlt.probation = none) (hbg : (d.port r.port).bg = none)
    (hp : r.payload = [BitVec.ofNat 8 target, 1, 0, 0] ++ leBytes 4 off ++ data) (g : Bool) :
    d.opFwLoad r g = (d.loadStarted target).background r 0xD00 (.fwLoad target off data) := by
  have h0 : byteAt r.payload 0 = target := by
    rw [hp]
    exact byte_of_lt (by omega)
  have h1 : byteAt r.payload 1 = 1 := by rw [hp]; rfl
  have hz2 : zeroAt r.payload 2 2 = true := by rw [hp]; rfl
  have ho : u32At r.payload 4 = off := u32At_of_slice (by rw [hp]; rfl) ho32
  have hdrop : r.payload.drop 8 = data := by rw [hp]; rfl
  have hlock : d.fwLocked target = false := by
    unfold Dev.fwLocked
    rcases hrun with h | h <;> simp [h, hprob]
  unfold Dev.opFwLoad
  dsimp only
  rw [h0, h1, ho, hdrop, if_neg (by rw [hp]; simp), if_neg (by simp only [hz2, hoff, hdata, hne]; simp; omega),
    if_neg (by simp [hlock]), hbg, if_neg (by simp), if_pos rfl]
  rfl

theorem Dev.opFwVerify_started {target : Nat} (ht : target ≤ 2) (hp : r.payload = [BitVec.ofNat 8 target, 0, 0, 0]) (g : Bool) :
    d.opFwVerify r g = d.background r 0xD01 (.fwVerify target) := by
  have h0 : byteAt r.payload 0 = target := by
    rw [hp]
    exact byte_of_lt (by omega)
  have hz : zeroAt r.payload 1 3 = true := by rw [hp]; rfl
  unfold Dev.opFwVerify
  dsimp only
  rw [h0, if_neg (by simp [hp]), if_neg (by simp [hz]; omega)]

theorem Dev.opFwSwitch_staged {slot : Nat} (hs : slot ≤ 1) (hst : (d.region slot).st = 3) (hrun : slot ≠ d.hlt.runSlot)
    (hprob : d.hlt.probation = none) (hdbg : d.pwr.dbg ≠ .openDbg) (hrec : d.pwr.recovery = false) (hpf : d.pwr.pfailLow = false)
    (hjobs : d.jobsRun = false) (hp : r.payload = [BitVec.ofNat 8 slot, 0, 0, 0]) :
    d.opFwSwitch r false = (d.staging r.port [.fwSwitch slot]).answer stStaged := by
  have h0 : byteAt r.payload 0 = slot := by
    rw [hp]
    exact byte_of_lt (by omega)
  have hz : zeroAt r.payload 1 3 = true := by rw [hp]; rfl
  unfold Dev.opFwSwitch
  dsimp only
  rw [h0, if_neg (by simp [hp]), if_neg (by simp [hz]; omega), if_neg (by simp [hst, hrun, hprob, hdbg, hrec, hpf]), hjobs,
    if_neg (by decide)]
  rfl

end

/-- Settles O38: the payload of each opcode passes its handler's checks; a load starts on its region, and a switch is staged. -/
theorem firmwareOpcodesAct : Obligations.FirmwareOpcodesAct := by
  unfold Obligations.FirmwareOpcodesAct
  intro s r hlen
  refine ⟨fun target off data h ht hoff hne hdata hend ho32 hrun hbg hp => ?load, fun target h ht hbg hp => ?verify,
    fun slot h hs hst hrun hdbg hpf hjobs hp => ?switch⟩
  case load =>
    have hprob : s.dev.hlt.probation = none := by
      obtain ⟨-, -, -, -, -, hprob, -⟩ := h
      exact hprob
    refine startsJob_background rfl h rfl rfl hbg
      (Dev.opFwLoad_started (d := s.dev.counted r) ht hoff hne hdata hend ho32 hrun hprob hbg hp false) rfl fun d hw _ => ?_
    have hreg : d.region target = ((s.dev.counted r).loadStarted target).region target := by
      rw [Dev.region, hw.hlt rfl]
      rfl
    have hl : target < (s.dev.counted r).hlt.regions.length := lt_of_lt_of_eq (by omega) hlen.symm
    rw [hreg, Dev.loadStarted, Dev.region_onRegion hl]
    exact ⟨rfl, rfl⟩
  case verify =>
    exact startsJob_background rfl h rfl rfl hbg (Dev.opFwVerify_started (d := s.dev.counted r) ht hp false) rfl
      fun d hw _ => congrArg Health.regions (hw.hlt rfl)
  case switch =>
    obtain ⟨hprob, hrec⟩ : s.dev.hlt.probation = none ∧ s.dev.pwr.recovery = false := by
      obtain ⟨-, -, -, -, -, hprob, hrec, -⟩ := h
      exact ⟨hprob, hrec⟩
    exact answers_of_staging rfl h rfl rfl
      (Dev.opFwSwitch_staged (d := s.dev.counted r) hs hst hrun hprob hdbg hrec hpf hjobs hp) rfl

end Sys2Proof.Machine
end

section
/-! The opcodes of power, debug and protection (R332, R338, R341, R344, R346, R347). -/
namespace Sys2Proof.Machine
open Sys2Proof

/-! ### The service of a request that its handler refuses -/

section
variable {s : State} {c : Instr} {op g : Nat} {u : LaneUse} {w : Right} {r : Request} {st : Nat} {data : List Byte}
  {run : Dev → Request → Bool → Served} {e : Dev}

/-- A refusal that is neither NOT_OWNER nor LOCKED is answered; the device is what the handler leaves, but for the port (R264, R281). -/
theorem answers_of_refusal (hc : Machine.exec c s = onRequest s op r) (h : Admits s.dev r g u w)
    (hi : opInfo op = some ⟨g, u, w, run⟩) (hs : safetyOp op = false)
    (ha : run (s.dev.counted r) r false = (some ⟨st, data⟩, e)) (hst : Resp.accepted ⟨st, data⟩ = false) (ho : st ≠ stNotOwner)
    (hl : st ≠ stLocked) (hprob : e.hlt.probation = s.dev.hlt.probation) (htx : (e.port r.port).tx = (s.dev.port r.port).tx)
    (hlen : e.ports.length = s.dev.ports.length) {P : Dev → Prop} (hP : ∀ d, Within (.answering r.port) e d → P d) :
    Answers c op r s ⟨st, data⟩ P := by
  have hrun : (s.dev.counted r).runOp op r false = (some ⟨st, data⟩, e) := (h.runOp hi hs false).trans ha
  have hnext := hc.trans (h.onRequest op)
  obtain ⟨hp, -, -, -, hflags, hnone, -⟩ := h
  have hserve : (s.dev.counted r).serveSingle (queued op r) = (e.reply (queued op r) ⟨st, data⟩).latency (queued op r) := by
    unfold Dev.serveSingle
    rw [show (s.dev.counted r).runOp (queued op r).op (queued op r).req false = _ from hrun]
    simp only [hst, Bool.false_eq_true, if_false, Dev.noteRefusal, ho, hl, or_self]
  have hq := posted_queued op r hflags
  have hnone' : e.hlt.probation = none := hprob.trans hnone
  rw [hserve] at hnext
  refine runs_of hnext ⟨?_, hP _ (Dev.answered_within (q := queued op r) hq hnone' (.refl _ e) (by simp [queued]) (by simp [queued]))⟩
  rw [show r.port = (queued op r).req.port from rfl, Dev.answered_tx hq hnone' (by rw [hlen]; exact hp)]
  exact congrArg (· ++ _) htx

end

section
variable {d : Dev} {r : Request}

/-! ### Power -/

theorem Dev.opPowerState_staged {target : Nat} (ht : target ≤ 3) (hok : d.powerFails target = 0)
    (hp : r.payload = [BitVec.ofNat 8 target, 0, 0, 0]) :
    d.opPowerState r false = ((d.when (target < 2) fun d => d.onPwr fun x => { x with detached := false }).staging r.port
      [.power target]).answer stStaged := by
  have h0 : byteAt r.payload 0 = target := by
    rw [hp]
    exact byte_of_lt (by omega)
  have hz : zeroAt r.payload 1 3 = true := by rw [hp]; rfl
  unfold Dev.opPowerState
  dsimp only
  rw [h0, if_neg (by simp [hp]), if_neg (by simp [hz]; omega), if_neg (not_not.2 hok), Bool.not_false, Bool.and_true]
  rfl

/-- What an accepted ACTIVE or ECONOMY does at once (R341). -/
theorem Dev.attached_keeps (d : Dev) (target : Nat) :
    ∃ e : Dev, (d.when (target < 2) fun d => d.onPwr fun x => { x with detached := false }) = e ∧ e.ports = d.ports ∧ e.hlt = d.hlt ∧
      e.staged = d.staged ∧ e.now = d.now ∧ (target < 2 → e.pwr.detached = false) := by
  unfold Dev.when
  by_cases ht : target < 2
  · rw [if_pos (decide_eq_true ht)]
    exact ⟨_, rfl, rfl, rfl, rfl, rfl, fun _ => rfl⟩
  · rw [if_neg (by simpa using ht)]
    exact ⟨_, rfl, rfl, rfl, rfl, rfl, fun h => absurd h ht⟩

theorem Dev.opDetach_started (hp : r.payload = []) (hbg : (d.port r.port).bg = none) (g : Bool) :
    d.opDetach r g = ((d.askParked 2).bbxTrigger 2).background r 0xE01 .detach := by
  unfold Dev.opDetach
  rw [if_neg (not_not.2 hp), hbg, if_neg (by simp)]

theorem Dev.startCommit_pwr (d : Dev) (kind : Nat) (t : Time) (merged : Nat) : (d.startCommit kind t merged).pwr = d.pwr := (rfl)

/-- A trigger of the power path: a commit runs then or waits (R363). -/
theorem Dev.bbxTrigger_power (d : Dev) :
    ((d.bbxTrigger 2).bbx.running.isSome = true ∨ (d.bbxTrigger 2).bbx.waiting.isSome = true) ∧
      (d.bbxTrigger 2).ports = d.ports ∧ (d.bbxTrigger 2).pwr = d.pwr := by
  unfold Dev.bbxTrigger
  cases hrun : d.bbx.running with
  | some r => exact ⟨.inl rfl, rfl, rfl⟩
  | none =>
    dsimp only
    rw [if_neg (by decide)]
    by_cases hup : d.mgmtUp = true
    · rw [if_pos hup]
      have hcom := d.startCommit_commits 2 d.now 0
      simp only [Dev.commits, Prod.mk.injEq] at hcom
      obtain ⟨-, hr, -⟩ := hcom
      exact ⟨.inl (by rw [hr]; rfl), d.startCommit_ports .., d.startCommit_pwr ..⟩
    · rw [if_neg hup]
      exact ⟨.inr rfl, rfl, rfl⟩

/-! ### Seal -/

/-- The root hash of the image is blown into the fuses (R332). -/
def Dev.sealed (d : Dev) (p : Nat) : Dev :=
  (d.onPwr fun x => { x with sealFuse := true, rootHash := digest (imgRoot d.pwr.image) }).logEvent 0x0E0A kPort p
    ((digest (imgRoot d.pwr.image)).take 4)

theorem Dev.sealed_keeps (d : Dev) (p : Nat) :
    (d.sealed p).ports = d.ports ∧ (d.sealed p).hlt = d.hlt ∧ (d.sealed p).crit = d.crit ∧
      (d.sealed p).pwr = { d.pwr with sealFuse := true, rootHash := digest (imgRoot d.pwr.image) } := by
  unfold Dev.sealed Dev.logEvent
  dsimp only
  split <;> exact ⟨rfl, rfl, rfl, rfl⟩

theorem Dev.opSeal_eq (hopen : d.crit.sealed = false) (hpark : d.pwr.st = .parked) (himg : d.pwr.imageOk = true)
    (hp : r.payload = digest (imgRoot d.pwr.image)) (hlen : r.payload.length = 32) (g : Bool) :
    d.opSeal r g = if d.free.1 = 0 then d.free.2.answer stNvmFail else (d.free.2.sealed r.port).answer stOk := by
  unfold Dev.opSeal
  dsimp only
  rw [if_neg (by omega), if_neg (by simp [hopen, hpark, himg]), if_neg (not_not.2 hp)]
  rfl

/-! ### Debug -/

theorem Dev.opDbgChallenge_eq {target : Nat} (ht : target = 1 ∨ target = 2) (hp : r.payload = [BitVec.ofNat 8 target]) (g : Bool) :
    d.opDbgChallenge r g = (d.drawNonce target).2.answer stOk (d.drawNonce target).1 := by
  have h0 : byteAt r.payload 0 = target := by
    rw [hp]
    exact byte_of_lt (by omega)
  unfold Dev.opDbgChallenge
  dsimp only
  rw [h0, if_neg (by simp [hp]), if_neg (by omega)]

theorem Dev.opDbgResponse_eq {idx : Nat} {sig : List Byte} (hi : idx ≤ 3) (hlen : sig.length = 64)
    (hp : r.payload = [BitVec.ofNat 8 idx, 0, 0, 0] ++ sig) (g : Bool) :
    d.opDbgResponse r g = (d.dbgRespond kPort r.port idx sig).2.answer (if (d.dbgRespond kPort r.port idx sig).1 then stOk else stRange) := by
  have h0 : byteAt r.payload 0 = idx := by
    rw [hp]
    exact byte_of_lt (by omega)
  have hz : zeroAt r.payload 1 3 = true := by rw [hp]; rfl
  have hdrop : r.payload.drop 4 = sig := by rw [hp]; rfl
  unfold Dev.opDbgResponse
  dsimp only
  rw [h0, hdrop, if_neg (by simp [hp, hlen]), if_neg (by simp [hz]; omega)]

theorem Dev.setDebug_keeps (d : Dev) (st : DebugState) (kind idx key : Nat) :
    (d.setDebug st kind idx key).ports = d.ports ∧ (d.setDebug st kind idx key).hlt = d.hlt ∧
      (d.setDebug st kind idx key).pwr = { d.pwr with dbg := st } := by
  unfold Dev.setDebug Dev.logEvent
  dsimp only
  split <;> exact ⟨rfl, rfl, rfl⟩

theorem Dev.dbgRespond_keeps (d : Dev) (kind idx key : Nat) (sig : List Byte) :
    (d.dbgRespond kind idx key sig).2.ports = d.ports ∧ (d.dbgRespond kind idx key sig).2.hlt = d.hlt := by
  unfold Dev.dbgRespond
  split
  · obtain ⟨hp, hh, -⟩ := Dev.setDebug_keeps (d.onPwr fun x => { x with nonce := none })
      (if ‹Nonce›.target = 2 then .openDbg else .observe) kind idx key
    exact ⟨hp, hh⟩
  · unfold Dev.refuseDebug Dev.logEvent
    dsimp only
    split <;> exact ⟨rfl, rfl⟩

/-- DBG_CLOSE leaves the debug port closed (R344). -/
theorem Dev.opDbgClose_eq (hp : r.payload = []) (hd : d.pwr.dbg ≠ .openDbg) (g : Bool) :
    ∃ e : Dev, d.opDbgClose r g = e.answer stOk ∧ e.ports = d.ports ∧ e.hlt = d.hlt ∧ e.pwr.dbg = .closed := by
  unfold Dev.opDbgClose
  rw [if_neg (not_not.2 hp)]
  cases hdbg : d.pwr.dbg with
  | openDbg => exact absurd hdbg hd
  | observe =>
    obtain ⟨hports, hhlt, hpwr⟩ := d.setDebug_keeps .closed kPort r.port 0xFF
    exact ⟨_, rfl, hports, hhlt, by rw [hpwr]⟩
  | closed => exact ⟨_, rfl, rfl, rfl, hdbg⟩

/-- DBG_OPEN_FREE leaves the debug port open (R347). -/
theorem Dev.opDbgOpenFree_eq (hp : r.payload = []) (hopen : d.crit.sealed = false) (hpark : d.pwr.st = .parked) (g : Bool) :
    ∃ e : Dev, d.opDbgOpenFree r g = e.answer stOk ∧ e.ports = d.ports ∧ e.hlt = d.hlt ∧ e.pwr.dbg = .openDbg := by
  unfold Dev.opDbgOpenFree
  rw [if_neg (not_not.2 hp), if_neg (by simp [hopen, hpark])]
  by_cases hdbg : d.pwr.dbg = .openDbg
  · rw [if_pos hdbg]
    exact ⟨_, rfl, rfl, rfl, hdbg⟩
  · rw [if_neg hdbg]
    obtain ⟨hports, hhlt, hpwr⟩ := d.setDebug_keeps .openDbg kPort r.port 0xFF
    exact ⟨_, rfl, hports, hhlt, by rw [hpwr]⟩

end

/-- Settles O39: the payload of each opcode passes its handler's checks; the outcome of the fuses and of a response decides
between an answer that takes effect and a refusal. -/
theorem powerDebugOpcodesAct : Obligations.PowerDebugOpcodesAct := by
  unfold Obligations.PowerDebugOpcodesAct
  intro s r h
  refine ⟨fun target ht hok hp => ?power, fun hp hbg => ?detach, fun hopen hpark himg hp hlen => ?fuses, fun target ht hp => ?challenge,
    fun idx sig hi hlen hp => ?response, fun hp hd => ?close, fun hp hopen hpark => ?openFree⟩
  case power =>
    obtain ⟨e, he, hports, hhlt, hstaged, hnow, hdet⟩ := (s.dev.counted r).attached_keeps target
    have hrun := Dev.opPowerState_staged (d := s.dev.counted r) ht hok hp
    rw [he] at hrun
    refine answers_of_accepted rfl h rfl rfl hrun rfl (congrArg Health.probation hhlt) (congrArg (fun l => (l.getD r.port {}).tx) hports)
      (congrArg List.length hports) fun d hw => ⟨?_, fun h2 => ?_⟩
    · rw [Staging, hw.staged rfl]
      simp only [Dev.staging, hstaged, hnow]
      rfl
    · rw [hw.pwr rfl]
      exact hdet h2
  case detach =>
    obtain ⟨hcommit, hports, hpwr⟩ := Dev.bbxTrigger_power ((s.dev.counted r).askParked 2)
    refine startsJob_background rfl h rfl rfl hbg (Dev.opDetach_started (d := s.dev.counted r) hp hbg false) hports fun d hw hcom => ⟨?_, ?_⟩
    · rw [hw.pwr rfl]
      exact congrArg Power.parkPend hpwr
    · simp only [Dev.commits, Prod.mk.injEq] at hcom
      obtain ⟨-, hr, hwait⟩ := hcom
      rw [hr, hwait]
      exact hcommit
  case fuses =>
    have hrun := Dev.opSeal_eq (d := s.dev.counted r) hopen hpark himg hp hlen false
    rw [show (s.dev.counted r).free.1 = s.dev.free.1 from rfl] at hrun
    by_cases hz : s.dev.free.1 = 0
    · rw [if_pos hz] at hrun ⊢
      exact answers_of_refusal rfl h rfl rfl hrun rfl (by decide) (by decide) rfl rfl rfl fun d hw => by rw [hw.pwr rfl]; rfl
    · rw [if_neg hz] at hrun ⊢
      obtain ⟨hports, hhlt, hcrit, hpwr⟩ := (s.dev.counted r).free.2.sealed_keeps r.port
      refine answers_of_accepted rfl h rfl rfl hrun rfl (congrArg Health.probation hhlt)
        (congrArg (fun l => (l.getD r.port {}).tx) hports) (congrArg List.length hports) fun d hw => ?_
      rw [hw.pwr rfl, hw.crit rfl, hpwr, hcrit]
      exact ⟨rfl, hp.symm, hopen⟩
  case challenge =>
    refine answers_of_accepted rfl h rfl rfl (Dev.opDbgChallenge_eq (d := s.dev.counted r) ht hp false) rfl rfl rfl rfl fun d hw => ?_
    exact ⟨_, by rw [hw.pwr rfl]; rfl, rfl, rfl⟩
  case response =>
    obtain ⟨hports, hhlt⟩ := Dev.dbgRespond_keeps (s.dev.counted r) kPort r.port idx sig
    have hrun := Dev.opDbgResponse_eq (d := s.dev.counted r) hi hlen hp false
    have hprob := congrArg Health.probation hhlt
    have htx := congrArg (fun l => (l.getD r.port {}).tx) hports
    by_cases hok : ((s.dev.counted r).dbgRespond kPort r.port idx sig).1 = true
    · simp only [hok, if_true] at hrun ⊢
      exact answers_of_accepted rfl h rfl rfl hrun rfl hprob htx (congrArg List.length hports) fun d hw => hw.pwr rfl
    · simp only [hok] at hrun ⊢
      exact answers_of_refusal rfl h rfl rfl hrun rfl (by decide) (by decide) hprob htx (congrArg List.length hports) fun d hw => hw.pwr rfl
  case close =>
    obtain ⟨e, hrun, hports, hhlt, hdbg⟩ := Dev.opDbgClose_eq (d := s.dev.counted r) hp hd false
    refine answers_of_accepted rfl h rfl rfl hrun rfl (congrArg Health.probation hhlt)
      (congrArg (fun l => (l.getD r.port {}).tx) hports) (congrArg List.length hports)
      fun d hw => ?_
    rw [hw.pwr rfl]
    exact hdbg
  case openFree =>
    obtain ⟨e, hrun, hports, hhlt, hdbg⟩ := Dev.opDbgOpenFree_eq (d := s.dev.counted r) hp hopen hpark false
    refine answers_of_accepted rfl h rfl rfl hrun rfl (congrArg Health.probation hhlt)
      (congrArg (fun l => (l.getD r.port {}).tx) hports) (congrArg List.length hports)
      fun d hw => ?_
    rw [hw.pwr rfl]
    exact hdbg

end Sys2Proof.Machine
end

section
/-! What a reaction of the safety monitor does to the latches and leaves of the monitor (R308, R321). -/
namespace Sys2Proof.Machine
open Sys2Proof

/-! ### Units of the monitor after a change -/

section
variable {d : Dev} {n c i : Nat}

theorem Dev.safLane_onSafLane (h : n < d.saf.lanes.length) (f : SafLane → SafLane) : (d.onSafLane n f).safLane n = f (d.safLane n) := by
  simp [Dev.safLane, Dev.onSafLane, Dev.onSaf, h]

theorem Dev.conn_onConn (h : c < d.saf.conns.length) (f : Conn → Conn) : (d.onConn c f).conn c = f (d.conn c) := by
  simp [Dev.conn, Dev.onConn, Dev.onSaf, h]

theorem Dev.siPair_onPair (h : i < d.saf.pairs.length) (f : SiPair → SiPair) : (d.onPair i f).siPair i = f (d.siPair i) := by
  simp [Dev.siPair, Dev.onPair, Dev.onSaf, h]

variable (d)

/-- A safety event of the log is the last one of the monitor; nothing else of the monitor changes (R330). -/
@[simp] theorem Dev.safLog_saf (code kind idx : Nat) (data : List Byte) :
    (d.safLog code kind idx data).saf = { d.saf with lastEvt := code } := by
  simp [Dev.safLog, Dev.onSaf]

@[simp] theorem Dev.safLog_safLane (code kind idx : Nat) (data : List Byte) (m : Nat) :
    (d.safLog code kind idx data).safLane m = d.safLane m := by
  simp [Dev.safLane]

@[simp] theorem Dev.safLog_conn (code kind idx : Nat) (data : List Byte) (m : Nat) : (d.safLog code kind idx data).conn m = d.conn m := by
  simp [Dev.conn]

@[simp] theorem Dev.safLog_siPair (code kind idx : Nat) (data : List Byte) (m : Nat) :
    (d.safLog code kind idx data).siPair m = d.siPair m := by
  simp [Dev.siPair]

/-! ### Reactions -/

/-- A lane of the monitor but for its arming. -/
def SafLane.disarmed (x : SafLane) : SafLane := { x with armed := none }

theorem Dev.emuRefreshLane_safLane (k : Nat) : (d.emuRefreshLane k).safLane n = d.safLane n :=
  Within.safLane (m := .but { safLane := every }) (by simp) n rfl

theorem Dev.lowerBarriers_disarmed (ns : List Nat) : ((d.lowerBarriers ns).safLane n).disarmed = (d.safLane n).disarmed := by
  refine Dev.forEach_eq (fun e => (e.safLane n).disarmed) (fun k e => ?_) ns _
  rw [Dev.emuRefreshLane_safLane]
  by_cases hk : n = k
  · subst hk
    simp only [Dev.safLane, Dev.onSafLane, Dev.onSaf, List.getD_eq_getElem?_getD, List.getElem?_modify]
    cases e.saf.lanes[n]? <;> simp [SafLane.disarmed]
  · simp [Dev.safLane, Dev.onSafLane, Dev.onSaf, Ne.symm hk]

theorem Dev.bbxTrigger_safLane (kind : Nat) : (d.bbxTrigger kind).safLane n = d.safLane n := by
  rw [Dev.safLane, Dev.bbxTrigger_saf, Dev.safLane]

theorem Dev.laneReaction_disarmed (k : Nat) : ((d.laneReaction k).safLane n).disarmed = (d.safLane n).disarmed := by
  rw [Dev.laneReaction, Dev.bbxTrigger_safLane, Dev.lowerBarriers_disarmed]

theorem Dev.groupOff_disarmed (g : Nat) : ((d.groupOff g).safLane n).disarmed = (d.safLane n).disarmed :=
  Dev.lowerBarriers_disarmed _ _

theorem Dev.groupReaction_disarmed (gs : List Nat) : ((d.groupReaction gs).safLane n).disarmed = (d.safLane n).disarmed := by
  rw [Dev.groupReaction, Dev.bbxTrigger_safLane]
  exact Dev.forEach_eq (fun e => (e.safLane n).disarmed) (fun g e => e.groupOff_disarmed g) gs d

theorem Dev.groupReaction_own (gs : List Nat) : (d.groupReaction gs).saf.own = d.saf.own :=
  Within.saf (m := .but { saf := true }) (by simp) rfl

theorem Dev.groupReaction_conn (gs : List Nat) : (d.groupReaction gs).conn c = d.conn c :=
  Within.conn (m := .but { conn := every }) (by simp) c rfl

theorem Dev.groupReaction_siPair (gs : List Nat) : (d.groupReaction gs).siPair i = d.siPair i :=
  congrArg (fun l => l.getD i {}) (congrArg Saf.pairs (d.groupReaction_own gs))

theorem Dev.groupReaction_causes (gs : List Nat) : (d.groupReaction gs).saf.causes = d.saf.causes :=
  (congrArg Saf.causes (d.groupReaction_own gs) :)

theorem Dev.groupReaction_readback (gs : List Nat) : (d.groupReaction gs).saf.readback = d.saf.readback :=
  (congrArg Saf.readback (d.groupReaction_own gs) :)

theorem Dev.groupReaction_pulse (gs : List Nat) : (d.groupReaction gs).saf.pulse = d.saf.pulse :=
  (congrArg Saf.pulse (d.groupReaction_own gs) :)

theorem Dev.groupReaction_chainBad (gs : List Nat) : (d.groupReaction gs).saf.chainBad = d.saf.chainBad :=
  (congrArg Saf.chainBad (d.groupReaction_own gs) :)

theorem Dev.groupReaction_chainCause (gs : List Nat) : (d.groupReaction gs).saf.chainCause = d.saf.chainCause :=
  (congrArg Saf.chainCause (d.groupReaction_own gs) :)

/-! ### Latches -/

theorem Dev.lowerBarriers_soLatch (ns : List Nat) : (d.lowerBarriers ns).crit.soLatch = d.crit.soLatch := by
  unfold Dev.lowerBarriers
  dsimp only
  rw [Dev.forEach_crit _ _ fun n e => by simp]

theorem Dev.lowerBarriers_devLatch (ns : List Nat) : (d.lowerBarriers ns).crit.devLatch = d.crit.devLatch := by
  unfold Dev.lowerBarriers
  dsimp only
  rw [Dev.forEach_crit _ _ fun n e => by simp]

theorem Dev.laneReaction_soLatch (k : Nat) : (d.laneReaction k).crit.soLatch = d.crit.soLatch := by
  simp [Dev.laneReaction, Dev.lowerBarriers_soLatch]

theorem Dev.groupOff_soLatch (g : Nat) : (d.groupOff g).crit.soLatch = d.crit.soLatch ||| (1#12 <<< g) :=
  Dev.lowerBarriers_soLatch _ _

theorem Dev.groupOff_devLatch (g : Nat) : (d.groupOff g).crit.devLatch = d.crit.devLatch := Dev.lowerBarriers_devLatch _ _

/-- A group reaction sets the latches of its groups. -/
theorem Dev.groupReaction_soLatch (gs : List Nat) {g : Nat} (hg : g < 12) :
    (d.groupReaction gs).crit.soLatch.getLsbD g = (d.crit.soLatch.getLsbD g || decide (g ∈ gs)) := by
  have hsweep : (d.forEach gs fun g d => d.groupOff g).crit.soLatch = gs.foldl (fun m g => m ||| (1#12 <<< g)) d.crit.soLatch := by
    unfold Dev.forEach
    induction gs generalizing d with
    | nil => rfl
    | cons k gs ih =>
      rw [List.foldl_cons, ih, Dev.groupOff_soLatch]
      rfl
  rw [Dev.groupReaction, Dev.bbxTrigger_crit, hsweep, getLsbD_foldl_or_bit gs _ hg]

theorem Dev.groupReaction_devLatch (gs : List Nat) : (d.groupReaction gs).crit.devLatch = d.crit.devLatch := by
  rw [Dev.groupReaction, Dev.bbxTrigger_crit]
  exact Dev.forEach_eq (fun e => e.crit.devLatch) (fun g e => e.groupOff_devLatch g) gs d

/-- A group reaction brings its groups off: the latch is set and every barrier of the group is down (R308). -/
theorem Dev.groupReaction_off (gs : List Nat) {g : Nat} (hg : g < 12) (hmem : g ∈ gs) :
    (d.groupReaction gs).crit.soLatch.getLsbD g = true ∧ ∀ m ∈ lanesOfGroup g, (d.groupReaction gs).barrierUp m = false := by
  refine ⟨by rw [Dev.groupReaction_soLatch _ _ hg, decide_eq_true hmem, Bool.or_true], fun m hm => ?_⟩
  rw [Dev.groupReaction_barrierUp, mem_lanesOfGroup.1 hm]
  simp [hmem]

/-- A device reaction latches its cause (R308, Table 14-3). -/
theorem Dev.deviceReaction_causes (cause : Nat) : cause ∈ (d.deviceReaction cause).saf.causes := by
  unfold Dev.deviceReaction
  split
  next h => simpa using h
  next =>
    dsimp only
    rw [Dev.groupReaction_causes]
    simp [Dev.onSaf]

/-- A new device cause sets the latch of the device. -/
theorem Dev.deviceReaction_devLatch {cause : Nat} (hc : cause ∉ d.saf.causes) : (d.deviceReaction cause).crit.devLatch = true := by
  unfold Dev.deviceReaction
  rw [if_neg (by simpa using hc)]
  dsimp only
  rw [Dev.groupReaction_devLatch]
  simp [Dev.onSaf]

end

theorem Dev.Sized.safLane_lt {d : Dev} (hs : d.Sized) {n : Nat} (h : hasLane n d = true) : n < d.saf.lanes.length := by
  obtain ⟨-, hl, -, -, -, -, -, -, -, -, hsl, -⟩ := id hs
  rw [hsl, ← hl]
  exact Dev.Sized.lane_lt hs h

theorem groupOf_lt {d : Dev} {n : Nat} (h : hasLane n d = true) : groupOf n < 12 := by
  have h1 : n < d.laneCount := of_decide_eq_true h
  have h2 := d.laneCount_le
  unfold groupOf
  omega

end Sys2Proof.Machine
end

section
/-! The watch path and the timers of the safety monitor (R301–R304, R306–R308, R317, R321). -/
namespace Sys2Proof.Machine
open Sys2Proof

section
variable {d : Dev} {n : Nat}

/-! ### Watch path -/

theorem Dev.onSafLane_saf_lanes_length (f : SafLane → SafLane) : (d.onSafLane n f).saf.lanes.length = d.saf.lanes.length := by
  simp [Dev.onSafLane, Dev.onSaf]

/-- What no count of a sample changes: magnitude, instant, validity. -/
def SafLane.sampled (x : SafLane) : Nat × Option Time × Bool × Nat := (x.mag, x.sampleT, x.inv, x.good)

theorem Dev.sampled_onSafLane (m : Nat) (f : SafLane → SafLane) (hf : ∀ x, (f x).sampled = x.sampled) :
    ((d.onSafLane m f).safLane n).sampled = (d.safLane n).sampled := by
  by_cases hm : n = m
  · subst hm
    simp only [Dev.safLane, Dev.onSafLane, Dev.onSaf, List.getD_eq_getElem?_getD, List.getElem?_modify]
    cases d.saf.lanes[n]? <;> simp [hf]
  · simp [Dev.safLane, Dev.onSafLane, Dev.onSaf, Ne.symm hm]

theorem Dev.countSample_sampled (f : Nat) : ((d.countSample_ n f).safLane n).sampled = (d.safLane n).sampled := by
  unfold Dev.countSample_
  split
  · exact Dev.sampled_onSafLane n _ fun _ => rfl
  · exact Dev.sampled_onSafLane n _ fun _ => rfl

theorem Dev.countSample_crit (d : Dev) (n f : Nat) : (d.countSample_ n f).crit = d.crit := by
  unfold Dev.countSample_
  split <;> rfl

theorem Dev.countSamples_sampled (d : Dev) : ((d.forEach [0, 1, 2] fun f d => d.countSample_ n f).safLane n).sampled = (d.safLane n).sampled :=
  Dev.forEach_eq (fun e => (e.safLane n).sampled) (fun f _ => Dev.countSample_sampled f) _ d

theorem Dev.countSamples_crit : (d.forEach [0, 1, 2] fun f d => d.countSample_ n f).crit = d.crit :=
  Dev.forEach_crit d _ fun f e => e.countSample_crit n f

/-- A sample of the watch path is taken with its magnitude; one below the least magnitude is invalid (R301, R303). -/
theorem Dev.watchSample_takes (hn : n < d.saf.lanes.length) (a b : Int) :
    ((d.watchSample n a b).safLane n).mag = satNat 16 (isqrt (a * a + b * b).toNat) ∧
      ((d.watchSample n a b).safLane n).sampleT = some d.now ∧ (d.watchSample n a b).crit = d.crit ∧
      (d.recordUsed n = true → satNat 16 (isqrt (a * a + b * b).toNat) < (d.laneP n 12).toNat →
        ((d.watchSample n a b).safLane n).inv = true ∧ ((d.watchSample n a b).safLane n).good = 0) := by
  unfold Dev.watchSample
  extract_lets x theta mag dth t d1 ok w h p v sos sdi d2 d3
  have hlen : n < d1.saf.lanes.length := by rwa [Dev.onSafLane_saf_lanes_length]
  have hlane1 : d1.safLane n = { d.safLane n with theta := theta, mag := mag, sampleT := some t } := Dev.safLane_onSafLane hn _
  have hlane2 : (d2.safLane n).sampled = (mag, some t, true, 0) := by
    rw [show d2.safLane n = _ from Dev.safLane_onSafLane hlen _, hlane1]
    rfl
  have hrec : d1.recordUsed n = d.recordUsed n := rfl
  have hp12 : d1.laneP n 12 = d.laneP n 12 := rfl
  have hbad : mag < (d.laneP n 12).toNat → ok = false := fun h => by simp [ok, hp12, Nat.not_le.2 h]
  have hlane3 : (d3.safLane n).mag = mag ∧ (d3.safLane n).sampleT = some t ∧ d3.crit = d.crit ∧
      (ok = false → (d3.safLane n).sampled = (mag, some t, true, 0)) := by
    clear_value ok
    cases ok with
    | true =>
      have h3 : d3.safLane n = _ := Dev.safLane_onSafLane hlen _
      rw [h3, hlane1]
      exact ⟨rfl, rfl, rfl, fun h => by cases h⟩
    | false =>
      have h3 : (d3.safLane n).sampled = (mag, some t, true, 0) := by
        simp only [d3, Bool.false_eq_true, if_false]
        split
        · exact hlane2
        · rw [Dev.safLog_safLane, hlane2]
      have hcrit : d3.crit = d.crit := by
        simp only [d3, Bool.false_eq_true, if_false]
        split
        · rfl
        · rw [Dev.safLog_crit]
          rfl
      exact ⟨congrArg Prod.fst h3, congrArg (·.2.1) h3, hcrit, fun _ => h3⟩
  obtain ⟨hmag, hT, hcrit, hinvalid⟩ := hlane3
  rw [hrec]
  by_cases hu : d.recordUsed n = true
  · have hcount := d3.countSamples_sampled (n := n)
    rw [if_neg (by simp [hu]), Dev.countSamples_crit]
    refine ⟨(congrArg Prod.fst hcount).trans hmag, (congrArg (·.2.1) hcount).trans hT, hcrit, fun _ hlow => ?_⟩
    have hs := hcount.trans (hinvalid (hbad hlow))
    exact ⟨congrArg (·.2.2.1) hs, congrArg (·.2.2.2) hs⟩
  · rw [if_pos (by simpa using hu), hlane1]
    exact ⟨rfl, rfl, rfl, fun h => absurd h hu⟩

/-- A function in violation for `FILT` samples brings its group off (R307, R308). -/
theorem Dev.safetyViolation_off (hl : hasLane n d = true) (hn : n < d.saf.lanes.length) {fn : Nat} (h1 : 1 ≤ fn) (h3 : fn ≤ 3)
    (hrec : d.recordUsed n = true) (hact : d.fnActive n (fn - 1) = true) (hc : (d.safLane n).caused.getD (fn - 1) false = false)
    (hfilt : (d.laneP n 2).toNat ≤ (d.safLane n).cnt.getD (fn - 1) 0) :
    ((d.safetyViolation n fn).safLane n).viol = true ∧ (d.safetyViolation n fn).crit.soLatch.getLsbD (groupOf n) = true ∧
      ∀ m ∈ lanesOfGroup (groupOf n), (d.safetyViolation n fn).barrierUp m = false := by
  unfold Dev.safetyViolation
  dsimp only
  rw [if_neg (by simp only [hrec, hact, hc, Bool.not_true, Bool.false_eq_true, false_or]; omega)]
  refine ⟨?_, Dev.groupReaction_off _ _ (groupOf_lt hl) (by simp)⟩
  have hd := congrArg SafLane.viol (Dev.groupReaction_disarmed (n := n) (((d.onSafLane n fun x =>
    { x with caused := x.caused.set (fn - 1) true, viol := true }).addCnt .safCnt n 16 16).safLog 0x0B03 kLane n
      ([BitVec.ofNat 8 fn] ++ zeros 3 ++ ev8 (unsigned 64 (d.safLane n).pos) ++ wordBytes (d.safLane n).vel)) [groupOf n])
  refine hd.trans ?_
  rw [Dev.safLog_safLane]
  exact congrArg (fun x : SafLane => x.viol) (Dev.safLane_onSafLane hn _)

/-- The third comparison beyond the window brings the group off (R304, R308). -/
theorem Dev.xcmpFail_off (hl : hasLane n d = true) (hn : n < d.saf.lanes.length) (hx : (d.safLane n).xFail = false)
    (hrun : 3 ≤ (d.safLane n).xRun) : ((d.xcmpFail n).safLane n).xFail = true ∧ (d.xcmpFail n).crit.soLatch.getLsbD (groupOf n) = true ∧
      ∀ m ∈ lanesOfGroup (groupOf n), (d.xcmpFail n).barrierUp m = false := by
  unfold Dev.xcmpFail
  dsimp only
  rw [if_neg (by simp [hx, hrun])]
  refine ⟨?_, Dev.groupReaction_off _ _ (groupOf_lt hl) (by simp)⟩
  have hd := congrArg SafLane.xFail (Dev.groupReaction_disarmed (n := n) ((d.onSafLane n fun x => { x with xFail := true }).safLog 0x0B04
    kLane n (wordBytes (d.safLane n).xDev)) [groupOf n])
  refine hd.trans ?_
  rw [Dev.safLog_safLane]
  exact congrArg (fun x : SafLane => x.xFail) (Dev.safLane_onSafLane hn _)

/-! ### Timers -/

/-- The timer of SS1 of a lane's container expires: the lane is brought down, and no latch is set (R306). -/
theorem Dev.ss1Expiry_lane (hn : n < d.saf.lanes.length) {e : Time} (h : (d.safLane n).ss1T = some e) :
    ((d.ss1Expiry n).safLane n).ss1T = none ∧ ((d.ss1Expiry n).safLane n).ss1End = true ∧ (d.ss1Expiry n).barrierUp n = false ∧
      (∀ m < 96, m ≠ n → (d.ss1Expiry n).barrierUp m = d.barrierUp m) ∧ (d.ss1Expiry n).crit.soLatch = d.crit.soLatch := by
  unfold Dev.ss1Expiry
  rw [h]
  dsimp only
  have hlane := Dev.laneReaction_disarmed (n := n) ((((d.at e).onSafLane n fun x => { x with ss1T := none, ss1End := true })).safLog 0x0B01
    kLane n (ev4 2)) n
  rw [Dev.safLog_safLane, Dev.safLane_onSafLane (d := d.at e) hn] at hlane
  refine ⟨(congrArg SafLane.ss1T hlane :), (congrArg SafLane.ss1End hlane :), by simp [Dev.laneReaction_barrierUp], fun m hm hne => ?_, ?_⟩
  · rw [Dev.laneReaction_barrierUp, decide_eq_true hne, Bool.and_true]
    simp [Dev.barrierUp]
  · simp [Dev.laneReaction_soLatch]

/-- The failure of a connection brings the groups of its lanes off (R317). -/
theorem Dev.connFail_off {c cause : Nat} (hc : c < d.saf.conns.length) :
    ((d.connFail c cause).conn c).st = .fail ∧ ((d.connFail c cause).conn c).failed = true ∧
      ∀ n ∈ d.params.connLanes c, n < 96 →
        (d.connFail c cause).barrierUp n = false ∧ (d.connFail c cause).crit.soLatch.getLsbD (groupOf n) = true := by
  unfold Dev.connFail
  extract_lets d1 d2 gs
  have hconn : d2.conn c = { d.conn c with st := .fail, failed := true } := by
    rw [Dev.safLog_conn]
    exact Dev.conn_onConn hc _
  have hparams : d2.params = d.params := by simp [d2, d1, Dev.params, Dev.onConn, Dev.onSaf]
  have hgs : ∀ n ∈ d.params.connLanes c, groupOf n ∈ gs := fun n hn => by
    simp only [gs, hparams, List.mem_eraseDups, List.mem_map]
    exact ⟨n, hn, rfl⟩
  split
  next he =>
    rw [hconn]
    refine ⟨rfl, rfl, fun n hn => ?_⟩
    have := hgs n hn
    simp only [List.isEmpty_iff] at he
    simp [he] at this
  next =>
    rw [Dev.groupReaction_conn, hconn]
    refine ⟨rfl, rfl, fun n hn h96 => ?_⟩
    obtain ⟨hlatch, hdown⟩ := Dev.groupReaction_off d2 gs (g := groupOf n) (by unfold groupOf; omega) (hgs n hn)
    exact ⟨hdown n (mem_lanesOfGroup.2 rfl), hlatch⟩

end

/-- Settles O40: a sample is taken with its magnitude; a violation and a failed comparison run the group reaction. -/
theorem watchEventsAct : Obligations.WatchEventsAct := by
  unfold Obligations.WatchEventsAct
  intro s t n ha hs hl
  have hn : n < s.dev.saf.lanes.length := hs.safLane_lt hl
  simp only [runs_iff, Machine.exec]
  refine ⟨fun a b => .onEvent hl ha (Dev.watchSample_takes (d := s.dev.at t) hn a b),
    fun fn h1 h3 hrec hact hc hfilt => .onEvent hl ha (Dev.safetyViolation_off (d := s.dev.at t) hl hn h1 h3 hrec hact hc hfilt),
    fun hx hrun => .onEvent hl ha (Dev.xcmpFail_off (d := s.dev.at t) hl hn hx hrun)⟩

/-- Settles O41: each timer acts at the instant that the state holds; a lane's own timer brings down its barrier alone, a lost
connection its groups. -/
theorem safetyTimersAct : Obligations.SafetyTimersAct := by
  unfold Obligations.SafetyTimersAct
  intro s ha hs
  simp only [runs_iff, Machine.exec]
  refine ⟨fun n e hl he => .onExpiry hl ha ?_, fun n e hl he => .onExpiry hl ha (Dev.ss1Expiry_lane (hs.safLane_lt hl) he),
    fun c hc hok => .onExpiry (decide_eq_true hc) ha ?_⟩
  · rw [Dev.armingExpiry, he]
    exact ⟨congrArg SafLane.armed (Dev.safLane_onSafLane (d := s.dev.at e) (hs.safLane_lt hl) _), rfl, rfl⟩
  · have hlen : c < s.dev.saf.conns.length := by
      obtain ⟨-, -, -, -, -, -, -, -, -, -, -, hconns, -⟩ := hs
      omega
    obtain ⟨hst, hfailed, hoff⟩ := Dev.connFail_off (d := s.dev.at (s.dev.connDeadline c)) (cause := 1) hlen
    rw [Dev.connWatchdog, if_pos hok]
    exact ⟨hst, hfailed, by simp, hoff⟩

end Sys2Proof.Machine
end

section
/-! The SI inputs, the SO outputs and the self-tests (R305, R308, R312, R313). -/
namespace Sys2Proof.Machine
open Sys2Proof

section
variable {d : Dev}

/-! ### SI inputs -/

/-- A level of an SI input is taken with its instant (R313). -/
theorem Dev.siLevel_takes {k : Nat} (hk : k < d.saf.levels.length) (hkT : k < d.saf.levelT.length) (v : Bool) :
    (d.siLevel k v).saf.levels.getD k false = v ∧ (d.siLevel k v).crit = d.crit ∧
      (d.saf.levels.getD k false ≠ v → (d.siLevel k v).saf.levelT.getD k 0 = d.now) := by
  unfold Dev.siLevel
  split
  next h => exact ⟨h, rfl, fun hne => absurd h hne⟩
  next =>
    extract_lets t e i
    have hlevel : e.saf.levels.getD k false = v ∧ e.crit = d.crit ∧ e.saf.levelT.getD k 0 = d.now := by
      simp [e, t, Dev.onSaf, hk, hkT]
    obtain ⟨hl, hc, hT⟩ := hlevel
    split
    · exact ⟨hl, hc, fun _ => hT⟩
    · exact ⟨hl, hc, fun _ => hT⟩
    · exact ⟨hl, hc, fun _ => hT⟩

/-- The sweep of an SS1 demand touches no SI pair, and no latch (R313). -/
theorem Dev.siStops_keeps {i : Nat} (ns : List Nat) (f : SafLane → SafLane) (g : Dev → Nat → List Byte) :
    (d.forEach ns fun n d => (d.onSafLane n f).safLog 0x0B02 kLane n (g d n)).siPair i = d.siPair i ∧
      (d.forEach ns fun n d => (d.onSafLane n f).safLog 0x0B02 kLane n (g d n)).crit = d.crit := by
  refine ⟨Dev.forEach_eq (fun e => e.siPair i) (fun n e => ?_) ns d, Dev.forEach_crit d ns fun n e => ?_⟩
  · rw [Dev.safLog_siPair]
    rfl
  · rw [Dev.safLog_crit]
    rfl

theorem Dev.siLogs_siPair {i : Nat} (ns : List Nat) : (d.forEach ns fun n d => d.safLog 0x0B01 kLane n (ev4 1)).siPair i = d.siPair i :=
  Dev.forEach_eq (fun e => e.siPair i) (fun _ e => e.safLog_siPair ..) ns d

theorem Dev.groupCount_le (d : Dev) : d.groupCount ≤ 12 := by
  unfold Dev.groupCount
  split <;> decide

theorem Dev.siGroups_lt {i g : Nat} (h : g ∈ d.siGroups i) : g < 12 := by
  simp only [Dev.siGroups, List.mem_filter, List.mem_range] at h
  exact h.1.trans_le d.groupCount_le

/-- The reaction of a demand: the timer of SS1 starts, or the groups mapped to the pair come off (R313). -/
theorem Dev.siReact_acts {i : Nat} (hi : i < d.saf.pairs.length) :
    ((d.siReact i).siPair i).demand = (d.siPair i).demand ∧
      (d.siFunc i = 2 → ((d.siReact i).siPair i).ss1T.isSome = true ∧ (d.siReact i).crit = d.crit) ∧
      (d.siFunc i ≠ 2 → ∀ g ∈ d.siGroups i, (d.siReact i).crit.soLatch.getLsbD g = true ∧
        ∀ m ∈ lanesOfGroup g, (d.siReact i).barrierUp m = false) := by
  unfold Dev.siReact
  extract_lets gs ns ms e d1
  by_cases hf : d.siFunc i = 2
  · rw [if_pos hf]
    obtain ⟨hpair, hcrit⟩ := Dev.siStops_keeps (d := d1) (i := i) ns (fun x => { x with ss1Stop := true, armed := none })
      fun d n => ev4 (d.laneP n 3).toNat
    have h1 : d1.siPair i = { d.siPair i with ss1T := some e } := Dev.siPair_onPair hi _
    rw [hpair, hcrit, h1]
    exact ⟨rfl, fun _ => ⟨rfl, rfl⟩, fun h => absurd hf h⟩
  · rw [if_neg hf]
    refine ⟨?_, fun h => absurd h hf, fun _ g hmem => Dev.groupReaction_off _ gs (Dev.siGroups_lt hmem) hmem⟩
    rw [Dev.groupReaction_siPair, Dev.siLogs_siPair]

/-- A pair that changes keeps what the set in force says of it. -/
theorem Dev.onPair_log_keeps (i : Nat) (f : SiPair → SiPair) (code kind idx : Nat) (data : List Byte) (j : Nat) :
    (((d.onPair i f).safLog code kind idx data)).siFunc j = d.siFunc j ∧
      (((d.onPair i f).safLog code kind idx data)).siGroups j = d.siGroups j := by
  have hparams : ((d.onPair i f).safLog code kind idx data).params = d.params := by simp [Dev.params, Dev.onPair, Dev.onSaf]
  have hcount : ((d.onPair i f).safLog code kind idx data).groupCount = d.groupCount :=
    Dev.groupCount_of_variant (by rw [Dev.safLog_variant]; rfl)
  simp only [Dev.siFunc, Dev.siGroups, Dev.devP, hparams, hcount, and_self]

/-- A demand held for 500 µs acts by the function of its pair (R313). -/
theorem Dev.siDemand_acts {i k : Nat} (hi : i < d.saf.pairs.length) (hk : k < 2) (hmode : d.siMode i ≠ 0)
    (hnew : (d.siPair i).demand = false) (hd : d.siAtDemand i k = true)
    (hheld : d.saf.levelT.getD (2 * i + k) 0 + 500 * unitsPerUs ≤ d.now) :
    ((d.siDemand i).siPair i).demand = true ∧
      (d.siFunc i = 2 → ((d.siDemand i).siPair i).ss1T.isSome = true ∧ (d.siDemand i).crit = d.crit) ∧
      (d.siFunc i ≠ 2 → ∀ g ∈ d.siGroups i, (d.siDemand i).crit.soLatch.getLsbD g = true ∧
        ∀ m ∈ lanesOfGroup g, (d.siDemand i).barrierUp m = false) := by
  unfold Dev.siDemand
  extract_lets held both e
  have hor : (held 0 || held 1) = true := by
    have hone : held k = true := by simp only [held, hd, hheld, decide_true, Bool.and_self]
    interval_cases k <;> simp [hone]
  rw [if_neg (by simp only [hmode, hnew, hor]; decide)]
  obtain ⟨hfunc, hgroups⟩ := Dev.onPair_log_keeps (d := d) i (fun p => { p with demand := true, both := both || p.both }) 0x0B08 kSi i
    (ev4 d.siLevels) i
  obtain ⟨hdem, hss1, hsto⟩ := Dev.siReact_acts (d := e) (i := i) (by simpa [e, Dev.onPair, Dev.onSaf] using hi)
  have hpair : e.siPair i = { d.siPair i with demand := true, both := both || (d.siPair i).both } := by
    rw [Dev.safLog_siPair]
    exact Dev.siPair_onPair hi _
  have hcrit : e.crit = d.crit := by
    rw [Dev.safLog_crit]
    rfl
  rw [hfunc, hcrit] at hss1
  rw [hfunc, hgroups] at hsto
  exact ⟨by rw [hdem, hpair], hss1, hsto⟩

/-- A discrepancy past its time brings the groups mapped to the pair off (R313). -/
theorem Dev.siDiscrepancy_off {i : Nat} (hi : i < d.saf.pairs.length) (hmode : d.siMode i ≠ 0) (hnew : (d.siPair i).disc = false)
    (hdiff : d.siAtDemand i 0 ≠ d.siAtDemand i 1)
    (hpast : max (d.saf.levelT.getD (2 * i) 0) (d.saf.levelT.getD (2 * i + 1) 0) + 1000 * unitsPerUs * d.devP (4 + i) < d.now) :
    ((d.siDiscrepancy i).siPair i).disc = true ∧ ∀ g ∈ d.siGroups i, (d.siDiscrepancy i).crit.soLatch.getLsbD g = true ∧
      ∀ m ∈ lanesOfGroup g, (d.siDiscrepancy i).barrierUp m = false := by
  unfold Dev.siDiscrepancy
  extract_lets since e
  rw [if_neg (by simp only [hmode, hnew, hdiff, Nat.not_le.2 hpast, since]; decide)]
  obtain ⟨-, hgroups⟩ := Dev.onPair_log_keeps (d := d) i (fun p => { p with disc := true }) 0x0B08 kSi i (ev4 d.siLevels) i
  have hpair : e.siPair i = { d.siPair i with disc := true } := by
    rw [Dev.safLog_siPair]
    exact Dev.siPair_onPair hi _
  refine ⟨by rw [Dev.groupReaction_siPair, hpair], fun g hg => ?_⟩
  exact Dev.groupReaction_off e _ (Dev.siGroups_lt hg) (by rw [hgroups]; exact hg)

/-! ### SO outputs -/

section
variable {g : Nat}

/-- An SO found stuck on is a device cause (R312). -/
theorem Dev.soStuck_latches (hg : g < d.saf.readback.length) :
    (d.soStuck g).saf.readback.getD g 0 = 2 ∧ 4 ∈ (d.soStuck g).saf.causes := by
  refine ⟨?_, Dev.deviceReaction_causes _ 4⟩
  unfold Dev.soStuck Dev.deviceReaction
  split
  · simp [Dev.onSaf, hg]
  · dsimp only
    rw [Dev.groupReaction_readback]
    simp [Dev.onSaf, hg]

/-- The pulse of an SO that is on begins (R312). -/
theorem Dev.soPulse_begins (hg : g < d.saf.pulse.length) (hon : d.soOn g = true) (hnone : d.saf.pulse.getD g none = none) :
    (d.soPulse g).saf.pulse.getD g none = some d.now ∧ (d.soPulse g).crit = d.crit := by
  unfold Dev.soPulse
  rw [if_neg (by simp only [hon, hnone]; decide)]
  simp [Dev.onSaf, hg]

/-- The end of a pulse: the readback followed, or the output is stuck on (R312). -/
theorem Dev.soPulseEnd_ends (hg : g < d.saf.pulse.length) (hrb : g < d.saf.readback.length) {u : Time}
    (hu : d.saf.pulse.getD g none = some u) :
    ((d.soPulseEnd g true).saf.pulse.getD g none = none ∧ (d.soPulseEnd g true).crit = d.crit) ∧
      (d.soPulseEnd g false).saf.pulse.getD g none = none ∧ (d.soPulseEnd g false).saf.readback.getD g 0 = 2 ∧
        4 ∈ (d.soPulseEnd g false).saf.causes := by
  unfold Dev.soPulseEnd
  rw [hu]
  dsimp only
  rw [if_pos rfl, if_neg (by decide)]
  have hpulse : (d.onSaf fun s => { s with pulse := s.pulse.set g none }).saf.pulse.getD g none = none := by
    simp [Dev.onSaf, hg]
  obtain ⟨hread, hcause⟩ := Dev.soStuck_latches (d := d.onSaf fun s => { s with pulse := s.pulse.set g none }) (g := g) hrb
  refine ⟨⟨hpulse, rfl⟩, ?_, hread, hcause⟩
  unfold Dev.soStuck Dev.deviceReaction
  split
  · rw [Dev.safLog_saf]
    exact hpulse
  · dsimp only
    rw [Dev.groupReaction_pulse, Dev.safLog_saf]
    simpa only [Dev.onSaf, Dev.safLog_saf] using hpulse

/-- A readback that is low while its output is on brings the group off (R312). -/
theorem Dev.soReadback_low (hg12 : g < 12) (hg : g < d.saf.readback.length) (hon : d.soOn g = true)
    (hnone : d.saf.pulse.getD g none = none) (hrb : d.saf.readback.getD g 0 = 0) :
    (d.soReadback g 1).saf.readback.getD g 0 = 1 ∧ (d.soReadback g 1).crit.soLatch.getLsbD g = true ∧
      ∀ m ∈ lanesOfGroup g, (d.soReadback g 1).barrierUp m = false := by
  unfold Dev.soReadback
  extract_lets rb e
  rw [if_neg (by decide), if_pos rfl, if_neg (by simp only [hon, hnone, rb, hrb]; decide)]
  refine ⟨?_, Dev.groupReaction_off _ _ hg12 (by simp)⟩
  rw [Dev.groupReaction_readback]
  simp [e, Dev.onSaf, hg]

/-- A self-test of a watch chain that fails brings its group off (R305). -/
theorem Dev.chainTest_fails (hg12 : g < 12) (hbad : g < d.saf.chainBad.length) (hcause : g < d.saf.chainCause.length)
    (hnew : d.saf.chainCause.getD g false = false) :
    (d.safetySelfTest 4 g false).saf.chainBad.getD g false = true ∧ (d.safetySelfTest 4 g false).saf.chainCause.getD g false = true ∧
      (d.safetySelfTest 4 g false).crit.soLatch.getLsbD g = true := by
  unfold Dev.safetySelfTest
  extract_lets t was e
  rw [if_pos rfl, if_neg (by decide), if_neg (by simp only [was, hnew]; decide)]
  obtain ⟨hlatch, -⟩ := Dev.groupReaction_off (e.safLog 0x0B05 kGroup g (ev4 0 ++ ev4 4)) [g] hg12 (by simp)
  refine ⟨?_, ?_, hlatch⟩
  · rw [Dev.groupReaction_chainBad]
    simp [e, Dev.onSaf, hbad]
  · rw [Dev.groupReaction_chainCause]
    simp [e, Dev.onSaf, hcause]

/-- A self-test of the monitor itself that fails is a device cause (R305). -/
theorem Dev.monitorTest_fails {kind : Nat} (hk : kind = 1 ∨ kind = 2) (hnew : kind ∉ d.saf.causes) :
    kind ∈ (d.safetySelfTest kind g false).saf.causes ∧ (d.safetySelfTest kind g false).crit.devLatch = true ∧
      ∀ m < 96, hasLane m d = true → (d.safetySelfTest kind g false).barrierUp m = false := by
  have htest : d.safetySelfTest kind g false = d.deviceReaction kind := by
    unfold Dev.safetySelfTest
    rw [if_neg (by omega), if_neg (by rcases hk with rfl | rfl <;> simp)]
  rw [htest]
  refine ⟨d.deviceReaction_causes kind, d.deviceReaction_devLatch hnew, fun m _ hm => ?_⟩
  rw [Dev.deviceReaction_barrierUp d hnew, hasGroup_of_lt_laneCount (of_decide_eq_true hm)]
  simp

end
end

/-- Settles O42: a level is taken; a demand and a discrepancy past their times react on the groups mapped to their pair. -/
theorem safetyInputsAct : Obligations.SafetyInputsAct := by
  unfold Obligations.SafetyInputsAct
  intro s t ha hs
  obtain ⟨hpairs, hlevels, hlevelT⟩ : s.dev.saf.pairs.length = 2 ∧ s.dev.saf.levels.length = 4 ∧ s.dev.saf.levelT.length = 4 := by
    obtain ⟨-, -, -, -, -, -, -, -, -, -, -, -, hp, hl, hT, -⟩ := hs
    exact ⟨hp, hl, hT⟩
  simp only [runs_iff, Machine.exec]
  refine ⟨fun k v hk => .onEvent (decide_eq_true hk) ha ?_, fun i k hi hk hmode hnew hd hheld => .onEvent (decide_eq_true hi) ha ?_,
    fun i hi hmode hnew hdiff hpast => .onEvent (decide_eq_true hi) ha ?_⟩
  · exact Dev.siLevel_takes (d := s.dev.at t) (hk.trans_eq hlevels.symm) (hk.trans_eq hlevelT.symm) v
  · exact Dev.siDemand_acts (d := s.dev.at t) (hi.trans_eq hpairs.symm) hk hmode hnew hd hheld
  · exact Dev.siDiscrepancy_off (d := s.dev.at t) (hi.trans_eq hpairs.symm) hmode hnew hdiff hpast

/-- Settles O43: a pulse begins and ends; a readback fault and a failed self-test react on their group or on the device. -/
theorem safetyOutputsAct : Obligations.SafetyOutputsAct := by
  unfold Obligations.SafetyOutputsAct
  intro s t g ha hs hg
  have hg12 : g < 12 := (of_decide_eq_true hg : g < s.dev.groupCount).trans_le s.dev.groupCount_le
  obtain ⟨hbad, hcause, hrb, hpulse⟩ : g < s.dev.saf.chainBad.length ∧ g < s.dev.saf.chainCause.length ∧
      g < s.dev.saf.readback.length ∧ g < s.dev.saf.pulse.length := by
    obtain ⟨-, -, -, -, -, -, -, -, -, -, -, -, -, -, -, h1, h2, -, h3, h4⟩ := hs
    omega
  simp only [runs_iff, Machine.exec]
  refine ⟨fun hon hnone => .onEvent hg ha (Dev.soPulse_begins (d := s.dev.at t) hpulse hon hnone), fun u hu => ?ends,
    fun hon hnone hr => .onEvent hg ha (Dev.soReadback_low (d := s.dev.at t) hg12 hrb hon hnone hr), fun hoff hr => ?stuck,
    fun hr => ?agrees, fun hnew => .onEvent hg ha (Dev.chainTest_fails (d := s.dev.at t) hg12 hbad hcause hnew),
    fun kind hk hnew => .onEvent hg ha (Dev.monitorTest_fails (d := s.dev.at t) hk hnew)⟩
  case ends =>
    obtain ⟨hlow, hhigh⟩ := Dev.soPulseEnd_ends (d := s.dev.at t) hpulse hrb hu
    exact ⟨.onEvent hg ha hlow, .onEvent hg ha hhigh⟩
  case stuck =>
    refine .onEvent hg ha ?_
    have hrun : (s.dev.at t).soReadback g 2 = (s.dev.at t).soStuck g := by
      unfold Dev.soReadback
      dsimp only
      rw [if_neg (by decide), if_neg (by decide), if_pos rfl, if_neg]
      rintro (h | h)
      · exact Bool.false_ne_true (hoff.symm.trans h)
      · exact hr h
    rw [hrun]
    exact Dev.soStuck_latches hrb
  case agrees =>
    refine .onEvent hg ha ?_
    have hrun : (s.dev.at t).soReadback g 0 = (s.dev.at t).onSaf fun x => { x with readback := x.readback.set g 0 } := by
      unfold Dev.soReadback
      dsimp only
      rw [if_pos rfl]
      exact if_pos hr
    rw [hrun]
    exact ⟨by simp [Dev.onSaf, hrb], rfl⟩

end Sys2Proof.Machine
end

section
/-! Reset, boot, presence, power fail, DORMANT and the wakes (R335, R336, R338–R343, R387, R388, R407). -/
namespace Sys2Proof.Machine
open Sys2Proof

/-! ### What the boot ROM leaves of the power unit -/

/-- The power unit without what the choice of the image and of the slot decides (R333–R336). -/
def Power.kept (x : Power) : Power := { x with image := [], imageOk := false, fallback := false, recovery := false }

theorem Power.of_kept {x y : Power} (h : x.kept = { y.kept with booting := true }) : x.booting = true ∧ x.booted = y.booted ∧
    x.st = y.st ∧ x.wake = y.wake ∧ x.rstCause = y.rstCause :=
  ⟨(congrArg Power.booting h :), (congrArg Power.booted h :), (congrArg Power.st h :), (congrArg Power.wake h :),
    (congrArg Power.rstCause h :)⟩

theorem Dev.foldl_keeps {α β : Type} (g : Dev → β) (f : Dev → α → Dev) (hf : ∀ d a, g (f d a) = g d) (l : List α) (d : Dev) :
    g (l.foldl f d) = g d := by
  induction l generalizing d with
  | nil => rfl
  | cons a l ih => exact (ih _).trans (hf d a)

section
variable (d : Dev)

@[simp] theorem Dev.mramWrite_pwr (k : Nat) : (d.mramWrite k).pwr = d.pwr := (rfl)

@[simp] theorem Dev.chooseImage_pwrKept : d.chooseImage.pwr.kept = d.pwr.kept := by
  unfold Dev.chooseImage
  dsimp only
  split
  · rfl
  · split
    · simp only [Dev.mramWrite_pwr, Dev.onRegion, Dev.onHlt_pwr, Dev.onPwr, Dev.logEvent_pwr]
      rfl
    · rw [Dev.logEvent_pwr]

theorem Dev.loadProtWord_pwr (m : List Host.Cell) (i : Nat) : (d.loadProtWord m i).pwr = d.pwr := by
  unfold Dev.loadProtWord
  split <;> rfl

/-- The protection block is written from the image where it verifies; the power unit keeps all but that verdict (R333). -/
@[simp] theorem Dev.writeProt_pwrKept : d.writeProt.pwr.kept = d.pwr.kept := by
  unfold Dev.writeProt
  dsimp only
  rw [Dev.setReg_pwr]
  split
  · rw [Dev.loadProt, Dev.foldl_keeps Dev.pwr _ fun d i => d.loadProtWord_pwr _ i]
    rfl
  · rw [Dev.foldl_keeps Dev.pwr _ fun d i => Dev.setReg_pwr ..]
    rfl

@[simp] theorem Dev.loadOdo_pwr : d.loadOdo.pwr = d.pwr := by
  unfold Dev.loadOdo
  split
  · rfl
  · rw [Dev.logEvent_pwr]
    rfl

theorem Dev.chooseSlot_pwr : d.chooseSlot.2.pwr = { d.pwr with fallback := d.chooseSlot.2.pwr.fallback } := by
  unfold Dev.chooseSlot
  dsimp only
  split
  · rfl
  · split
    · simp only [Dev.onPwr, Dev.logEvent_pwr]
    · simp only [Dev.logEvent_pwr]

/-- The boot ROM up to the choice of the slot. -/
def Dev.bootHead : Dev :=
  let e := d.onPwr fun x => { x with booting := true, recovery := false, fallback := false }
  let e := e.onBbx fun b => { b with ring := [], nextSeq := match b.commit with
    | some c => (c.newest + 1) % 65536
    | none => 0 }
  let e := (e.chooseImage.writeProt).loadOdo
  e.onHlt fun h => { h with hourFrom := e.now, dieAt := e.now }

/-- The boot ROM's last steps, on the slot that it has chosen. -/
def Dev.bootSlot (slot : Option Nat) : Dev :=
  let e := d.onHlt fun h => { h with slotVer := [0, 1].map fun i => ((d.region i).firmware, (d.region i).security) }
  let slot := if e.crit.sealed && !e.pwr.imageOk then none else slot
  let e := e.onHlt fun h => { h with runSlot := slot.getD 3 }
  let e := e.onPwr fun x => { x with recovery := slot.isNone }
  let e := if e.hlt.probMark && slot.isSome then
      (e.onHlt fun h => { h with probMark := false }).logEvent 0x0D06 kDevice 0 (ev4 8)
    else e
  e.setReg .protBoot 0 (at_ 4 e.pwr.rstCause ||| at_ 0 (slot.getD 3) ||| bits [(3, e.pwr.recovery), (2, e.pwr.fallback)])

theorem Dev.bootRom_eq : d.bootRom = d.bootHead.chooseSlot.2.bootSlot d.bootHead.chooseSlot.1 := rfl

theorem Dev.bootHead_pwrKept : d.bootHead.pwr.kept = { d.pwr.kept with booting := true } := by
  unfold Dev.bootHead
  dsimp only
  rw [Dev.onHlt_pwr, Dev.loadOdo_pwr, Dev.writeProt_pwrKept, Dev.chooseImage_pwrKept]
  rfl

/-- A SEALED device without a verified image goes to recovery, and recovery runs no slot (R336). -/
theorem Dev.bootSlot_takes (slot : Option Nat) : (d.bootSlot slot).pwr.kept = d.pwr.kept ∧
    ((d.bootSlot slot).pwr.recovery = true → (d.bootSlot slot).hlt.runSlot = 3) ∧
    (d.crit.sealed = true → (d.bootSlot slot).pwr.imageOk = false → (d.bootSlot slot).pwr.recovery = true) := by
  unfold Dev.bootSlot
  extract_lets e1 sl e2 e3 e4
  have hcrit : e1.crit = d.crit := rfl
  have himg : e1.pwr.imageOk = d.pwr.imageOk := rfl
  have hpwr : e4.pwr = { d.pwr with recovery := sl.isNone } := by
    simp only [e4]
    split
    · rw [Dev.logEvent_pwr]
      rfl
    · rfl
  have hrun : e4.hlt.runSlot = sl.getD 3 := by
    simp only [e4]
    split
    · rw [Dev.logEvent_hlt]
      rfl
    · rfl
  simp only [Dev.setReg_pwr, Dev.setReg_hlt, hpwr, hrun]
  refine ⟨rfl, fun h => by rw [Option.isNone_iff_eq_none.1 h]; rfl, fun hs hi => ?_⟩
  simp only [sl, hcrit, himg, hs, hi]
  rfl

/-- The boot ROM leaves the power unit booting, but for the verdicts of image and slot (R333–R336). -/
theorem Dev.bootRom_boots : d.bootRom.pwr.kept = { d.pwr.kept with booting := true } ∧
    (d.bootRom.pwr.recovery = true → d.bootRom.hlt.runSlot = 3) ∧
    (d.crit.sealed = true → d.bootRom.pwr.imageOk = false → d.bootRom.pwr.recovery = true) := by
  have hhead : d.bootHead.crit = d.crit := (Dev.loadOdo_within (my := .noCrit) _ (Dev.writeProt_within _
    (Dev.chooseImage_within _ (.refl _ _) rfl rfl rfl rfl) rfl fun _ _ => rfl) rfl rfl rfl rfl).crit rfl
  have hslot : d.bootHead.chooseSlot.2.crit = d.bootHead.crit :=
    (Dev.chooseSlot_within (my := .noCrit) _ (.refl _ _) rfl rfl rfl).crit rfl
  obtain ⟨hkept, hrun, hsealed⟩ := d.bootHead.chooseSlot.2.bootSlot_takes d.bootHead.chooseSlot.1
  rw [hslot, hhead] at hsealed
  rw [Dev.bootRom_eq]
  refine ⟨hkept.trans ?_, hrun, hsealed⟩
  rw [← d.bootHead_pwrKept, Dev.chooseSlot_pwr]
  rfl

/-! ### The end of the boot (R335, R407) -/

theorem Dev.portModes_spi : d.portModes.fld .hpCtrl 4 0 2 = 3 := by
  unfold Dev.portModes
  dsimp only
  rw [Dev.fld_setFld _ _ _ _ (by decide)]
  rfl

/-- BOOT_COMPLETE leaves the device PARKED, with the levels that it has seen. -/
theorem Dev.bootComplete_parks (h : d.pwr.booting = true) (x : BootSeen) :
    (d.bootComplete x).pwr.booted = true ∧ (d.bootComplete x).pwr.booting = false ∧ (d.bootComplete x).pwr.st = .parked ∧
      (d.bootComplete x).pwr.presentLow = x.present ∧ (d.bootComplete x).pwr.pfailLow = x.pfail ∧
      (d.bootComplete x).pwr.detached = !x.present ∧ (d.bootComplete x).fld .hpCtrl 4 0 2 = 3 := by
  unfold Dev.bootComplete
  extract_lets old e1 e2 e3
  rw [if_neg (by simp [h])]
  have hw : Within (.but { pwr := true, reg := fun i _ => i = .hpCtrl }) e1.portModes
      (e3.when x.pfail fun d => d.logEvent 0x0E04 kDevice 0 (ev4 0)) := by
    have h2 : Within (.but { pwr := true, reg := fun i _ => i = .hpCtrl }) e1.portModes e2 := by
      have h1 : Within (.but { pwr := true, reg := fun i _ => i = .hpCtrl }) e1.portModes e1.portModes.loadParams := by
        refine Dev.loadParams_within _ (.refl _ _) rfl (fun _ => rfl) rfl rfl ?_ rfl rfl fun _ => rfl
        simp
      simp [e2, h1]
    exact .when (.when h2 _ _ fun e he => by simp [he]) _ _ fun e he => by simp [he]
  have hpwr : e1.portModes.pwr = e1.pwr := Within.pwr (m := .but { pwr := true }) (by simp) rfl
  rw [hw.pwr rfl, hpwr, Dev.fld, hw.reg .hpCtrl 4 (by simp)]
  exact ⟨rfl, rfl, rfl, rfl, rfl, rfl, e1.portModes_spi⟩

end

end Sys2Proof.Machine
end

section
/-! The events of reset, boot and power (R335, R336, R338–R343, R387, R388, R407). -/
namespace Sys2Proof.Machine
open Sys2Proof

section
variable (d : Dev)

/-- A trigger of presence or of the power supply: a commit runs then or waits (R341, R342, R363). -/
theorem Dev.bbxTrigger_pfail :
    (d.bbxTrigger 1).bbx.running.isSome = true ∨ (d.bbxTrigger 1).bbx.waiting.isSome = true := by
  unfold Dev.bbxTrigger
  cases hrun : d.bbx.running with
  | some r => exact .inl rfl
  | none =>
    dsimp only
    rw [if_neg (by decide)]
    by_cases hup : d.mgmtUp = true
    · rw [if_pos hup]
      have hcom := d.startCommit_commits 1 d.now 0
      simp only [Dev.commits, Prod.mk.injEq] at hcom
      obtain ⟨-, hr, -⟩ := hcom
      exact .inl (by rw [hr]; rfl)
    · rw [if_neg hup]
      exact .inr rfl

/-- PRESENT_N rises: the device is detached, asks for PARKED and commits its black box (R341). -/
theorem Dev.presentRise_detaches : d.presentRise.pwr.presentLow = false ∧ d.presentRise.pwr.detached = true ∧
    d.presentRise.pwr.parkPend = some (d.pwr.parkPend.getD 3) ∧
    (d.presentRise.bbx.running.isSome = true ∨ d.presentRise.bbx.waiting.isSome = true) := by
  unfold Dev.presentRise
  dsimp only
  obtain ⟨hcommit, -, hpwr⟩ := Dev.bbxTrigger_power
    (((d.onPwr fun x => { x with presentLow := false, detached := true }).logEvent 0x0E03 kDevice 0 (ev4 1)).askParked 3)
  rw [hpwr]
  refine ⟨?_, ?_, ?_, hcommit⟩
  · simp [Dev.askParked, Dev.onPwr]
  · simp [Dev.askParked, Dev.onPwr]
  · simp [Dev.askParked, Dev.onPwr]

/-- PFAIL_N falls: the device asks for PARKED and commits its black box (R342). -/
theorem Dev.pfailFall_parks : d.pfailFall.pwr.pfailLow = true ∧ d.pfailFall.pwr.parkPend = some (d.pwr.parkPend.getD 4) ∧
    (d.pfailFall.bbx.running.isSome = true ∨ d.pfailFall.bbx.waiting.isSome = true) := by
  unfold Dev.pfailFall
  refine ⟨?_, ?_, Dev.bbxTrigger_pfail _⟩
  · simp [Dev.askParked, Dev.onPwr]
  · simp [Dev.askParked, Dev.onPwr]

/-- DORMANT keeps the wake registers, the instant and E, K and H of the outputs (R159, R338, R340). -/
theorem Dev.dormant_keeps : d.dormant.pwr.st = .dormant ∧ d.dormant.pwr.booted = false ∧ d.dormant.now = d.now ∧
    d.dormant.crit.barrierUp = 0 ∧ d.dormant.crit.soLatch = 0xFFF ∧ d.dormant.reg .pwrWake 0 = d.reg .pwrWake 0 ∧
    d.dormant.reg64 .pwrWakeT 0 = d.reg64 .pwrWakeT 0 ∧ d.dormant.emus = d.emus.map EmuOut.kept := by
  unfold Dev.dormant
  extract_lets e1 e2
  have hw : Within (.but { emu := every, reg := fun i _ => i = .pwrWake || i = .pwrWakeT }) d e1 := by
    simp only [e1]
    split <;> simp
  have hemus : e1.emus = d.emus := by
    simp only [e1]
    split
    · simp
    · rfl
  have hnow : e1.now = d.now := by
    simp only [e1]
    split
    · simp
    · rfl
  have h0 := hw.reg .pwrWakeT 0 (by simp)
  have h1 := hw.reg .pwrWakeT 1 (by simp)
  have hwake := hw.reg .pwrWake 0 (by simp)
  refine ⟨rfl, rfl, hnow, rfl, rfl, ?_, ?_, by rw [← hemus]⟩
  · simpa [Dev.reg] using hwake
  · simpa [Dev.reg64, Dev.reg, RegFile.get_set] using congrArg₂ (fun a b : Word => a.toNat + b.toNat * 4294967296) h0 h1

/-- A wake boots a device that has taken it (R343). -/
theorem Dev.wakeUp_eq (source : Nat) : ∃ e : Dev, d.wakeUp source = e.bootRom.logEvent 0x0E02 kDevice 0 (ev4 source) ∧
    e.pwr.wake = source ∧ e.pwr.st = .parked := ⟨_, rfl, rfl, rfl⟩

/-- A wake starts the boot and is recorded (R343). -/
theorem Dev.wakeUp_boots (source : Nat) :
    (d.wakeUp source).pwr.booting = true ∧ (d.wakeUp source).pwr.wake = source ∧ (d.wakeUp source).pwr.st = .parked := by
  obtain ⟨e, he, hwake, hst⟩ := d.wakeUp_eq source
  obtain ⟨hbooting, -, hst', hwake', -⟩ := Power.of_kept e.bootRom_boots.1
  rw [he, Dev.logEvent_pwr]
  exact ⟨hbooting, hwake'.trans hwake, hst'.trans hst⟩

/-- The restart of recovery, once due, boots a device that keeps the instant (R336). -/
theorem Dev.recoveryRestart_eq {e : Time} (he : d.pwr.restartAt = some e) (hdue : e ≤ d.now) : ∃ x : Dev,
    d.recoveryRestart = x.bootRom ∧ x.pwr.booted = false ∧ x.now = d.now ∧ x.pwr.rstCause = 3 := by
  unfold Dev.recoveryRestart
  rw [he]
  dsimp only
  rw [if_pos hdue]
  exact ⟨_, rfl, rfl, rfl, rfl⟩

end

/-- Settles O46: RESET_N leaves the reset condition; the boot ROM and its end set the power unit as the verdicts say. -/
theorem bootEventsAct : Obligations.BootEventsAct := by
  unfold Obligations.BootEventsAct
  intro s t
  simp only [runs_iff, Machine.exec]
  refine ⟨.onPinLevel ⟨rfl, rfl, rfl, rfl, rfl, rfl, rfl, rfl, rfl⟩, .onPinLevel ⟨rfl, rfl, rfl, rfl, rfl⟩,
    fun hbooted hbooting hst => .onPinLevel ?boot, fun x h => .onPinLevel (Dev.bootComplete_parks (s.dev.at t) h x),
    fun e ha he hdue => .onEvent rfl ha ?restart⟩
  case boot =>
    have hrun : (s.dev.at t).boot = (s.dev.at t).bootRom := by
      unfold Dev.boot
      rw [if_neg]
      simp [hbooted, hbooting, hst]
    obtain ⟨hkept, hrec, hsealed⟩ := (s.dev.at t).bootRom_boots
    obtain ⟨hup, hdone, -⟩ := Power.of_kept hkept
    rw [hrun]
    exact ⟨hup, hdone.trans hbooted, Dev.bootRom_crit _, hrec, hsealed⟩
  case restart =>
    obtain ⟨x, hx, hbooted, hnow, hcause⟩ := (s.dev.at t).recoveryRestart_eq he hdue
    obtain ⟨hup, hdone, -, -, hcause'⟩ := Power.of_kept x.bootRom_boots.1
    rw [hx, Dev.bootRom_now]
    exact ⟨hup, hdone.trans hbooted, hnow, hcause'.trans hcause⟩

/-- Settles O47: each pin event changes the power unit as its rule says; DORMANT keeps what R340 names, and a wake boots. -/
theorem powerEventsAct : Obligations.PowerEventsAct := by
  unfold Obligations.PowerEventsAct
  intro s t
  simp only [runs_iff, Machine.exec]
  refine ⟨fun ha => .onEvent rfl ha rfl, fun ha => .onPinLevel ?rise, .onPinLevel rfl, fun ha => .onPinLevel ?fall,
    fun ha => .onPinLevel ?clear, fun ha hpend hrun hkept => .onEvent rfl ha ?dormant, fun source port hst hen => .onPinLevel ?wake,
    fun port hst hpend hkept hwait => .onPinLevel ?keep⟩
  case rise =>
    rw [if_pos (show (s.dev.at t).alive = true from ha)]
    exact Dev.presentRise_detaches _
  case fall =>
    rw [if_pos (show (s.dev.at t).alive = true from ha)]
    exact Dev.pfailFall_parks _
  case clear =>
    rw [if_pos (show (s.dev.at t).alive = true from ha)]
    simp [Dev.pfailRise, Dev.onPwr]
  case dormant =>
    have hentry : (s.dev.at t).dormantEntry = (s.dev.at t).dormant := by
      unfold Dev.dormantEntry
      simp [hpend, hrun, hkept]
    rw [hentry]
    exact Dev.dormant_keeps _
  case wake =>
    have hrun : (s.dev.at t).wake source port = (s.dev.at t).wakeUp source := by
      unfold Dev.wake
      rw [if_neg (by simp [hen]), if_pos (show (s.dev.at t).pwr.st = .dormant from hst)]
    rw [hrun]
    exact Dev.wakeUp_boots _ _
  case keep =>
    unfold Dev.wake
    dsimp only
    rw [if_neg (by simp [Dev.wakeEnabled]), if_neg (show ¬(s.dev.at t).pwr.st = .dormant from hst), if_pos (by simp [hpend, hwait]),
      show (s.dev.at t).pwr.wakeKept = none from hkept]
    rfl

end Sys2Proof.Machine
end

section
/-! The debug port (R344–R348, R365). -/
namespace Sys2Proof.Machine
open Sys2Proof

section
variable (d : Dev)

theorem Dev.setDebug_pwr (st : DebugState) (kind idx key : Nat) : (d.setDebug st kind idx key).pwr = { d.pwr with dbg := st } := by
  simp [Dev.setDebug, Dev.onPwr]

theorem Dev.refuseDebug_pwr (kind idx cause : Nat) : (d.refuseDebug kind idx cause).pwr = { d.pwr with nonce := none } := by
  simp [Dev.refuseDebug, Dev.onPwr]

/-- A response spends the nonce; an accepted one opens the state that the nonce was drawn for (R346). -/
theorem Dev.dbgRespond_pwr {n : Nonce} (hn : d.pwr.nonce = some n) (kind idx key : Nat) (sig : List Byte) :
    if d.dbgRefusal key sig = 0 then
      (d.dbgRespond kind idx key sig).2.pwr = { d.pwr with nonce := none, dbg := if n.target = 2 then .openDbg else .observe }
    else (d.dbgRespond kind idx key sig).2.pwr = { d.pwr with nonce := none } := by
  unfold Dev.dbgRespond
  rw [hn]
  split
  next h =>
    rw [h]
    exact Dev.setDebug_pwr ..
  next h =>
    split
    · contradiction
    · exact Dev.refuseDebug_pwr ..

theorem Dev.runWaitingCommit_pwr : d.runWaitingCommit.pwr = d.pwr := Within.pwr (m := .but { pwr := true }) (by simp) rfl

end

/-- Settles O48: each event of the debug port changes the debug state, the nonce or the halt as its rule says. -/
theorem debugEventsAct : Obligations.DebugEventsAct := by
  unfold Obligations.DebugEventsAct
  intro s t ha
  simp only [runs_iff, Machine.exec]
  refine ⟨fun hpol hdbg => .onEvent rfl ha ?observe, fun hpol => .onEvent rfl ha ?challenge, fun hseal hst hdbg => .onEvent rfl ha ?openFree,
    fun hseal => .onEvent rfl ha ?sealed, fun target n key sig hn => .onEvent rfl ha ?respond, fun hdbg => .onEvent rfl ha ?release,
    fun hst hb => .onEvent rfl ha ?extest, fun hno => .onEvent rfl ha ?refused, .onEvent rfl ha rfl, fun n hn hdue => .onEvent rfl ha ?expiry,
    fun hdbg => .onEvent rfl ha ?halt, .onEvent rfl ha (Dev.runWaitingCommit_pwr _)⟩
  case observe =>
    have hrun : (s.dev.at t).debugPortRequest 1 none = (s.dev.at t).setDebug .observe kDebug 0 0xFF := by
      unfold Dev.debugPortRequest
      rw [show (s.dev.at t).fld .protDbg 0 0 2 = 2 from hpol]
      exact if_pos hdbg
    rw [hrun]
    exact Dev.setDebug_pwr ..
  case challenge =>
    have hrun : (s.dev.at t).debugPortRequest 1 none = ((s.dev.at t).drawNonce 1).2 := by
      unfold Dev.debugPortRequest
      rw [show (s.dev.at t).fld .protDbg 0 0 2 = 1 from hpol]
      rfl
    rw [hrun]
    exact ⟨rfl, _, rfl, rfl, rfl⟩
  case openFree =>
    have hrun : (s.dev.at t).debugPortRequest 2 none = (s.dev.at t).setDebug .openDbg kDebug 0 0xFF := by
      unfold Dev.debugPortRequest
      simp [hseal, hst, hdbg]
    rw [hrun]
    exact Dev.setDebug_pwr ..
  case sealed =>
    have hrun : (s.dev.at t).debugPortRequest 2 none = (s.dev.at t).refuseEntry 3 := by
      unfold Dev.debugPortRequest
      simp [hseal]
    rw [hrun, Dev.refuseEntry, Dev.logEvent_pwr]
    exact ⟨rfl, Within.reg (m := logs) (by simp [logs, words]) .dbgAuthFail 0 rfl⟩
  case respond =>
    have hrun : (s.dev.at t).debugPortRequest target (some (key, sig)) = ((s.dev.at t).dbgRespond kDebug 0 key sig).2 := by
      unfold Dev.debugPortRequest
      split <;> simp_all
    rw [hrun]
    exact Dev.dbgRespond_pwr (s.dev.at t) hn ..
  case release =>
    rw [Dev.debugPortRelease, if_pos (show (s.dev.at t).pwr.dbg = .observe from hdbg)]
    exact Dev.setDebug_pwr ..
  case extest =>
    rw [Dev.extestLoad, if_pos (show (s.dev.at t).pwr.st = .parked ∧ (s.dev.at t).crit.barrierUp = 0 from ⟨hst, hb⟩)]
    rfl
  case refused =>
    have hcond : ¬((s.dev.at t).pwr.st = .parked ∧ (s.dev.at t).crit.barrierUp = 0) := fun ⟨h1, h2⟩ => hno.elim (· h1) (· h2)
    rw [Dev.extestLoad, if_neg hcond]
    refine ⟨by rw [Dev.logEvent_pwr]; rfl, ?_⟩
    rw [Dev.regBit, Dev.logEvent_reg _ _ _ _ _ (by simp)]
    exact Dev.regBit_setFlag _ _ _ (by decide)
  case expiry =>
    rw [Dev.nonceExpiry, show (s.dev.at t).pwr.nonce = some n from hn]
    dsimp only
    rw [if_pos (show n.expires ≤ (s.dev.at t).now from hdue)]
    rfl
  case halt =>
    rw [Dev.coreHalt, if_pos (show (s.dev.at t).pwr.dbg = .openDbg from hdbg)]
    exact ⟨rfl, by simp [Dev.mgmtUp, Dev.onPwr]⟩

end Sys2Proof.Machine
end

section
/-! Memory errors, odometers, prediction and the commits of the black box (R355–R360, R363, R364). -/
namespace Sys2Proof.Machine
open Sys2Proof

section
variable (d : Dev)

/-! ### Memory errors -/

theorem Dev.scrubStep_corrected {m errs late : Nat} (addr : Word) (owner : Nat) (hm : m < 9) (h1 : 1 ≤ errs) (h2 : errs ≤ 2)
    (hl : late ≤ 100) : d.scrubStep m addr errs owner late = (d.addCnt .hltCorr m 0 32).onHlt fun h =>
      { h with corrHour := h.corrHour.modify m (· + 1), odo := { h.odo with ecc := h.odo.ecc.modify m (· + 1) } } := by
  have hfirst : d.scrubStep m addr errs owner late = d.eccCorrect m owner := by
    unfold Dev.scrubStep
    exact (if_pos hl).trans ((if_neg (by omega)).trans (if_pos h2))
  rw [hfirst]
  exact if_neg (by omega)

theorem Dev.scrubStep_uncorrectable {errs late : Nat} (m : Nat) (addr : Word) (owner : Nat) (h3 : 3 ≤ errs) (hl : late ≤ 100) :
    d.scrubStep m addr errs owner late = d.eccBad m addr owner := by
  unfold Dev.scrubStep
  exact (if_pos hl).trans ((if_neg (by omega)).trans (if_neg (by omega)))

/-- An uncorrectable word of the trace memory is counted, shown, blanked and logged (R356). -/
theorem Dev.eccBad_trace (addr : Word) (owner : Nat) : d.eccBad 4 addr owner =
    ((((d.addCnt .hltUncorr 4 0 16).setReg .hltLastAddr 4 addr).onTrc fun x =>
      { x with mem := memWrites x.mem (addr.toNat / 8 * 8) (zeros 8) }).logEvent 0x0C02 kDevice 0 (ev4 4 ++ wordBytes addr)) := (rfl)

theorem Dev.eccBad_trace_acts (addr : Word) (owner : Nat) (hwf : memWf d.trc.mem = true) :
    (d.eccBad 4 addr owner).reg .hltLastAddr 4 = addr ∧
    (d.eccBad 4 addr owner).fld .hltUncorr 4 0 16 = satNat 16 (d.fld .hltUncorr 4 0 16 + 1) ∧
    memReads (d.eccBad 4 addr owner).trc.mem (addr.toNat / 8 * 8) 8 = zeros 8 ∧
    ∀ a, a < addr.toNat / 8 * 8 ∨ addr.toNat / 8 * 8 + 8 ≤ a →
      memRead (d.eccBad 4 addr owner).trc.mem a = memRead d.trc.mem a := by
  rw [Dev.eccBad_trace, Dev.fld, Dev.logEvent_reg _ _ _ _ _ (by decide), Dev.logEvent_reg _ _ _ _ _ (by decide), Dev.logEvent_trc]
  refine ⟨Dev.reg_setReg_self .., ?_, memReads_memWrites hwf, fun a ha => memRead_memWrites_of_outside hwf ha⟩
  have hreg : (((d.addCnt .hltUncorr 4 0 16).setReg .hltLastAddr 4 addr).onTrc fun x =>
      { x with mem := memWrites x.mem (addr.toNat / 8 * 8) (zeros 8) }).reg .hltUncorr 4 = (d.addCnt .hltUncorr 4 0 16).reg .hltUncorr 4 :=
    Dev.reg_setReg_ne _ _ (by decide)
  rw [hreg]
  exact Dev.fld_addCnt d .hltUncorr 4 1 (by decide)

/-- The turn of the hourly check for memory `m`. -/
def Dev.hourlyTurn (m : Nat) (d : Dev) : Dev :=
  let c := d.hlt.corrHour.getD m 0
  if 100 < c then (d.setFlag .hltStat 0 6).logEvent 0x0C01 kDevice 0 (ev4 m ++ ev4 c) else d

theorem Dev.eccHourly_eq : d.eccHourly = (d.forEach (List.range 10) Dev.hourlyTurn).onHlt fun h =>
    { h with corrHour := List.replicate 10 0 } := (rfl)

theorem Dev.hourlyTurn_hlt (m : Nat) : (d.hourlyTurn m).hlt = d.hlt := by
  unfold Dev.hourlyTurn
  dsimp only
  split
  · rw [Dev.logEvent_hlt, Dev.setFlag_hlt]
  · rfl

theorem Dev.hourlyTurn_flags {m : Nat} (h : 100 < d.hlt.corrHour.getD m 0) : (d.hourlyTurn m).regBit .hltStat 0 6 = true := by
  rw [Dev.hourlyTurn, if_pos h, Dev.regBit, Dev.logEvent_reg _ _ _ _ _ (by decide)]
  exact Dev.regBit_setFlag d .hltStat 0 (by decide)

theorem Dev.hourlyTurn_keepsFlag (m : Nat) (h : d.regBit .hltStat 0 6 = true) : (d.hourlyTurn m).regBit .hltStat 0 6 = true := by
  by_cases hc : 100 < d.hlt.corrHour.getD m 0
  · exact Dev.hourlyTurn_flags d hc
  · rw [Dev.hourlyTurn, if_neg hc]
    exact h

/-- The hourly check raises the flag where a memory has had more than 100 corrections (R355). -/
theorem Dev.hourly_flags {m : Nat} {l : List Nat} (hm : m ∈ l) (h : 100 < d.hlt.corrHour.getD m 0) :
    (d.forEach l Dev.hourlyTurn).regBit .hltStat 0 6 = true := by
  have hkeep : ∀ (l : List Nat) (e : Dev), e.regBit .hltStat 0 6 = true → (e.forEach l Dev.hourlyTurn).regBit .hltStat 0 6 = true := by
    intro l
    induction l with
    | nil => exact fun e he => he
    | cons i l ih => exact fun e he => ih _ (Dev.hourlyTurn_keepsFlag e i he)
  induction l generalizing d with
  | nil => cases hm
  | cons i l ih =>
    rcases List.mem_cons.mp hm with rfl | hm
    · exact hkeep l _ (Dev.hourlyTurn_flags d h)
    · exact ih (d.hourlyTurn i) hm (by rwa [Dev.hourlyTurn_hlt])

theorem Dev.regBit_onHlt (f : Health → Health) (i : RegId) (k b : Nat) : (d.onHlt f).regBit i k b = d.regBit i k b := (rfl)

/-! ### Prediction -/

theorem Dev.forEach_setReg_hlt (i : RegId) (f : Nat → Word) (l : List Nat) :
    (d.forEach l fun k d => d.setReg i k (f k)).hlt = d.hlt := Dev.forEach_eq Dev.hlt (fun k e => e.setReg_hlt i k (f k)) l d

/-- The warning of a prediction, raised at 24 months and cleared above 27 (R360). -/
def Dev.eolWarning (d : Dev) (months mech cls : Nat) : Dev :=
  if months ≤ 24 ∧ 1 ≤ cls ∧ !d.hlt.eolWarn then
    (d.onHlt fun h => { h with eolWarn := true }).logEvent 0x0C06 kDevice 0 (ev4 months ++ ev4 mech ++ ev4 cls)
  else if 27 < months then d.onHlt fun h => { h with eolWarn := false }
  else d

theorem Dev.eolWarning_days (months mech cls : Nat) :
    (d.eolWarning months mech cls).hlt.days = d.hlt.days ∧ (d.eolWarning months mech cls).hlt.dayCount = d.hlt.dayCount := by
  unfold Dev.eolWarning
  split
  · rw [Dev.logEvent_hlt]
    exact ⟨rfl, rfl⟩
  · split <;> exact ⟨rfl, rfl⟩

/-- A prediction takes in the day's fractions, then warns (R359, R360). -/
theorem Dev.eolPredict_eq : ∃ (e : Dev) (months mech cls : Nat), d.eolPredict = e.eolWarning months mech cls ∧
    e.hlt = { d.hlt with days := (d.hlt.odo.fractions :: d.hlt.days).take 90
                         dayCount := ((d.hlt.odo.fractions :: d.hlt.days).take 90).length } := by
  unfold Dev.eolPredict
  extract_lets f days cls lives d1
  split
  extract_lets months d2 d3
  exact ⟨d3, _, _, _, rfl, Dev.forEach_setReg_hlt ..⟩

theorem Dev.eolPredict_days :
    d.eolPredict.hlt.days = (d.hlt.odo.fractions :: d.hlt.days).take 90 ∧ d.eolPredict.hlt.dayCount = d.eolPredict.hlt.days.length := by
  obtain ⟨e, months, mech, cls, heq, hhlt⟩ := d.eolPredict_eq
  obtain ⟨hdays, hcount⟩ := e.eolWarning_days months mech cls
  rw [heq, hdays, hcount, hhlt]
  exact ⟨rfl, rfl⟩

/-! ### Commits -/

theorem Dev.runWaitingCommit_due {w : CommitWait} (hw : d.bbx.waiting = some w) (hdue : w.due ≤ d.now) (hup : d.mgmtUp = true)
    (hrun : d.bbx.running = none) : d.runWaitingCommit = d.startCommit w.kind w.t w.merged := by
  unfold Dev.runWaitingCommit
  rw [hw]
  dsimp only
  rw [if_pos ⟨hdue, hup, by rw [hrun]; rfl⟩]

theorem Dev.runWaitingCommit_none (hw : d.bbx.waiting = none) : d.runWaitingCommit = d := by
  unfold Dev.runWaitingCommit
  rw [hw]

theorem Dev.probationFails_none (h : d.hlt.probation = none) (cause : Nat) : d.probationFails cause = d := by
  unfold Dev.probationFails
  rw [if_pos (.inl (by rw [h]; rfl))]

theorem Dev.jobReply_commits (j : BgJob) (a : Resp) : (d.jobReply j a).commits = d.commits := by
  have h : Within { port := every, reg := fun i _ => i = .hpPosted } d (d.jobReply j a) :=
    Dev.jobReply_within d j a (.refl ..) (fun _ => rfl) (fun _ => rfl)
  exact congrArg (fun b : BlackBox => (b.commit, b.running, b.waiting)) (Within.bbx h rfl)

/-- Outside probation, with no commit that waits, the end of a commit leaves its record where it is good (R364). -/
theorem Dev.commitEnd_commits {r : CommitRec} (hrun : d.bbx.running = some r) (hwait : d.bbx.waiting = none)
    (hprob : d.hlt.probation = none) (ok : Bool) : (d.commitEnd ok).commits = (if ok then some r else none, none, none) := by
  unfold Dev.commitEnd
  split
  next hnone => simp [hrun] at hnone
  next r' hr' =>
  obtain rfl : r = r' := Option.some.inj (hrun.symm.trans hr')
  extract_lets d1 d2 d3 d4
  have h2 : d2.commits = (if ok then some r else none, none, none) := by
    cases ok <;> exact congrArg (fun w => (_, none, w)) hwait
  have hp2 : d2.hlt.probation = none := by cases ok <;> exact hprob
  have h3 : d3.commits = (if ok then some r else none, none, none) := (Dev.logEvent_commits ..).trans h2
  have hp3 : d3.hlt.probation = none := (congrArg Health.probation (Dev.logEvent_hlt ..)).trans hp2
  have h4 : d4 = d3 := by
    cases ok
    · exact Dev.probationFails_none d3 hp3 5
    · rfl
  rw [h4, Dev.runWaitingCommit_none d3 (congrArg (·.2.2) h3)]
  exact h3

theorem Dev.bbxComplete_commits {r : CommitRec} (hrun : d.bbx.running = some r) (hwait : d.bbx.waiting = none)
    (hprob : d.hlt.probation = none) (ok : Bool) : (d.bbxComplete ok).commits = (if ok then some r else none, none, none) := by
  unfold Dev.bbxComplete
  rw [if_neg (by simp [hrun])]
  refine (Dev.forEach_eq Dev.commits (fun p e => ?_) _ _).trans (Dev.commitEnd_commits d hrun hwait hprob ok)
  split
  next j _ =>
    split
    · exact Dev.jobReply_commits ..
    · rfl
  · rfl

end

/-- Settles O49: each event of memory protection, of the odometers and of the black box changes what its rule names. -/
theorem healthEventsAct : Obligations.HealthEventsAct := by
  unfold Obligations.HealthEventsAct
  intro s t ha
  simp only [runs_iff, Machine.exec]
  refine ⟨fun c hc => .onEvent hc ha ?rebuilt, fun m addr errs owner late hm h1 h2 hl => .onEvent (by simp; omega) ha ?corrected,
    fun addr errs owner late h3 hl hwf => .onEvent rfl ha ?blanked, fun hm => .onMgmt rfl hm ?hourly, fun ppm hm => .onMgmt rfl hm ⟨rfl, rfl⟩,
    fun hm => .onMgmt rfl hm (Dev.eolPredict_days (s.dev.at t)), fun w hm hw hdue hrun => .onEvent rfl ha ?deferred,
    fun r hrun hwait hprob => ⟨.onEvent rfl ha ?good, .onEvent rfl ha ?failed⟩⟩
  case rebuilt => simp [Dev.rebuildDone]
  case corrected =>
    rw [Dev.scrubStep_corrected (s.dev.at t) addr owner hm h1 h2 hl]
    exact ⟨Dev.fld_addCnt (s.dev.at t) .hltCorr m 1 (by decide), rfl, rfl⟩
  case blanked =>
    rw [Dev.scrubStep_uncorrectable (s.dev.at t) 4 addr owner h3 hl]
    exact Dev.eccBad_trace_acts (s.dev.at t) addr owner hwf
  case hourly =>
    rw [Dev.eccHourly_eq]
    refine ⟨congrArg Health.corrHour (Dev.onHlt_hlt ..), fun ⟨m, hm10, hmany⟩ => ?_⟩
    rw [Dev.regBit_onHlt]
    exact Dev.hourly_flags (s.dev.at t) (List.mem_range.mpr hm10) hmany
  case deferred =>
    rw [Dev.runWaitingCommit_due (s.dev.at t) hw hdue hm hrun]
    exact ⟨rfl, rfl, _, rfl, rfl, rfl, rfl⟩
  case good =>
    have h := Dev.bbxComplete_commits (s.dev.at t) hrun hwait hprob true
    exact ⟨(congrArg (·.2.1) h :), (congrArg (·.1) h :)⟩
  case failed =>
    have h := Dev.bbxComplete_commits (s.dev.at t) hrun hwait hprob false
    exact ⟨(congrArg (·.2.1) h :), (congrArg (·.1) h :)⟩

end Sys2Proof.Machine
end

section
/-! The pauses of the management plane, probation and the slot record (R373–R375). -/
namespace Sys2Proof.Machine
open Sys2Proof

/-- What the unit of health knows of the firmware that runs: the pause, the slots and the probation. -/
def Health.firmware (h : Health) : Option Pause × Nat × Nat × Option Time := (h.pause, h.runSlot, h.oldSlot, h.probation)

section
variable (d : Dev)

theorem Dev.runWaitingCommit_firmware : d.runWaitingCommit.hlt.firmware = d.hlt.firmware := by
  unfold Dev.runWaitingCommit
  split
  · split <;> rfl
  · rfl

theorem Dev.bbxTrigger_firmware (kind : Nat) : (d.bbxTrigger kind).hlt.firmware = d.hlt.firmware := by
  simp only [Health.firmware, Dev.bbxTrigger_hlt_pause, Dev.bbxTrigger_hlt_runSlot, Dev.bbxTrigger_hlt_oldSlot,
    Dev.bbxTrigger_hlt_probation]

/-! ### The pause and the rollback -/

theorem Dev.abandonGroup_hlt (p cause : Nat) : (d.abandonGroup p cause).hlt = d.hlt := by
  unfold Dev.abandonGroup
  split
  · rfl
  next g hg =>
    rw [Dev.logEvent_hlt]
    unfold Dev.releaseGroup
    rw [hg]
    rfl

theorem Dev.abandonGroup_reg (p cause k : Nat) {i : RegId} (h : i ≠ .bbxStat) :
    (d.abandonGroup p cause).reg i k = d.reg i k := by
  unfold Dev.abandonGroup
  split
  · rfl
  next g hg =>
    rw [Dev.logEvent_reg _ _ _ _ _ h]
    unfold Dev.releaseGroup
    rw [hg]
    rfl

/-- A pause is noted; the groups that it gives up leave the slots as they are. -/
theorem Dev.beginPause_hlt (x : Pause) : (d.beginPause x).hlt = { d.hlt with pause := some x } :=
  congrArg (fun h : Health => { h with pause := some x })
    (Dev.forEach_eq Dev.hlt (fun p e => Dev.abandonGroup_hlt e p 2) (List.range 5) d)

theorem Dev.beginPause_reg (x : Pause) (k : Nat) {i : RegId} (h : i ≠ .bbxStat) : (d.beginPause x).reg i k = d.reg i k := by
  have hkeep : ∀ (e : Dev) (f : Health → Health), (e.onHlt f).reg i k = e.reg i k := fun _ _ => rfl
  rw [Dev.beginPause, hkeep]
  exact Dev.forEach_eq (fun e => e.reg i k) (fun p e => Dev.abandonGroup_reg e p 2 k h) (List.range 5) d

/-- A rollback ends the probation and leaves pause and slots (R374). -/
theorem Dev.rollbackMark_firmware (cause bad : Nat) :
    (d.rollbackMark cause bad).hlt.firmware = (d.hlt.pause, d.hlt.runSlot, d.hlt.oldSlot, none) := by
  unfold Dev.rollbackMark
  dsimp only
  rw [Dev.bbxTrigger_firmware, Dev.logEvent_hlt]
  rfl

theorem Dev.rollbackMark_flags (cause bad : Nat) : (d.rollbackMark cause bad).regBit .hltStat 0 4 = true := by
  unfold Dev.rollbackMark
  dsimp only
  rw [Dev.regBit, Dev.bbxTrigger_reg, Dev.logEvent_reg _ _ _ _ _ (by decide)]
  have hreg : ∀ e : Dev, ((e.onRegion bad fun r => { r with st := 4 }).onHlt fun h =>
      { h with probation := none, probMark := false }).reg .hltStat 0 = e.reg .hltStat 0 := fun _ => rfl
  rw [hreg, Dev.reg_addCnt_ne _ (by decide)]
  exact Dev.regBit_setFlag d .hltStat 0 (by decide)

/-! ### The events of a pause -/

theorem Dev.fwReady_firmware {x : Pause} (hx : d.hlt.pause = some x) (hwhy : x.why = 0) (hload : x.reloading = false)
    (hby : d.now ≤ readyBy x) : d.fwReady.hlt.firmware = (none, x.new, x.old, some (d.now + 60 * unitsPerSec)) := by
  unfold Dev.fwReady
  rw [hx]
  dsimp only
  rw [if_neg (by simp [hwhy, hload, hby]), Dev.runWaitingCommit_firmware, Dev.logEvent_hlt]
  rfl

theorem Dev.fwReadyTimeout_eq {x : Pause} (hx : d.hlt.pause = some x) (hwhy : x.why = 0) (hload : x.reloading = false)
    (hby : readyBy x ≤ d.now) :
    d.fwReadyTimeout = (d.rollbackMark 1 x.new).onHlt fun h => { h with pause := some { x with reloading := true } } := by
  unfold Dev.fwReadyTimeout
  rw [hx]
  dsimp only
  rw [if_neg (by simp [hwhy, hload, hby])]

theorem Dev.fwReloaded_firmware {x : Pause} (hx : d.hlt.pause = some x) (hload : x.reloading = true) :
    d.fwReloaded.hlt.firmware = (none, if x.why = 0 then x.old else x.new, d.hlt.oldSlot, d.hlt.probation) := by
  unfold Dev.fwReloaded
  rw [hx]
  dsimp only
  rw [if_neg (by simp [hload]), Dev.runWaitingCommit_firmware]
  split
  · rw [Dev.logEvent_hlt]
    rfl
  · rfl

/-! ### Heartbeats and probation -/

theorem Dev.mgmtFails_restart (hprob : d.hlt.probation = none) (hpause : d.hlt.pause = none) (hrec : d.pwr.recovery = false)
    (cause : Nat) : d.mgmtFails cause = (d.addCnt .fwCnt 0 0 16).beginPause
      { start := d.now, old := d.hlt.runSlot, new := d.hlt.runSlot, why := 2, cause := cause, reloading := true } := by
  unfold Dev.mgmtFails Dev.mgmtRestart
  rw [if_neg (by simp [hprob])]
  exact if_neg (by simp [hpause, hrec])

theorem Dev.mgmtFails_rollback {e : Time} (hprob : d.hlt.probation = some e) (hpause : d.hlt.pause = none) (cause : Nat) :
    d.mgmtFails cause = (d.beginPause { start := d.now, old := d.hlt.runSlot, new := d.hlt.oldSlot, why := 1, cause := cause,
                                        reloading := true }).rollbackMark cause d.hlt.runSlot := by
  unfold Dev.mgmtFails Dev.probationFails
  rw [if_pos (by simp [hprob])]
  exact if_neg (by simp [hprob, hpause])

theorem Dev.writeRecord_record (ok : Bool) : (d.writeRecord ok).hlt.probation = d.hlt.probation ∧
    (d.writeRecord ok).hlt.recRetry = (if ok then false else true) ∧
    (d.writeRecord ok).hlt.recSlot = (if ok then d.hlt.runSlot else d.hlt.recSlot) := by
  cases ok <;> exact ⟨rfl, rfl, rfl⟩

theorem Dev.probationPass_hlt {e : Time} (hprob : d.hlt.probation = some e) (hdue : e ≤ d.now) (hpause : d.hlt.pause = none) (ok : Bool) :
    (d.probationPass ok).hlt = ((d.onHlt fun h => { h with probation := none }).writeRecord ok).hlt := by
  unfold Dev.probationPass
  rw [hprob]
  dsimp only
  rw [if_pos ⟨hdue, by rw [hpause]; rfl⟩, Dev.logEvent_hlt]

theorem Dev.pause_none_of_mgmtUp (h : d.mgmtUp = true) : d.hlt.pause = none := by
  unfold Dev.mgmtUp at h
  simp only [Bool.and_eq_true, Option.isNone_iff_eq_none] at h
  exact h.1.2

end

/-- Settles O50: each event of the switch and of probation moves the pause, the slots and the record as its rule says. -/
theorem updateEventsAct : Obligations.UpdateEventsAct := by
  unfold Obligations.UpdateEventsAct
  intro s t ha
  simp only [runs_iff, Machine.exec]
  refine ⟨fun x hx hwhy hload hby => .onEvent rfl ha ?ready, fun x hx hwhy hload hby => .onEvent rfl ha ?late,
    fun x hx hload => .onEvent rfl ha ?reloaded, fun hprob hpause hrec => .onEvent rfl ha ?restart,
    fun e hprob hpause => .onEvent rfl ha ?rollback, fun e ok hm hprob hdue => .onMgmt rfl hm ?pass, fun ok hm hretry => .onMgmt rfl hm ?retry⟩
  case ready =>
    have h := Dev.fwReady_firmware (s.dev.at t) hx hwhy hload hby
    exact ⟨(congrArg (·.1) h :), (congrArg (·.2.1) h :), (congrArg (·.2.2.1) h :), (congrArg (·.2.2.2) h :)⟩
  case late =>
    rw [Dev.fwReadyTimeout_eq (s.dev.at t) hx hwhy hload hby]
    exact ⟨rfl, (congrArg (·.2.2.2) (Dev.rollbackMark_firmware (s.dev.at t) 1 x.new) :), Dev.rollbackMark_flags (s.dev.at t) 1 x.new⟩
  case reloaded =>
    have h := Dev.fwReloaded_firmware (s.dev.at t) hx hload
    exact ⟨(congrArg (·.1) h :), (congrArg (·.2.1) h :)⟩
  case restart =>
    rw [Dev.mgmtFails_restart (s.dev.at t) hprob hpause hrec]
    generalize hp : ({ start := _, old := _, new := _, why := 2, cause := 2, reloading := true } : Pause) = p
    have hh := Dev.beginPause_hlt ((s.dev.at t).addCnt .fwCnt 0 0 16) p
    refine ⟨?_, by rw [hh]; rfl, ?_, p, by rw [hh], by rw [← hp], by rw [← hp], by rw [← hp]; rfl⟩
    · rw [Dev.mgmtUp, hh]
      simp
    · rw [Dev.fld, Dev.beginPause_reg _ _ _ (by decide)]
      exact Dev.fld_addCnt (s.dev.at t) .fwCnt 0 1 (by decide)
  case rollback =>
    rw [Dev.mgmtFails_rollback (s.dev.at t) hprob hpause]
    generalize hp : ({ start := _, old := _, new := _, why := 1, cause := 2, reloading := true } : Pause) = p
    have h := Dev.rollbackMark_firmware ((s.dev.at t).beginPause p) 2 (s.dev.at t).hlt.runSlot
    rw [Dev.beginPause_hlt] at h
    exact ⟨(congrArg (·.2.2.2) h :), Dev.rollbackMark_flags .., p, (congrArg (·.1) h :), by rw [← hp], by rw [← hp]; rfl⟩
  case pass =>
    rw [Dev.probationPass_hlt (s.dev.at t) hprob hdue (Dev.pause_none_of_mgmtUp s.dev hm)]
    exact Dev.writeRecord_record _ ok
  case retry =>
    have hrun : (s.dev.at t).recordRetry ok = (s.dev.at t).writeRecord ok := if_pos (by
      rw [show (s.dev.at t).hlt.recRetry = true from hretry, show (s.dev.at t).mgmtUp = true from hm]
      rfl)
    rw [hrun]
    exact (Dev.writeRecord_record (s.dev.at t) ok).2

end Sys2Proof.Machine
end

section
/-! The byte memories of the device, and the operations of the signal chain, which leave them (R206, R370). -/
namespace Sys2Proof.Machine
open Sys2Proof

/-- The byte memories of the device: the trace memory, those of the regions, the protection image in force. -/
def Dev.mems (d : Dev) : List Host.Cell × List (List Host.Cell) × List Host.Cell :=
  (d.trc.mem, d.hlt.regions.map Region.mem, d.pwr.image)

/-- Everything may change but the units that hold the byte memories. -/
def May.noMem : May := { May.noRaise with raise := true, hlt := false, pwr := false, trc := false }

theorem Within.mems {m : May} {d e : Dev} (h : Within m d e) (h1 : m.hlt = false) (h2 : m.pwr = false) (h3 : m.trc = false) :
    e.mems = d.mems := by
  unfold Dev.mems
  rw [h.hlt h1, h.pwr h2, h.trc h3]

theorem mems_of_noMem {d e : Dev} (h : Within .noMem d e) : e.mems = d.mems := h.mems rfl rfl rfl

@[simp] theorem May.noMem_reg (i : RegId) (k : Nat) : noMem.reg i k = true := (rfl)
@[simp] theorem May.noMem_unit (n : Nat) :
    noMem.lane n = true ∧ noMem.acq n = true ∧ noMem.trk n = true ∧ noMem.map n = true ∧ noMem.loop n = true ∧
      noMem.prf n = true ∧ noMem.group n = true ∧ noMem.port n = true ∧ noMem.pin n = true ∧ noMem.mls n = true ∧
      noMem.emu n = true ∧ noMem.cluster n = true ∧ noMem.vm n = true ∧ noMem.pfe n = true ∧
      noMem.safLane n = true ∧ noMem.conn n = true := by
  simp [noMem, noRaise, every]
@[simp] theorem May.noMem_block :
    noMem.saf = true ∧ noMem.crit = true ∧ noMem.time = true ∧ noMem.bbx = true ∧ noMem.staged = true ∧ noMem.ro = true ∧
      noMem.serve = true ∧ noMem.raise = true := by simp [noMem, noRaise]
@[simp] theorem May.noMem_outputs (d0 : Dev) (n : Nat) : noMem.outputs d0 n := .inl fun _ => by simp
@[simp] theorem May.noMem_detour (d0 : Dev) (i : Nat) : noMem.detour d0 i := .inl fun _ => by simp
@[simp] theorem May.noMem_mlsOf (d0 : Dev) (i : Nat) : noMem.mlsOf d0 i := .inl fun _ => by simp

section
variable (d : Dev)

/-! ### Composition -/

@[simp] theorem Dev.mems_ite {b : Prop} [Decidable b] (x y : Dev) :
    (if b then x else y).mems = if b then x.mems else y.mems := apply_ite ..
@[simp] theorem Dev.forEach_mems (l : List Nat) (f : Nat → Dev → Dev) (h : ∀ i e, (f i e).mems = e.mems) :
    (d.forEach l f).mems = d.mems :=
  Dev.forEach_eq Dev.mems h l d
@[simp] theorem Dev.foldl_mems {α : Type} (l : List α) (f : Dev → α → Dev) (h : ∀ e a, (f e a).mems = e.mems) :
    (l.foldl f d).mems = d.mems := Dev.foldl_keeps Dev.mems f h l d
@[simp] theorem Dev.foldlSnd_mems {α β : Type} (f : β × Dev → α → β × Dev) (l : List α) (a : β × Dev)
    (h : ∀ b x, (f b x).2.mems = b.2.mems) : (l.foldl f a).2.mems = a.2.mems := by
  induction l generalizing a with
  | nil => rfl
  | cons x l ih => exact (ih _).trans (h a x)
@[simp] theorem Dev.when_mems (c : Bool) (f : Dev → Dev) (h : ∀ e, (f e).mems = e.mems) : (d.when c f).mems = d.mems := by
  unfold Dev.when
  split
  · exact h d
  · rfl
@[simp] theorem Dev.whenSome_mems {α : Type} (o : Option α) (f : α → Dev → Dev) (h : ∀ a e, (f a e).mems = e.mems) :
    (d.whenSome o f).mems = d.mems := by
  unfold Dev.whenSome
  split
  · exact h _ d
  · rfl
@[simp] theorem Dev.at_mems (t : Time) : (d.at t).mems = d.mems := (rfl)
@[simp] theorem Dev.onLane_mems (n : Nat) (f : Lane → Lane) : (d.onLane n f).mems = d.mems := (rfl)
@[simp] theorem Dev.onAcq_mems (n : Nat) (f : Acq → Acq) : (d.onAcq n f).mems = d.mems := (rfl)
@[simp] theorem Dev.onTrk_mems (n : Nat) (f : Tracker → Tracker) : (d.onTrk n f).mems = d.mems := (rfl)
@[simp] theorem Dev.onMap_mems (n : Nat) (f : MapSt → MapSt) : (d.onMap n f).mems = d.mems := (rfl)
@[simp] theorem Dev.onLoop_mems (n : Nat) (f : LoopLane → LoopLane) : (d.onLoop n f).mems = d.mems := (rfl)
@[simp] theorem Dev.onPrf_mems (n : Nat) (f : PrfLane → PrfLane) : (d.onPrf n f).mems = d.mems := (rfl)
@[simp] theorem Dev.onGroup_mems (n : Nat) (f : Group → Group) : (d.onGroup n f).mems = d.mems := (rfl)
@[simp] theorem Dev.onPort_mems (n : Nat) (f : Port → Port) : (d.onPort n f).mems = d.mems := (rfl)
@[simp] theorem Dev.onPin_mems (n : Nat) (f : PulseIn → PulseIn) : (d.onPin n f).mems = d.mems := (rfl)
@[simp] theorem Dev.onMls_mems (n : Nat) (f : MlsUnit → MlsUnit) : (d.onMls n f).mems = d.mems := (rfl)
@[simp] theorem Dev.onEmu_mems (n : Nat) (f : EmuOut → EmuOut) : (d.onEmu n f).mems = d.mems := (rfl)
@[simp] theorem Dev.onVm_mems (n : Nat) (f : VMaster → VMaster) : (d.onVm n f).mems = d.mems := (rfl)
@[simp] theorem Dev.onPfe_mems (n : Nat) (f : PfeCh → PfeCh) : (d.onPfe n f).mems = d.mems := (rfl)
@[simp] theorem Dev.onSafLane_mems (n : Nat) (f : SafLane → SafLane) : (d.onSafLane n f).mems = d.mems := (rfl)
@[simp] theorem Dev.onConn_mems (n : Nat) (f : Conn → Conn) : (d.onConn n f).mems = d.mems := (rfl)
@[simp] theorem Dev.onTime_mems (f : TimeSt → TimeSt) : (d.onTime f).mems = d.mems := (rfl)
@[simp] theorem Dev.onBbx_mems (f : BlackBox → BlackBox) : (d.onBbx f).mems = d.mems := (rfl)
@[simp] theorem Dev.onSaf_mems (f : Saf → Saf) : (d.onSaf f).mems = d.mems := (rfl)
@[simp] theorem Dev.setReg_mems (i : RegId) (k : Nat) (v : Word) : (d.setReg i k v).mems = d.mems := (rfl)
@[simp] theorem Dev.noteFresh_mems (i : RegId) (k : Nat) (g : Word → Word) : (d.noteFresh i k g).mems = d.mems := (rfl)
@[simp] theorem Dev.setStaged_mems (l : List Staged) : Dev.mems { d with staged := l } = d.mems := (rfl)
@[simp] theorem Dev.setCrit_mems (c : Crit) : Dev.mems { d with crit := c } = d.mems := (rfl)
@[simp] theorem Dev.setRo_mems (r : Option Shadow) : Dev.mems { d with ro := r } = d.mems := (rfl)
@[simp] theorem Dev.setTime_mems (r : TimeSt) : Dev.mems { d with time := r } = d.mems := (rfl)
@[simp] theorem Dev.setServe_mems (k : Nat) : Dev.mems { d with serveNext := k } = d.mems := (rfl)
@[simp] theorem Dev.onHlt_mems (f : Health → Health) (h : ∀ x, (f x).regions.map Region.mem = x.regions.map Region.mem) :
    (d.onHlt f).mems = d.mems := by
  unfold Dev.mems Dev.onHlt
  rw [h]
@[simp] theorem Dev.onPwr_mems (f : Power → Power) (h : ∀ x, (f x).image = x.image) : (d.onPwr f).mems = d.mems := by
  unfold Dev.mems Dev.onPwr
  rw [h]
@[simp] theorem Dev.onTrc_mems (f : Trace → Trace) (h : ∀ x, (f x).mem = x.mem) : (d.onTrc f).mems = d.mems := by
  unfold Dev.mems Dev.onTrc
  rw [h]

/-! ### Registers, events and faults -/

@[simp] theorem Dev.setFld_mems (i : RegId) (k lo n v : Nat) : (d.setFld i k lo n v).mems = d.mems := (rfl)

@[simp] theorem Dev.setFlag_mems (i : RegId) (k b : Nat) : (d.setFlag i k b).mems = d.mems := (rfl)

@[simp] theorem Dev.addCnt_mems (i : RegId) (k lo n : Nat) (by_ : Nat) : (d.addCnt i k lo n by_).mems = d.mems := (rfl)

@[simp] theorem Dev.maxFld_mems (i : RegId) (k lo n v : Nat) : (d.maxFld i k lo n v).mems = d.mems := (rfl)

@[simp] theorem Dev.setReg64_mems (i : RegId) (k : Nat) (v : Nat) : (d.setReg64 i k v).mems = d.mems := (rfl)

@[simp] theorem Dev.free_mems : (d.free).2.mems = d.mems := (rfl)

@[simp] theorem Dev.stage_mems (port : Nat) (inGroup : Bool) (a : Act) : (d.stage port inGroup a).mems = d.mems := (rfl)

@[simp] theorem Dev.commitRegs_mems (es : List Staged) (hold : RegId → Nat → Word → Word) (ok : Dev → Bool) (err : Dev → Dev)
    (he : ∀ e, (err e).mems = e.mems) : (d.commitRegs es hold ok err).mems = d.mems := by
  unfold Dev.commitRegs
  extract_lets es' put kept all d'
  have hput : ∀ e s, (put e s).mems = e.mems := fun e s => by
    simp only [put]
    split <;> rfl
  have hd : d'.mems = d.mems := by
    simp only [d', all]
    split
    · exact Dev.foldl_mems _ _ _ hput
    · refine Dev.foldl_mems _ _ _ fun e s => ?_
      split
      · exact hput e s
      · exact he e
  exact hd

@[simp] theorem Dev.commitSet_mems (es : List Staged) (hold : RegId → Nat → Word → Word) (ok : Dev → Bool) (err : Dev → Dev)
    (he : ∀ e, (err e).mems = e.mems) : (d.commitSet es hold ok err).mems = d.mems := by
  simp [Dev.commitSet, he]

@[simp] theorem Dev.logEvent_mems (code kind idx : Nat) (data : List Byte) : (d.logEvent code kind idx data).mems = d.mems :=
  mems_of_noMem (by simp)

@[simp] theorem Dev.mramWrite_mems (r : Nat) : (d.mramWrite r).mems = d.mems := (rfl)

@[simp] theorem Dev.countHours_mems : (d.countHours).mems = d.mems := (rfl)

@[simp] theorem Dev.saveOdo_mems : (d.saveOdo).mems = d.mems := (rfl)

@[simp] theorem Dev.startCommit_mems (kind : Nat) (t : Time) (merged : Nat) : (d.startCommit kind t merged).mems = d.mems := by
  simp [Dev.startCommit]

@[simp] theorem Dev.bbxTrigger_mems (kind : Nat) : (d.bbxTrigger kind).mems = d.mems := by
  unfold Dev.bbxTrigger
  repeat' split
  all_goals simp

@[simp] theorem Dev.runWaitingCommit_mems : (d.runWaitingCommit).mems = d.mems := by
  unfold Dev.runWaitingCommit
  split <;> simp

@[simp] theorem Dev.laneFault_mems (n code : Nat) (arg : Nat) : (d.laneFault n code arg).mems = d.mems := by
  simp [Dev.laneFault]

@[simp] theorem Dev.rewritten_mems (ws : List (Nat × Nat)) : (d.rewritten ws).mems = d.mems := by
  simp [Dev.rewritten]

/-! ### Time -/

@[simp] theorem Dev.takeSource_mems : (d.takeSource).mems = d.mems :=
  mems_of_noMem (by simp)

@[simp] theorem Dev.applyStep_mems : (d.applyStep).mems = d.mems :=
  mems_of_noMem (by simp)

@[simp] theorem Dev.issueTick_mems : (d.issueTick).mems = d.mems :=
  mems_of_noMem (by simp)

/-! ### Emulation outputs -/

@[simp] theorem Dev.emuPins_mems (o : Nat) : (d.emuPins o).mems = d.mems := (rfl)

@[simp] theorem Dev.emuRefreshLane_mems (n : Nat) : (d.emuRefreshLane n).mems = d.mems :=
  mems_of_noMem (by simp)

@[simp] theorem Dev.stallSnapshot_mems (o : Nat) : (d.stallSnapshot o).mems = d.mems :=
  mems_of_noMem (by simp)

@[simp] theorem Dev.stallDetect_mems (o : Nat) : (d.stallDetect o).mems = d.mems := by
  simp [Dev.stallDetect]

@[simp] theorem Dev.emuAlign_mems (o action : Nat) : (d.emuAlign o action).mems = d.mems :=
  mems_of_noMem (by simp)

@[simp] theorem Dev.emuPark_mems : (d.emuPark).mems = d.mems :=
  mems_of_noMem (by simp)

@[simp] theorem Dev.emuUnpark_mems : (d.emuUnpark).mems = d.mems :=
  mems_of_noMem (by simp)

/-! ### Trackers -/

@[simp] theorem Dev.holdPos_mems (n : Nat) : (d.holdPos n).mems = d.mems := (rfl)

@[simp] theorem Dev.detourFail_mems (n : Nat) : (d.detourFail n).mems = d.mems := by
  simp [Dev.detourFail]

@[simp] theorem Dev.detourBack_mems (n : Nat) : (d.detourBack n).mems = d.mems := (rfl)

@[simp] theorem Dev.pinValidity_mems (i : Nat) : (d.pinValidity i).mems = d.mems := by
  simp [Dev.pinValidity]

@[simp] theorem Dev.detourEnter_mems (n : Nat) : (d.detourEnter n).mems = d.mems :=
  mems_of_noMem (by simp)

@[simp] theorem Dev.loseLock_mems (n cause : Nat) : (d.loseLock n cause).mems = d.mems := by
  simp [Dev.loseLock]

@[simp] theorem Dev.overspeed_mems (n : Nat) : (d.overspeed n).mems = d.mems := by
  simp [Dev.overspeed]

@[simp] theorem Dev.lockLoss_mems (n : Nat) : (d.lockLoss n).mems = d.mems := by
  simp [Dev.lockLoss]

/-! ### Acquisition -/

@[simp] theorem Dev.confirmLos_mems (n c : Nat) : (d.confirmLos n c).mems = d.mems := by
  simp [Dev.confirmLos]

@[simp] theorem Dev.losConfirm_mems (n : Nat) : (d.losConfirm n).mems = d.mems := by
  unfold Dev.losConfirm
  dsimp only
  repeat' split
  all_goals simp

@[simp] theorem Dev.modulatorReset_mems (t : Time) (n w : Nat) : (d.modulatorReset t n w).mems = d.mems := by
  simp [Dev.modulatorReset]

@[simp] theorem Dev.retrack_mems (n : Nat) : (d.retrack n).mems = d.mems :=
  mems_of_noMem (by simp)

/-! ### Excitation -/

@[simp] theorem Dev.leaveRunning_mems (g : Nat) : (d.leaveRunning g).mems = d.mems := by
  simp [Dev.leaveRunning]

@[simp] theorem Dev.genStart_mems (g : Nat) : (d.genStart g).mems = d.mems :=
  mems_of_noMem (by simp)

@[simp] theorem Dev.excRelease_mems (g : Nat) (to_ : GenState) (ramp : Bool) : (d.excRelease g to_ ramp).mems = d.mems := by
  simp [Dev.excRelease]

@[simp] theorem Dev.genStop_mems (g : Nat) (ramp : Bool) : (d.genStop g ramp).mems = d.mems := by
  simp [Dev.genStop]

@[simp] theorem Dev.excShort_mems (g peak : Nat) : (d.excShort g peak).mems = d.mems := by
  simp [Dev.excShort]

@[simp] theorem Dev.openSeen_mems (g : Nat) : (d.openSeen g).mems = d.mems :=
  mems_of_noMem (by simp)

@[simp] theorem Dev.openLane_mems (n : Nat) : (d.openLane n).mems = d.mems := by
  simp [Dev.openLane]

@[simp] theorem Dev.excOpen_mems (g peak : Nat) : (d.excOpen g peak).mems = d.mems := by
  simp [Dev.excOpen]

@[simp] theorem Dev.excHalfPeriod_mems (g peak : Nat) : (d.excHalfPeriod g peak).mems = d.mems := by
  simp [Dev.excHalfPeriod]

@[simp] theorem Dev.excCommit_mems (g : Nat) (es : List Staged) : (d.excCommit g es).mems = d.mems := by
  simp [Dev.excCommit]

@[simp] theorem Dev.excEconomy_mems (g : Nat) : (d.excEconomy g).mems = d.mems := by
  unfold Dev.excEconomy
  split <;> simp

@[simp] theorem Dev.excPark_mems : (d.excPark).mems = d.mems := by
  simp [Dev.excPark]

/-! ### Maps -/

@[simp] theorem Dev.segmentFail_mems (n : Nat) : (d.segmentFail n).mems = d.mems := (rfl)

@[simp] theorem Dev.mapPolesChanged_mems (n : Nat) : (d.mapPolesChanged n).mems = d.mems :=
  mems_of_noMem (by simp)

@[simp] theorem Dev.mapLearnCommit_mems (n action terms : Nat) : (d.mapLearnCommit n action terms).mems = d.mems :=
  mems_of_noMem (by simp)

@[simp] theorem Dev.mapStore_mems (n : Nat) (blob : List Byte) : (d.mapStore n blob).mems = d.mems := by
  simp [Dev.mapStore]

@[simp] theorem Dev.mapLoadCommit_mems (n source : Nat) (m : AngleMap) : (d.mapLoadCommit n source m).mems = d.mems :=
  mems_of_noMem (by simp)

@[simp] theorem Dev.mapCommit_mems (n : Nat) : (d.mapCommit n).mems = d.mems :=
  mems_of_noMem (by simp)

/-! ### Milestones -/

@[simp] theorem Dev.mlsIndex_mems (i : Nat) (tp : Time) (c drift : Int) : (d.mlsIndex i tp c drift).mems = d.mems :=
  mems_of_noMem (by simp)

@[simp] theorem Dev.mlsSnapshot_mems (j : Nat) (t0 : Time) : (d.mlsSnapshot j t0).mems = d.mems :=
  mems_of_noMem (by simp)

@[simp] theorem Dev.mlsArmCommit_mems (j : Nat) (on : Bool) : (d.mlsArmCommit j on).mems = d.mems := (rfl)

/-! ### Pulse inputs -/

@[simp] theorem Dev.pinFollow_mems (i : Nat) : (d.pinFollow i).mems = d.mems :=
  mems_of_noMem (by simp)

@[simp] theorem Dev.cntLost_mems (i : Nat) : (d.cntLost i).mems = d.mems := by
  simp [Dev.cntLost]

@[simp] theorem Dev.edgeCheck_mems (i wire : Nat) (t : Time) (prev : Option Time) : (d.edgeCheck i wire t prev).mems = d.mems :=
  mems_of_noMem (by simp)

@[simp] theorem Dev.countEdge_mems (i : Nat) (t : Time) (neg : Bool) : (d.countEdge i t neg).mems = d.mems :=
  mems_of_noMem (by simp)

@[simp] theorem Dev.countSample_mems (i : Nat) (t : Time) (a0 b0 a1 b1 : Bool) :
    (d.countSample i t a0 b0 a1 b1).mems = d.mems := by
  unfold Dev.countSample
  repeat' split
  all_goals simp

@[simp] theorem Dev.switchLevel_mems (t : Time) (i wire : Nat) (level : Bool) : (d.switchLevel t i wire level).mems = d.mems :=
  mems_of_noMem (by simp)

@[simp] theorem Dev.countLevels_mems (t : Time) (i : Nat) (p : PulseIn) (a1 b1 z1 : Bool) :
    (d.countLevels t i p a1 b1 z1).mems = d.mems := by
  simp [Dev.countLevels]

@[simp] theorem Dev.mlsLevels_mems (t : Time) (i : Nat) (p : PulseIn) (a1 b1 z1 : Bool) :
    (d.mlsLevels t i p a1 b1 z1).mems = d.mems :=
  mems_of_noMem (by simp)

@[simp] theorem Dev.pulseEdge_mems (t : Time) (i : Nat) (a b z : Option Bool) : (d.pulseEdge t i a b z).mems = d.mems := by
  simp [Dev.pulseEdge]

@[simp] theorem Dev.indexCheck_mems (i : Nat) (x : PulseEdge) (drift : Int) : (d.indexCheck i x drift).mems = d.mems :=
  mems_of_noMem (by simp)

@[simp] theorem Dev.indexAlign_mems (i : Nat) (drift : Int) : (d.indexAlign i drift).mems = d.mems := by
  simp [Dev.indexAlign]

@[simp] theorem Dev.indexEvent_mems (i : Nat) : (d.indexEvent i).mems = d.mems := by
  unfold Dev.indexEvent
  dsimp only
  repeat' split
  all_goals simp

@[simp] theorem Dev.wireFault_mems (i pair : Nat) : (d.wireFault i pair).mems = d.mems := by
  simp [Dev.wireFault]

@[simp] theorem Dev.wireFaultClear_mems (i : Nat) : (d.wireFaultClear i).mems = d.mems := by
  simp [Dev.wireFaultClear]

@[simp] theorem Dev.pinCapture_mems (i : Nat) (t0 : Time) : (d.pinCapture i t0).mems = d.mems :=
  mems_of_noMem (by simp)

@[simp] theorem Dev.serStart_mems (i : Nat) : (d.serStart i).mems = d.mems :=
  mems_of_noMem (by simp)

@[simp] theorem Dev.serBadEnd_mems (i cause : Nat) : (d.serBadEnd i cause).mems = d.mems := by
  simp [Dev.serBadEnd]

@[simp] theorem Dev.serGoodEnd_mems (i u : Nat) (ts : Time) (diff : Int) : (d.serGoodEnd i u ts diff).mems = d.mems := by
  simp [Dev.serGoodEnd]

@[simp] theorem Dev.serEnd_mems (i : Nat) (x : SerialFrame) : (d.serEnd i x).mems = d.mems := by
  unfold Dev.serEnd
  dsimp only
  repeat' split
  all_goals simp

@[simp] theorem Dev.pinAdjustCommit_mems (i action : Nat) (v : Int) : (d.pinAdjustCommit i action v).mems = d.mems := by
  unfold Dev.pinAdjustCommit
  split <;> simp

@[simp] theorem Dev.pinRestart_mems (i : Nat) : (d.pinRestart i).mems = d.mems := by
  simp [Dev.pinRestart]

/-! ### Profiles -/

@[simp] theorem Dev.prfCommands_mems (n : Nat) (t : Time) (cs : List (PrfCmd × Bool)) (stop3 stop7 : Option Nat) :
    (d.prfCommands n t cs stop3 stop7).mems = d.mems :=
  mems_of_noMem (by simp)

@[simp] theorem Dev.vmEvaluate_mems (t : Time) : (d.vmEvaluate t).mems = d.mems := (rfl)

/-! ### Process channels -/

@[simp] theorem Dev.pfeCapture_mems (c : Nat) (t0 : Time) : (d.pfeCapture c t0).mems = d.mems :=
  mems_of_noMem (by simp)

@[simp] theorem Dev.pfeStop_mems : (d.pfeStop).mems = d.mems :=
  mems_of_noMem (by simp)

@[simp] theorem Dev.pfeStart_mems : (d.pfeStart).mems = d.mems :=
  mems_of_noMem (by simp)

@[simp] theorem Dev.pfeCommit_mems (c : Nat) (es : List Staged) : (d.pfeCommit c es).mems = d.mems :=
  mems_of_noMem (by simp)

/-! ### Loops -/

@[simp] theorem Dev.completeWork_mems (n : Nat) (late : Bool) : (d.completeWork n late).mems = d.mems :=
  mems_of_noMem (by simp)

@[simp] theorem Dev.coefSwapCommit_mems (n : Nat) (copyBack : Bool) : (d.coefSwapCommit n copyBack).mems = d.mems :=
  mems_of_noMem (by simp)

@[simp] theorem Dev.structCommit_mems (n : Nat) (s : LoopStruct) : (d.structCommit n s).mems = d.mems := (rfl)

@[simp] theorem Dev.trimSource_mems (n : Nat) : (d.trimSource n).mems = d.mems :=
  mems_of_noMem (by simp)

@[simp] theorem Dev.trimFault_mems (n : Nat) : (d.trimFault n).mems = d.mems := by
  simp [Dev.trimFault]

@[simp] theorem Dev.followingError_mems (n : Nat) : (d.followingError n).mems = d.mems := by
  simp [Dev.followingError]

end

end Sys2Proof.Machine
end

section
/-! The operations of safety, trace, power and health leave the byte memories, but for those that write them. -/
namespace Sys2Proof.Machine
open Sys2Proof

section
variable (d : Dev)

/-! ### The safety monitor -/

@[simp] theorem Dev.onPair_mems (i : Nat) (f : SiPair → SiPair) : (d.onPair i f).mems = d.mems := (rfl)

@[simp] theorem Dev.safLog_mems (code kind idx : Nat) (data : List Byte) : (d.safLog code kind idx data).mems = d.mems :=
  mems_of_noMem (by simp)

@[simp] theorem Dev.lowerBarriers_mems (ns : List Nat) : (d.lowerBarriers ns).mems = d.mems :=
  Dev.forEach_mems _ _ _ fun _ _ => by simp

@[simp] theorem Dev.laneReaction_mems (n : Nat) : (d.laneReaction n).mems = d.mems := by
  simp [Dev.laneReaction]

@[simp] theorem Dev.groupOff_mems (g : Nat) : (d.groupOff g).mems = d.mems :=
  Dev.lowerBarriers_mems _ _

@[simp] theorem Dev.groupReaction_mems (gs : List Nat) : (d.groupReaction gs).mems = d.mems := by
  simp [Dev.groupReaction]

@[simp] theorem Dev.deviceReaction_mems (cause : Nat) : (d.deviceReaction cause).mems = d.mems := by
  simp [Dev.deviceReaction]

@[simp] theorem Dev.parkedCauseEnds_mems : (d.parkedCauseEnds).mems = d.mems := (rfl)

@[simp] theorem Dev.safetyViolation_mems (n fn : Nat) : (d.safetyViolation n fn).mems = d.mems := by
  simp [Dev.safetyViolation]

@[simp] theorem Dev.xcmpFail_mems (n : Nat) : (d.xcmpFail n).mems = d.mems := by
  simp [Dev.xcmpFail]

@[simp] theorem Dev.xcmp_mems (n : Nat) : (d.xcmp n).mems = d.mems := by
  unfold Dev.xcmp
  dsimp only
  repeat' split
  all_goals simp

@[simp] theorem Dev.ss1Request_mems (n : Nat) (on : Bool) : (d.ss1Request n on).mems = d.mems :=
  mems_of_noMem (by simp)

@[simp] theorem Dev.laneRequest_mems (n : Nat) (enable ss1 sos sdi sdiPos : Bool) (sls : Nat) :
    (d.laneRequest n enable ss1 sos sdi sdiPos sls).mems = d.mems := by
  simp [Dev.laneRequest]

@[simp] theorem Dev.ss1Expiry_mems (n : Nat) : (d.ss1Expiry n).mems = d.mems := by
  unfold Dev.ss1Expiry
  repeat' split
  all_goals simp

@[simp] theorem Dev.siReact_mems (i : Nat) : (d.siReact i).mems = d.mems := by
  simp [Dev.siReact]

@[simp] theorem Dev.siDemand_mems (i : Nat) : (d.siDemand i).mems = d.mems := by
  simp [Dev.siDemand]

@[simp] theorem Dev.siDiscrepancy_mems (i : Nat) : (d.siDiscrepancy i).mems = d.mems := by
  simp [Dev.siDiscrepancy]

@[simp] theorem Dev.safetySelfTest_mems (kind g : Nat) (pass : Bool) : (d.safetySelfTest kind g pass).mems = d.mems := by
  unfold Dev.safetySelfTest
  repeat' split
  all_goals simp

@[simp] theorem Dev.soStuck_mems (g : Nat) : (d.soStuck g).mems = d.mems := by
  simp [Dev.soStuck]

@[simp] theorem Dev.soReadback_mems (g kind : Nat) : (d.soReadback g kind).mems = d.mems := by
  simp [Dev.soReadback]

@[simp] theorem Dev.soPulseEnd_mems (g : Nat) (low : Bool) : (d.soPulseEnd g low).mems = d.mems := by
  unfold Dev.soPulseEnd
  split <;> simp

@[simp] theorem Dev.watchOff_mems (n : Nat) : (d.watchOff n).mems = d.mems :=
  mems_of_noMem (by simp)

@[simp] theorem Dev.applyParams_mems (p : ParamSet) : (d.applyParams p).mems = d.mems := by
  unfold Dev.applyParams
  extract_lets was old changed d1 d2
  refine (Dev.forEach_mems _ _ _ fun n e => ?_).trans (Dev.forEach_mems d1 _ _ fun _ _ => rfl)
  dsimp only
  repeat' split
  all_goals simp

/-! ### Packets -/

@[simp] theorem Dev.answer_mems (st : Nat) (data : List Byte) : (d.answer st data).2.mems = d.mems := (rfl)

@[simp] theorem Dev.logWrite_mems (p code op lane tag addr : Nat) (status : Nat) :
    (d.logWrite p code op lane tag addr status).mems = d.mems :=
  mems_of_noMem (by simp)

/-! ### SO outputs and connections -/

@[simp] theorem Dev.paramCommitEnd_mems (ok : Bool) : (d.paramCommitEnd ok).mems = d.mems := by
  unfold Dev.paramCommitEnd
  split <;> simp

@[simp] theorem Dev.connExec_mems (c op tag : Nat) (args : List Byte) : (d.connExec c op tag args).mems = d.mems :=
  mems_of_noMem (by simp)

@[simp] theorem Dev.connFail_mems (c cause : Nat) : (d.connFail c cause).mems = d.mems := by
  simp [Dev.connFail]

@[simp] theorem Dev.connWatchdog_mems (c : Nat) : (d.connWatchdog c).mems = d.mems := by
  simp [Dev.connWatchdog]

@[simp] theorem Dev.connRequests_mems (c : Nat) (b : List Byte) : (d.connRequests c b).mems = d.mems := by
  unfold Dev.connRequests
  refine Dev.forEach_mems _ _ _ fun i e => ?_
  split
  · simp
  · rfl

@[simp] theorem Dev.connAccept_mems (c : Nat) (b : List Byte) : (d.connAccept c b).mems = d.mems := by
  simp [Dev.connAccept]

@[simp] theorem Dev.connEnter_mems (c : Nat) (b : List Byte) : (d.connEnter c b).mems = d.mems := by
  simp [Dev.connEnter]

@[simp] theorem Dev.connWaiting_mems (c : Nat) (b : List Byte) : (d.connWaiting c b).mems = d.mems := by
  simp [Dev.connWaiting]

@[simp] theorem Dev.container_mems (c : Nat) (b : List Byte) : (d.container c b).mems = d.mems := by
  unfold Dev.container
  dsimp only
  repeat' split
  all_goals simp

/-! ### Records -/

@[simp] theorem Dev.takeRecords_mems (p : Nat) (b : List Byte) (ls : List Nat) : (d.takeRecords p b ls).mems = d.mems :=
  mems_of_noMem (by simp)

@[simp] theorem Dev.takeContainers_mems (b : List Byte) (n : Nat) (cs : List Nat) : (d.takeContainers b n cs).mems = d.mems := by
  simp [Dev.takeContainers]

@[simp] theorem Dev.takePart_mems (p : Nat) (b : List Byte) : (d.takePart p b).mems = d.mems := by
  simp [Dev.takePart]

@[simp] theorem Dev.partAccept_mems (p : Nat) : (d.partAccept p).mems = d.mems := by
  unfold Dev.partAccept
  split <;> simp

@[simp] theorem Dev.buildBlock_mems (p : Nat) : (d.buildBlock p).mems = d.mems :=
  mems_of_noMem (by simp)

/-! ### The trace -/

@[simp] theorem Dev.traceDone_mems : (d.traceDone).mems = d.mems := by
  simp [Dev.traceDone]

@[simp] theorem Dev.traceCapture_mems (k : Nat) : (d.traceCapture k).mems = d.mems := by
  simp [Dev.traceCapture]

@[simp] theorem Dev.traceMark_mems : (d.traceMark).mems = d.mems := (rfl)

@[simp] theorem Dev.traceStat_mems : (d.traceStat).mems = d.mems := (rfl)

@[simp] theorem Dev.traceArm_mems (port : Nat) : (d.traceArm port).mems = d.mems := by
  simp [Dev.traceArm]

@[simp] theorem Dev.traceStop_mems : (d.traceStop).mems = d.mems := by
  simp [Dev.traceStop]

/-! ### Register writes -/

@[simp] theorem Dev.writeNow_mems (r : RegId) (k : Nat) (v : Word) : (d.writeNow r k v).mems = d.mems :=
  mems_of_noMem (by simp)

/-! ### Opcodes of maps -/

@[simp] theorem Dev.background_mems (r : Request) (op : Nat) (a : BgAct) : (d.background r op a).2.mems = d.mems :=
  mems_of_noMem (by simp)

@[simp] theorem Dev.stageBlob_mems (port n source : Nat) (g : Bool) (blob : List Byte) :
    (d.stageBlob port n source g blob).2.mems = d.mems :=
  mems_of_noMem (by simp)

/-! ### Opcodes of coefficients -/

@[simp] theorem Dev.opCoefStage_mems (r : Request) (u0 : Bool) : (d.opCoefStage r u0).2.mems = d.mems := by
  unfold Dev.opCoefStage
  dsimp only
  repeat' split
  all_goals simp

@[simp] theorem Dev.opTraceForce_mems (r : Request) (u0 : Bool) : (d.opTraceForce r u0).2.mems = d.mems := by
  unfold Dev.opTraceForce
  repeat' split
  all_goals simp

/-! ### Boot and power -/

@[simp] theorem Dev.onRegion_mems (i : Nat) (f : Region → Region) (h : ∀ r, (f r).mem = r.mem) : (d.onRegion i f).mems = d.mems :=
  Dev.onHlt_mems _ _ fun x => by
    refine List.ext_getElem? fun k => ?_
    rw [List.getElem?_map, List.getElem?_map, List.getElem?_modify]
    cases x.regions[k]? with
    | none => split <;> rfl
    | some r =>
      split
      · exact congrArg some (h r)
      · rfl

@[simp] theorem Dev.loadProt_mems (m : List Host.Cell) : (d.loadProt m).mems = d.mems :=
  mems_of_noMem (by simp)

@[simp] theorem Dev.writeProt_mems : (d.writeProt).mems = d.mems := by
  unfold Dev.writeProt
  dsimp only
  split <;> simp

@[simp] theorem Dev.chooseSlot_mems : (d.chooseSlot).2.mems = d.mems := by
  unfold Dev.chooseSlot
  dsimp only
  repeat' split
  all_goals simp

@[simp] theorem Dev.loadOdo_mems : (d.loadOdo).mems = d.mems := by
  unfold Dev.loadOdo
  split <;> simp

@[simp] theorem Dev.loadParams_mems : (d.loadParams).mems = d.mems := by
  unfold Dev.loadParams
  split <;> simp

@[simp] theorem Dev.portModes_mems : (d.portModes).mems = d.mems := (rfl)

@[simp] theorem Dev.bootComplete_mems (x : BootSeen) : (d.bootComplete x).mems = d.mems := by
  simp [Dev.bootComplete]

@[simp] theorem Dev.settleLane_mems (n : Nat) : (d.settleLane n).mems = d.mems :=
  mems_of_noMem (by simp)

@[simp] theorem Dev.settleFault_mems (n : Nat) : (d.settleFault n).mems = d.mems :=
  mems_of_noMem (by simp)

@[simp] theorem Dev.enterParked_mems (cause : Nat) : (d.enterParked cause).mems = d.mems := by
  simp [Dev.enterParked]

@[simp] theorem Dev.enterPowered_mems (eco : Bool) : (d.enterPowered eco).mems = d.mems := by
  simp [Dev.enterPowered]

@[simp] theorem Dev.analogSettled_mems : (d.analogSettled).mems = d.mems := (rfl)

@[simp] theorem Dev.beginDormant_mems : (d.beginDormant).mems = d.mems := by
  simp [Dev.beginDormant]

@[simp] theorem Dev.askParked_mems (cause : Nat) : (d.askParked cause).mems = d.mems := (rfl)

@[simp] theorem Dev.presentRise_mems : (d.presentRise).mems = d.mems := by
  simp [Dev.presentRise]

@[simp] theorem Dev.pfailFall_mems : (d.pfailFall).mems = d.mems := by
  simp [Dev.pfailFall]

@[simp] theorem Dev.pfailRise_mems : (d.pfailRise).mems = d.mems := by
  simp [Dev.pfailRise]

@[simp] theorem Dev.setDebug_mems (st : DebugState) (kind idx key : Nat) : (d.setDebug st kind idx key).mems = d.mems := by
  simp [Dev.setDebug]

@[simp] theorem Dev.refuseDebug_mems (kind idx cause : Nat) : (d.refuseDebug kind idx cause).mems = d.mems := by
  simp [Dev.refuseDebug]

@[simp] theorem Dev.refuseEntry_mems (cause : Nat) : (d.refuseEntry cause).mems = d.mems :=
  mems_of_noMem (by simp)

@[simp] theorem Dev.drawNonce_mems (target : Nat) : (d.drawNonce target).2.mems = d.mems := (rfl)

@[simp] theorem Dev.dbgRespond_mems (kind idx key : Nat) (sig : List Byte) : (d.dbgRespond kind idx key sig).2.mems = d.mems := by
  unfold Dev.dbgRespond
  split <;> simp

@[simp] theorem Dev.debugPortRequest_mems (target : Nat) (response : Option (Nat × List Byte)) :
    (d.debugPortRequest target response).mems = d.mems := by
  unfold Dev.debugPortRequest
  repeat' split
  all_goals simp

@[simp] theorem Dev.debugPortRelease_mems : (d.debugPortRelease).mems = d.mems := by
  simp [Dev.debugPortRelease]

@[simp] theorem Dev.extestLoad_mems : (d.extestLoad).mems = d.mems := by
  simp [Dev.extestLoad]

@[simp] theorem Dev.extestLeave_mems : (d.extestLeave).mems = d.mems := (rfl)

@[simp] theorem Dev.nonceExpiry_mems : (d.nonceExpiry).mems = d.mems := by
  unfold Dev.nonceExpiry
  split <;> simp

@[simp] theorem Dev.coreHalt_mems : (d.coreHalt).mems = d.mems := by
  simp [Dev.coreHalt]

@[simp] theorem Dev.coreResume_mems : (d.coreResume).mems = d.mems := by
  simp [Dev.coreResume]

/-! ### Health, pauses and black-box commits -/

@[simp] theorem Dev.releaseGroup_mems (p : Nat) : (d.releaseGroup p).mems = d.mems :=
  mems_of_noMem (by simp)

@[simp] theorem Dev.abandonGroup_mems (p cause : Nat) : (d.abandonGroup p cause).mems = d.mems :=
  mems_of_noMem (by simp)

@[simp] theorem Dev.beginPause_mems (x : Pause) : (d.beginPause x).mems = d.mems := by
  simp [Dev.beginPause]

@[simp] theorem Dev.rollbackMark_mems (cause bad : Nat) : (d.rollbackMark cause bad).mems = d.mems := by
  simp [Dev.rollbackMark]

@[simp] theorem Dev.probationFails_mems (cause : Nat) : (d.probationFails cause).mems = d.mems := by
  simp [Dev.probationFails]

@[simp] theorem Dev.mgmtRestart_mems (cause : Nat) : (d.mgmtRestart cause).mems = d.mems := by
  simp [Dev.mgmtRestart]

@[simp] theorem Dev.mgmtFails_mems (cause : Nat) : (d.mgmtFails cause).mems = d.mems := by
  simp [Dev.mgmtFails]

@[simp] theorem Dev.switchCommit_mems (port slot : Nat) : (d.switchCommit port slot).mems = d.mems := by
  simp [Dev.switchCommit]

@[simp] theorem Dev.fwReady_mems : (d.fwReady).mems = d.mems := by
  unfold Dev.fwReady
  split <;> simp

@[simp] theorem Dev.fwReadyTimeout_mems : (d.fwReadyTimeout).mems = d.mems := by
  unfold Dev.fwReadyTimeout
  split <;> simp

@[simp] theorem Dev.fwReloaded_mems : (d.fwReloaded).mems = d.mems := by
  unfold Dev.fwReloaded
  split <;> simp

@[simp] theorem Dev.writeRecord_mems (ok : Bool) : (d.writeRecord ok).mems = d.mems := by
  unfold Dev.writeRecord
  split <;> simp

@[simp] theorem Dev.probationPass_mems (ok : Bool) : (d.probationPass ok).mems = d.mems := by
  unfold Dev.probationPass
  split <;> simp

@[simp] theorem Dev.recordRetry_mems (ok : Bool) : (d.recordRetry ok).mems = d.mems := by
  simp [Dev.recordRetry]

@[simp] theorem Dev.eccCorrect_mems (m owner : Nat) : (d.eccCorrect m owner).mems = d.mems := by
  simp [Dev.eccCorrect]

@[simp] theorem Dev.badLaneWord_mems (lane off : Nat) : (d.badLaneWord lane off).mems = d.mems := by
  simp [Dev.badLaneWord]

@[simp] theorem Dev.badTables_mems (c : Nat) (addr : Word) : (d.badTables c addr).mems = d.mems := by
  simp [Dev.badTables]

@[simp] theorem Dev.badBuffer_mems (p : Nat) : (d.badBuffer p).mems = d.mems :=
  mems_of_noMem (by simp)

@[simp] theorem Dev.eccHourly_mems : (d.eccHourly).mems = d.mems := by
  simp [Dev.eccHourly]

@[simp] theorem Dev.rebuildDone_mems (c : Nat) : (d.rebuildDone c).mems = d.mems := (rfl)

theorem Health.thermalCycle_regions (h : Health) (x : Rat) : (h.thermalCycle x).regions = h.regions := by
  unfold Health.thermalCycle
  dsimp only
  repeat' split
  all_goals rfl

theorem Dev.dieTemp_hlt (v : Word) : ∃ (o : Odometers) (t : Time) (x : Rat), (d.dieTemp v).hlt = { d.hlt with dieT := v } ∨
    (d.dieTemp v).hlt = Health.thermalCycle { d.hlt with dieT := v, dieAt := t, odo := o } x := by
  unfold Dev.dieTemp
  rw [Dev.onHlt_hlt]
  by_cases h : d.now < d.hlt.dieAt + unitsPerSec
  · exact ⟨{}, 0, 0, .inl (if_pos h)⟩
  · exact ⟨_, _, _, .inr (if_neg h)⟩

@[simp] theorem Dev.dieTemp_mems (v : Word) : (d.dieTemp v).mems = d.mems := by
  obtain ⟨o, t, x, hhlt⟩ := d.dieTemp_hlt v
  have hreg : (d.dieTemp v).hlt.regions = d.hlt.regions := by
    rcases hhlt with h | h
    · rw [h]
    · rw [h, Health.thermalCycle_regions]
  rw [Dev.mems, hreg, Dev.dieTemp, Dev.onHlt_pwr, Dev.onHlt_trc]
  rfl

@[simp] theorem Dev.odometerUpdate_mems (roPpm : Int) : (d.odometerUpdate roPpm).mems = d.mems := (rfl)

@[simp] theorem Dev.eolPredict_mems : (d.eolPredict).mems = d.mems := by
  simp [Dev.eolPredict]

@[simp] theorem Dev.commitEnd_mems (ok : Bool) : (d.commitEnd ok).mems = d.mems := by
  unfold Dev.commitEnd
  split <;> simp

@[simp] theorem Dev.fwVerifyEnd_mems (port target : Nat) : (d.fwVerifyEnd port target).2.mems = d.mems := by
  simp [Dev.fwVerifyEnd]

end

end Sys2Proof.Machine
end

section
/-! The operations of the protocol, of the commit junction and of the frame leave the byte memories. -/
namespace Sys2Proof.Machine
open Sys2Proof

section
variable (d : Dev)

/-! ### Opcodes -/

@[simp] theorem Dev.opBbxCommit_mems (r : Request) (u0 : Bool) : (d.opBbxCommit r u0).2.mems = d.mems := by
  unfold Dev.opBbxCommit
  repeat' split
  all_goals simp

@[simp] theorem Dev.opFwLoad_mems (r : Request) (u0 : Bool) : (d.opFwLoad r u0).2.mems = d.mems := by
  unfold Dev.opFwLoad
  dsimp only
  repeat' split
  all_goals simp

@[simp] theorem Dev.opPowerState_mems (r : Request) (g : Bool) : (d.opPowerState r g).2.mems = d.mems := by
  unfold Dev.opPowerState
  dsimp only
  repeat' split
  all_goals simp

@[simp] theorem Dev.opDetach_mems (r : Request) (u0 : Bool) : (d.opDetach r u0).2.mems = d.mems := by
  unfold Dev.opDetach
  repeat' split
  all_goals simp

@[simp] theorem Dev.opSeal_mems (r : Request) (u0 : Bool) : (d.opSeal r u0).2.mems = d.mems := by
  unfold Dev.opSeal
  dsimp only
  repeat' split
  all_goals simp

@[simp] theorem Dev.opDbgChallenge_mems (r : Request) (u0 : Bool) : (d.opDbgChallenge r u0).2.mems = d.mems := by
  unfold Dev.opDbgChallenge
  dsimp only
  repeat' split
  all_goals simp

@[simp] theorem Dev.opDbgResponse_mems (r : Request) (u0 : Bool) : (d.opDbgResponse r u0).2.mems = d.mems := by
  unfold Dev.opDbgResponse
  dsimp only
  repeat' split
  all_goals simp

@[simp] theorem Dev.opDbgClose_mems (r : Request) (u0 : Bool) : (d.opDbgClose r u0).2.mems = d.mems := by
  unfold Dev.opDbgClose
  repeat' split
  all_goals simp

@[simp] theorem Dev.opDbgOpenFree_mems (r : Request) (u0 : Bool) : (d.opDbgOpenFree r u0).2.mems = d.mems := by
  unfold Dev.opDbgOpenFree
  repeat' split
  all_goals simp

/-! ### Requests and replies -/

/-- Every opcode leaves the byte memories: most change no unit that holds one, the others change other parts of the unit. -/
theorem opInfo_run_mems {op : Nat} {i : OpInfo} (hi : opInfo op = some i) (r : Request) (g : Bool) : (i.run d r g).2.mems = d.mems := by
  refine Or.elim (a := Within .noMem d (i.run d r g).2) ?_ mems_of_noMem id
  obtain ⟨l1, l2, hl, -⟩ := List.lookup_eq_some_iff.1 hi
  have hm : (op, i) ∈ opsLow ++ opsMid ++ opsHigh := by rw [hl]; simp
  simp only [opsLow, opsMid, opsHigh, List.cons_append, List.nil_append, List.mem_cons, List.not_mem_nil, or_false,
    Prod.mk.injEq] at hm
  clear hl hi
  rcases hm with ⟨-, rfl⟩ | hm
  · simp
  repeat (rcases hm with ⟨-, rfl⟩ | hm; · simp)
  obtain ⟨-, rfl⟩ := hm
  simp

@[simp] theorem Dev.runOp_mems (op : Nat) (r : Request) (g : Bool) : (d.runOp op r g).2.mems = d.mems := by
  unfold Dev.runOp
  split
  · rfl
  · split
    · rfl
    · split
      · rfl
      next i hi =>
        repeat' split
        all_goals simp [opInfo_run_mems d hi]

@[simp] theorem Dev.countPosted_mems (q : QReq) (failed : Bool) : (d.countPosted q failed).mems = d.mems :=
  mems_of_noMem (by simp)

@[simp] theorem Dev.replyUnlessPosted_mems (q : QReq) (a : Resp) : (d.replyUnlessPosted q a).mems = d.mems :=
  mems_of_noMem (by simp)

@[simp] theorem Dev.reply_mems (q : QReq) (a : Resp) : (d.reply q a).mems = d.mems :=
  mems_of_noMem (by simp)

@[simp] theorem Dev.latency_mems (q : QReq) : (d.latency q).mems = d.mems := by
  unfold Dev.latency
  dsimp only
  split <;> simp

@[simp] theorem Dev.logAdmitted_mems (as : List Act) : (d.logAdmitted as).mems = d.mems :=
  mems_of_noMem (by simp)

@[simp] theorem Dev.noteRefusal_mems (q : QReq) (st : Nat) : (d.noteRefusal q st).mems = d.mems :=
  mems_of_noMem (by simp)

@[simp] theorem Dev.noteAccepted_mems (q : QReq) : (d.noteAccepted q).mems = d.mems :=
  mems_of_noMem (by simp)

@[simp] theorem Dev.serveSingle_mems (q : QReq) : (d.serveSingle q).mems = d.mems := by
  unfold Dev.serveSingle
  dsimp only
  split <;> simp

@[simp] theorem Dev.groupAct_mems (a : Act) : (d.groupAct a).mems = d.mems := by
  unfold Dev.groupAct
  split <;> simp

@[simp] theorem Dev.acceptGroup_mems (p : Nat) (g : OpenGroup) : (d.acceptGroup p g).mems = d.mems := by
  simp [Dev.acceptGroup]

@[simp] theorem Dev.serveMember_mems (q : QReq) : (d.serveMember q).mems = d.mems := by
  unfold Dev.serveMember
  dsimp only
  repeat' split
  all_goals simp

@[simp] theorem Dev.serve_mems (q : QReq) : (d.serve q).mems = d.mems := by
  simp [Dev.serve]

@[simp] theorem Dev.packetServe_mems : d.packetServe.mems = d.mems := by
  unfold Dev.packetServe
  repeat' split
  all_goals simp

@[simp] theorem Dev.serveNow_mems (op : Nat) (r : Request) : (d.serveNow op r).mems = d.mems := by
  simp [Dev.serveNow]

@[simp] theorem Dev.jobReply_mems (j : BgJob) (a : Resp) : (d.jobReply j a).mems = d.mems :=
  mems_of_noMem (by simp)

@[simp] theorem Dev.bbxComplete_mems (ok : Bool) : (d.bbxComplete ok).mems = d.mems := by
  unfold Dev.bbxComplete
  split
  · rfl
  · refine (Dev.forEach_mems _ _ _ fun p e => ?_).trans (Dev.commitEnd_mems d ok)
    repeat' split
    all_goals simp

/-! ### The commit junction -/

@[simp] theorem Dev.dropDue_mems : (d.dropDue).mems = d.mems := (rfl)

@[simp] theorem Dev.putWords_mems (es : List Staged) : (d.putWords es).mems = d.mems :=
  mems_of_noMem (by simp)

@[simp] theorem Dev.commitFrame_mems (es : List Staged) : (d.commitFrame es).mems = d.mems :=
  mems_of_noMem (by simp)

@[simp] theorem Dev.commitAcq_mems (n : Nat) (es : List Staged) : (d.commitAcq n es).mems = d.mems :=
  mems_of_noMem (by simp)

@[simp] theorem Dev.rejudgeDetour_mems (n : Nat) : (d.rejudgeDetour n).mems = d.mems := by
  simp [Dev.rejudgeDetour]

@[simp] theorem Dev.commitTrk_mems (n : Nat) (es : List Staged) : (d.commitTrk n es).mems = d.mems := by
  simp [Dev.commitTrk]

@[simp] theorem Dev.commitLoop_mems (n : Nat) (es : List Staged) : (d.commitLoop n es).mems = d.mems :=
  mems_of_noMem (by simp)

@[simp] theorem Dev.commitPin_mems (i : Nat) (es : List Staged) : (d.commitPin i es).mems = d.mems := by
  simp [Dev.commitPin]

@[simp] theorem Dev.commitEmu_mems (o : Nat) (es : List Staged) : (d.commitEmu o es).mems = d.mems :=
  mems_of_noMem (by simp)

@[simp] theorem Dev.commitTrkCmd_mems (n : Nat) (es : List Staged) : (d.commitTrkCmd n es).mems = d.mems :=
  mems_of_noMem (by simp)

@[simp] theorem Dev.commitPfeCmd_mems (c : Nat) (es : List Staged) : (d.commitPfeCmd c es).mems = d.mems :=
  mems_of_noMem (by simp)

@[simp] theorem Dev.commitWords_mems (es : List Staged) : (d.commitWords es).mems = d.mems := by
  simp [Dev.commitWords]

@[simp] theorem Dev.noteRewritten_mems (es : List Staged) : (d.noteRewritten es).mems = d.mems := by
  simp [Dev.noteRewritten]

@[simp] theorem Dev.commitStruct_mems (n : Nat) (s : LoopStruct) : (d.commitStruct n s).mems = d.mems := by
  simp [Dev.commitStruct]

@[simp] theorem Dev.commitSwap_mems (s : Staged) (n : Nat) (back : Bool) : (d.commitSwap s n back).mems = d.mems := by
  simp [Dev.commitSwap]

@[simp] theorem Dev.commitAct_mems (s : Staged) : (d.commitAct s).mems = d.mems := by
  unfold Dev.commitAct
  split <;> simp

@[simp] theorem Dev.commitPower_mems (s : Staged) : (d.commitPower s).mems = d.mems := by
  unfold Dev.commitPower
  repeat' split
  all_goals simp

@[simp] theorem Dev.commitPowerOf_mems (parked : Bool) (s : Staged) : (d.commitPowerOf parked s).mems = d.mems := by
  simp [Dev.commitPowerOf]

@[simp] theorem Dev.commitPowers_mems (es : List Staged) : (d.commitPowers es).mems = d.mems := by
  simp [Dev.commitPowers]

@[simp] theorem Dev.commitRequests_mems (es : List Staged) : (d.commitRequests es).mems = d.mems :=
  mems_of_noMem (by simp)

@[simp] theorem Dev.barrierConsequences_mems : (d.barrierConsequences).mems = d.mems :=
  mems_of_noMem (by simp)

@[simp] theorem Dev.commitMasters_mems (es : List Staged) : (d.commitMasters es).mems = d.mems :=
  mems_of_noMem (by simp)

@[simp] theorem Dev.commitAges_mems (es : List Staged) : (d.commitAges es).2.mems = d.mems :=
  mems_of_noMem (by simp)

@[simp] theorem Dev.reserveOf_mems (s : Staged) : (d.reserveOf s).mems = d.mems :=
  mems_of_noMem (by simp)

@[simp] theorem Dev.commitStructOf_mems (s : Staged) : (d.commitStructOf s).mems = d.mems := by
  unfold Dev.commitStructOf
  split <;> simp

@[simp] theorem Dev.commitConfig_mems (es : List Staged) : (d.commitConfig es).mems = d.mems := by
  simp [Dev.commitConfig]

@[simp] theorem Dev.commitStates_mems (es : List Staged) : (d.commitStates es).2.mems = d.mems := by
  simp [Dev.commitStates]

@[simp] theorem Dev.commit_mems : (d.commit).2.2.mems = d.mems := by
  simp [Dev.commit]

/-! ### The frame -/

@[simp] theorem Dev.snapLane_mems (n : Nat) : (d.snapLane n).mems = d.mems :=
  mems_of_noMem (by simp)

@[simp] theorem Dev.snapEmu_mems (o : Nat) : (d.snapEmu o).mems = d.mems := by
  simp [Dev.snapEmu]

@[simp] theorem Dev.snapshot_mems : (d.snapshot).mems = d.mems := by
  simp [Dev.snapshot]

@[simp] theorem Dev.profileFrame_mems (es : List Staged) (ms : List (Nat × Nat)) (n : Nat) :
    (d.profileFrame es ms n).2.mems = d.mems :=
  mems_of_noMem (by simp)

@[simp] theorem Dev.engineFault_mems (n code ev : Nat) (data : List Byte) : (d.engineFault n code ev data).mems = d.mems := by
  simp [Dev.engineFault]

@[simp] theorem Dev.retryPassed_mems (n stage : Nat) : (d.retryPassed n stage).mems = d.mems :=
  mems_of_noMem (by simp)

@[simp] theorem Dev.disturb_mems (x : Disturb) : (d.disturb x).mems = d.mems := by
  unfold Dev.disturb
  split <;> simp

@[simp] theorem Dev.loopFrame_mems (n : Nat) (saved : Profile) : (d.loopFrame n saved).mems = d.mems := by
  unfold Dev.loopFrame
  repeat' split
  all_goals simp

@[simp] theorem Dev.compute_mems (es : List Staged) (ms : List (Nat × Nat)) (ds : List Disturb) :
    (d.compute es ms ds).mems = d.mems := by
  simp [Dev.compute]

@[simp] theorem Dev.closeFrame_mems : (d.closeFrame).mems = d.mems :=
  mems_of_noMem (by simp)

@[simp] theorem Dev.laneLate_mems (n : Nat) : (d.laneLate n).mems = d.mems := by
  simp [Dev.laneLate]

@[simp] theorem Dev.laneOnTime_mems (n : Nat) : (d.laneOnTime n).mems = d.mems := by
  simp [Dev.laneOnTime]

@[simp] theorem Dev.laneOutputs_mems (n : Nat) (w : Option LaneWork) (late : Bool) : (d.laneOutputs n w late).mems = d.mems :=
  mems_of_noMem (by simp)

@[simp] theorem Dev.publish_mems : (d.publish).mems = d.mems := by
  have hlanes : ∀ l, (d.forEach l fun n d => (d.onSafLane n fun x => { x with permit := d.permit n }).setReg .laneStat n (d.laneStatWord n)).mems =
      d.mems := fun l => Dev.forEach_mems _ _ _ fun n e => by rw [Dev.setReg_mems, Dev.onSafLane_mems]
  unfold Dev.publish
  extract_lets d1 d2 snaps d3
  have h1 : d1.mems = d.mems := hlanes _
  have h2 : d2.mems = d1.traceStat.mems := Dev.forEach_mems _ _ _ fun p e => Dev.buildBlock_mems e p
  have h3 : d3.mems = d2.mems := Dev.onBbx_mems ..
  clear_value d1 d2 d3
  exact (Dev.setRo_mems d3 _).trans (h3.trans (h2.trans ((Dev.traceStat_mems _).trans h1)))

@[simp] theorem Dev.outputJunction_mems (late : List Nat) : (d.outputJunction late).mems = d.mems := by
  simp [Dev.outputJunction]

@[simp] theorem Dev.lateComplete_mems (n : Nat) : (d.lateComplete n).mems = d.mems := by
  unfold Dev.lateComplete
  split <;> simp

@[simp] theorem Dev.timedDue_mems (lane : Nat) : (d.timedDue lane).mems = d.mems := by
  simp [Dev.timedDue]

/-! ### Masters -/

@[simp] theorem Dev.selfTest_mems (c : Nat) (started : Time) (failing : Option Nat) :
    (d.selfTest c started failing).mems = d.mems := by
  unfold Dev.selfTest
  split
  · rfl
  · simp only [Dev.probationFails_mems, Dev.logEvent_mems]
    rfl

end

end Sys2Proof.Machine
end

section
/-! What every operation keeps of the byte memories' canonical form: each write is canonical again, and every other operation
leaves the memories (R206, R334, R356, R370). -/
namespace Sys2Proof.Machine
open Sys2Proof

section
variable (d : Dev)

theorem Dev.canonical_iff : d.Canonical ↔ memWf d.mems.1 = true ∧ (∀ m ∈ d.mems.2.1, memWf m = true) ∧ memWf d.mems.2.2 = true := by
  simp [Dev.Canonical, Dev.mems]

variable {d}

theorem Dev.Canonical.of_mems {e : Dev} (h : d.Canonical) (he : e.mems = d.mems) : e.Canonical := by
  rw [Dev.canonical_iff] at h ⊢
  rwa [he]

/-! ### The writes -/

theorem Dev.Canonical.onTrc (h : d.Canonical) (f : Trace → Trace) (hf : memWf d.trc.mem = true → memWf (f d.trc).mem = true) :
    (d.onTrc f).Canonical := ⟨hf h.1, h.2⟩

theorem Dev.Canonical.onPwr (h : d.Canonical) (f : Power → Power) (hf : memWf d.pwr.image = true → memWf (f d.pwr).image = true) :
    (d.onPwr f).Canonical := ⟨h.1, h.2.1, hf h.2.2⟩

theorem Dev.Canonical.onRegion (h : d.Canonical) (i : Nat) (f : Region → Region)
    (hf : ∀ r, memWf r.mem = true → memWf (f r).mem = true) : (d.onRegion i f).Canonical := by
  obtain ⟨htrc, hreg, himg⟩ := h
  refine ⟨htrc, fun r hr => ?_, himg⟩
  obtain ⟨k, hk⟩ := List.mem_iff_getElem?.1 hr
  have hget : (d.hlt.regions.modify i f)[k]? = some r := hk
  rw [List.getElem?_modify] at hget
  cases hx : d.hlt.regions[k]? with
  | none => simp [hx] at hget
  | some x =>
    have hwf : memWf x.mem = true := hreg x (List.mem_of_getElem? hx)
    simp only [hx, Option.map_eq_map, Option.map_some, Option.some.injEq] at hget
    rw [← hget]
    split
    · exact hf x hwf
    · exact hwf

theorem Dev.Canonical.region (h : d.Canonical) (i : Nat) : memWf (d.region i).mem = true := by
  unfold Dev.region
  rw [List.getD_eq_getElem?_getD]
  cases hx : d.hlt.regions[i]? with
  | none => rfl
  | some x => exact h.2.1 x (List.mem_of_getElem? hx)

/-! ### The trace -/

theorem Dev.Canonical.traceTick (h : d.Canonical) (y : TraceTake) : (d.traceTick y).Canonical := by
  unfold Dev.traceTick
  split
  · extract_lets depth pre trig grid was x0 v write d1 d2 d3 b d4
    have h2 : d2.Canonical := h.of_mems (by simp [d2, d1])
    have h3 : d3.Canonical := h2.of_mems (by simp [d3])
    clear_value d3
    have h4 : d4.Canonical := h3.onTrc _ fun hwf => memWrites_wf hwf
    split
    · exact h3
    · exact h4.of_mems (by simp)
  · exact h.of_mems (by simp)

theorem Dev.Canonical.traceEarly (h : d.Canonical) (y : TraceTake) : (d.traceEarly y).Canonical := by
  refine Dev.Canonical.of_mems (d := if d.trcSrc = 5 then d else d.traceTick y) ?_ (by simp [Dev.traceEarly, Dev.traceMark])
  split
  · exact h
  · exact h.traceTick y

theorem Dev.Canonical.traceLate (h : d.Canonical) (y : TraceTake) : (d.traceLate y).Canonical := by
  refine Dev.Canonical.of_mems (d := if d.trcSrc = 5 then d.traceTick y else d) ?_ (by simp [Dev.traceLate])
  split
  · exact h.traceTick y
  · exact h

theorem Dev.Canonical.frameTick (h : d.Canonical) (ds : List Disturb) : (d.frameTick ds).Canonical := by
  unfold Dev.frameTick
  extract_lets x d1
  have h1 : d1.Canonical := (h.traceEarly x).of_mems (by simp [d1])
  have h2 : (d1.commit.2.2.snapshot.traceLate x).Canonical := (h1.of_mems (by simp)).traceLate x
  exact h2.of_mems (by simp)

/-! ### Boot -/

theorem Dev.Canonical.chooseImage (h : d.Canonical) : d.chooseImage.Canonical := by
  unfold Dev.chooseImage
  extract_lets r out d1
  have h1 : d1.Canonical := h.of_mems (by simp [d1])
  split
  · exact h
  · split
    · have hp : (d1.onPwr fun x => { x with image := r.mem }).Canonical := h1.onPwr _ fun _ => h.region 2
      exact (hp.onRegion 2 (fun _ => {}) fun _ _ => rfl).of_mems (by simp)
    · exact h1

theorem Dev.Canonical.bootHead (h : d.Canonical) : d.bootHead.Canonical := by
  unfold Dev.bootHead
  extract_lets e1 e2 e3
  have h2 : e2.Canonical := h.of_mems (by simp [e1, e2])
  exact h2.chooseImage.of_mems (by simp [e3])

theorem Dev.bootSlot_mems (slot : Option Nat) : (d.bootSlot slot).mems = d.mems := by
  unfold Dev.bootSlot
  dsimp only
  simp

theorem Dev.Canonical.bootRom (h : d.Canonical) : d.bootRom.Canonical := by
  rw [Dev.bootRom_eq]
  exact h.bootHead.of_mems (by rw [Dev.bootSlot_mems, Dev.chooseSlot_mems])

theorem Dev.Canonical.boot (h : d.Canonical) : d.boot.Canonical := by
  unfold Dev.boot
  split
  · exact h
  · exact h.bootRom

/-! ### What starts the device anew -/

/-- A device without SRAM contents has a blank trace memory; regions and image are in MRAM. -/
theorem Dev.Canonical.coldStart (h : d.Canonical) (cause : Nat) : (d.coldStart cause).Canonical := ⟨rfl, h.2.1, h.2.2⟩

theorem Dev.Canonical.recoveryRestart (h : d.Canonical) : d.recoveryRestart.Canonical := by
  unfold Dev.recoveryRestart
  split
  · split
    · exact Dev.Canonical.bootRom (h.coldStart 3)
    · exact h
  · exact h

theorem Dev.Canonical.dormant (h : d.Canonical) : d.dormant.Canonical := by
  unfold Dev.dormant
  extract_lets d1 e
  have h1 : d1.Canonical := h.of_mems (by simp [d1])
  exact h1.coldStart 2

theorem Dev.Canonical.wakeUp (h : d.Canonical) (source : Nat) : (d.wakeUp source).Canonical := by
  unfold Dev.wakeUp
  extract_lets c e t
  have he : e.Canonical := by
    simp only [e]
    split
    · exact h.coldStart 1
    · exact h.coldStart 2
  refine Dev.Canonical.of_mems (Dev.Canonical.bootRom ?_) (Dev.logEvent_mems ..)
  exact he.onPwr _ fun hi => hi

theorem Dev.Canonical.dormantEntry (h : d.Canonical) : d.dormantEntry.Canonical := by
  unfold Dev.dormantEntry
  split
  · split
    · exact h.dormant.wakeUp _
    · exact h.dormant
  · exact h

theorem Dev.Canonical.wake (h : d.Canonical) (source port : Nat) : (d.wake source port).Canonical := by
  unfold Dev.wake
  dsimp only
  split
  · exact h
  · split
    · exact h.wakeUp source
    · refine h.of_mems ?_
      repeat' split
      all_goals simp

/-! ### Memory errors and firmware regions -/

theorem Dev.Canonical.badMram (h : d.Canonical) (r : Nat) (addr : Word) : (d.badMram r addr).Canonical := by
  unfold Dev.badMram
  extract_lets a second d1
  have h1 : d1.Canonical := h.of_mems (by simp [d1])
  split
  · exact h1.onRegion _ _ fun _ _ => rfl
  · exact h1.onRegion _ _ fun _ _ => rfl
  · exact h1
  · split
    · exact h1.onPwr _ fun _ => rfl
    · exact h1.onRegion _ _ fun _ _ => rfl
  · exact h1
  · exact h1
  · exact h1
  · exact h1

theorem Dev.Canonical.eccBad (h : d.Canonical) (m : Nat) (addr : Word) (owner : Nat) : (d.eccBad m addr owner).Canonical := by
  unfold Dev.eccBad
  extract_lets d1 a note
  have h1 : d1.Canonical := h
  have hnote : ∀ e : Dev, e.Canonical → (note e).Canonical := fun e he => he.of_mems (by simp [note])
  split
  · split
    · exact h1.of_mems (by simp)
    · exact hnote d1 h1
  · split
    · exact hnote _ (h1.onTrc _ fun hwf => memWrites_wf hwf)
    · exact hnote _ h1
    · exact h1.of_mems (by simp)
    · exact h1.of_mems (by simp)
    · split
      · exact h1.of_mems (by simp)
      · exact hnote d1 h1
    · exact h1.badMram owner addr

theorem Dev.Canonical.scrubStep (h : d.Canonical) (m : Nat) (addr : Word) (errs owner late : Nat) :
    (d.scrubStep m addr errs owner late).Canonical := by
  unfold Dev.scrubStep
  extract_lets d1
  have h1 : d1.Canonical := by
    simp only [d1]
    split
    · exact h
    · split
      · exact h.of_mems (by simp)
      · exact h.eccBad m addr owner
  split
  · exact h1
  · exact h1.of_mems (by simp)

theorem Dev.Canonical.fwLoadEnd (h : d.Canonical) (target off : Nat) (data : List Byte) (ok : Bool) :
    (d.fwLoadEnd target off data ok).2.Canonical := by
  unfold Dev.fwLoadEnd
  extract_lets d1
  have h1 : d1.Canonical := h.of_mems (by simp [d1])
  split
  · exact h1.onRegion _ _ fun _ hwf => memWrites_wf hwf
  · exact h1

theorem Dev.Canonical.jobEnd (h : d.Canonical) (j : BgJob) (ok : Bool) : (d.jobEnd j ok).2.Canonical := by
  unfold Dev.jobEnd
  dsimp only
  split
  · split
    · exact h.of_mems (by simp)
    · exact h.of_mems (by simp)
  · split
    · exact h.of_mems (by simp)
    · exact h
  · exact h.fwLoadEnd ..
  · exact h.of_mems (by simp)
  · exact h
  · split
    · exact h.of_mems (by simp)
    · exact h

theorem Dev.Canonical.jobComplete (h : d.Canonical) (p : Nat) (ok : Bool) : (d.jobComplete p ok).Canonical := by
  unfold Dev.jobComplete
  split
  next j _ =>
    split
    · exact h
    · exact (h.jobEnd j ok).of_mems (by simp)
  · exact h

end

end Sys2Proof.Machine
end

section
/-! Every step keeps the sizes of the tables and the canonical form of the byte memories (R1, R3). -/
namespace Sys2Proof.Machine
open Sys2Proof

/-! ### Operations that keep the canonical form, and the forms of a command that run them -/

/-- The operation keeps the canonical form of the byte memories. -/
def KeepsForm (f : Dev → Dev) : Prop := ∀ d, d.Canonical → (f d).Canonical

/-- The outcome has the canonical form where `s` has it. -/
def FormKept (s : State) (o : Host.Outcome State Fault Refusal) : Prop := NextOr o fun u => s.dev.Canonical → u.dev.Canonical

/-- The operation changes no unit that holds a byte memory, or other parts of such a unit only. -/
theorem KeepsForm.of_mems {f : Dev → Dev} (h : ∀ d, Within .noMem d (f d) ∨ (f d).mems = d.mems) : KeepsForm f :=
  fun d hd => hd.of_mems ((h d).elim mems_of_noMem id)

theorem KeepsForm.ite {c : Dev → Bool} {f g : Dev → Dev} (hf : KeepsForm f) (hg : KeepsForm g) :
    KeepsForm fun d => if c d then f d else g d := by
  intro d hd
  dsimp only
  split
  · exact hf d hd
  · exact hg d hd

theorem KeepsForm.when {c : Dev → Bool} {f : Dev → Dev} (hf : KeepsForm f) : KeepsForm fun d => d.when (c d) f :=
  hf.ite fun _ hd => hd

section
variable {s : State} {f : Dev → Dev} {p : Dev → Bool} {t : Time}

theorem KeepsForm.onDev (h : KeepsForm f) : FormKept s (onDev s f) := h s.dev

theorem KeepsForm.onUnit (h : KeepsForm f) : FormKept s (onUnit p s f) := by
  unfold Machine.onUnit
  split
  · exact h.onDev
  · trivial

theorem KeepsForm.onExpiry (h : KeepsForm f) : FormKept s (onExpiry p s f) := h.when.onUnit

theorem KeepsForm.onPinLevel (h : KeepsForm f) : FormKept s (onPinLevel s t f) :=
  KeepsForm.onDev fun d hd => h (d.at t) hd

theorem KeepsForm.onEvent (h : KeepsForm f) : FormKept s (onEvent p s t f) := by
  refine KeepsForm.onUnit fun d hd => ?_
  dsimp only
  split
  · exact h (d.at t) hd
  · exact hd

theorem KeepsForm.onMgmt (h : KeepsForm f) : FormKept s (onMgmt p s t f) := KeepsForm.onEvent h.when

theorem KeepsForm.onLaneEvent {n : Nat} (h : KeepsForm f) : FormKept s (onLaneEvent s t n f) :=
  KeepsForm.onEvent fun d hd => (h d hd).of_mems (by simp)

theorem KeepsForm.onPinEvent {i : Nat} (h : KeepsForm f) : FormKept s (onPinEvent s t i f) :=
  KeepsForm.onEvent fun d hd => (h d hd).of_mems (by simp)

theorem KeepsForm.serveNow (op : Nat) (r : Request) : KeepsForm fun d => d.serveNow op r := .of_mems fun d => .inr (by simp)

theorem onRequest_keepsForm {op : Nat} {r : Request} : FormKept s (onRequest s op r) := (KeepsForm.serveNow _ _).onUnit
theorem onRegWr_keepsForm {w : RegWrite} {r : RegId} {u : Nat} {vs : List Word} : FormKept s (onRegWr s w r u vs) :=
  (KeepsForm.serveNow _ _).onUnit
theorem onRegRmw_keepsForm {w : RegWrite} {r : RegId} {u : Nat} {mask v : Word} : FormKept s (onRegRmw s w r u mask v) :=
  (KeepsForm.serveNow _ _).onUnit

end

/-! ### The canonical form -/

/-- No command leaves the canonical form; the commands are taken by the form of their meaning. -/
theorem exec_keepsForm (c : Instr) (s : State) : FormKept s (Machine.exec c s) := by
  unfold Machine.exec
  cases c with
  | recoveryRestart => exact KeepsForm.onEvent fun _ hd => hd.recoveryRestart
  | resetNAssert | supplyMonitorReset => exact KeepsForm.onPinLevel fun _ hd => hd.coldStart 1
  | dormantEntry => exact KeepsForm.onEvent fun _ hd => hd.dormantEntry
  | wake _ source port => exact KeepsForm.onPinLevel fun _ hd => hd.wake source port
  | boot => exact KeepsForm.onPinLevel fun _ hd => hd.boot
  | frameTick ds => exact KeepsForm.onDev (.when fun _ hd => hd.frameTick ds)
  | scrubStep => exact KeepsForm.onEvent fun _ hd => hd.scrubStep ..
  | backgroundJobComplete _ port ok => exact KeepsForm.onEvent fun _ hd => hd.jobComplete port ok
  | mapLearn | mapStatus | mapSave | mapLoad | pinAdjust | mlsRead | mlsArm | emuAlign | laneStage | laneCommit | laneAdmit
  | lanePark | laneRead | coefStage | coefRead | coefSwap | traceArm | traceForce | traceRead | move | limits | gear | trim
  | stop | waypoint | vmaster | chConfig | chRead | identify | ping | regRd | regWr | regRmw | powerState | detach
  | dbgChallenge | dbgResponse | dbgClose | dbgOpenFree | protStatus | bbxRead | bbxCommit | fwLoad | fwVerify
  | fwSwitch => exact onRequest_keepsForm
  | timeSet | mlsPop | mlsFlush => exact onRegWr_keepsForm
  | generatorRun | generatorStop | posArm | detReturn | reqState | pfeTare | pfeForceRst => exact onRegRmw_keepsForm
  | outputJunction => exact KeepsForm.onDev (.when (.of_mems fun d => by simp))
  | syncOutPulse | syncOutPulseEnd => exact KeepsForm.onDev (.of_mems fun d => by simp)
  | serTransferStart | stepEmit => exact KeepsForm.onUnit (.when (.of_mems fun d => by simp))
  | inboundPartAccept | recordTransmit | connectionWatchdog | ss1Expiry | armingExpiry =>
    exact KeepsForm.onExpiry (.of_mems fun d => by simp)
  | demodSample | losConfirm | modulatorReset | lockLoss | overspeed | lateWorkComplete | followingError | trimSourceFault =>
    exact KeepsForm.onLaneEvent (.of_mems fun d => by simp)
  | pulseEdge | indexEvent | switchDebounce | wireFault | wireFaultClear | pulseStill | serTransferEnd =>
    exact KeepsForm.onPinEvent (.of_mems fun d => by simp)
  | mapEvaluate | mapDriftCheck | eccHourlyCheck | odometerUpdate | eolPredict | probationPass | slotRecordRetry =>
    exact KeepsForm.onMgmt (.of_mems fun d => by simp)
  | bootComplete | presentNFall => exact KeepsForm.onPinLevel (.of_mems fun d => by simp)
  | presentNRise | pfailNFall | pfailNRise =>
    exact KeepsForm.onPinLevel (.ite (.of_mems fun d => by simp) (.of_mems fun d => by simp))
  | syncMessage | announceMessage | pdelayReqReceive | pdelayReqSend | pdelayResponse | syncTimeout | syncInEdge
  | syncInMissing | rampComplete | excHalfPeriod | carrierPeriod | phaseFastEnd | losClear | modulatorResetEnd | rangeNarrowCount
  | rangeChange | ratioEval | reacqFastEnd | lockRegained | segmentEnd | fadeComplete | emuEdgeEmit | stallDetect
  | timedCommandDue | masterTimeout | clusterSelfTest | traceDone | pfeConversionEnd | pfeValueAvailable | dieTempUpdate
  | inboundPartReceive | inboundMiss | watchSample | safetyViolation | xcmpFail | safetySelfTest | soTestPulse
  | soTestPulseEnd | soReadbackFault | siLevelChange | siDemand | siDiscrepancy | safeResetAck | safeParamWr
  | safeParamCommit | safeParamCommitComplete | safeParamRd | safeRstHeld | safeRstEdge | analogSettled | debugPortRequest
  | debugPortRelease | extestLoad | extestLeave | nonceExpiry | coreHalt | coreResume | tableRebuildComplete
  | bbxDeferredCommit | bbxCommitComplete | fwReady | fwReadyTimeout | firmwareReloaded | heartbeatMissed | packetServe | packetReceive
  | replyTransmit | groupTimeout | writeLogSummary | linkStatusFrame | linkStatusSend
  | linkStatusTimeout | linkSyncLoss | linkUp | spiWrite | spiRead | spiStatus =>
    exact KeepsForm.onEvent (.of_mems fun d => by simp)
  -- The request SEAL: the name of its constructor is a keyword of Lean's, which no alternative can write.
  | _ => exact onRequest_keepsForm

/-! ### The sizes -/

section
variable {d : Dev}

theorem Dev.Sized.within {m : May} {e : Dev} (hs : d.Sized) (h : Within m d e) : e.Sized := hs.of_shape h.shape

theorem Dev.Sized.coldStart (hs : d.Sized) (cause : Nat) : (d.coldStart cause).Sized := by
  unfold Dev.Sized at hs ⊢
  simp [Dev.coldStart, hs]

theorem Dev.Sized.bootRom (hs : d.Sized) : d.bootRom.Sized := hs.within (m := .noRaise) (by simp)

theorem Dev.Sized.recoveryRestart (hs : d.Sized) : d.recoveryRestart.Sized := by
  unfold Dev.recoveryRestart
  split
  · split
    · exact Dev.Sized.bootRom (hs.coldStart 3)
    · exact hs
  · exact hs

theorem Dev.Sized.dormant (hs : d.Sized) : d.dormant.Sized := by
  unfold Dev.dormant
  extract_lets d1 e
  have h1 : d1.Sized := hs.within (m := .noRaise) (by simp only [d1]; split <;> simp)
  have h2 : e.Sized := h1.coldStart 2
  have hemus : (d1.emus.map EmuOut.kept).length = 24 := by
    rw [List.length_map]
    exact h1.2.2.2.2.2.2.1
  unfold Dev.Sized at h2 ⊢
  simp [h2, hemus]

theorem Dev.Sized.wakeUp (hs : d.Sized) (source : Nat) : (d.wakeUp source).Sized := by
  unfold Dev.wakeUp
  extract_lets c e t
  have he : e.Sized := by
    simp only [e]
    split
    · exact hs.coldStart 1
    · have hc : c.Sized := hs.coldStart 2
      unfold Dev.Sized at hs hc ⊢
      simp [hs, hc]
  have hb : Within .noRaise e ((e.onPwr fun x => { x with st := .parked, wake := source, wakeAt := some t }).bootRom.logEvent
      0x0E02 kDevice 0 (ev4 source)) := by simp (maxDischargeDepth := 10)
  exact he.within hb

theorem Dev.Sized.dormantEntry (hs : d.Sized) : d.dormantEntry.Sized := by
  unfold Dev.dormantEntry
  split
  · split
    · exact hs.dormant.wakeUp _
    · exact hs.dormant
  · exact hs

theorem Dev.Sized.wake (hs : d.Sized) (source port : Nat) : (d.wake source port).Sized := by
  unfold Dev.wake
  dsimp only
  split
  · exact hs
  · split
    · exact hs.wakeUp source
    · refine hs.within (m := .noRaise) ?_
      repeat' split
      all_goals simp

end

/-- A command that starts the device anew builds tables of the spec's sizes; any other keeps every table at its size. -/
theorem exec_keepsSizes (c : Instr) (s : State) : NextOr (Machine.exec c s) fun u => s.dev.Sized → u.dev.Sized := by
  cases c with
  | resetNAssert t | supplyMonitorReset t => exact fun hs => Dev.Sized.coldStart (d := s.dev.at t) hs 1
  | recoveryRestart t =>
    unfold Machine.exec
    exact nextOr_onEvent id fun hs => Dev.Sized.recoveryRestart (d := s.dev.at t) hs
  | dormantEntry t =>
    unfold Machine.exec
    exact nextOr_onEvent id fun hs => Dev.Sized.dormantEntry (d := s.dev.at t) hs
  | wake t source port => exact fun hs => Dev.Sized.wake (d := s.dev.at t) hs source port
  | safeRstEdge t width =>
    unfold Machine.exec
    exact nextOr_onEvent id fun hs => Dev.Sized.within (d := s.dev.at t) (m := .noMem) hs (by simp)
  | _ => exact NextOr.mono (exec_keeps_noRaise _ s rfl (by simp)) fun _ h hs => hs.within h.2

/-- Settles O8: the command at the front of the queue keeps sizes and memories, and a cycle of the clock moves the time only. -/
theorem stepKeepsSizesAndMemories : Obligations.StepKeepsSizesAndMemories := by
  unfold Obligations.StepKeepsSizesAndMemories
  intro s
  unfold Machine.step
  split
  · exact ⟨fun hs => hs, fun hc => hc⟩
  next c rest _ =>
    have hsizes := exec_keepsSizes c { s with pending := rest }
    have hform := exec_keepsForm c { s with pending := rest }
    unfold FormKept at hform
    generalize Machine.exec c { s with pending := rest } = o at hsizes hform ⊢
    cases o with
    | next u => exact ⟨hsizes, hform⟩
    | fault | refused => trivial

end Sys2Proof.Machine
end
